-- ==== Sys2Proof/Word.lean ====
section
/-!
DEFINITION. The word types of the module (00_scope R10, R11) and the sparse map that holds every
indexed part of the state in one canonical form.
-/

namespace Sys2Proof

/-- A byte. -/
abbrev Byte := BitVec 8
/-- A register (R10: a register is 32 bits). -/
abbrev W32 := BitVec 32
/-- A 64-bit value: stroke numbers, round identifiers, accumulator entries. -/
abbrev W64 := BitVec 64
/-- A field element or key half of 128 bits. -/
abbrev W128 := BitVec 128
/-- A word without qualification is 256 bits (R10). -/
abbrev W256 := BitVec 256

/-- A sparse map from Nat to `α` in canonical form: keys strictly rising, and no entry equal to the
value that an unlisted key reads as. The default stands at the use, not in the map. -/
abbrev NMap (α : Type) := List (Nat × α)

namespace NMap
variable {α : Type}

/-- The value at `k`, or `d` where the map lists none. -/
def get (m : NMap α) (d : α) (k : Nat) : α :=
  match m with
  | [] => d
  | (j, v) :: r => if j = k then v else get r d k

/-- Entry at `k`, if listed. -/
def find? (m : NMap α) (k : Nat) : Option α :=
  match m with
  | [] => none
  | (j, v) :: r => if j = k then some v else find? r k

/-- Puts `v` at `k`, keeping the keys rising, whatever `v` is. -/
def insertAt (m : NMap α) (k : Nat) (v : α) : NMap α :=
  match m with
  | [] => [(k, v)]
  | (j, w) :: r =>
    if k < j then (k, v) :: (j, w) :: r
    else if k = j then (k, v) :: r
    else (j, w) :: insertAt r k v

/-- Removes what stands at `k`. -/
def erase (m : NMap α) (k : Nat) : NMap α :=
  match m with
  | [] => []
  | (j, w) :: r => if j = k then erase r k else (j, w) :: erase r k

/-- Writes `v` at `k`: writing the default removes the entry, so equal maps are equal lists. -/
def put [DecidableEq α] (m : NMap α) (d : α) (k : Nat) (v : α) : NMap α :=
  if v = d then erase m k else insertAt m k v

/-- Changes the value at `k` by `f`. -/
def modify [DecidableEq α] (m : NMap α) (d : α) (k : Nat) (f : α → α) : NMap α :=
  put m d k (f (get m d k))

/-- The keys are strictly rising from `lo` on. -/
def risingFrom (lo : Nat) (m : NMap α) : Bool :=
  match m with
  | [] => true
  | (j, _) :: r => decide (lo ≤ j) && risingFrom (j + 1) r

/-- Canonical form over the default `d`. -/
def wf [DecidableEq α] (d : α) (m : NMap α) : Bool :=
  risingFrom 0 m && m.all (fun e => decide (e.2 ≠ d))

/-- The keys listed, in order. -/
def keys (m : NMap α) : List Nat := m.map (·.1)

/-- Drops every entry whose key satisfies `p`. -/
def dropWhere (m : NMap α) (p : Nat → Bool) : NMap α := m.filter (fun e => !p e.1)

end NMap

end Sys2Proof
end

