-- ==== Sys2Proof/Syntax.lean ====
section
/-!
DEFINITION. The commands the block takes from outside: one constructor of `Instr` per row of
spec/opcode_table.json, with the row's operands. No row of the table gives an encoding.
-/

namespace Sys2Proof

/-- A slot word without its OPCODE, which the constructor names (04_core_operations R179). -/
structure Slot where
  fmt : Nat := 0
  psel : Nat := 0
  pinv : Bool := false
  bimm : Bool := false
  dst : Nat := 0
  srca : Nat := 0
  srcb : Nat := 0
  srcc : Nat := 0
  acc : Nat := 0
  lanes : Nat := 0
  modsel : Nat := 0
  rnd : Nat := 0
  sat : Bool := false
  pdst : Nat := 0
  subop : Nat := 0
  imm32 : W32 := 0
  addr16 : Nat := 0
  qreg : Nat := 0
  idx : Nat := 0
  stride : Nat := 0
  deriving DecidableEq, Repr

/-- The core that issues a slot, in template coordinates (R114: nothing names a core by a
module-wide address), and the fabric cycle of the issue. `resOk` is the mod-3 residue check of the
lane multipliers (R167): false is the event of a mismatch. -/
structure Issue where
  rig : Nat
  ord : Nat
  pos : Nat
  cycle : Nat := 64
  resOk : Bool := true
  deriving DecidableEq, Repr

/-- The page types of BAR0 (16_host_interface R613). -/
inductive Page where
  | global | keep | bosun | reef | stroke | telltale | hail | muster | keystone | pcie
  | eth | halyard | spill | pier | course | vault | hbmc | mortar | ashlar
  deriving DecidableEq, Repr

/-- A link that can be taken down (R160, R161): a Course link side (0 N, 1 E, 2 S, 3 W), a Pier link
side, a Pier's Plinth link, or one lane of a Pier link side or of a Plinth link (18 R658). -/
inductive Link where
  | course (course side : Nat)
  | pier (pier side : Nat)
  | plinth (pier : Nat)
  | pierLane (pier side lane : Nat)
  | plinthLane (pier lane : Nat)
  deriving DecidableEq, Repr

/-- A RoCE packet at the receiver (12 R459, R489 to R492): BTH fields, extension-header fields and payload.
Fields a packet's opcode does not carry are not looked at. -/
structure Packet where
  /-- Destination QPN and PSN of the BTH. -/
  qpn : Nat
  psn : Nat
  opcode : Nat
  payload : List Byte
  /-- Some payload word was found uncorrectable in the landing buffer (06 R245, 12 R484). -/
  bad : Bool
  /-- Virtual address, key and length of RETH, AtomicETH, AccETH or SprayETH. -/
  va : Nat
  key : Nat
  len : Nat
  imm : Nat
  /-- Atomic operands: add or swap, and compare. -/
  op0 : Nat
  op1 : Nat
  /-- FORMAT and Q of AccETH and SprayETH; PKT_INDEX and BASE_PSN of SprayETH. -/
  fmt : Nat
  q : Nat
  idx : Nat
  base : Nat
  /-- Q_KEY and source QPN of a UD datagram, and its 40-byte prefix (12 R466). -/
  qkey : Nat
  grh : List Byte
  /-- The packet is marked CE (12 R497). -/
  ce : Bool
  /-- Present translation entries that the module reads for the packet: page I/O address and host page. -/
  pages : List (Nat × Nat)
  /-- What host memory returns for the bytes the packet reads. -/
  host : List Byte
  deriving DecidableEq, Repr


/-- A firmware image as FW_STAGE fetches it (16 R629): the signed body, the update key it carries, the signature, its
FW_VERSION and the measurements of its sealed-rig images. -/
structure FwImage where
  body : List Byte
  key : List Byte
  sig : List Byte
  version : Nat
  rigs : List (List Byte)
  deriving DecidableEq, Repr

/-- What the module finds while it performs a command (00 R722). -/
structure Completion where
  /-- A host read fails (16 R595), or the flash does not take the data (14 R556). -/
  fail : Bool := false
  /-- What host memory returns. -/
  data : List Byte := []
  /-- Ashlars of Tamrik's choice (16 R623 FN_LOAD); none where the placement procedure finds no placement. -/
  places : List Nat := []
  /-- The firmware image that the fetched bytes hold, if any. -/
  image : Option FwImage := none
  deriving DecidableEq, Repr

/-- The command registers (00 R722). -/
inductive CmdPage where
  | muster | bosun | halyard | keep
  | spill (page : Nat)
  | vaultMt
  | ttMem
  deriving DecidableEq, Repr

/-- What reads host memory (16 R595). -/
inductive HostReader where
  /-- Halyard, for the request at the head of a queue pair's SQ. -/
  | halyard (qp : Nat)
  | doorbell (queue : Nat)
  | bosun
  deriving DecidableEq, Repr

/-- A received erroneous TLP, or an error of the link (16 R608). -/
inductive TlpErr where
  | receiver | badTlp | badDllp | rollover | replayTimeout
  | poisonedWrite
  | poisonedCompletion (who : HostReader)
  /-- A request the function does not support: posted, or asking for a completion. -/
  | unsupported (posted : Bool)
  | unexpectedCompletion | ecrc
  | malformed | overflow | flowControl | dataLink
  deriving DecidableEq, Repr

/-- A write to configuration space (16 R593, R594, R606, R608). -/
inductive ConfigWr where
  | busMaster (on : Bool)
  | msix (on funcMask : Bool)
  | power (d3hot : Bool)
  | ltr (on : Bool)
  /-- Uncorrectable error mask and severity, and correctable error mask. -/
  | aerMask (v : W32)
  | aerSeverity (v : W32)
  | aerCorrMask (v : W32)
  /-- A write of an error status register: a 1 clears its bit. -/
  | aerStatus (v : W32)
  | aerCorr (v : W32)
  /-- Max_Payload_Size and Max_Read_Request_Size, as their codes. -/
  | deviceControl (mps mrrs : Nat)
  /-- Completion timeout in microseconds. -/
  | completionTimeout (us : Nat)
  | ecrc (on : Bool)
  /-- The address of BAR0, BAR2 or BAR4. -/
  | bar (n addr : Nat)
  deriving DecidableEq, Repr

/-- An access of an SMBus controller (20 R718): a read of `len` bytes from an offset of a device, or the alert response. -/
inductive SmbAccess where
  | fru (offset len : Nat)
  | endpoint (command : Nat)
  | alert
  deriving DecidableEq, Repr

/-- A temperature sensor (20 R714). -/
inductive TempSensor where
  | pier (n : Nat)
  | plinth
  | hbm (stack : Nat)
  | coolantIn | coolantOut
  deriving DecidableEq, Repr
/-- The commands, in the order of spec/opcode_table.json. -/
inductive Instr where
  /-- STROKE_COMMIT, R74: At cycles 1,984 to 2,047 of every stroke the module runs the fixed commit steps, ending with the stroke counter advance. -/
  | strokeCommit
  /-- INTAKE, R395: At cycle 0 of each stroke, rigs and Mortar feeders are handed deliverable items up to their allowance, and the intake and rig marks are set. -/
  | intake
  /-- BED_WRITE_BACK, R216: A Mortar unit writes a committed bed entry back to memory by cycle 1,023 of the next stroke. `word` is the destination word, its byte address over 32. -/
  | bedWriteBack (word : Nat)
  /-- STROKE_SYNC_IN_EDGE, R96: A rising edge on STROKE_SYNC_IN is accepted or ignored and drives pin acquisition and lock. `cycle` is the fabric cycle of the edge in the current stroke. -/
  | strokeSyncInEdge (cycle : Nat)
  /-- FREE_RUN, R96: After 4 strokes without a usable edge the module enters FREE_RUN or PTP fallback. `cycle` is the fabric cycle of the event. -/
  | freeRun (cycle : Nat)
  /-- ADOPTION, R100: At the commit of ADOPT_AT the module adopts counter value V and re-derives STROKE_EPOCH. -/
  | adoption
  /-- PTP_SYNC, R429: A received PTP Sync message updates the offset and may set or clear PTP_LOCKED. `offset` is the signed offset from the master in ns, `start` the PTP time at which the current stroke began. -/
  | ptpSync (port : Nat) (offset start : Int)
  /-- PTP_SYNC_TIMEOUT, R429: After 3 s without Sync, PTP_LOCKED clears and EVT_PTP_LOCK_LOST latches. -/
  | ptpSyncTimeout
  /-- NOP, R184: Sequence slot that does nothing. -/
  | slNop (u : Issue) (w : Slot)
  /-- ADD, R184: Integer add of A and B, wrapping or saturating. -/
  | slAdd (u : Issue) (w : Slot)
  /-- SUB, R184: Integer subtract of B from A. -/
  | slSub (u : Issue) (w : Slot)
  /-- MUL, R184: Low 32 bits of A times B. -/
  | slMul (u : Issue) (w : Slot)
  /-- MULHI, R184: High 32 bits of A times B. -/
  | slMulhi (u : Issue) (w : Slot)
  /-- MAD, R184: Low 32 bits of A times B plus C. -/
  | slMad (u : Issue) (w : Slot)
  /-- AND, R184: Bitwise AND. -/
  | slAnd (u : Issue) (w : Slot)
  /-- OR, R184: Bitwise OR. -/
  | slOr (u : Issue) (w : Slot)
  /-- XOR, R184: Bitwise XOR. -/
  | slXor (u : Issue) (w : Slot)
  /-- ANDN, R184: A AND NOT B. -/
  | slAndn (u : Issue) (w : Slot)
  /-- SHL, R184: Shift left. -/
  | slShl (u : Issue) (w : Slot)
  /-- SHR, R184: Logical or arithmetic shift right. -/
  | slShr (u : Issue) (w : Slot)
  /-- MIN, R184: Integer minimum. -/
  | slMin (u : Issue) (w : Slot)
  /-- MAX, R184: Integer maximum. -/
  | slMax (u : Issue) (w : Slot)
  /-- CMP, R184: Compares A and B and writes a predicate. -/
  | slCmp (u : Issue) (w : Slot)
  /-- SEL, R184: Selects A or B per lane by a predicate. -/
  | slSel (u : Issue) (w : Slot)
  /-- MOV, R184: Moves B to the destination. -/
  | slMov (u : Issue) (w : Slot)
  /-- SPEC, R184: Reads a loop index, lane number or template coordinate. -/
  | slSpec (u : Issue) (w : Slot)
  /-- PLOG, R184: Predicate logic on two predicates. -/
  | slPlog (u : Issue) (w : Slot)
  /-- LOOP, R182: Starts a hardware loop over a body of slots. -/
  | slLoop (u : Issue) (w : Slot)
  /-- END, R165: Finishes the core's work for the stroke once its outputs are accepted. -/
  | slEnd (u : Issue) (w : Slot)
  /-- MADDQ, R186: Modular add. -/
  | slMaddq (u : Issue) (w : Slot)
  /-- MSUBQ, R186: Modular subtract. -/
  | slMsubq (u : Issue) (w : Slot)
  /-- MMULQ, R186: Barrett modular multiply. -/
  | slMmulq (u : Issue) (w : Slot)
  /-- MMADQ, R186: Barrett modular multiply-add. -/
  | slMmadq (u : Issue) (w : Slot)
  /-- MMULM, R186: Montgomery modular multiply. -/
  | slMmulm (u : Issue) (w : Slot)
  /-- MMADM, R186: Montgomery modular multiply-add. -/
  | slMmadm (u : Issue) (w : Slot)
  /-- MTOM, R186: Converts to Montgomery form. -/
  | slMtom (u : Issue) (w : Slot)
  /-- MREDQ, R186: Reduces A modulo q. -/
  | slMredq (u : Issue) (w : Slot)
  /-- MWIDE, R186: Reduces a 128-bit value modulo q. -/
  | slMwide (u : Issue) (w : Slot)
  /-- MLIFT, R186: Lifts a residue to a signed value. -/
  | slMlift (u : Issue) (w : Slot)
  /-- FADD, R187: Float add. -/
  | slFadd (u : Issue) (w : Slot)
  /-- FSUB, R187: Float subtract. -/
  | slFsub (u : Issue) (w : Slot)
  /-- FMUL, R187: Float multiply. -/
  | slFmul (u : Issue) (w : Slot)
  /-- FMA, R187: Fused float multiply-add. -/
  | slFma (u : Issue) (w : Slot)
  /-- FMIN, R188: Float minimum. -/
  | slFmin (u : Issue) (w : Slot)
  /-- FMAX, R188: Float maximum. -/
  | slFmax (u : Issue) (w : Slot)
  /-- FSGN, R188: Sign manipulation of a float. -/
  | slFsgn (u : Issue) (w : Slot)
  /-- DOT2, R189: BF16 two-term dot product into an accumulator. -/
  | slDot2 (u : Issue) (w : Slot)
  /-- DOT4, R189: 8-bit four-term dot product into an accumulator. -/
  | slDot4 (u : Issue) (w : Slot)
  /-- CVT, R190: Converts between formats. -/
  | slCvt (u : Issue) (w : Slot)
  /-- SBOX8, R191: AES S-box on each byte. -/
  | slSbox8 (u : Issue) (w : Slot)
  /-- MIXCOL, R191: AES MixColumns on each lane. -/
  | slMixcol (u : Issue) (w : Slot)
  /-- ROTL32, R191: Rotate left. -/
  | slRotl32 (u : Issue) (w : Slot)
  /-- CLMUL32, R191: Carry-less multiply. -/
  | slClmul32 (u : Issue) (w : Slot)
  /-- LUT16, R191: Nibble-indexed byte look-up. -/
  | slLut16 (u : Issue) (w : Slot)
  /-- SEND, R196: Sends a register on a mesh link, stalling when the receive buffer is full. -/
  | slSend (u : Issue) (w : Slot)
  /-- RECV, R196: Takes a register from a mesh receive buffer, stalling when empty. -/
  | slRecv (u : Issue) (w : Slot)
  /-- LDC, R192: Loads a core-store half. -/
  | slLdc (u : Issue) (w : Slot)
  /-- STC, R192: Stores to a core-store half. -/
  | slStc (u : Issue) (w : Slot)
  /-- STC2, R192: Stores a full core-store word. -/
  | slStc2 (u : Issue) (w : Slot)
  /-- LDW, R193: Loads 16 bytes from a bound region. -/
  | slLdw (u : Issue) (w : Slot)
  /-- STW, R197: Stores 16 bytes to a bound region. -/
  | slStw (u : Issue) (w : Slot)
  /-- STW2, R197: Stores 32 bytes to a bound region. -/
  | slStw2 (u : Issue) (w : Slot)
  /-- ACCCLR, R192: Clears an accumulator. -/
  | slAccclr (u : Issue) (w : Slot)
  /-- ACCADD, R195: Adds A into an accumulator. -/
  | slAccadd (u : Issue) (w : Slot)
  /-- ACCMAC, R195: Multiply-accumulates A times B. -/
  | slAccmac (u : Issue) (w : Slot)
  /-- ACCRD, R192: Reads half an accumulator. -/
  | slAccrd (u : Issue) (w : Slot)
  /-- ACCWR, R192: Writes half an accumulator. -/
  | slAccwr (u : Issue) (w : Slot)
  /-- TPUSH, R198: Pushes a register or accumulator through the adder tree or directly to Mortar. -/
  | slTpush (u : Issue) (w : Slot)
  /-- MORTAR_ADD, R216: An add reaching a Mortar unit is applied to the provisional bed entry of its destination word, waiting in the queue if needed. `unit` is an Ashlar index, or 4,800 + pseudo-channel index. -/
  | mortarAdd (unit cycle : Nat)
  /-- DEQ, R200: Takes the next visible queue item word and tests its tag. -/
  | slDeq (u : Issue) (w : Slot)
  /-- ENQ_DATA, R202: ENQ SUBOP 0 writes a data word into the core's open packet. -/
  | slEnqData (u : Issue) (w : Slot)
  /-- ENQ_OPEN, R202: ENQ SUBOP 1 opens a packet and writes a data word. -/
  | slEnqOpen (u : Issue) (w : Slot)
  /-- ENQ_CLOSE, R202: ENQ SUBOP 2 writes a data word and closes the packet. -/
  | slEnqClose (u : Issue) (w : Slot)
  /-- ENQ_SINGLE, R202: ENQ SUBOP 3 writes a one-word packet. -/
  | slEnqSingle (u : Issue) (w : Slot)
  /-- ENQ_MARKER, R202: ENQ SUBOP 4 writes a lone marker word. -/
  | slEnqMarker (u : Issue) (w : Slot)
  /-- QMARK_SET, R199: QMARK SUBOP 0 sets the rig mark to the read position. -/
  | slQmarkSet (u : Issue) (w : Slot)
  /-- QMARK_REWIND, R199: QMARK SUBOP 1 rewinds the read position to the rig mark. -/
  | slQmarkRewind (u : Issue) (w : Slot)
  /-- QREL, R205: Sets the queue's release point for the stroke to the rig mark. -/
  | slQrel (u : Issue) (w : Slot)
  /-- RIG_REPLACE, R139: Tamrik re-places a faulted rig's affected Ashlar and restores shadows, retrying each stroke. -/
  | rigReplace (rig : Nat)
  /-- LINK_DOWN, R659: A Course or Pier link going down overruns affected rigs and reroutes their paths. -/
  | linkDown (link : Link)
  /-- PIER_DMA_START, R149: Pier DMA starts a request after the stroke that issued it commits. -/
  | pierDmaStart (pier : Nat)
  /-- PIER_DMA_COMPLETE, R149: A Pier DMA copy finishes and its completion word is enqueued. -/
  | pierDmaComplete (pier : Nat)
  /-- DRAIN_REQ, R222: A write of ASHLAR_DRAIN_CTL.REQ requests a drain of the rig and latches its destination. -/
  | drainReq (ashlar region cycle : Nat)
  /-- DRAIN_CAPTURE, R223: A pending drain captures the shadows at the next committing stroke. -/
  | drainCapture (rig : Nat)
  /-- DRAIN_COPY_DONE, R225: The drain copy finishes within 64 strokes and the result is recorded. -/
  | drainCopyDone (rig : Nat)
  /-- MARKER_MAX_CLR, R153: Writing ASHLAR_CTL.MARKER_MAX_CLR zeroes ASHLAR_MARKER.MAX. -/
  | markerMaxClr (ashlar : Nat)
  /-- OPEN, R34: The MUSTER round-open command checks the descriptor and enters OPEN. -/
  | msOpen (cycle : Nat)
  /-- DROP, R253: The DROP command marks listed slots dropped at its commit. `block` is MUSTER_CMD.ROUND_SLOT. -/
  | msDrop (block cycle : Nat)
  /-- ABORT, R56: The ABORT command faults the round with ABORTED. `block` is MUSTER_CMD.ROUND_SLOT. -/
  | msAbort (block cycle : Nat)
  /-- RETIRE, R55: The RETIRE command retires a round in RELEASE or FAULTED and wipes its resources. `block` is MUSTER_CMD.ROUND_SLOT. -/
  | msRetire (block cycle : Nat)
  /-- BIND, R242: The BIND command binds a queue pair to a round with a role and a landing queue. `block` is MUSTER_CMD.ROUND_SLOT. -/
  | msBind (block cycle : Nat)
  /-- UNBIND, R242: The UNBIND command ends a queue pair's binding and role. -/
  | msUnbind (cycle : Nat)
  /-- OUTCOME_COPY, R259: The OUTCOME_COPY command writes the outcome table into an OPEN region. `block` is MUSTER_CMD.ROUND_SLOT. -/
  | msOutcomeCopy (block cycle : Nat)
  /-- ROUND_SETUP_COMPLETE, R47: Round setup completes, after which attestation statements are issued. `ingress` and `work` are the Ashlars on which Tamrik places the round's ingress rigs and its other sealed rigs. -/
  | roundSetupComplete (block : Nat) (ingress work : List Nat)
  /-- D_COLLECT, R45: At the commit of D_COLLECT the round enters COLLECT, or faults SETUP_LATE. -/
  | dCollect (block : Nat)
  /-- D_CLOSE, R255: At the commit of D_CLOSE drop marks apply, clients are classified, and the round enters CLOSE. -/
  | dClose (block : Nat)
  /-- CREW_COUNT_EXCHANGE, R262: After the commit of D_CLOSE + 511 members send counts and statuses to owners. -/
  | crewCountExchange (block : Nat)
  /-- D_CLOSE_PLUS_1024, R259: At the commit of D_CLOSE + 1,024 the floor is tested, the outcome table published, and the round enters RECOVER or faults. -/
  | dClosePlus1024 (block : Nat)
  /-- D_RECOVER_END, R46: At the commit of D_RECOVER_END a round still short of shares or cancellation faults SHARES_SHORT. -/
  | dRecoverEnd (block : Nat)
  /-- D_RETIRE, R45: At the commit of D_RETIRE the module retires a round in RELEASE or FAULTED. -/
  | dRetire (block : Nat)
  /-- MUSTER_DECISION, R245: Muster decides each landed contribution against the roster by cycle 63 of the next stroke. -/
  | musterDecision
  /-- INGRESS_MOVE, R724: Muster moves an admitted item into its ingress queue, retrying at later intakes when full. `qp` is the index of the queue pair whose landing queue is moved. -/
  | ingressMove (qp : Nat)
  /-- REFUSAL_REPORT_SEND, R251: Halyard sends pending refusal reports as Send with Immediate within 16 strokes. `qp` is the index of the queue pair. -/
  | refusalReportSend (qp : Nat)
  /-- ENVELOPE_DECIDE, R287: Keystone decides checks 1 to 5 of landed envelopes and moves passing ones to the feed queue. -/
  | envelopeDecide
  /-- ENVELOPE_OPEN, R288: An X25519 engine opens a queued envelope, applies checks 5 to 8, and stores its shares. -/
  | envelopeOpen (block : Nat)
  /-- CANCELLATION_PLAN, R291: At intake of D_CLOSE + 1,025 Keystone builds the cancellation plan. -/
  | cancellationPlan (block : Nat)
  /-- SECRET_RECONSTRUCT, R293: Keystone reconstructs a secret once it holds THRESHOLD eligible shares. `root` picks the pair root or the self seed of the slot. -/
  | secretReconstruct (block : Nat) (root : Bool) (slot : Nat)
  /-- TERM_ISSUE, R297: Keystone issues up to 1,024 cancellation terms per stroke on the mask feed queues. -/
  | termIssue (block : Nat)
  /-- NOISE_DRAW, R302: Keystone draws noise and enqueues one noise packet per owned chunk. -/
  | noiseDraw (block chunk : Nat)
  /-- RESULT_WRITE, R303: The release rig writes each owned chunk's result record. -/
  | resultWrite (block : Nat)
  /-- GLWE_COMBINE, R350: A sealed rig combines THRESHOLD partial decryptions and decodes owned B coefficients. -/
  | glweCombine (block ct : Nat)
  /-- LADD, R325: CIPHER adds two LWE objects. `course` is the Course that runs the request at the head of the queue, `vaultFault` whether its Vault faults. -/
  | ciLadd (course : Nat) (vaultFault : Bool)
  /-- LSUB, R325: CIPHER subtracts two LWE objects. `course` is the Course that runs the request at the head of the queue, `vaultFault` whether its Vault faults. -/
  | ciLsub (course : Nat) (vaultFault : Bool)
  /-- LNEG, R325: CIPHER negates an LWE object. `course` is the Course that runs the request at the head of the queue, `vaultFault` whether its Vault faults. -/
  | ciLneg (course : Nat) (vaultFault : Bool)
  /-- LSCALE, R325: CIPHER scales an LWE object by C. `course` is the Course that runs the request at the head of the queue, `vaultFault` whether its Vault faults. -/
  | ciLscale (course : Nat) (vaultFault : Bool)
  /-- LADDC, R325: CIPHER adds a plaintext constant. `course` is the Course that runs the request at the head of the queue, `vaultFault` whether its Vault faults. -/
  | ciLaddc (course : Nat) (vaultFault : Bool)
  /-- LNOT, R325: CIPHER complements a bit. `course` is the Course that runs the request at the head of the queue, `vaultFault` whether its Vault faults. -/
  | ciLnot (course : Nat) (vaultFault : Bool)
  /-- REFRESH, R327: CIPHER bootstraps an object through table LUT. `course` is the Course that runs the request at the head of the queue, `vaultFault` whether its Vault faults. -/
  | ciRefresh (course : Nat) (vaultFault : Bool)
  /-- CIPHER_AND, R325: CIPHER AND gate with refresh. `course` is the Course that runs the request at the head of the queue, `vaultFault` whether its Vault faults. -/
  | ciAnd (course : Nat) (vaultFault : Bool)
  /-- CIPHER_OR, R325: CIPHER OR gate with refresh. `course` is the Course that runs the request at the head of the queue, `vaultFault` whether its Vault faults. -/
  | ciOr (course : Nat) (vaultFault : Bool)
  /-- CIPHER_XOR, R325: CIPHER XOR gate with refresh. `course` is the Course that runs the request at the head of the queue, `vaultFault` whether its Vault faults. -/
  | ciXor (course : Nat) (vaultFault : Bool)
  /-- NAND, R325: CIPHER NAND gate with refresh. `course` is the Course that runs the request at the head of the queue, `vaultFault` whether its Vault faults. -/
  | ciNand (course : Nat) (vaultFault : Bool)
  /-- NOR, R325: CIPHER NOR gate with refresh. `course` is the Course that runs the request at the head of the queue, `vaultFault` whether its Vault faults. -/
  | ciNor (course : Nat) (vaultFault : Bool)
  /-- XNOR, R325: CIPHER XNOR gate with refresh. `course` is the Course that runs the request at the head of the queue, `vaultFault` whether its Vault faults. -/
  | ciXnor (course : Nat) (vaultFault : Bool)
  /-- CIPHER_ANDN, R325: CIPHER in0 AND NOT in1 with refresh. `course` is the Course that runs the request at the head of the queue, `vaultFault` whether its Vault faults. -/
  | ciAndn (course : Nat) (vaultFault : Bool)
  /-- LUT2, R325: CIPHER two-input table look-up with refresh. `course` is the Course that runs the request at the head of the queue, `vaultFault` whether its Vault faults. -/
  | ciLut2 (course : Nat) (vaultFault : Bool)
  /-- MUX, R325: CIPHER encrypted multiplexer with two refreshes. `course` is the Course that runs the request at the head of the queue, `vaultFault` whether its Vault faults. -/
  | ciMux (course : Nat) (vaultFault : Bool)
  /-- EXTRACT, R327: CIPHER refresh stopping at the LWE_BIG output. `course` is the Course that runs the request at the head of the queue, `vaultFault` whether its Vault faults. -/
  | ciExtract (course : Nat) (vaultFault : Bool)
  /-- COPY, R325: CIPHER copies an object, setting SEALED in the sealed area. `course` is the Course that runs the request at the head of the queue, `vaultFault` whether its Vault faults. -/
  | ciCopy (course : Nat) (vaultFault : Bool)
  /-- KEYSET_REGISTER, R337: CIPHER registers a key-set image. `course` is the Course that runs the request at the head of the queue, `vaultFault` whether its Vault faults. -/
  | ciKeysetRegister (course : Nat) (vaultFault : Bool)
  /-- KEYSET_RELEASE, R338: CIPHER deregisters a key set and zeroises its replicas. `course` is the Course that runs the request at the head of the queue, `vaultFault` whether its Vault faults. -/
  | ciKeysetRelease (course : Nat) (vaultFault : Bool)
  /-- GLWE_EXPORT_A, R347: CIPHER exports a ciphertext round's mask sums. `course` is the Course that runs the request at the head of the queue, `vaultFault` whether its Vault faults. -/
  | ciGlweExportA (course : Nat) (vaultFault : Bool)
  /-- CIPHER_STATUS, R341: CIPHER writes its status record and optionally clears EVENTS. `course` is the Course that runs the request at the head of the queue, `vaultFault` whether its Vault faults. -/
  | ciStatus (course : Nat) (vaultFault : Bool)
  /-- VAULT_FORWARD, R358: A Vault request with OP forward computes and verifies forward transforms. `fails` lists the transforms of the batch whose verification fails, with whether the second check fails too. -/
  | vaultForward (course : Nat) (fails : List (Nat × Bool))
  /-- VAULT_INVERSE, R358: A Vault request with OP inverse computes and verifies inverse transforms. `fails` lists the transforms of the batch whose verification fails, with whether the second check fails too. -/
  | vaultInverse (course : Nat) (fails : List (Nat × Bool))
  /-- VAULT_COMPLETION, R366: The Vault writes a request's completion word within 64 cycles of finishing. -/
  | vaultCompletion (course cycle : Nat)
  /-- MT_WRITE, R362: VAULT_MT_CMD WRITE stores the staged prime q into a modulus-table entry. `course` names the VAULT page written. -/
  | vaMtWrite (course : Nat)
  /-- MT_CLEAR, R362: VAULT_MT_CMD CLEAR empties a modulus-table entry. `course` names the VAULT page written. -/
  | vaMtClear (course : Nat)
  /-- MT_READ, R379: VAULT_MT_CMD READ loads an entry into Q and ROOT registers. `course` names the VAULT page written. -/
  | vaMtRead (course : Nat)
  /-- CONFIGURE, R416: SPILL_CMD CONFIGURE applies the staged configuration and makes the queue TENANT. -/
  | spConfigure (page cycle : Nat)
  /-- FLUSH, R405: A flush discards a queue's words at cycle 2,044 and writes a flush marker. -/
  | spFlush (page cycle : Nat)
  /-- FREE, R416: SPILL_CMD FREE returns the queue to FREE. -/
  | spFree (page cycle : Nat)
  /-- SPILL_SEL, R411: A write to SPILL_SEL selects a queue and loads its configuration into SPILL_Q_CFG. -/
  | spillSel (page : Nat) (v : W32)
  /-- WATERMARK_WRITE, R412: A write to SPILL_Q_HIGH_WM or LOW_WM sets the live watermark or is ignored. `high` picks HIGH_WM or LOW_WM. -/
  | watermarkWrite (page : Nat) (high : Bool) (v : W32)
  /-- WIN_DATA_WRITE, R407: A host write to WIN_DATA stages bytes of the word to produce. -/
  | winDataWrite (queue off cycle : Nat) (bytes : List Byte)
  /-- WIN_DATA_READ, R407: A host read at WIN_DATA offset 0 takes the next visible word into the latch. `len` is how many bytes the read asks for, 1 to 32. -/
  | winDataRead (queue cycle len : Nat)
  /-- PROD_DATA, R408: WIN_PROD_OP 0 writes the staged word as a data word of the open packet. -/
  | prodData (queue cycle : Nat)
  /-- PROD_OPEN, R408: WIN_PROD_OP 1 opens a packet and writes the staged word. -/
  | prodOpen (queue cycle : Nat)
  /-- PROD_CLOSE, R408: WIN_PROD_OP 2 writes the staged word and closes the packet. -/
  | prodClose (queue cycle : Nat)
  /-- PROD_SINGLE, R408: WIN_PROD_OP 3 writes a one-word packet. -/
  | prodSingle (queue cycle : Nat)
  /-- PROD_MARKER, R408: WIN_PROD_OP 4 writes a lone marker. -/
  | prodMarker (queue cycle : Nat)
  /-- WIN_MARK, R408: WIN_CONS_OP MARK sets the host mark to the read position. -/
  | winMark (queue cycle : Nat)
  /-- WIN_REWIND, R408: WIN_CONS_OP REWIND sets the read position to the host mark. -/
  | winRewind (queue cycle : Nat)
  /-- WIN_RELEASE, R396: WIN_CONS_OP RELEASE sets the release point, applied at the next committing stroke. -/
  | winRelease (queue cycle : Nat)
  /-- WIN_NOTICE_ACK, R408: A write to WIN_NOTICE_ACK subtracts notices and may re-arm the queue. -/
  | winNoticeAck (queue : Nat) (v : W32)
  /-- RING_FETCH, R397: A burst of 8 words fetched from a queue's HBM ring arrives in the head window. -/
  | ringFetch (queue : Nat)
  /-- DOORBELL_RING, R604: A write to DB_ADDR_HI rings a doorbell and starts a host packet fetch. `header` is what the module reads at the packet address, none where the fetch fails. -/
  | doorbellRing (queue cycle : Nat) (addrHi : W32) (header : Option (List Byte))
  /-- DOORBELL_FETCH_DONE, R604: The doorbell fetch ends and the packet is closed or abandoned. `data` is what the fetch returned, or none where it failed. -/
  | doorbellFetchDone (queue cycle : Nat) (data : Option (List Byte))
  /-- RX_FRAME, R421: A received Ethernet frame is checked and passed on, discarded or counted. `cls` is 0, 1 PAUSE, 2 RoCE, 3 RoCE with a bad ICRC or 4 UDP to no port of the module (12 R460), `fill` the occupancy of the buffer in KiB, `corr` and `uncorr` the FEC codewords found. -/
  | rxFrame (port len tags prio cls fill corr uncorr : Nat) (fcsOk : Bool)
  /-- PFC_FRAME_RX, R424: A received PFC frame pauses the named priorities. `pause` and `resume` are the sets of priorities paused and resumed. -/
  | pfcFrameRx (port pause resume : Nat)
  /-- PFC_XOFF_REFRESH, R424: XOFF is resent every half pause time while the condition lasts. `fill` is the buffer occupancy of the priority in KiB. -/
  | pfcXoffRefresh (port prio fill : Nat)
  /-- PFC_STORM, R424: A priority held paused for 100 ms latches EVT_PFC_STORM. -/
  | pfcStorm (port prio : Nat)
  /-- LLDP_TX, R425: Each port transmits LLDP every 30 s and after content changes. -/
  | lldpTx (port : Nat)
  /-- LLDP_RX, R426: A valid LLDP frame stores or replaces the port's neighbour. -/
  | lldpRx (port chassisType : Nat) (chassis : List Byte) (portType : Nat) (portId : List Byte) (ttl : Nat)
  /-- LLDP_TTL_EXPIRY, R426: The neighbour is forgotten when its TTL expires. -/
  | lldpTtlExpiry (port : Nat)
  /-- ETH_CFG_WRITE, R447: An accepted ETH_CFG write configures the port, stores it in flash and may retrain. -/
  | ethCfgWrite (port : Nat) (v : W32)
  /-- PTP_EN_WRITE, R428: Setting ETH_PTP_CTL.PTP_EN on a port clears it on every other port. -/
  | ptpEnWrite (port : Nat) (v : W32)
  /-- BEACON_TX, R432: Every second the module sends a BEACON on each Hail-enabled up port. -/
  | beaconTx
  /-- BEACON_RX, R433: A received beacon marks the peer seen and may start candidate handling. -/
  | beaconRx (port mac : Nat) (msg : List Byte)
  /-- PEER_SEEN_TIMEOUT, R443: A member with no beacon for 3 s is counted lost. `id` is the module id of the peer. -/
  | peerSeenTimeout (id : Nat)
  /-- FORM, R434: HAIL_CTL.FORM checks preconditions and enters FORMING. `v` is the value written to HAIL_CTL. -/
  | haForm (v : W32)
  /-- DISSOLVE, R444: HAIL_CTL.DISSOLVE sends LEAVE, faults crew rounds and returns to CLAIMED. `v` is the value written to HAIL_CTL. -/
  | haDissolve (v : W32)
  /-- HELLO, R435: A received HELLO is answered with ATTEST. `cycle` is the fabric cycle at which the datagram lands. -/
  | haHello (port cycle : Nat) (msg : List Byte)
  /-- HAIL_ATTEST, R435: A received ATTEST is verified and the pair derives crew keys. `aliasKey` is the Alias key of a chain that verifies under the Welloth root, none where it does not. -/
  | haAttest (port cycle : Nat) (msg : List Byte) (aliasKey : Option (List Byte))
  /-- CONFIRM, R437: A received CONFIRM is verified and the crew channel is connected. `cycle` is the fabric cycle at which the datagram lands. -/
  | haConfirm (port cycle : Nat) (msg : List Byte)
  /-- REPORT, R439: The leader collects REPORTs and sends ROSTER when they agree. `cycle` is the fabric cycle at which the datagram lands. -/
  | haReport (port cycle : Nat) (msg : List Byte)
  /-- ROSTER, R439: A member receiving ROSTER acknowledges it or refuses. `cycle` is the fabric cycle at which the datagram lands. -/
  | haRoster (port cycle : Nat) (msg : List Byte)
  /-- ROSTER_ACK, R439: The leader receives a member's ROSTER_ACK. `cycle` is the fabric cycle at which the datagram lands. -/
  | haRosterAck (port cycle : Nat) (msg : List Byte)
  /-- HAIL_REFUSE, R439: A received REFUSE ends formation with PEER_REFUSED. `cycle` is the fabric cycle at which the datagram lands. -/
  | haRefuse (port cycle : Nat) (msg : List Byte)
  /-- LEAVE, R444: A received LEAVE counts as the loss of its sender. `cycle` is the fabric cycle at which the datagram lands. -/
  | haLeave (port cycle : Nat) (msg : List Byte)
  /-- MEMBER_LOST, R443: A lost member sets DEGRADED and faults crew rounds per the loser's role. `id` is the module id of the peer. -/
  | memberLost (id : Nat)
  /-- FORMATION_TIMEOUT, R440: A formation not in CREW within 60 s ends with TIMEOUT. -/
  | formationTimeout
  /-- DECISION, R442: A member receives a leader decision and acknowledges it once whole. `pos` is the sender's position, `msg` the carriage message as received. -/
  | haDecision (pos : Nat) (msg : List Byte)
  /-- DECISION_ACK, R442: The leader receives a member's acknowledgement of a decision. `pos` is the sender's position, `msg` the carriage message as received. -/
  | haDecisionAck (pos : Nat) (msg : List Byte)
  /-- DECISION_RESEND, R442: The leader resends a decision until it is acknowledged. -/
  | haDecisionResend (block : Nat)
  /-- DECISION_APPLY, R60: A member applies a held decision at its named stroke, or late on arrival. -/
  | haDecisionApply (block : Nat)
  /-- DROP_SLOTS, R442: A member receives the slot records of a DROP decision. `pos` is the sender's position, `msg` the carriage message as received. -/
  | haDropSlots (pos : Nat) (msg : List Byte)
  /-- COUNTS, R262: An owner adds received chunk counts into its own. `pos` is the sender's position, `msg` the carriage message as received. -/
  | haCounts (pos : Nat) (msg : List Byte)
  /-- STATUSES, R262: A member writes received slot statuses into its outcome table. `pos` is the sender's position, `msg` the carriage message as received. -/
  | haStatuses (pos : Nat) (msg : List Byte)
  /-- DIGEST, R57: The leader compares a member's descriptor digest and faults on difference. `pos` is the sender's position, `msg` the carriage message as received. -/
  | haDigest (pos : Nat) (msg : List Byte)
  /-- FAULT_REPORT, R263: The leader receives a member's fault report and names FAULTED. `pos` is the sender's position, `msg` the carriage message as received. -/
  | haFaultReport (pos : Nat) (msg : List Byte)
  /-- SHARES, R305: A member receives carried stored shares for its home slots. `pos` is the sender's position, `msg` the carriage message as received. -/
  | haShares (pos : Nat) (msg : List Byte)
  /-- TERMS, R305: A member receives carried cancellation terms and applies them to owned chunks. `pos` is the sender's position, `msg` the carriage message as received. -/
  | haTerms (pos : Nat) (msg : List Byte)
  /-- CHUNK_SETS, R305: A member receives admitted chunk sets of other members' slots. `pos` is the sender's position, `msg` the carriage message as received. -/
  | haChunkSets (pos : Nat) (msg : List Byte)
  /-- RETRACTIONS, R305: A member receives another member's retraction list. `pos` is the sender's position, `msg` the carriage message as received. -/
  | haRetractions (pos : Nat) (msg : List Byte)
  /-- DONE, R305: The leader receives a member's completion and names RELEASE once all report. `pos` is the sender's position, `msg` the carriage message as received. -/
  | haDone (pos : Nat) (msg : List Byte)
  /-- QP_CREATE, R503: Creates a queue pair in RESET at the lowest free index. -/
  | hyQpCreate
  /-- QP_MODIFY, R464: Moves a queue pair between states with the listed attributes. -/
  | hyQpModify
  /-- QP_DESTROY, R464: Destroys a queue pair through ERROR. -/
  | hyQpDestroy
  /-- QP_QUERY, R503: Writes a queue pair's attribute block back into HALYARD_ARG. -/
  | hyQpQuery
  /-- REGISTER, R475: Registers a keyed region and returns its key. -/
  | hyRegister
  /-- DEREGISTER, R475: Removes a key, making its generation stale. -/
  | hyDeregister
  /-- PD_ALLOC, R472: Returns a free protection domain. -/
  | hyPdAlloc
  /-- PD_FREE, R472: Frees a protection domain not in use. -/
  | hyPdFree
  /-- ODP_RESOLVE, R477: Resumes a queue pair stalled on a now-resident page. -/
  | hyOdpResolve
  /-- ODP_INVALIDATE, R477: Invalidates cached translations, completing when no access through them remains. -/
  | hyOdpInvalidate
  /-- GID_SET, R503: Sets a GID table entry of a port. -/
  | hyGidSet
  /-- ODP_POP, R505: A write to HALYARD_ODP_POP removes the oldest fault record. -/
  | hyOdpPop
  /-- ODP_TIMEOUT, R477: A page miss not resolved within 64 µs ends the stall with an error. `qp` is the slot of the queue pair. -/
  | hyOdpTimeout (qp : Nat)
  /-- WR_SEND, R469: Halyard takes a SEND work request and sends it. `qp` is the slot of the queue pair, `pages` the present translation entries that the module reads (page I/O address and host page), `host` what host memory returns for a local source there. -/
  | wrSend (qp cycle : Nat) (pages : List (Nat × Nat)) (host : List Byte)
  /-- WR_SEND_IMM, R469: Halyard takes a SEND_IMM work request and sends it. `qp` is the slot of the queue pair, `pages` the present translation entries that the module reads (page I/O address and host page), `host` what host memory returns for a local source there. -/
  | wrSendImm (qp cycle : Nat) (pages : List (Nat × Nat)) (host : List Byte)
  /-- WR_WRITE, R469: Halyard takes a WRITE work request and sends it. `qp` is the slot of the queue pair, `pages` the present translation entries that the module reads (page I/O address and host page), `host` what host memory returns for a local source there. -/
  | wrWrite (qp cycle : Nat) (pages : List (Nat × Nat)) (host : List Byte)
  /-- WR_WRITE_IMM, R469: Halyard takes a WRITE_IMM work request and sends it. `qp` is the slot of the queue pair, `pages` the present translation entries that the module reads (page I/O address and host page), `host` what host memory returns for a local source there. -/
  | wrWriteImm (qp cycle : Nat) (pages : List (Nat × Nat)) (host : List Byte)
  /-- WR_READ, R469: Halyard takes a READ work request and sends it. `qp` is the slot of the queue pair, `pages` the present translation entries that the module reads (page I/O address and host page), `host` what host memory returns for a local source there. -/
  | wrRead (qp cycle : Nat) (pages : List (Nat × Nat)) (host : List Byte)
  /-- WR_FETCH_ADD, R469: Halyard takes a FETCH_ADD work request and sends it. `qp` is the slot of the queue pair, `pages` the present translation entries that the module reads (page I/O address and host page), `host` what host memory returns for a local source there. -/
  | wrFetchAdd (qp cycle : Nat) (pages : List (Nat × Nat)) (host : List Byte)
  /-- WR_CMP_SWAP, R469: Halyard takes a CMP_SWAP work request and sends it. `qp` is the slot of the queue pair, `pages` the present translation entries that the module reads (page I/O address and host page), `host` what host memory returns for a local source there. -/
  | wrCmpSwap (qp cycle : Nat) (pages : List (Nat × Nat)) (host : List Byte)
  /-- WR_ACC_WRITE, R469: Halyard takes an ACC_WRITE work request and sends it. `qp` is the slot of the queue pair, `pages` the present translation entries that the module reads (page I/O address and host page), `host` what host memory returns for a local source there. -/
  | wrAccWrite (qp cycle : Nat) (pages : List (Nat × Nat)) (host : List Byte)
  /-- WR_ACC_WRITE_IMM, R469: Halyard takes an ACC_WRITE_IMM work request and sends it. `qp` is the slot of the queue pair, `pages` the present translation entries that the module reads (page I/O address and host page), `host` what host memory returns for a local source there. -/
  | wrAccWriteImm (qp cycle : Nat) (pages : List (Nat × Nat)) (host : List Byte)
  /-- RX_SEND_PACKET, R466: A received Send packet is classed by PSN and lands in its queue or is refused. `cycle` is the fabric cycle at which the packet is durable or refused. -/
  | rxSendPacket (p : Packet) (cycle : Nat)
  /-- RX_WRITE_PACKET, R480: A received RDMA Write packet is checked and placed in its region. `cycle` is the fabric cycle at which the packet is durable or refused. -/
  | rxWritePacket (p : Packet) (cycle : Nat)
  /-- RX_READ_REQUEST, R481: A received RDMA Read request is checked and answered with committed data. `cycle` is the fabric cycle at which the packet is durable or refused. -/
  | rxReadRequest (p : Packet) (cycle : Nat)
  /-- RX_ATOMIC, R482: A received Fetch-Add or Compare-Swap executes at the bank. `cycle` is the fabric cycle at which the packet is durable or refused. -/
  | rxAtomic (p : Packet) (cycle : Nat)
  /-- RX_ACC_WRITE_PACKET, R491: A received Accumulate-Write packet lands in a feeder queue or gets an RNR NAK. `cycle` is the fabric cycle at which the packet is durable or refused. -/
  | rxAccWritePacket (p : Packet) (cycle : Nat)
  /-- RX_SPRAY_PACKET, R493: A received spray packet is placed in its context and completes the message when the bitmap fills. `cycle` is the fabric cycle at which the packet is durable or refused. -/
  | rxSprayPacket (p : Packet) (cycle : Nat)
  /-- RX_UD_SEND, R466: A received UD Send lands with its 40-byte prefix. `cycle` is the fabric cycle at which the packet is durable or refused. -/
  | rxUdSend (p : Packet) (cycle : Nat)
  /-- RX_ACK, R470: A received acknowledgement completes requests up to its PSN. -/
  | rxAck (p : Packet)
  /-- RX_NAK, R486: A received NAK resends or fails the request per its kind. `kind` is 0 PSN sequence error, 1 invalid request, 2 remote access error, 3 remote operational error, 4 RNR. -/
  | rxNak (p : Packet) (kind : Nat)
  /-- RX_READ_RESPONSE, R470: A received Read or atomic response is placed in the local buffer. -/
  | rxReadResponse (p : Packet)
  /-- RX_CNP, R498: A received CNP lowers the queue pair's sending rate. -/
  | rxCnp (p : Packet)
  /-- SPRAY_ACK, R493: A received SPRAY_ACK completes a spray message at the requester. -/
  | sprayAck (p : Packet)
  /-- SPRAY_SNAK, R494: A received SPRAY_SNAK makes the requester resend the named packets. -/
  | spraySnak (p : Packet)
  /-- SPRAY_SNAK_TIMER, R494: After 256 µs without completion the responder sends SNAK, abandoning after the eighth. `qp` and `base` name the open context. -/
  | spraySnakTimer (qp base cycle : Nat)
  /-- ACK_TIMEOUT, R486: A requester timeout resends from the oldest unacknowledged PSN. `qp` is the slot of the queue pair. -/
  | ackTimeout (qp : Nat)
  /-- RNR_TIMER, R486: After an RNR NAK's timer the requester resends. `qp` is the slot of the queue pair. -/
  | rnrTimer (qp : Nat)
  /-- RATE_INCREASE, R498: Every 55 µs without a CNP the sending rate rises. `qp` is the slot of the queue pair. -/
  | rateIncrease (qp : Nat)
  /-- TAKE_OWNERSHIP, R554: Key update that burns owner roots and moves FACTORY to OPEN. -/
  | kpTakeOwnership
  /-- ROTATE, R554: Key update that sets a fresh OWNER_MIX. -/
  | kpRotate
  /-- SET_AUTHORITY, R554: Key update that replaces the owner authority key. -/
  | kpSetAuthority
  /-- SET_DEBUG_KEY, R554: Key update that replaces the debug unlock key. -/
  | kpSetDebugKey
  /-- SEAL, R554: Key update that moves OPEN to SEALED. -/
  | kpSeal
  /-- UNSEAL, R554: Key update that moves SEALED to OPEN. -/
  | kpUnseal
  /-- RETURN, R554: Key update that moves to RETURN. -/
  | kpReturn
  /-- SCRAP, R554: Key update that moves to SCRAPPED. -/
  | kpScrap
  /-- GENERATE, R549: Makes a blob of a DRBG-drawn key. -/
  | kpGenerate
  /-- IMPORT_SEALED, R549: Makes a blob of an HPKE-sealed imported key. -/
  | kpImportSealed
  /-- IMPORT_CLEAR, R549: Makes a blob of a key imported in clear. -/
  | kpImportClear
  /-- LOAD, R550: Opens a blob into a key slot. `slot` is KEEP_CMD.SLOT. -/
  | kpLoad (slot : Nat)
  /-- UNLOAD, R552: Zeroises a key slot once its users finish. `slot` is KEEP_CMD.SLOT. -/
  | kpUnload (slot : Nat)
  /-- KEY_REQUEST, R551: An engine asks the Keep for a slot's key, which is released or denied. `dest` is a bit of DEST_MASK, `use` a bit of USAGE, `round` the round served (0: none). -/
  | kpKeyRequest (slot dest use round : Nat)
  /-- TAMPER_ALARM, R559: A filtered sensor alarm runs the tamper line in hardware. `held` says that the sensor is still in alarm afterwards. -/
  | tamperAlarm (sensor : Nat) (held : Bool)
  /-- CLAIM, R577: Claims the module for a tenant, fixing guard modes and filling HBM. `cycle` is the fabric cycle at which the write of BOSUN_CMD lands. -/
  | boClaim (cycle : Nat)
  /-- CLAIM_COMPLETE, R577: The claim's HBM fill finishes and the claim completes. `reserve` is where Tamrik places its 16 GiB (R626): base, length, and whether it holds rings. -/
  | claimComplete (reserve : List (Nat × Nat × Bool))
  /-- RELEASE, R584: Ends the tenancy, faulting rounds and starting the scrub. `cycle` is the fabric cycle at which the write of BOSUN_CMD lands. -/
  | boRelease (cycle : Nat)
  /-- SCRUB_DONE, R584: The release scrub completes and the module is unclaimed. -/
  | scrubDone
  /-- ATTEST, R573: Builds, signs and writes an attestation statement. -/
  | boAttest
  /-- REGION_ALLOC, R626: Allocates and tags a region. -/
  | boRegionAlloc
  /-- REGION_FREE, R626: Zero-fills and frees a region. -/
  | boRegionFree
  /-- RIG_LOAD, R133: Checks and places a tenant rig. -/
  | boRigLoad
  /-- RIG_UNLOAD, R623: Unloads a tenant rig at the commit. `cycle` is the fabric cycle at which the write of BOSUN_CMD lands. -/
  | boRigUnload (cycle : Nat)
  /-- FN_LOAD, R321: Loads a named sealed function. -/
  | boFnLoad
  /-- FN_UNLOAD, R623: Unloads a named sealed function. `cycle` is the fabric cycle at which the write of BOSUN_CMD lands. -/
  | boFnUnload (cycle : Nat)
  /-- HOST_COPY, R623: Copies between host memory and an OPEN region. -/
  | boHostCopy
  /-- FW_STAGE, R629: Fetches and signature-checks a firmware image for programming. -/
  | boFwStage
  /-- FW_PROGRAM_DONE, R629: Programming ends with STAGED or FAILED_FLASH. `ok` says that every line verifies. -/
  | fwProgramDone (ok : Bool)
  /-- FW_ACTIVATE, R629: Writes a boot record naming the staged slot and forces a WARM reset. -/
  | boFwActivate
  /-- FENCE_MAP_READ, R662: Writes the fence map image to host memory. -/
  | boFenceMapRead
  /-- EXPORT, R581: WEIGHTS_IO encrypts a WEIGHTS range into a weights record. The operands are the fields of the request: key slot, range, destination, LABEL and a cookie. -/
  | boExport (slot src len dst label cookie : Nat)
  /-- IMPORT, R583: WEIGHTS_IO decrypts a weights record into a WEIGHTS region. The operands are the fields of the request: key slot, record, destination and a cookie. -/
  | boImport (slot src dst cookie : Nat)
  /-- WARM_RESET, R632: GLOBAL_RESET with the WARM key starts a WARM reset. -/
  | warmReset
  /-- POR_RESET, R620: GLOBAL_RESET with the POR key starts a POR. -/
  | porReset
  /-- BOSUN_WATCHDOG, R620: A heartbeat unchanged for 1 s forces a WARM reset. -/
  | bosunWatchdog
  /-- INPUT_IN_RANGE, R720: The 42 V input entering its range starts a POR. `absent` says that the input had been out of range for at least 1 s, `flashWp` that FLASH_WP_N is low. -/
  | inputInRange (absent flashWp : Bool)
  /-- INPUT_OUT_OF_RANGE, R721: The input leaving its range runs the stop sequence. `progress` is how far a key update in progress had come: the number of its steps done. -/
  | inputOutOfRange (progress : Nat)
  /-- MEMTEST_DONE, R631: The built-in memory test stage ends. `cores`, `stores` and `blocks` are what the tests find defective: core positions by Ashlar, Ashlar stores, and HBM blocks (pseudo-channel × 2^20 + block). -/
  | memtestDone (cores : List (Nat × Nat)) (stores blocks : List Nat)
  /-- INIT_DONE, R631: The FILL stage ends and the Bosun is released. -/
  | initDone
  /-- FW_LOAD_DONE, R630: The boot ROM accepts a firmware slot or enters FAILED. `badA` and `badB` say that a line of the slot is found corrupt at this reading. -/
  | fwLoadDone (badA badB : Bool)
  /-- READY, R631: Tamrik finishes start-up and the module enters READY. -/
  | ready
  /-- SLOT_CHECK, R630: Tamrik checks the untried firmware slot within 500 ms after READY. -/
  | slotCheck
  /-- PERST, R596: PERST_N, hot reset or link down resets the link level only. `pin` says that PERST_N is asserted; otherwise it is a hot reset or the link goes down. -/
  | perst (pin : Bool)
  /-- RETRAIN, R618: PCIE_CTL.RETRAIN retrains the link. `v` is the value written to the register. -/
  | retrain (v : W32)
  /-- BAR2_BASE_WRITE, R618: A write of PCIE_BAR2_BASE_HI applies the staged BAR2 base. `v` is the value written to the register. -/
  | bar2BaseWrite (v : W32)
  /-- BAR2_ACCESS, R600: A host BAR2 read or write reaches OPEN words or is refused. `data` holds the bytes of a write, and is none for a read of `len` bytes. -/
  | bar2Access (offset cycle len : Nat) (data : Option (List Byte))
  /-- TLP_ERROR, R608: A received erroneous TLP is discarded or answered and logged under AER. -/
  | tlpError (e : TlpErr)
  /-- MSIX_SEND, R606: A vector is sent when its condition rises, or sets its pending bit. -/
  | msixSend (vector : Nat)
  /-- EVT_LATCH_WRITE, R606: A write to EVT_LATCH, EVT_ENABLE or EVT_FORCE updates events and may resend the vector. `page` and `index` name the page. `off` is the offset of EVT_LATCH, EVT_ENABLE or EVT_FORCE. -/
  | evtLatchWrite (page : Page) (index off : Nat) (v : W32)
  /-- SOFT_RESET, R611: PAGE_CTL.SOFT_RESET performs a BLOCK reset of an honouring page. `page` and `index` name the page. -/
  | softReset (page : Page) (index : Nat)
  /-- ERR_CLR, R611: PAGE_CTL.ERR_CLR zeroes ERR_COUNT and frees the capture. `page` and `index` name the page. -/
  | errClr (page : Page) (index : Nat)
  /-- PAGE_LOCK, R610: A write of PAGE_LOCK makes the page's RWL fields read-only. `page` and `index` name the page. -/
  | pageLock (page : Page) (index : Nat)
  /-- TEMP_MAX_CLR, R530: HBMC_CTL.TEMP_MAX_CLR resets the temperature maximum. -/
  | tempMaxClr (stack : Nat)
  /-- QUEUE_MAX_CLR, R537: MORTAR_CTL.QUEUE_MAX_CLR zeroes QUEUE_MAX of the selected unit. -/
  | queueMaxClr (stack : Nat)
  /-- REGISTER_WRITE, R14: A write to a register with no behaviour of its own follows its access code. `bar` is 0 or 4, `len` the number of bytes, `v` the data where it is 4. -/
  | registerWrite (bar addr len cycle : Nat) (v : W32)
  /-- PATROL_SCRUB, R527: A scrubber reads one word per interval, correcting or poisoning it. `word` is the address over 32 of the word read, `delta` what errors in the array have changed its stored check symbols by (0: none). -/
  | patrolScrub (word : Nat) (delta : W32)
  /-- REEF_LATENCY_TOL, R638: A write to REEF_LATENCY_TOL takes effect at once, possibly starting an exit. `v` is the value written to the register. -/
  | reefLatencyTol (v : W32)
  /-- REEF_EXIT_DONE, R635: An exit from a reef state completes. `badA` and `badB` say that a line of the firmware slot is found corrupt when it is read again. -/
  | reefExitDone (badA badB : Bool)
  /-- PWR_BRAKE_ASSERT, R645: PWR_BRAKE_N or BRAKE_FORCE assertion applies the power cap. -/
  | pwrBrakeAssert
  /-- PWR_BRAKE_RELEASE, R646: The cap ends after 1 ms of the brake released with no other cause. -/
  | pwrBrakeRelease
  /-- POWER_LIMIT, R705: Input power above its limits brings the cap into force. `watts` is the input power, `average` the 1 ms average of REEF_POWER.NOW, `volts` and `amps` the readings of R718, `rested` that a cap of the limiter has lasted 10 ms. -/
  | powerLimit (watts average volts amps : Nat) (rested : Bool)
  /-- THERMAL_READING, R714: A temperature reading raises a warning or a thermal cap. `value` is in °C; `rested` says that every reading has been 5 °C below its cap threshold for 1 ms, and the cap has lasted 10 ms. -/
  | thermalReading (sensor : TempSensor) (value : Int) (rested : Bool)
  /-- THERMAL_TRIP, R715: Two readings at trip threshold zeroise secrets and remove power. `value` is the second reading in a row of the sensor. -/
  | thermalTrip (sensor : TempSensor) (value : Int)
  /-- FATAL, R661: A fatal fault stops the fabric and holds the module until POR. -/
  | fatal (code : Nat)
  /-- SMBUS_READ, R718: An SMBus read returns FRU or management-endpoint data. -/
  | smbusRead (access : SmbAccess)
  /-- TRST, R671: TRST_N low resets the TAP and ends any debug session. `low` is the level TRST_N takes. -/
  | tapTrst (low : Bool)
  /-- EXTEST, R675: TAP EXTEST drives sideband outputs from the boundary register. `cells` is what is shifted into the boundary register. -/
  | tapExtest (cells : Nat)
  /-- SAMPLE_PRELOAD, R672: TAP SAMPLE/PRELOAD samples or loads the boundary register. `cells` is what is shifted into the boundary register. -/
  | tapSamplePreload (cells : Nat)
  /-- IDCODE, R673: TAP IDCODE selects the identification register. -/
  | tapIdcode
  /-- CLAMP, R675: TAP CLAMP holds outputs from the boundary register with bypass. -/
  | tapClamp
  /-- HIGHZ, R675: TAP HIGHZ floats outputs with bypass. -/
  | tapHighz
  /-- BYPASS, R672: TAP BYPASS selects the 1-bit bypass register. -/
  | tapBypass
  /-- DBG_READ, R676: A DBG READ request reads the debug address space. `reserved` holds bits [7:2] of the request. -/
  | ttDbgRead (addr reserved : Nat)
  /-- DBG_WRITE, R676: A DBG WRITE request writes the debug address space. `reserved` holds bits [7:2] of the request. -/
  | ttDbgWrite (addr reserved cycle : Nat) (v : W32)
  /-- DBG_NOP, R676: A DBG NOP request does nothing. `reserved` holds bits [7:2] of the request. -/
  | ttDbgNop (addr reserved : Nat)
  /-- SESSION_OPEN, R679: Opens a debug session at the access level of the life cycle. -/
  | ttSessionOpen
  /-- SESSION_CLOSE, R679: Ends the debug session, resuming and disarming. -/
  | ttSessionClose
  /-- HALT, R686: Halts the module after the commit of the applicable stroke. `force` is TT_CTL.FORCE. -/
  | ttHalt (force : Bool) (cycle : Nat)
  /-- RESUME, R688: Restarts the stroke generator after a halt. -/
  | ttResume
  /-- STEP, R688: Runs exactly one stroke then halts again. -/
  | ttStep
  /-- UNLOCK, R683: The Keep checks an unlock token and, in SEALED, wipes memory before opening the session. -/
  | ttUnlock
  /-- ISO_CLR, R689: Discards the isolated Ashlar trial. -/
  | ttIsoClr
  /-- ISO_STEP, R689: A write to TT_ISO_STEP runs the isolated trial for n further cycles. `mismatch` is a template position at which a residue mismatch is found during these cycles. -/
  | ttIsoStep (cycles : Nat) (mismatch : Option Nat)
  /-- TT_MEM_READ, R694: TT_MEM_CTL READ reads a 32-byte word. -/
  | ttMemRead
  /-- TT_MEM_WRITE, R694: TT_MEM_CTL WRITE writes a 32-byte word directly. -/
  | ttMemWrite
  /-- COMMAND_COMPLETION, R722: A command not tied to a commit reaches its outcome instant within its bound: outcome and results are set, BUSY falls and CMD_DONE latches, and for APPLY_UPDATE the forced WARM reset follows. `page` names the command register, `x` what the module found while it performed the command. -/
  | commandCompletion (page : CmdPage) (x : Completion)
  /-- CIPHER_COMPLETION, R323: CIPHER finishes a request and enqueues its completion word at the commit that completes it. -/
  | ciCompletion
  /-- WEIGHTS_IO_COMPLETION, R583: A WEIGHTS_IO EXPORT or IMPORT finishes, zero-filling the destination on AUTH_FAILED, and completes. -/
  | weightsIoCompletion
  /-- SYNC_MODE_WRITE, R723: A write to STROKE_CTL.SYNC_MODE sets SYNC_STATE as the mode gives, starting acquisition or entering FREE_RUN or LOCKED_PTP. `v` is the value written to the register. -/
  | syncModeWrite (v : W32)
  /-- MAX_STATE_WRITE, R639: A write to REEF_CTL.MAX_STATE below the current reef state starts an exit. `v` is the value written to the register. -/
  | maxStateWrite (v : W32)
  /-- ETH_LINK_DOWN, R452: An Ethernet port's LINK_UP falls, from the cable, the link partner or loss of ETH_REFCLK, latching LINK_DOWN and counting ETH_LINK_DOWNS. -/
  | ethLinkDown (port : Nat)
  /-- ETH_LINK_UP, R452: An Ethernet port finishes training and LINK_UP rises, latching the LINK_UP event. -/
  | ethLinkUp (port : Nat)
  /-- PCIE_LINK_UP, R596: The host link finishes training after PERST_N deassertion or RETRAIN, possibly at a new rate or width. `gen`, `width` and `flit` are what the training agreed. -/
  | pcieLinkUp (gen width : Nat) (flit : Bool)
  /-- CONFIG_WRITE, R593: A host write to PCIe configuration space changes Bus Master Enable, MSI-X Enable, power state, LTR enable, AER or Device Control settings. -/
  | configWrite (w : ConfigWr)
  /-- MSIX_UNMASK, R606: A host write to the MSI-X table unmasks a vector, sending its pending message if the condition still holds. The operands are what the entry holds after the write. -/
  | msixUnmask (vector addr : Nat) (data : W32) (masked : Bool)
  /-- COMPLETION_TIMEOUT, R595: A host read issued by the module gets no completion within the Device Control 2 timeout and fails as R595 gives. -/
  | completionTimeout (who : HostReader)
  /-- PFC_PAUSE_EXPIRY, R424: The pause time of a received PFC frame runs out, and transmission of that priority resumes. -/
  | pfcPauseExpiry (port prio : Nat)
  /-- FENCE_RECORD_WRITE, R655: Tamrik finishes writing a STRIKE bit or fence-map change to flash within 100 ms of the event. -/
  | fenceRecordWrite
  /-- LIFETIME_TOTALS_WRITE, R528: Once an hour, Tamrik writes the lifetime corrected and uncorrectable error totals to flash. -/
  | lifetimeTotalsWrite
  /-- HEARTBEAT_ADVANCE, R622: Tamrik advances BOSUN_HEARTBEAT every 1 ms. -/
  | heartbeatAdvance
  /-- REGISTER_READ, R598: A host BAR0 read returns the register, latches a companion _HI register where the manual says so, and in Reef-2 or Reef-3 starts an exit for pages other than GLOBAL, REEF, KEEP and PCIE. `bar` is 0 or 4, `len` the number of bytes. -/
  | registerRead (bar addr len cycle : Nat)
  deriving DecidableEq, Repr

end Sys2Proof
end

