-- ==== Sys2Proof/Machine/Bits.lean ====
section
/-!
DEFINITION. Bit fields, little-endian bytes (00 R11, R12), saturating counts and small list helpers.
-/

namespace Sys2Proof.Machine

/-- Bits [lo+w-1:lo] of a number. -/
def bits (v lo w : Nat) : Nat := (v >>> lo) % 2 ^ w

/-- One bit of a number. -/
def bitAt (v i : Nat) : Bool := v.testBit i

/-- `n` bytes of `v`, least significant first. -/
def toLe (n v : Nat) : List Byte :=
  match n with
  | 0 => []
  | n + 1 => BitVec.ofNat 8 v :: toLe n (v / 256)

/-- The number that bytes spell, least significant first. -/
def ofLe (l : List Byte) : Nat :=
  match l with
  | [] => 0
  | b :: r => b.toNat + 256 * ofLe r

/-- The number that bytes spell, most significant first. -/
def ofBe (l : List Byte) : Nat := l.foldl (fun n b => n * 256 + b.toNat) 0

/-- `n` bytes of `v`, most significant first. -/
def toBe (n v : Nat) : List Byte := (toLe n v).reverse

/-- A little-endian field of `n` bytes at offset `o` of a byte list. -/
def leAt (l : List Byte) (o n : Nat) : Nat := ofLe ((l.drop o).take n)

/-- A saturating 32-bit increment by `n` (00, 02 R108). -/
def satAdd (v : W32) (n : Nat) : W32 := BitVec.ofNat 32 (min 0xFFFFFFFF (v.toNat + n))

/-- All the listed bytes are zero. -/
def allZero (l : List Byte) : Bool := l.all (· == 0)

/-- Number of set bits below position `w`. -/
def popcount (w v : Nat) : Nat := ((List.range w).filter (fun i => v.testBit i)).length

/-- Replaces element `i` of a list. -/
def setNth {α : Type} (l : List α) (i : Nat) (x : α) : List α := l.set i x

/-- Element `i`, or `d`. -/
def nth {α : Type} (l : List α) (i : Nat) (d : α) : α := l.getD i d

/-- Changes element `i` of a list, if present. -/
def modifyNth {α : Type} (l : List α) (i : Nat) (f : α → α) : List α := l.modify i f

/-- Splits a byte list into pieces of `n` bytes; `fuel` bounds the number of pieces. -/
def chunksOf (fuel n : Nat) (l : List Byte) : List (List Byte) :=
  match fuel with
  | 0 => []
  | f + 1 => if l.isEmpty then [] else l.take n :: chunksOf f n (l.drop n)

/-- Pads a byte list with zeros up to `n` bytes. -/
def padTo (n : Nat) (l : List Byte) : List Byte := l ++ List.replicate (n - l.length) 0

end Sys2Proof.Machine
end

