-- ==== Sys2Proof/Machine/Aes.lean ====
section
/-!
DEFINITION. The AES primitives of FIPS 197 that the crypto assists (04 R191) and the block's ciphers use.
-/

namespace Sys2Proof.Machine

/-- The AES S-box of FIPS 197, byte x of the number being the image of x. -/
def sboxBits : Nat :=
  0x16bb54b00f2d99416842e6bf0d89a18cdf2855cee9871e9b948ed9691198f8e19e1dc186b95735610ef6034866b53e708a8bbd4b1f74dde8c6b4a61c2e2578ba08ae7a65eaf4566ca94ed58d6d37c8e779e4959162acd3c25c2406490a3a32e0db0b5ede14b8ee4688902a22dc4f816073195d643d7ea7c41744975fec130ccdd2f3ff1021dab6bcf5389d928f40a351a89f3c507f02f94585334d43fbaaefd0cf584c4a39becb6a5bb1fc20ed00d153842fe329b3d63b52a05a6e1b1a2c830975b227ebe28012079a059618c323c7041531d871f1e5a534ccf73f362693fdb7c072a49cafa2d4adf04759fa7dc982ca76abd7fe2b670130c56f6bf27b777c63

/-- The inverse S-box of FIPS 197. -/
def invSboxBits : Nat :=
  0x7d0c2155631469e126d677ba7e042b17619953833cbbebc8b0f52aae4d3be0a0ef9cc9939f7ae52d0d4ab519a97f51605fec8027591012b131c7078833a8dd1ff45acd78fec0db9a2079d2c64b3e56fc1bbe18aa0e62b76f89c5291d711af1476edf751ce837f9e28535ade72274ac9673e6b4f0cecff297eadc674f4111913a6b8a130103bdafc1020f3fca8f1e2cd00645b3b80558e4f70ad3bc8c00abd890849d8da75746155edab9edfd5048706c92b6655dcc5ca4d41698688664f6f87225d18b6d49a25b76b224d92866a12e084ec3fa420b954cee3d23c2a632947b54cbe9dec444438e3487ff2f9b8239e37cfbd7f3819ea340bf38a53630d56a0952

/-- One byte through the S-box. -/
def sbox (x : Nat) : Nat := bits sboxBits (8 * x) 8

/-- One byte through the inverse S-box. -/
def invSbox (x : Nat) : Nat := bits invSboxBits (8 * x) 8

/-- Multiplication by 2 in the field of FIPS 197 (polynomial 0x11B). -/
def xtime (x : Nat) : Nat := if x < 128 then 2 * x else (2 * x % 256) ^^^ 0x1B

/-- Product in the field of FIPS 197 over `fuel` bits of y. -/
def aesMulAux (fuel x y : Nat) : Nat :=
  match fuel with
  | 0 => 0
  | f + 1 => (if y % 2 = 1 then x else 0) ^^^ aesMulAux f (xtime x) (y / 2)

/-- Product of a byte with a constant below 16. -/
def aesMul (x y : Nat) : Nat := aesMulAux 4 x y

/-- One column through MixColumns (coefficients 2, 3, 1, 1) or InvMixColumns (14, 11, 13, 9). -/
def mixColumn (inverse : Bool) (v : Nat) : Nat :=
  let co := if inverse then [14, 11, 13, 9] else [2, 3, 1, 1]
  (List.range 4).foldl (fun t r =>
    t + 2 ^ (8 * r) * (List.range 4).foldl (fun x j => x ^^^ aesMul (bits v (8 * j) 8) (nth co ((j + 4 - r) % 4) 0)) 0) 0

/-- Each byte of a 32-bit value through `f`. -/
def mapBytes (f : Nat → Nat) (v : Nat) : Nat :=
  (List.range 4).foldl (fun t j => t + 2 ^ (8 * j) * f (bits v (8 * j) 8)) 0

end Sys2Proof.Machine
end

