-- ==== Sys2Proof/Machine/Cipher.lean ====
section
/-!
DEFINITION. Block and stream ciphers the chapters name: AES-128 and AES-256 (FIPS 197), counter mode, GCM (NIST
SP 800-38D), key wrap with padding (RFC 5649), ChaCha20 (RFC 8439).
-/

namespace Sys2Proof.Machine

/-! ### AES -/

/-- A 4-byte column through the S-box. -/
def subCol (c : List Nat) : List Nat := c.map sbox

/-- Exclusive or of two byte lists. -/
def xorNats (a b : List Nat) : List Nat := (a.zip b).map fun e => e.1 ^^^ e.2

/-- The next column of the key schedule: `nk` words of key, columns newest first. -/
def keyCols (n nk i rcon : Nat) (cols : List (List Nat)) : List (List Nat) :=
  match n with
  | 0 => cols
  | n + 1 =>
    let t := nth cols 0 []
    let t' :=
      if i % nk = 0 then xorNats (subCol (t.drop 1 ++ t.take 1)) [rcon, 0, 0, 0]
      else if nk > 6 ∧ i % nk = 4 then subCol t else t
    keyCols n nk (i + 1) (if i % nk = 0 then xtime rcon else rcon) (xorNats (nth cols (nk - 1) []) t' :: cols)

/-- Pieces of 4 bytes. -/
def cols4 (fuel : Nat) (l : List Nat) : List (List Nat) :=
  match fuel with
  | 0 => []
  | f + 1 => if l.isEmpty then [] else l.take 4 :: cols4 f (l.drop 4)

/-- The round keys of AES-128 or AES-256, 16 bytes each. -/
def aesKeys (key : List Byte) : List (List Nat) :=
  let nk := key.length / 4
  let rounds := nk + 6
  let k0 := cols4 nk (key.map (·.toNat))
  let all := (keyCols (4 * (rounds + 1) - nk) nk nk 1 k0.reverse).reverse
  (List.range (rounds + 1)).map fun r => ((all.drop (4 * r)).take 4).flatten

/-- ShiftRows on 16 bytes in column order; `inv` shifts back. -/
def shiftRows (inv : Bool) (s : List Nat) : List Nat :=
  (List.range 16).map fun i =>
    let c := i / 4
    let r := i % 4
    nth s (4 * ((c + (if inv then 4 - r else r)) % 4) + r) 0

/-- MixColumns on 16 bytes in column order. -/
def mixCols (inv : Bool) (s : List Nat) : List Nat :=
  (cols4 4 s).flatMap fun c =>
    let v := mixColumn inv (nth c 0 0 + 256 * nth c 1 0 + 65536 * nth c 2 0 + 16777216 * nth c 3 0)
    [bits v 0 8, bits v 8 8, bits v 16 8, bits v 24 8]

/-- AES encryption of one block under expanded keys. -/
def aesEncRounds (keys : List (List Nat)) (s : List Nat) : List Nat :=
  match keys with
  | [] => s
  | [k] => xorNats (shiftRows false (s.map sbox)) k
  | k :: r => aesEncRounds r (xorNats (mixCols false (shiftRows false (s.map sbox))) k)

/-- AES encryption of a 16-byte block (FIPS 197). -/
def aesEnc (keys : List (List Nat)) (b : List Byte) : List Byte :=
  match keys with
  | [] => b
  | k :: r => (aesEncRounds r (xorNats (b.map (·.toNat)) k)).map (BitVec.ofNat 8)

/-- AES decryption of one block, round keys last first. -/
def aesDecRounds (keys : List (List Nat)) (s : List Nat) : List Nat :=
  match keys with
  | [] => s
  | [k] => xorNats ((shiftRows true s).map invSbox) k
  | k :: r => aesDecRounds r (mixCols true (xorNats ((shiftRows true s).map invSbox) k))

/-- AES decryption of a 16-byte block. -/
def aesDec (keys : List (List Nat)) (b : List Byte) : List Byte :=
  match keys.reverse with
  | [] => b
  | k :: r => (aesDecRounds r (xorNats (b.map (·.toNat)) k)).map (BitVec.ofNat 8)

/-- Exclusive or of bytes, over the shorter list. -/
def xorBytes (a b : List Byte) : List Byte := (a.zip b).map fun e => e.1 ^^^ e.2

/-! ### GCM (NIST SP 800-38D) -/

/-- One step of the product in GF(2^128): Z, V and the bits of X from the most significant. -/
def ghashMul (fuel x v z : Nat) : Nat :=
  match fuel with
  | 0 => z
  | f + 1 =>
    let z' := if x.testBit f then z ^^^ v else z
    ghashMul f x (if v % 2 = 1 then (v / 2) ^^^ (0xE1 * 2 ^ 120) else v / 2) z'

/-- GHASH of a byte string already padded to blocks. -/
def ghash (h : Nat) (l : List Byte) : Nat :=
  (chunksOf (l.length / 16 + 1) 16 l).foldl (fun y b => ghashMul 128 (y ^^^ ofBe b) h 0) 0

/-- Pads to a multiple of 16 bytes. -/
def pad16 (l : List Byte) : List Byte := l ++ List.replicate ((16 - l.length % 16) % 16) 0

/-- `n` bytes of the GCM key stream from counter block `c`. -/
def gctr (keys : List (List Nat)) (fuel : Nat) (c : Nat) : List Byte :=
  match fuel with
  | 0 => []
  | f + 1 => aesEnc keys (toBe 16 c) ++ gctr keys f (c / 2 ^ 32 * 2 ^ 32 + (c + 1) % 2 ^ 32)

/-- The tag of GCM. -/
def gcmTag (keys : List (List Nat)) (j0 : Nat) (aad ct : List Byte) : List Byte :=
  let h := ofBe (aesEnc keys (List.replicate 16 0))
  let s := ghash h (pad16 aad ++ pad16 ct ++ toBe 8 (8 * aad.length) ++ toBe 8 (8 * ct.length))
  xorBytes (toBe 16 s) (aesEnc keys (toBe 16 j0))

/-- AES-GCM encryption with a 12-byte nonce: ciphertext, then the 16-byte tag. -/
def gcmSeal (key nonce aad pt : List Byte) : List Byte :=
  let keys := aesKeys key
  let j0 := ofBe nonce * 2 ^ 32 + 1
  let ct := xorBytes pt (gctr keys ((pt.length + 15) / 16) (j0 + 1))
  ct ++ gcmTag keys j0 aad ct

/-- AES-GCM decryption: none where the tag does not verify. -/
def gcmOpen (key nonce aad ct : List Byte) : Option (List Byte) :=
  if ct.length < 16 then none
  else
    let keys := aesKeys key
    let j0 := ofBe nonce * 2 ^ 32 + 1
    let body := ct.take (ct.length - 16)
    if gcmTag keys j0 aad body = ct.drop (ct.length - 16) then
      some (xorBytes body (gctr keys ((body.length + 15) / 16) (j0 + 1)))
    else none

/-! ### ChaCha20 (RFC 8439) -/

/-- Rotation left of 32 bits. -/
def rotWord (x n : Nat) : Nat := ((x <<< n) % 2 ^ 32) ||| (x >>> (32 - n))

/-- A quarter round on words a, b, c, d of the state. -/
def quarter (s : List Nat) (ia ib ic id : Nat) : List Nat :=
  let a := (nth s ia 0 + nth s ib 0) % 2 ^ 32
  let d := rotWord (nth s id 0 ^^^ a) 16
  let c := (nth s ic 0 + d) % 2 ^ 32
  let b := rotWord (nth s ib 0 ^^^ c) 12
  let a' := (a + b) % 2 ^ 32
  let d' := rotWord (d ^^^ a') 8
  let c' := (c + d') % 2 ^ 32
  let b' := rotWord (b ^^^ c') 7
  ((((s.set ia a').set ib b').set ic c').set id d')

/-- A double round. -/
def doubleRound (s : List Nat) : List Nat :=
  let s1 := quarter (quarter (quarter (quarter s 0 4 8 12) 1 5 9 13) 2 6 10 14) 3 7 11 15
  quarter (quarter (quarter (quarter s1 0 5 10 15) 1 6 11 12) 2 7 8 13) 3 4 9 14

/-- The 64-byte block of key, 32-bit block counter and 12-byte nonce. -/
def chachaBlock (key : List Byte) (counter : Nat) (nonce : List Byte) : List Byte :=
  let init := [0x61707865, 0x3320646E, 0x79622D32, 0x6B206574] ++ (chunksOf 8 4 key).map ofLe ++
    [counter % 2 ^ 32] ++ (chunksOf 3 4 nonce).map ofLe
  let fin := (List.range 10).foldl (fun s _ => doubleRound s) init
  (init.zip fin).flatMap fun e => toLe 4 ((e.1 + e.2) % 2 ^ 32)

end Sys2Proof.Machine
end

