-- ==== Sys2Proof/Machine/Hash.lean ====
section
/-!
DEFINITION. The hashes and their constructions that the chapters name: SHA-256 and SHA-512 (FIPS 180-4), HMAC
(RFC 2104), HKDF (RFC 5869).
-/

namespace Sys2Proof.Machine

/-- Round constants of SHA-256. -/
def sha256K : List Nat :=
  [0x428A2F98, 0x71374491, 0xB5C0FBCF, 0xE9B5DBA5, 0x3956C25B, 0x59F111F1, 0x923F82A4, 0xAB1C5ED5,
   0xD807AA98, 0x12835B01, 0x243185BE, 0x550C7DC3, 0x72BE5D74, 0x80DEB1FE, 0x9BDC06A7, 0xC19BF174] ++
  [0xE49B69C1, 0xEFBE4786, 0xFC19DC6, 0x240CA1CC, 0x2DE92C6F, 0x4A7484AA, 0x5CB0A9DC, 0x76F988DA,
   0x983E5152, 0xA831C66D, 0xB00327C8, 0xBF597FC7, 0xC6E00BF3, 0xD5A79147, 0x6CA6351, 0x14292967] ++
  [0x27B70A85, 0x2E1B2138, 0x4D2C6DFC, 0x53380D13, 0x650A7354, 0x766A0ABB, 0x81C2C92E, 0x92722C85,
   0xA2BFE8A1, 0xA81A664B, 0xC24B8B70, 0xC76C51A3, 0xD192E819, 0xD6990624, 0xF40E3585, 0x106AA070] ++
  [0x19A4C116, 0x1E376C08, 0x2748774C, 0x34B0BCB5, 0x391C0CB3, 0x4ED8AA4A, 0x5B9CCA4F, 0x682E6FF3,
   0x748F82EE, 0x78A5636F, 0x84C87814, 0x8CC70208, 0x90BEFFFA, 0xA4506CEB, 0xBEF9A3F7, 0xC67178F2]

/-- Initial value of SHA-256. -/
def sha256H : List Nat :=
  [0x6A09E667, 0xBB67AE85, 0x3C6EF372, 0xA54FF53A, 0x510E527F, 0x9B05688C, 0x1F83D9AB, 0x5BE0CD19]

/-- Round constants of SHA-512. -/
def sha512K : List Nat :=
  [0x428A2F98D728AE22, 0x7137449123EF65CD, 0xB5C0FBCFEC4D3B2F, 0xE9B5DBA58189DBBC,
   0x3956C25BF348B538, 0x59F111F1B605D019, 0x923F82A4AF194F9B, 0xAB1C5ED5DA6D8118,
   0xD807AA98A3030242, 0x12835B0145706FBE, 0x243185BE4EE4B28C, 0x550C7DC3D5FFB4E2,
   0x72BE5D74F27B896F, 0x80DEB1FE3B1696B1, 0x9BDC06A725C71235, 0xC19BF174CF692694] ++
  [0xE49B69C19EF14AD2, 0xEFBE4786384F25E3, 0xFC19DC68B8CD5B5, 0x240CA1CC77AC9C65,
   0x2DE92C6F592B0275, 0x4A7484AA6EA6E483, 0x5CB0A9DCBD41FBD4, 0x76F988DA831153B5,
   0x983E5152EE66DFAB, 0xA831C66D2DB43210, 0xB00327C898FB213F, 0xBF597FC7BEEF0EE4,
   0xC6E00BF33DA88FC2, 0xD5A79147930AA725, 0x6CA6351E003826F, 0x142929670A0E6E70] ++
  [0x27B70A8546D22FFC, 0x2E1B21385C26C926, 0x4D2C6DFC5AC42AED, 0x53380D139D95B3DF,
   0x650A73548BAF63DE, 0x766A0ABB3C77B2A8, 0x81C2C92E47EDAEE6, 0x92722C851482353B,
   0xA2BFE8A14CF10364, 0xA81A664BBC423001, 0xC24B8B70D0F89791, 0xC76C51A30654BE30,
   0xD192E819D6EF5218, 0xD69906245565A910, 0xF40E35855771202A, 0x106AA07032BBD1B8] ++
  [0x19A4C116B8D2D0C8, 0x1E376C085141AB53, 0x2748774CDF8EEB99, 0x34B0BCB5E19B48A8,
   0x391C0CB3C5C95A63, 0x4ED8AA4AE3418ACB, 0x5B9CCA4F7763E373, 0x682E6FF3D6B2B8A3,
   0x748F82EE5DEFB2FC, 0x78A5636F43172F60, 0x84C87814A1F0AB72, 0x8CC702081A6439EC,
   0x90BEFFFA23631E28, 0xA4506CEBDE82BDE9, 0xBEF9A3F7B2C67915, 0xC67178F2E372532B] ++
  [0xCA273ECEEA26619C, 0xD186B8C721C0C207, 0xEADA7DD6CDE0EB1E, 0xF57D4F7FEE6ED178,
   0x6F067AA72176FBA, 0xA637DC5A2C898A6, 0x113F9804BEF90DAE, 0x1B710B35131C471B,
   0x28DB77F523047D84, 0x32CAAB7B40C72493, 0x3C9EBE0A15C9BEBC, 0x431D67C49C100D4C,
   0x4CC5D4BECB3E42B6, 0x597F299CFC657E2A, 0x5FCB6FAB3AD6FAEC, 0x6C44198C4A475817]

/-- Initial value of SHA-512. -/
def sha512H : List Nat :=
  [0x6A09E667F3BCC908, 0xBB67AE8584CAA73B, 0x3C6EF372FE94F82B, 0xA54FF53A5F1D36F1,
   0x510E527FADE682D1, 0x9B05688C2B3E6C1F, 0x1F83D9ABFB41BD6B, 0x5BE0CD19137E2179]

/-- A SHA-2 hash: word width, block bytes, rounds, constants and rotation amounts. -/
structure ShaSpec where
  w : Nat
  k : List Nat
  h0 : List Nat
  big0 : List Nat
  big1 : List Nat
  small0 : List Nat
  small1 : List Nat
  deriving DecidableEq, Repr

def sha256Spec : ShaSpec := ⟨32, sha256K, sha256H, [2, 13, 22], [6, 11, 25], [7, 18, 3], [17, 19, 10]⟩
def sha512Spec : ShaSpec := ⟨64, sha512K, sha512H, [28, 34, 39], [14, 18, 41], [1, 8, 7], [19, 61, 6]⟩

/-- Rotation right by n within w bits. -/
def rotr (w x n : Nat) : Nat := (x >>> n) ||| ((x <<< (w - n)) % 2 ^ w)

/-- A capital sigma: three rotations. -/
def ShaSpec.bigSigma (p : ShaSpec) (r : List Nat) (x : Nat) : Nat :=
  rotr p.w x (nth r 0 0) ^^^ rotr p.w x (nth r 1 0) ^^^ rotr p.w x (nth r 2 0)

/-- A small sigma: two rotations and a shift. -/
def ShaSpec.smallSigma (p : ShaSpec) (r : List Nat) (x : Nat) : Nat :=
  rotr p.w x (nth r 0 0) ^^^ rotr p.w x (nth r 1 0) ^^^ (x >>> nth r 2 0)

/-- The message schedule, newest word first. -/
def ShaSpec.schedule (p : ShaSpec) (n : Nat) (l : List Nat) : List Nat :=
  match n with
  | 0 => l
  | n + 1 =>
    let x := (p.smallSigma p.small1 (nth l 1 0) + nth l 6 0 + p.smallSigma p.small0 (nth l 14 0) + nth l 15 0) % 2 ^ p.w
    p.schedule n (x :: l)

/-- One round on the working variables a to h. -/
def ShaSpec.round (p : ShaSpec) (v : List Nat) (k x : Nat) : List Nat :=
  match v with
  | [a, b, c, d, e, f, g, h] =>
    let t1 := h + p.bigSigma p.big1 e + ((e &&& f) ^^^ ((2 ^ p.w - 1 - e) &&& g)) + k + x
    let t2 := p.bigSigma p.big0 a + ((a &&& b) ^^^ (a &&& c) ^^^ (b &&& c))
    [(t1 + t2) % 2 ^ p.w, a, b, c, (d + t1) % 2 ^ p.w, e, f, g]
  | _ => v

/-- One block, as 16 words in order. -/
def ShaSpec.block (p : ShaSpec) (h words : List Nat) : List Nat :=
  let sch := (p.schedule (p.k.length - 16) words.reverse).reverse
  let v := (p.k.zip sch).foldl (fun v e => p.round v e.1 e.2) h
  (h.zip v).map fun e => (e.1 + e.2) % 2 ^ p.w

/-- The padding of a message of `n` bytes. -/
def ShaSpec.padding (p : ShaSpec) (n : Nat) : List Byte :=
  let bl := 2 * p.w
  let lf := p.w / 4
  let z := (2 * bl - (n + 1 + lf) % bl) % bl
  (0x80 : Byte) :: List.replicate z 0 ++ toBe lf (8 * n)

/-- The hash of a message, most significant byte first. -/
def ShaSpec.hash (p : ShaSpec) (l : List Byte) : List Byte :=
  let m := l ++ p.padding l.length
  let bs := chunksOf (m.length / (2 * p.w)) (2 * p.w) m
  (bs.foldl (fun h b => p.block h ((chunksOf 16 (p.w / 8) b).map ofBe)) p.h0).flatMap (toBe (p.w / 8))

/-- SHA-256. -/
def sha256 (l : List Byte) : List Byte := sha256Spec.hash l

/-- SHA-512. -/
def sha512 (l : List Byte) : List Byte := sha512Spec.hash l

/-- HMAC-SHA256 (RFC 2104). -/
def hmac (key msg : List Byte) : List Byte :=
  let k := padTo 64 (if key.length > 64 then sha256 key else key)
  sha256 (k.map (· ^^^ 0x5C) ++ sha256 (k.map (· ^^^ 0x36) ++ msg))

/-- HKDF-Extract (RFC 5869). -/
def hkdfExtract (salt ikm : List Byte) : List Byte :=
  hmac (if salt.isEmpty then List.replicate 32 0 else salt) ikm

/-- The blocks T(i) of HKDF-Expand. -/
def hkdfBlocks (fuel i : Nat) (prk info prev : List Byte) : List Byte :=
  match fuel with
  | 0 => []
  | f + 1 =>
    let t := hmac prk (prev ++ info ++ [BitVec.ofNat 8 i])
    t ++ hkdfBlocks f (i + 1) prk info t

/-- HKDF-Expand (RFC 5869). -/
def hkdfExpand (prk info : List Byte) (n : Nat) : List Byte := (hkdfBlocks ((n + 31) / 32) 1 prk info []).take n

/-- HKDF (RFC 5869). -/
def hkdf (salt ikm info : List Byte) (n : Nat) : List Byte := hkdfExpand (hkdfExtract salt ikm) info n

end Sys2Proof.Machine
end

