-- ==== Sys2Proof/Machine/Curve.lean ====
section
/-!
DEFINITION. Curve25519 (RFC 7748), Ed25519 (RFC 8032) and HPKE in base mode with the suite of 07 R288 (RFC
9180).
-/

namespace Sys2Proof.Machine

/-- The field prime 2^255 − 19. -/
def p25519 : Nat := 2 ^ 255 - 19

/-- x^e mod m, over `fuel` bits of e. -/
def powP (fuel x e m : Nat) : Nat :=
  match fuel with
  | 0 => 1 % m
  | f + 1 =>
    let h := powP f (x * x % m) (e / 2) m
    if e % 2 = 1 then h * x % m else h

/-- The inverse in the field of 2^255 − 19. -/
def inv25519 (x : Nat) : Nat := powP 255 x (p25519 - 2) p25519

def addP (a b : Nat) : Nat := (a + b) % p25519
def subP (a b : Nat) : Nat := (a + p25519 - b % p25519) % p25519
def mulP (a b : Nat) : Nat := a * b % p25519

/-! ### X25519 -/

/-- The Montgomery ladder of RFC 7748 over bits n − 1 to 0 of k: x2, z2, x3, z3. -/
def ladder (n k u x2 z2 x3 z3 : Nat) : Nat × Nat :=
  match n with
  | 0 => (x2, z2)
  | n + 1 =>
    let b := k.testBit n
    let x2' := if b then x3 else x2
    let z2' := if b then z3 else z2
    let x3' := if b then x2 else x3
    let z3' := if b then z2 else z3
    let a := addP x2' z2'
    let aa := mulP a a
    let c := subP x2' z2'
    let bb := mulP c c
    let e := subP aa bb
    let da := mulP (subP x3' z3') a
    let cb := mulP (addP x3' z3') c
    let s := addP da cb
    let d := subP da cb
    let nx2 := mulP aa bb
    let nz2 := mulP e (addP aa (mulP 121665 e))
    let nx3 := mulP s s
    let nz3 := mulP u (mulP d d)
    if b then ladder n k u nx3 nz3 nx2 nz2 else ladder n k u nx2 nz2 nx3 nz3

/-- The scalar of 32 bytes, clamped. -/
def clampScalar (l : List Byte) : Nat :=
  let v := ofLe l
  (v / 8 * 8) % 2 ^ 254 + 2 ^ 254

/-- X25519 (RFC 7748). -/
def x25519 (scalar point : List Byte) : List Byte :=
  let u := ofLe point % 2 ^ 255
  let r := ladder 255 (clampScalar scalar) u 1 0 u 1
  toLe 32 (mulP r.1 (inv25519 r.2))

/-- The base point of X25519. -/
def x25519Base : List Byte := toLe 32 9

/-! ### Ed25519 -/

/-- Order of the base point. -/
def ed25519L : Nat := 2 ^ 252 + 27742317777372353535851937790883648493

/-- The curve constant −121665/121666. -/
def ed25519D : Nat := mulP (p25519 - 121665) (inv25519 121666)

/-- A point in extended coordinates. -/
structure EdPoint where
  x : Nat
  y : Nat
  z : Nat
  t : Nat
  deriving DecidableEq, Repr

/-- The neutral element. -/
def EdPoint.zero : EdPoint := ⟨0, 1, 1, 0⟩

/-- Addition of points (RFC 8032, 5.1.4). -/
def EdPoint.add (p q : EdPoint) : EdPoint :=
  let a := mulP (subP p.y p.x) (subP q.y q.x)
  let b := mulP (addP p.y p.x) (addP q.y q.x)
  let c := mulP (mulP p.t 2) (mulP ed25519D q.t)
  let d := mulP (mulP p.z 2) q.z
  let e := subP b a
  let f := subP d c
  let g := addP d c
  let h := addP b a
  ⟨mulP e f, mulP g h, mulP f g, mulP e h⟩

/-- k times a point, over `fuel` bits of k. -/
def EdPoint.mul (fuel k : Nat) (p : EdPoint) : EdPoint :=
  match fuel with
  | 0 => .zero
  | f + 1 =>
    let h := EdPoint.mul f (k / 2) (p.add p)
    if k % 2 = 1 then h.add p else h

/-- The x coordinate for y with the given sign, if the point is on the curve. -/
def edRecoverX (y : Nat) (sign : Bool) : Option Nat :=
  if y ≥ p25519 then none
  else
    let yy := mulP y y
    let x2 := mulP (subP yy 1) (inv25519 (addP (mulP ed25519D yy) 1))
    if x2 = 0 then (if sign then none else some 0)
    else
      let r := powP 255 x2 ((p25519 + 3) / 8) p25519
      let r1 := if mulP r r = x2 then r else mulP r (powP 255 2 ((p25519 - 1) / 4) p25519)
      if mulP r1 r1 ≠ x2 then none
      else some (if decide (r1 % 2 = 1) = sign then r1 else p25519 - r1)

/-- Decodes a 32-byte point. -/
def edDecode (l : List Byte) : Option EdPoint :=
  let v := ofLe l
  let y := v % 2 ^ 255
  (edRecoverX y (v.testBit 255)).map fun x => ⟨x, y, 1, mulP x y⟩

/-- Encodes a point. -/
def EdPoint.encode (p : EdPoint) : List Byte :=
  let zi := inv25519 p.z
  let x := mulP p.x zi
  toLe 32 (mulP p.y zi + (x % 2) * 2 ^ 255)

/-- The base point. -/
def edBase : EdPoint :=
  match edDecode (toLe 32 (mulP 4 (inv25519 5))) with
  | some p => p
  | none => .zero

/-- The public key of a 32-byte private seed. -/
def ed25519Pub (seed : List Byte) : List Byte :=
  let h := sha512 seed
  (EdPoint.mul 255 (clampScalar (h.take 32)) edBase).encode

/-- An Ed25519 signature (RFC 8032). -/
def ed25519Sign (seed msg : List Byte) : List Byte :=
  let h := sha512 seed
  let a := clampScalar (h.take 32)
  let pub := (EdPoint.mul 255 a edBase).encode
  let r := ofLe (sha512 (h.drop 32 ++ msg)) % ed25519L
  let rb := (EdPoint.mul 255 r edBase).encode
  let k := ofLe (sha512 (rb ++ pub ++ msg)) % ed25519L
  rb ++ toLe 32 ((r + k * a) % ed25519L)

/-- Verification of an Ed25519 signature over `msg` with the domain prefix `dom` (RFC 8032): S below the group
order and 8 S B = 8 R + 8 k A. -/
def edVerify (dom pub msg sig : List Byte) : Bool :=
  match edDecode pub, edDecode (sig.take 32) with
  | some a, some r =>
    let s := ofLe ((sig.drop 32).take 32)
    if sig.length ≠ 64 ∨ s ≥ ed25519L then false
    else
      let k := ofLe (sha512 (dom ++ sig.take 32 ++ pub ++ msg)) % ed25519L
      let lhs := (EdPoint.mul 258 (8 * s) edBase)
      let rhs := (EdPoint.mul 258 (8 * k) a).add (EdPoint.mul 4 8 r)
      decide (mulP lhs.x rhs.z = mulP rhs.x lhs.z) && decide (mulP lhs.y rhs.z = mulP rhs.y lhs.z)
  | _, _ => false

/-- Plain Ed25519. -/
def ed25519Verify (pub msg sig : List Byte) : Bool := edVerify [] pub msg sig

/-- The bytes of an ASCII string. -/
def ascii (s : String) : List Byte := s.toList.map fun c => BitVec.ofNat 8 c.toNat

/-- Ed25519ph with a context: SHA-512 of the message under the prefix dom2(1, context). -/
def ed25519phVerify (pub : List Byte) (ctx : String) (msg sig : List Byte) : Bool :=
  edVerify (ascii "SigEd25519 no Ed25519 collisions" ++ [1, BitVec.ofNat 8 ctx.length] ++ ascii ctx) pub (sha512 msg) sig

/-! ### HPKE (RFC 9180), base mode, KEM 0x0020, KDF 0x0001, AEAD 0x0001 -/

/-- LabeledExtract. -/
def labeledExtract (suite salt : List Byte) (label : String) (ikm : List Byte) : List Byte :=
  hkdfExtract salt (ascii "HPKE-v1" ++ suite ++ ascii label ++ ikm)

/-- LabeledExpand. -/
def labeledExpand (suite prk : List Byte) (label : String) (info : List Byte) (n : Nat) : List Byte :=
  hkdfExpand prk (toBe 2 n ++ ascii "HPKE-v1" ++ suite ++ ascii label ++ info) n

/-- suite_id of the KEM and of the whole suite with AEAD `aead` (0x0001 AES-128-GCM, 0x0002 AES-256-GCM). -/
def kemSuite : List Byte := ascii "KEM" ++ toBe 2 0x20
def hpkeSuite (aead : Nat) : List Byte := ascii "HPKE" ++ toBe 2 0x20 ++ toBe 2 1 ++ toBe 2 aead

/-- The KEM's shared secret from the DH value. -/
def kemSecret (dh enc pkr : List Byte) : List Byte :=
  let prk := labeledExtract kemSuite [] "eae_prk" dh
  labeledExpand kemSuite prk "shared_secret" (enc ++ pkr) 32

/-- The AEAD key and base nonce of the key schedule in base mode. -/
def hpkeKeys (aead keyLen : Nat) (secret info : List Byte) : List Byte × List Byte :=
  let su := hpkeSuite aead
  let ctx := (0 : Byte) :: labeledExtract su [] "psk_id_hash" [] ++ labeledExtract su [] "info_hash" info
  let sec := labeledExtract su secret "secret" []
  (labeledExpand su sec "key" ctx keyLen, labeledExpand su sec "base_nonce" ctx 12)

/-- Single-shot HPKE open with AES-128-GCM: none where it fails. An all-zero DH value fails (RFC 9180, 7.1.4). -/
def hpkeOpen (skr pkr enc info aad ct : List Byte) : Option (List Byte) :=
  let dh := x25519 skr enc
  if allZero dh then none
  else
    let k := hpkeKeys 1 16 (kemSecret dh enc pkr) info
    gcmOpen k.1 k.2 aad ct

/-- Single-shot HPKE seal with an ephemeral private key: the encapsulated key and the ciphertext. -/
def hpkeSeal (eph pkr info aad pt : List Byte) : List Byte × List Byte :=
  let enc := x25519 eph x25519Base
  let k := hpkeKeys 1 16 (kemSecret (x25519 eph pkr) enc pkr) info
  (enc, gcmSeal k.1 k.2 aad pt)

end Sys2Proof.Machine
end

