-- ==== Sys2Proof/Machine/Ecc.lean ====
section
/-!
DEFINITION. The Reed–Solomon code of every word (13 R512 to R514), over GF(2^8) with the primitive
polynomial x^8 + x^4 + x^3 + x^2 + 1.
-/

namespace Sys2Proof.Machine

/-- Multiplication by α = 0x02 (R512). -/
def gfDouble (x : Nat) : Nat := if x < 128 then 2 * x else (2 * x % 256) ^^^ 0x1D

/-- Product in GF(2^8), over the bits of `y` from `fuel` bits up. -/
def gfMulAux (fuel x y : Nat) : Nat :=
  match fuel with
  | 0 => 0
  | f + 1 => (if y % 2 = 1 then x else 0) ^^^ gfMulAux f (gfDouble x) (y / 2)

/-- Product in GF(2^8). -/
def gfMul (x y : Nat) : Nat := gfMulAux 8 x y

/-- α^k. -/
def gfPow (k : Nat) : Nat :=
  match k with
  | 0 => 1
  | k + 1 => gfDouble (gfPow k)

/-- Syndrome S_k of an error whose check symbols are `d` and whose data symbols are zero: c(α^k) (R513). -/
def syndromeOf (d : W32) (k : Nat) : Nat :=
  let p := fun i => bits d.toNat (8 * i) 8
  p 0 ^^^ gfMul (p 1) (gfPow k) ^^^ gfMul (p 2) (gfPow (2 * k)) ^^^ gfMul (p 3) (gfPow (3 * k))

/-- The four syndromes packed as ERR_CAPT2 shows them (R534). -/
def syndromes (d : W32) : W32 :=
  BitVec.ofNat 32 (syndromeOf d 0 + 256 * syndromeOf d 1 + 65536 * syndromeOf d 2 + 16777216 * syndromeOf d 3)

/-- The poison pattern: p_2 and p_3 each XORed with 0x01 (R514). -/
def poisonDelta : W32 := 0x01010000

/-- What a decoder makes of a word (R513, R514). -/
inductive Decoded where
  | clean
  /-- An error in symbol `pos` of c(x), coefficient of x^pos, of value `mag`. -/
  | corrected (pos mag : Nat)
  | poison
  | uncorrectable
  deriving DecidableEq, Repr

/-- The symbol position that explains the syndromes, if one does. -/
def errorAt (d : W32) (js : List Nat) : Option Nat :=
  js.find? fun j =>
    let s0 := syndromeOf d 0
    decide (s0 ≠ 0) && decide (syndromeOf d 1 = gfMul s0 (gfPow j)) &&
      decide (syndromeOf d 2 = gfMul s0 (gfPow (2 * j))) && decide (syndromeOf d 3 = gfMul s0 (gfPow (3 * j)))

/-- Decodes a word from the difference of its stored check symbols to the valid ones. -/
def decodeDelta (d : W32) : Decoded :=
  if d = 0 then .clean
  else if d = poisonDelta then .poison
  else
    match errorAt d (List.range 36) with
    | some j => .corrected j (syndromeOf d 0)
    | none => .uncorrectable

/-- Elementary symmetric functions e_1 to e_4 of the roots α^0 to α^3: x^4 = e_1 x^3 + e_2 x^2 + e_3 x + e_4
modulo the generator of the code (R512). -/
def gen1 : Nat := 1 ^^^ 2 ^^^ 4 ^^^ 8
def gen2 : Nat := 2 ^^^ 4 ^^^ 8 ^^^ gfMul 2 4 ^^^ gfMul 2 8 ^^^ gfMul 4 8
def gen3 : Nat := gfMul 2 4 ^^^ gfMul 2 8 ^^^ gfMul 4 8 ^^^ gfMul (gfMul 2 4) 8
def gen4 : Nat := gfMul (gfMul 2 4) 8

/-- One multiplication of a remainder by x, its top symbol taken with the next data symbol. -/
def checkShift (c : W32) : W32 :=
  let p := fun i => bits c.toNat (8 * i) 8
  let top := p 3
  BitVec.ofNat 32 (gfMul top gen4 + 256 * (p 0 ^^^ gfMul top gen3) + 65536 * (p 1 ^^^ gfMul top gen2) +
    16777216 * (p 2 ^^^ gfMul top gen1))

/-- Check symbols of data given as bytes d_0 first: Horner over x, from d_31 down (R512). -/
def checkOf (l : List Byte) : W32 :=
  l.foldr (fun b c => checkShift (c ^^^ BitVec.ofNat 32 (b.toNat * 16777216))) 0

end Sys2Proof.Machine
end

