-- ==== Sys2Proof/Config.lean ====
section
/-!
DEFINITION. What an implementation fixes and what the manual leaves open. Each constant is opaque: no
proof can see its value, so a statement holds whatever it is.
-/

namespace Sys2Proof.Config

/-- A fresh value that the manual does not fix (log entry 1); the state's counter is the argument. -/
opaque freeValue : Nat → Nat

/-- USAGE and LC_BIND that KEEP_SLOT_ATTR shows of an internal key slot, which the manual does not give (14 R546, R566). -/
opaque slotAttr : Nat → Nat

/-- IEEE 802.3 defines Low Power Idle at a lane rate, by its ETH_CFG code (11 R427): the manual does not say for which
(log entry 1). -/
opaque lpiDefined : Nat → Bool

/-- Bytes 0 to 1,983 of the FRU store, which Welloth writes at manufacture (20 R717). -/
opaque fru : Nat → Byte

/-- Bytes 1,984 to 2,047 of the FRU store for a TRIP_COUNT and a TRIP_LAST: the manual does not lay the trip log out (20 R717, R719). -/
opaque tripLog : Nat → Nat → Nat → Byte

end Sys2Proof.Config
end

