-- ==== Sys2Proof/Machine/RegMap.lean ====
section
/-!
DEFINITION. The register map of BAR0: the page map (16 R613), the common page header (R609, R610) and
the block registers of every page, each with its fields, access codes (00 R14) and reset values.
-/

namespace Sys2Proof.Machine

/-- Access codes (00 R14). -/
inductive Acc where
  | ro | rw | w1c | w1s | wo | rwl | ros
  deriving DecidableEq, Repr

/-- A field of a register: lowest bit, width, access code, reset value. -/
structure RField where
  lo : Nat
  width : Nat
  acc : Acc
  reset : Nat := 0
  deriving DecidableEq, Repr

/-- A register, or `count` registers `stride` bytes apart. `claim0`: returns to 0 at claim. `latches`: a
read latches the register after it (16 R598). `companion`: reads give the latched value. -/
structure RDesc where
  off : Nat
  fields : List RField
  claim0 : Bool := false
  latches : Bool := false
  companion : Bool := false
  count : Nat := 1
  stride : Nat := 4
  deriving DecidableEq, Repr

end Sys2Proof.Machine

namespace Sys2Proof

/-- Base address of a page type in BAR0 (R613). -/
def Page.base : Page → Nat
  | .global => 0x0 | .keep => 0x1000 | .bosun => 0x2000 | .reef => 0x3000 | .stroke => 0x4000
  | .telltale => 0x5000 | .hail => 0x6000 | .muster => 0x7000 | .keystone => 0x8000 | .pcie => 0x9000
  | .eth => 0x10000 | .halyard => 0x20000 | .spill => 0x40000 | .pier => 0x100000 | .course => 0x200000
  | .vault => 0x300000 | .hbmc => 0x400000 | .mortar => 0x410000 | .ashlar => 0x1000000

/-- How many pages of the type there are (R613). -/
def Page.count : Page → Nat
  | .eth => 8 | .spill => 16 | .pier => 6 | .course => 96 | .vault => 96 | .hbmc => 12 | .mortar => 12
  | .ashlar => 4800 | _ => 1

/-- BLOCK_TYPE (R613). -/
def Page.blockType : Page → Nat
  | .global => 1 | .keep => 2 | .bosun => 3 | .reef => 4 | .stroke => 5 | .telltale => 6 | .hail => 7
  | .muster => 8 | .keystone => 9 | .pcie => 10 | .eth => 0x10 | .halyard => 0x11 | .spill => 0x12
  | .pier => 0x20 | .course => 0x21 | .vault => 0x22 | .hbmc => 0x23 | .mortar => 0x24 | .ashlar => 0x25

/-- The page types in page-map order. -/
def Page.all : List Page :=
  [.global, .keep, .bosun, .reef, .stroke, .telltale, .hail, .muster, .keystone, .pcie, .eth, .halyard,
   .spill, .pier, .course, .vault, .hbmc, .mortar, .ashlar]

/-- Event bits the page implements (each chapter's event table). -/
def Page.evtBits : Page → Nat
  | .global => 6 | .keep => 5 | .bosun => 2 | .reef => 3 | .stroke => 9 | .telltale => 5 | .hail => 6
  | .muster => 7 | .keystone => 6 | .pcie => 5 | .eth => 6 | .halyard => 6 | .spill => 7 | .pier => 3
  | .course => 2 | .vault => 5 | .hbmc => 7 | .mortar => 5 | .ashlar => 6

/-- MSI-X vector of the page (R605). -/
def Page.vector (p : Page) (inst : Nat) : Nat :=
  match p with
  | .global => 0 | .keep => 1 | .bosun => 2 | .reef => 3 | .stroke => 4 | .telltale => 5 | .hail => 6
  | .muster => 7 | .keystone => 8 | .pcie => 9 | .eth => 10 + inst | .halyard => 18 | .spill => 19 + inst
  | .pier => 35 + inst | .course => 65 | .vault => 66 | .hbmc => 41 + inst | .mortar => 53 + inst
  | .ashlar => 67

/-- SOFT_RESET is honoured (R611). -/
def Page.softResetOk : Page → Bool
  | .eth => true | .pcie => true | .telltale => true | _ => false

/-- PAGE_CTL is ignored and counted (03 R151, 13 before R529). -/
def Page.pageCtlIgnored : Page → Bool
  | .ashlar => true | .course => true | .pier => true | .hbmc => true | .mortar => true | .vault => true
  | _ => false

end Sys2Proof

namespace Sys2Proof.Machine

/-- BAR0 address of a register. -/
def regAddr (p : Page) (inst off : Nat) : Nat := p.base + inst * 0x1000 + off

/-- The page and page index a BAR0 address lies in, if any (R598, R613). -/
def pageOf (a : Nat) : Option (Page × Nat) :=
  (Page.all.filterMap fun p =>
    if p.base ≤ a ∧ a < p.base + p.count * 0x1000 then some (p, (a - p.base) / 0x1000) else none).head?

/-- Shorthands of the tables below. -/
def ro (lo w : Nat) (r : Nat := 0) : RField := ⟨lo, w, .ro, r⟩
def rw (lo w : Nat) (r : Nat := 0) : RField := ⟨lo, w, .rw, r⟩
def rwl (lo w : Nat) (r : Nat := 0) : RField := ⟨lo, w, .rwl, r⟩
def ros (lo w : Nat) (r : Nat := 0) : RField := ⟨lo, w, .ros, r⟩
def wo (lo w : Nat) : RField := ⟨lo, w, .wo, 0⟩
def w1c (lo w : Nat) : RField := ⟨lo, w, .w1c, 0⟩
/-- A read-only register of 32 bits. -/
def roReg (off : Nat) : RDesc := { off := off, fields := [ro 0 32] }
/-- A counter: read-only, 32 bits, returning to 0 at claim. -/
def cnt (off : Nat) : RDesc := { off := off, fields := [ro 0 32], claim0 := true }
/-- A 64-bit read-only pair whose low half latches the high half. -/
def pair (off : Nat) (claim : Bool) : List RDesc :=
  [{ off := off, fields := [ro 0 32], claim0 := claim, latches := true },
   { off := off + 4, fields := [ro 0 32], claim0 := claim, companion := true }]

/-- The common page header (R609, R610). -/
def headerRegs (p : Page) : List RDesc :=
  [{ off := 0x00, fields := [ro 0 16, ro 16 16 p.blockType] }, { off := 0x04, fields := [ro 0 16 1] },
   { off := 0x08, fields := [ro 0 8 p.evtBits, ro 8 1 (if p.softResetOk then 1 else 0),
      ro 9 1 (if p.pageCtlIgnored then 0 else 1)] },
   { off := 0x0C, fields := [ro 0 1 1, wo 1 1, wo 2 1] }, { off := 0x10, fields := [ro 0 2] },
   { off := 0x14, fields := [w1c 0 p.evtBits] }, { off := 0x18, fields := [rw 0 p.evtBits] },
   { off := 0x1C, fields := [wo 0 p.evtBits] }, { off := 0x20, fields := [ro 0 32] },
   { off := 0x24, fields := [ro 0 32], count := 4 }, cnt 0x34,
   { off := 0x38, fields := [⟨0, 1, .w1s, 0⟩] }]

/-- STROKE page (02 R102 to R110). -/
def strokeRegs : List RDesc :=
  [{ off := 0x40, fields := [ros 0 32], latches := true }, { off := 0x44, fields := [ros 0 32], companion := true },
   roReg 0x48, { off := 0x4C, fields := [rwl 0 2, rw 2 1 1, rwl 3 1 1] }, roReg 0x50, roReg 0x54,
   { off := 0x58, fields := [rwl 0 10] }, { off := 0x5C, fields := [rwl 0 10] },
   cnt 0x60, cnt 0x64, cnt 0x68, cnt 0x6C, cnt 0x70, roReg 0x74, cnt 0x78, roReg 0x80, roReg 0x84,
   { off := 0x88, fields := [rw 0 32] }, { off := 0x8C, fields := [rw 0 32] }]

/-- ASHLAR page (03 R152 to R158, 05 R226 to R230). -/
def ashlarRegs : List RDesc :=
  [{ off := 0x40, fields := [wo 0 1] }, { off := 0x44, fields := [ro 0 3, ros 3 1, ro 4 3, ro 8 10, ros 18 7] },
   { off := 0x48, fields := [ros 0 32] }, { off := 0x4C, fields := [ros 0 32] }, cnt 0x50, cnt 0x54, cnt 0x58,
   cnt 0x5C, { off := 0x60, fields := [ro 0 32], count := 12 },
   { off := 0x90, fields := [wo 0 1, rw 1 6] }, { off := 0x94, fields := [rw 0 32] }, roReg 0x98] ++ pair 0x9C false

/-- COURSE page (03 R160). -/
def courseRegs : List RDesc :=
  [{ off := 0x40, fields := [ro 0 6, ros 8 6, ros 16 12, ro 28 1] }, roReg 0x44, cnt 0x48, cnt 0x4C]

/-- PIER page (03 R161). -/
def pierRegs : List RDesc :=
  [{ off := 0x40, fields := [ros 0 17] }, { off := 0x44, fields := [ros 0 10, ro 10 10] }, roReg 0x48] ++
  pair 0x4C true ++ [cnt 0x54, cnt 0x58, { off := 0x5C, fields := [ros 0 32] }, { off := 0x60, fields := [ros 0 32] }]

/-- MUSTER page (06 R266 to R271). -/
def musterRegs : List RDesc :=
  [{ off := 0x40, fields := [rw 0 32] }, { off := 0x44, fields := [rw 0 32] }, { off := 0x48, fields := [rw 0 16] },
   { off := 0x4C, fields := [wo 0 4, wo 4 4] }, roReg 0x50, roReg 0x54] ++ pair 0x58 false ++ pair 0x60 true ++
  [cnt 0x68, roReg 0x6C, { off := 0x80, fields := [ro 0 32], count := 8, claim0 := true },
   { off := 0x400, fields := [ro 0 32], count := 256 }]

/-- KEYSTONE page (07 R309 to R312). -/
def keystoneRegs : List RDesc :=
  [{ off := 0x40, fields := [rw 0 4] }, roReg 0x44, roReg 0x48, roReg 0x4C, roReg 0x50, roReg 0x54, roReg 0x58,
   roReg 0x5C] ++ pair 0x60 false ++ [roReg 0x68, roReg 0x6C, { off := 0x80, fields := [ro 0 32], count := 8 },
   { off := 0xA0, fields := [ro 0 32], count := 8 }]

/-- VAULT page (09 R376 to R380). The modulus-table registers act on one table (R379) and are kept on
page 0. -/
def vaultRegs : List RDesc :=
  [{ off := 0x40, fields := [ro 0 2, ros 2 1, ro 3 1, ro 8 10, ro 18 9] }] ++ pair 0x44 true ++
  [cnt 0x4C, cnt 0x50, { off := 0x54, fields := [ros 0 32] }, { off := 0x80, fields := [rw 0 32] },
   { off := 0x84, fields := [rw 0 32] }, { off := 0x88, fields := [rw 0 30] }, { off := 0x8C, fields := [wo 0 2] },
   roReg 0x90, roReg 0x94, roReg 0x98, roReg 0x9C]

/-- SPILL page (10 R410 to R417). -/
def spillRegs : List RDesc :=
  [{ off := 0x40, fields := [rw 0 10] }, { off := 0x44, fields := [rw 0 19] }, { off := 0x48, fields := [rw 0 23] },
   { off := 0x4C, fields := [rw 0 23] }, roReg 0x50, roReg 0x54, { off := 0x58, fields := [w1c 0 6] }, roReg 0x5C,
   roReg 0x60, roReg 0x64, roReg 0x68, roReg 0x6C, { off := 0x70, fields := [wo 0 3] }, roReg 0x74, roReg 0x80,
   { off := 0x100, fields := [ro 0 32], count := 32 }, { off := 0x180, fields := [ro 0 32], count := 32 }]

/-- ETH page (11 R446 to R451). Flash-held fields take their value from flash at reset. -/
def ethRegs : List RDesc :=
  [{ off := 0x40, fields := [rw 0 9, rw 12 8] }, roReg 0x44, roReg 0x48, { off := 0x4C, fields := [ro 0 16] },
   { off := 0x50, fields := [rw 0 14 6144] }, { off := 0x54, fields := [rw 0 14 4096] },
   { off := 0x58, fields := [rw 0 1, rw 1 2, rw 3 8] }, roReg 0x5C] ++ pair 0x60 true ++ pair 0x68 true ++
  [{ off := 0x70, fields := [ro 0 32], count := 8, claim0 := true },
   { off := 0xA0, fields := [ro 0 32], count := 8 }, roReg 0xC0]

/-- HAIL page (11 R453 to R457). -/
def hailRegs : List RDesc :=
  [{ off := 0x40, fields := [wo 0 1, wo 1 1, rw 8 9] }, { off := 0x44, fields := [rw 0 16 48813] },
   { off := 0x48, fields := [rw 0 32] }, { off := 0x4C, fields := [rw 0 32] },
   { off := 0x50, fields := [wo 0 32], count := 8 }, roReg 0x70, roReg 0x74, roReg 0x78, roReg 0x7C,
   roReg 0x80, { off := 0x84, fields := [ro 0 32], count := 5, claim0 := true },
   { off := 0xA0, fields := [rw 0 8] }] ++ pair 0xA4 false ++ [roReg 0xAC]

/-- HALYARD page (12 R500 to R506). -/
def halyardRegs : List RDesc :=
  [{ off := 0x40, fields := [wo 0 4] }, roReg 0x44, roReg 0x48, { off := 0x80, fields := [rw 0 32], count := 16 },
   { off := 0xC0, fields := [rw 0 10 50, rw 10 8 32, rw 18 7 5] }, roReg 0xC4, roReg 0x100, roReg 0x104] ++
  pair 0x108 false ++ [{ off := 0x110, fields := [wo 0 1] },
   { off := 0x140, fields := [ro 0 32], count := 18, claim0 := true }, roReg 0x188, roReg 0x18C]

/-- HBMC page (13 R529 to R533). -/
def hbmcRegs : List RDesc :=
  [{ off := 0x40, fields := [wo 0 1] }, roReg 0x44, cnt 0x48, cnt 0x4C, cnt 0x50, cnt 0x54, roReg 0x58,
   { off := 0x5C, fields := [ros 0 32] }, { off := 0x60, fields := [ros 0 8, ros 8 8] }]

/-- MORTAR page (13 R536 to R538). -/
def mortarRegs : List RDesc :=
  [{ off := 0x40, fields := [rw 0 5] }, roReg 0x44, { off := 0x48, fields := [wo 0 1] }] ++ pair 0x4C true ++
  [cnt 0x54, cnt 0x58, cnt 0x5C, cnt 0x60, cnt 0x64]

/-- KEEP page (14 R562 to R567). -/
def keepRegs : List RDesc :=
  [roReg 0x40, roReg 0x44, { off := 0x48, fields := [wo 0 4, wo 4 6] }, roReg 0x4C, { off := 0x50, fields := [rw 0 32] },
   { off := 0x54, fields := [rw 0 32] }, { off := 0x58, fields := [rw 0 16] }, { off := 0x5C, fields := [rw 0 6] },
   roReg 0x60] ++ pair 0x64 false ++ [cnt 0x6C, { off := 0x70, fields := [rwl 0 1 1, rwl 1 1 1] }, roReg 0x74,
   { off := 0x78, fields := [ros 0 32] }, { off := 0x80, fields := [ro 0 32], count := 8 },
   { off := 0xA0, fields := [ro 0 32], count := 8 }, { off := 0x400, fields := [wo 0 32], count := 48 }]

/-- GLOBAL page (16 R614 to R616). -/
def globalRegs : List RDesc :=
  [roReg 0x40, cnt 0x44, roReg 0x48, roReg 0x4C, { off := 0x50, fields := [wo 0 32] }, roReg 0x54,
   { off := 0x60, fields := [ro 0 32], count := 3 }, { off := 0x80, fields := [ro 0 32], count := 3 },
   { off := 0x90, fields := [ro 0 32], count := 3 }, { off := 0x100, fields := [ro 0 32], count := 150 }]

/-- PCIE page (16 R618). PCIE_LINK_DOWNS counts from POR. -/
def pcieRegs : List RDesc :=
  [roReg 0x40, { off := 0x44, fields := [rwl 0 3 6, wo 3 1] }, { off := 0x48, fields := [rw 21 11] },
   { off := 0x4C, fields := [rw 0 16] }, { off := 0x50, fields := [ro 0 32], count := 5, claim0 := true },
   { off := 0x64, fields := [ros 0 32] }, cnt 0x68]

/-- BOSUN page (16 R622). -/
def bosunRegs : List RDesc :=
  [{ off := 0x40, fields := [wo 0 4] }, roReg 0x44] ++ pair 0x48 false ++ [roReg 0x50, roReg 0x54, roReg 0x58,
   { off := 0x100, fields := [rw 0 32], count := 64 }]

/-- REEF page (17 R647 to R650). -/
def reefRegs : List RDesc :=
  [{ off := 0x40, fields := [rw 0 32] }, { off := 0x44, fields := [rw 0 3 4, rw 3 1] }, roReg 0x48, roReg 0x4C,
   { off := 0x50, fields := [ro 0 32], count := 4, claim0 := true }, { off := 0x60, fields := [rw 0 32 20000] },
   { off := 0x64, fields := [rw 0 32 5000000] }, cnt 0x68, roReg 0x6C]

/-- TELLTALE page (19 R695 to R697). -/
def telltaleRegs : List RDesc :=
  [{ off := 0x40, fields := [wo 0 8] }, roReg 0x44] ++ pair 0x48 false ++
  [{ off := 0x50, fields := [rw 0 13] }, { off := 0x54, fields := [wo 0 11] }, roReg 0x58,
   { off := 0x60, fields := [rw 5 27] }, { off := 0x64, fields := [rw 0 16] }, { off := 0x68, fields := [wo 0 2] },
   roReg 0x6C, { off := 0x70, fields := [rw 0 32], count := 8 }, cnt 0x90, { off := 0x94, fields := [ros 0 32] },
   { off := 0x100, fields := [rw 0 10], count := 16, stride := 16 },
   { off := 0x104, fields := [rw 0 32], count := 16, stride := 16 },
   { off := 0x108, fields := [rw 0 32], count := 16, stride := 16 },
   { off := 0x10C, fields := [ro 0 32], count := 16, stride := 16 },
   { off := 0x200, fields := [rw 5 27], count := 8, stride := 16 },
   { off := 0x204, fields := [rw 0 16], count := 8, stride := 16 },
   { off := 0x208, fields := [rw 0 32], count := 8, stride := 16 },
   { off := 0x20C, fields := [rw 0 9], count := 8, stride := 16 },
   { off := 0x400, fields := [wo 0 32], count := 32 }]

/-- The block registers of a page. -/
def blockRegs : Page → List RDesc
  | .global => globalRegs | .keep => keepRegs | .bosun => bosunRegs | .reef => reefRegs | .stroke => strokeRegs
  | .telltale => telltaleRegs | .hail => hailRegs | .muster => musterRegs | .keystone => keystoneRegs
  | .pcie => pcieRegs | .eth => ethRegs | .halyard => halyardRegs | .spill => spillRegs | .pier => pierRegs
  | .course => courseRegs | .vault => vaultRegs | .hbmc => hbmcRegs | .mortar => mortarRegs | .ashlar => ashlarRegs

/-- The description covers offset `off`. -/
def RDesc.covers (d : RDesc) (off : Nat) : Bool :=
  decide (d.off ≤ off) && decide (off < d.off + d.count * d.stride) && decide ((off - d.off) % d.stride = 0)

/-- The register at a page offset (a multiple of 4), if the offset names one (00 R15). -/
def findReg (p : Page) (off : Nat) : Option RDesc :=
  (if off < 0x40 then headerRegs p else blockRegs p).find? (fun d => d.covers off)

/-- Mask of a field. -/
def RField.mask (f : RField) : W32 := BitVec.ofNat 32 ((2 ^ f.width - 1) * 2 ^ f.lo)

/-- Mask of the fields with an access code in `l`. -/
def RDesc.maskOf (d : RDesc) (l : List Acc) : W32 :=
  d.fields.foldl (fun m f => if l.contains f.acc then m ||| f.mask else m) 0

/-- Reset value of a register (R18). -/
def RDesc.resetVal (d : RDesc) : W32 :=
  d.fields.foldl (fun m f => m ||| BitVec.ofNat 32 (f.reset * 2 ^ f.lo)) 0

/-- Reset value of the register at a BAR0 address; PAGE_ID carries the page index (R613). -/
def regReset (a : Nat) : W32 :=
  match pageOf a with
  | none => 0
  | some (p, i) =>
    match findReg p (a % 0x1000) with
    | none => 0
    | some d => if a % 0x1000 = 0 then d.resetVal ||| BitVec.ofNat 32 i else d.resetVal

/-- The new value of a register under a write of `v` (R14, R16), with PAGE_LOCK set or clear. -/
def RDesc.written (d : RDesc) (locked : Bool) (old v : W32) : W32 :=
  let set := d.maskOf (if locked then [.rw] else [.rw, .rwl])
  let c := d.maskOf [.w1c]
  let s := d.maskOf [.w1s]
  (((old &&& ~~~set) ||| (v &&& set)) &&& ~~~(v &&& c)) ||| (v &&& s)

end Sys2Proof.Machine
end

