-- ==== Sys2Proof/Machine/StFabric.lean ====
section
/-!
DEFINITION. Plain data of the stroke generator (02), the fabric and its rigs (03), the cores (04),
the Mortar units and drains (05) and the spill queues (10).
-/

namespace Sys2Proof.Machine

/-- SYNC_STATE (02 R106, R723); HALTED is the debug port's flag laid over it. -/
inductive SyncState where
  | freeRun | acquiring | lockedPin | lockedPtp
  deriving DecidableEq, Repr

/-- What the overrun of a stroke is first found to be caused by (R109). -/
inductive OverrunCause where
  | none
  | marker (ashlar : Nat)
  | ashlarMortar (ashlar : Nat)
  | hbmMortar (pc : Nat)
  deriving DecidableEq, Repr

/-- The stroke generator (02). -/
structure StrokeUnit where
  /-- The stroke counter (R90), as its three copies' vote gives it. -/
  now : Nat := 0
  /-- The current fabric cycle, 0 to 2,047 (R104). -/
  cycle : Nat := 0
  /-- False while the generator is stopped (R90, R92). -/
  running : Bool := true
  sync : SyncState := .freeRun
  /-- Acquisition runs behind a PTP fallback (R723). -/
  fallback : Bool := false
  /-- Consecutive accepted edges spaced 2,048 ± 8 (R96). -/
  edgeRun : Nat := 0
  /-- Absolute cycle number of the last accepted edge (R96). -/
  lastEdge : Option Nat := none
  /-- Absolute cycle from which "no usable edge for 4 strokes" counts (R96). -/
  edgeSince : Nat := 0
  ptpLocked : Bool := false
  /-- PTP time of stroke 0 in ns (R98, R110). -/
  epoch : Int := 0
  epochSet : Bool := false
  stretchPending : Bool := false
  /-- Cycles by which stretched strokes have lengthened time so far (R97). -/
  extra : Nat := 0
  /-- Consecutive Sync messages within ±50 ns, and outside ±200 ns (11 R429). -/
  ptpGood : Nat := 0
  ptpBad : Nat := 0
  /-- Consecutive overrun strokes (R89) and the rigs charged in them. -/
  overrunRun : Nat := 0
  chargedInRun : List Nat := []
  lastOverran : Bool := false
  lastOverrun : Nat := 0
  cause : OverrunCause := .none
  /-- The alarm is enabled (R110). -/
  alarmOn : Bool := false
  /-- Events of the running stroke that make it an overrun whatever the markers say: the rigs
  charged with a fence, a tag violation or an uncorrectable load (R137, R145, R519), with the
  Ashlar at which each happened. -/
  strokeFaults : List (Nat × Nat) := []
  /-- The stroke whose intake has taken place (R73). -/
  intakeAt : Option Nat := none
  /-- The value an adoption of this stroke gives the counter at the commit's end (R100). -/
  nextStroke : Option Nat := none
  deriving DecidableEq, Repr

/-- A modulus of a rig (04 R177); the three other fields of an entry are functions of q. -/
structure Modulus where
  q : Nat
  deriving DecidableEq, Repr

/-- A bound region of a rig (03 R128, R131). -/
structure RigRegion where
  tag : Nat
  access : Nat
  minLen : Nat
  base : Nat
  len : Nat
  deriving DecidableEq, Repr

/-- A bound queue of a rig (03 R128), with the words put in this stroke (04 R202) and the intake
allowance (05 R235). -/
structure RigQueue where
  role : Nat
  perStroke : Nat
  queue : Nat
  putCount : Nat := 0
  allowance : Nat := 0
  deriving DecidableEq, Repr

/-- One template Ashlar of a rig and where it is placed (03 R125, R135, R136). -/
structure RigAshlar where
  useMask : W64
  freeMask : W64
  seqFirst : Nat
  /-- Physical Ashlar, none while unplaced (R142). -/
  place : Option Nat
  sym : Nat := 0
  /-- Physical positions of the free cores, in ascending template order (R135). -/
  freeAt : List Nat := []
  /-- A fence or an uncorrectable core store under this Ashlar awaits re-placement (R139, R519). -/
  broken : Bool := false
  /-- Committed shadows in the evacuation area: fence copy (R138) or drain copy (R225). -/
  evacuated : Bool := false
  /-- Base address of the Ashlar-store constant area (R127). -/
  constBase : Nat := 0
  deriving DecidableEq, Repr

/-- A route entry (R126). -/
structure Route where
  src : Nat
  dst : Nat
  maxCycles : Nat
  deriving DecidableEq, Repr

/-- A constant record (R127). -/
structure RigConst where
  ord : Nat
  kind : Nat
  pos : Nat
  offset : Nat
  data : List Byte
  deriving DecidableEq, Repr

/-- STATE of a drain (05 R229). -/
inductive DrainPhase where
  | idle | pending | copying | finished
  deriving DecidableEq, Repr

/-- The one drain of a rig (05 R222 to R230). -/
structure Drain where
  phase : DrainPhase := .idle
  region : Nat := 0
  base : Nat := 0
  /-- First stroke whose commit may capture (R223). -/
  fromStroke : Nat := 0
  captured : Nat := 0
  /-- The captured shadows: (template ordinal × 512 + position × 8 + accumulator, pattern, poisoned). -/
  copy : List (Nat × W256 × Bool) := []
  /-- A fence overwrote an evacuation area before the copy ended (R225). -/
  overwritten : Bool := false
  result : Nat := 0
  busyCount : Nat := 0
  deriving DecidableEq, Repr

/-- A loaded rig (03 R134). -/
structure Rig where
  sealed : Bool := false
  /-- Named sealed function the rig belongs to, 0 where none (08 R321). -/
  func : Nat := 0
  version : W32 := 0
  measurement : W256 := 0
  seqLen : Nat := 1
  shape : Nat := 0
  blockCols : Nat := 0
  blockRows : Nat := 0
  symAllow : Nat := 1
  vaultUse : Bool := false
  ashlars : List RigAshlar := []
  seqs : List (BitVec 128) := []
  routes : List Route := []
  consts : List RigConst := []
  moduli : List Modulus := []
  regions : List RigRegion := []
  queues : List RigQueue := []
  /-- The round block the rig works for, where it serves a round (02 R54 pause). -/
  round : Option Nat := none
  faulted : Bool := false
  /-- The rig runs in this stroke: set at intake (10 R395). -/
  active : Bool := false
  /-- Faulted for good: tag violation or uncorrectable load (R145, R519), or R88, R89. -/
  permanent : Bool := false
  /-- To be faulted at this stroke's commit without an overrun (09 R372); the whole rig then moves to another
  Course. -/
  vaultBroken : Bool := false
  /-- Consecutive charges (02 R88). -/
  charges : Nat := 0
  /-- Re-placement in progress: the stroke whose fence bounds it (R139, R140). -/
  replaceFrom : Option Nat := none
  drain : Drain := {}
  deriving DecidableEq, Repr

/-- State of one Ashlar that outlives a rig (03 R153 to R157, 18 R655). -/
structure Ashlar where
  fence : W64 := 0
  markerLast : Nat := 0
  markerMax : Nat := 0
  /-- Withdrawn by a failed self-test of its store (13 R523, 18 R656) whatever its fence count. -/
  storeWithdrawn : Bool := false
  /-- Placed routers' link state is held in `Fabric.downLinks`. Result of the last drain request
  refused with NO_RIG on this page (05 R225). -/
  noRigResult : Nat := 0
  /-- The STRIKE bit of each core position (18 R655). -/
  strike : W64 := 0
  deriving DecidableEq, Repr

/-- A request in progress in a Pier's DMA engine (03 R148, R149). -/
structure DmaReq where
  rig : Nat
  word : W256
  issued : Nat
  started : Bool := false
  deriving DecidableEq, Repr

/-- The party an add comes from (05 R220, R221). -/
inductive AddSource where
  | rig (id : Nat)
  | feeder (queue : Nat)
  deriving DecidableEq, Repr

/-- How an add is applied (05 R214). -/
inductive AddFmt where
  | u32 | u64 | modq (q : Nat) | f32
  deriving DecidableEq, Repr

/-- One add in the queue of its Mortar unit: the module address and 16 or 32 destination bytes. -/
structure MAdd where
  addr : Nat
  bytes : Nat
  fmt : AddFmt
  data : W256
  poison : Bool
  src : AddSource
  /-- Cycle at which the add enters the queue of its unit (R211). -/
  entered : Nat := 0
  /-- It has waited for a provisional word (R218). -/
  waited : Bool := false
  /-- A group of an adder tree (R209): its template ordinal, FMT, QREG and MODSEL, and its leaves by template position. -/
  tree : Option (Nat × Nat × Nat × Nat) := none
  leaves : NMap W256 := []
  deriving DecidableEq, Repr

/-- A bed entry (05 R216): the committed value not yet written back, and the provisional value. -/
structure BedEntry where
  comm : Option (W256 × Bool) := none
  prov : Option (W256 × Bool) := none
  /-- Direct writes that met the word while it was provisional (R217). -/
  wrote : Nat := 0
  /-- Adds applied to the entry in this stroke, for MORTAR_ADDS (13 R538). -/
  adds : Nat := 0
  deriving DecidableEq, Repr

/-- Who holds an allocated range (16 R626). -/
inductive AreaOwner where
  | tenant
  | tamrik
  | rig (id : Nat)
  | round (block : Nat)
  | func (id : Nat)
  | withheld
  deriving DecidableEq, Repr

/-- An allocated range and its tag (R143). -/
structure Area where
  base : Nat
  len : Nat
  tag : Nat
  owner : AreaOwner
  deriving DecidableEq, Repr

/-- A Vault (09). Its request input is queue 16,384 + Course of the spill structure. -/
structure Vault where
  fenced : Bool := false
  /-- The completion that awaits its writing (R366): the done queue and the word. -/
  completion : Option (Nat × W256) := none
  deriving DecidableEq, Repr

/-- The fabric (03, 05, 09). -/
structure Fabric where
  rigs : NMap Rig := []
  ashlars : NMap Ashlar := []
  vaults : NMap Vault := []
  /-- The modulus table (09 R361): entry to prime, unlisted entries empty. -/
  moduli : NMap Nat := []
  /-- Retired HBM blocks (18 R662): pseudo-channel × 2^20 + block. -/
  retired : List Nat := []
  /-- The allocated ranges of HBM and of the Ashlar stores, with the tag each granule or page of them
  carries (R143); what lies in no area is FREE, but for granule 95 of every Ashlar store (R119). -/
  areas : List Area := []
  /-- Links out of service (R160, R161, 18 R658): Course side 4c + d, lane l of a Pier side 1000 + 16p + 4d + l,
  lane l of a Plinth link 2000 + 2p + l. -/
  downLinks : List Nat := []
  dma : NMap (List DmaReq) := []
  adds : List MAdd := []
  bed : NMap BedEntry := []
  /-- Entries that were in a unit's queue at cycle 1,920 of this stroke and have left it since, by unit
  (R235). -/
  held1920 : NMap Nat := []
  /-- Largest number of entries held at cycle 1,920 of a stroke, by HBM unit (13 R537). -/
  queueMax : NMap Nat := []
  /-- Stacks that held an entry at cycle 2,040 of the last stroke (13 R538, R539). -/
  lateStacks : List Nat := []
  /-- The units that received adds of each rig or feeder in this stroke (R235). -/
  fed : List (AddSource × Nat) := []
  deriving DecidableEq, Repr

/-- One active loop (04 R182). -/
structure LoopFrame where
  start : Nat
  stop : Nat
  idx : Nat
  count : Nat
  deriving DecidableEq, Repr

/-- One core of a placed rig, in template coordinates (04 R163, R168). -/
structure Core where
  /-- G0 to G31, 128 bits each. -/
  g : NMap (BitVec 128) := []
  /-- Working accumulators: four lanes of 64 bits each, and the poison carried with each (05 R208). -/
  acc : NMap W256 := []
  accBad : NMap Bool := []
  /-- Committed shadows. -/
  shadow : NMap W256 := []
  shadowBad : NMap Bool := []
  /-- P1 to P3, one bit per lane; P0 reads 1. -/
  p : NMap (BitVec 4) := []
  loops : List LoopFrame := []
  /-- Next sequence slot. -/
  pc : Nat := 0
  ended : Bool := false
  /-- Cycle at which END took effect. -/
  endCycle : Nat := 0
  stalled : Bool := false
  /-- Receive buffers of the links N, E, S, W, oldest first (R196). -/
  rx : NMap (List (BitVec 128)) := []
  /-- Uncorrectable events of the core store (R194, R519). -/
  storeEvents : Nat := 0
  deriving DecidableEq, Repr

/-- Who writes a packet (10 R386 SOURCE, R389). -/
inductive Producer where
  | core (key : Nat)
  | host
  | doorbell
  | halyard (qpn : Nat)
  | keystone
  | vault (course : Nat)
  | pierDma (pier : Nat)
  | tamrik
  | cipher
  deriving DecidableEq, Repr

/-- One word of a queue, as stored: payload and tag, and whether its code word is uncorrectable or
poisoned (R407, R519). -/
structure QWord where
  w : W256
  bad : Bool := false
  deriving DecidableEq, Repr

/-- A packet, a lone marker or a flush marker (R388, R405). -/
inductive ItemKind where
  | packet | marker | flush
  deriving DecidableEq, Repr

/-- An item of a queue, its words not yet released (R391). -/
structure QItem where
  kind : ItemKind
  src : Producer
  words : List QWord
  /-- Words of the item already released (R396). -/
  freed : Nat := 0
  /-- The packet is closed. -/
  closed : Bool := false
  /-- The item is complete (R391): a rig's item only at the commit of its stroke. -/
  complete : Bool := false
  abandoned : Bool := false
  /-- Cause of abandonment (R386), 0 where none. -/
  cause : Nat := 0
  /-- Refusal code recorded against the item (R386 DECISION). -/
  decision : Nat := 0
  /-- Landing or completion stroke. -/
  stroke : Nat := 0
  qpn : Nat := 0
  bytes : Nat := 0
  /-- Cycle of the landing stroke (06 R244), and whether Muster or the Keystone has decided the item. -/
  cycle : Nat := 0
  judged : Bool := false
  deriving DecidableEq, Repr

/-- Zone of a level (R402). -/
inductive Zone where
  | low | mid | high
  deriving DecidableEq, Repr

/-- SPILL_Q_STS.OWNER (R382). -/
inductive QOwner where
  | free | tenant | sealed | system
  deriving DecidableEq, Repr

/-- SPILL_Q_STS.CONSUMER (R393, R413). -/
inductive QConsumer where
  | none | rig | host | unit
  deriving DecidableEq, Repr

/-- A spill queue (10). Positions count words from the oldest word not yet released. -/
structure Queue where
  owner : QOwner := .free
  ringLog : Nat := 0
  hostProd : Bool := false
  hostCons : Bool := false
  noticeEn : Bool := false
  vector : Nat := 0
  highWm : Nat := 0
  lowWm : Nat := 0
  consumer : QConsumer := .none
  /-- Rigs bound to the queue and queue pairs that name it (R416 BUSY). -/
  rigBinds : Nat := 0
  qpBinds : Nat := 0
  items : List QItem := []
  rd : Nat := 0
  intakeMark : Nat := 0
  rigMark : Nat := 0
  hostMark : Nat := 0
  /-- QREL was issued in this stroke, and the release point it set (04 R205). -/
  qrel : Bool := false
  relPoint : Nat := 0
  /-- RELEASE awaiting its commit (R396), and the first stroke whose commit may apply it. -/
  relPend : Option Nat := none
  relFrom : Nat := 0
  /-- A rig consumer may read up to this position in this stroke (R395). -/
  handed : Nat := 0
  /-- Items handed at the last intake. -/
  handedItems : Nat := 0
  /-- Words in the head window and read-ahead, from the intake mark (R397). -/
  inPlace : Nat := 0
  /-- Producers whose open packet a flush took and whose close is still to come (R392, R405). -/
  flushed : List Producer := []
  zone : Zone := .low
  armed : Bool := false
  evt : BitVec 6 := 0
  notices : Nat := 0
  packets : Nat := 0
  dropped : Nat := 0
  abandoned : Nat := 0
  overruns : Nat := 0
  /-- Host window: staged word, read latch, LAST (R407 to R409). -/
  staged : W256 := 0
  latch : W256 := 0
  last : Nat := 0
  /-- Doorbell (16 R602): BUSY and LAST, and the packet being fetched. -/
  dbAddrLo : W32 := 0
  dbBusy : Bool := false
  dbLast : Nat := 0
  dbWords : Nat := 0
  /-- The Mortar feeder that consumes the queue (05 R220, R221): consecutive charges, allowance. -/
  feeder : Bool := false
  feedCharges : Nat := 0
  feedAllow : Nat := 0
  deriving DecidableEq, Repr

/-- A write into a queue held from cycle 2,016 (R390). -/
inductive HeldOp where
  | hostProd (queue op : Nat) (word : W256)
  | doorOpen (queue : Nat)
  | doorEnd (queue : Nat) (data : Option (List Byte))
  /-- A one-item write of a Plinth unit: payload words, message bytes, QPN and DECISION. -/
  | item (queue : Nat) (src : Producer) (words : List W256) (bytes qpn decision : Nat)
  /-- A lone marker of a Plinth unit. -/
  | marker (queue : Nat) (src : Producer) (word : W256)
  deriving DecidableEq, Repr

/-- The spill queues (10). -/
structure Spill where
  queues : NMap Queue := []
  held : List HeldOp := []
  deriving DecidableEq, Repr

end Sys2Proof.Machine
end

