-- ==== Sys2Proof/Machine/StHost.lean ====
section
/-!
DEFINITION. Plain data of the host interface, start-up, firmware and regions (16), the command registers
(00 R722), and what the block sends out.
-/

namespace Sys2Proof.Machine

/-- BOOT_STAGE (16 R615, R631). -/
inductive BootStage where
  | lcHold | keep | memtest | fill | fwLoad | tamrik | ready | failed
  deriving DecidableEq, Repr

/-- Code of a boot stage (R615). -/
def BootStage.code : BootStage → Nat
  | .lcHold => 0 | .keep => 1 | .memtest => 2 | .fill => 3 | .fwLoad => 4 | .tamrik => 5 | .ready => 6 | .failed => 7

/-- One MSI-X table entry (16 R601). -/
structure MsixEntry where
  addr : Nat := 0
  data : W32 := 0
  masked : Bool := true
  deriving DecidableEq, Repr

/-- The PCIe function (16 R591 to R596). -/
structure Pcie where
  perst : Bool := false
  linkUp : Bool := false
  /-- A retraining is in progress (R618). -/
  training : Bool := false
  gen : Nat := 0
  width : Nat := 0
  flit : Bool := false
  bme : Bool := false
  /-- Memory Space Enable is a configuration default of the PCIe specification. -/
  d3hot : Bool := false
  msixEn : Bool := false
  funcMask : Bool := false
  ltrEn : Bool := false
  /-- AER (R608), in the PCIe specification's layout: uncorrectable error mask, severity and status, correctable error
  mask and status. The severities are R608's. -/
  aerMask : W32 := 0x400000
  aerSeverity : W32 := 0x462010
  aerStatus : W32 := 0
  aerCorrMask : W32 := 0xE000
  aerCorr : W32 := 0
  mps : Nat := 0
  mrrs : Nat := 2
  /-- Completion timeout in microseconds (R594: 50 ms by default). -/
  cplTimeout : Nat := 50000
  ecrcEn : Bool := false
  bar0 : Nat := 0
  bar2 : Nat := 0
  bar4 : Nat := 0
  msix : NMap MsixEntry := []
  /-- Pending bit array. -/
  pba : List Nat := []
  /-- The applied BAR2 base (R600, R618). -/
  bar2Base : Nat := 0
  deriving DecidableEq, Repr

/-- A firmware slot of the flash (16 R628, R630). -/
inductive SlotState where
  | valid | corrupt | empty | unchecked
  deriving DecidableEq, Repr

/-- Code of a slot state (R616). -/
def SlotState.code : SlotState → Nat
  | .valid => 0 | .corrupt => 1 | .empty => 2 | .unchecked => 3

/-- What a firmware slot holds in flash. -/
structure FwSlot where
  holds : SlotState := .empty
  version : W32 := 0
  /-- Hash of the measured image, which the Keep's derivations take (14 R544). -/
  measurement : List Byte := List.replicate 32 0
  /-- The Welloth update public key that the image carries (14 R546, 16 R629). -/
  updateKey : List Byte := List.replicate 32 0
  /-- Measurements of the sealed-rig images, in ascending order (15 R571). -/
  rigs : List (List Byte) := []
  deriving DecidableEq, Repr

/-- BOSUN_FW_STS.STATE (16 R622). -/
inductive FwState where
  | none | programming | staged | failedFlash
  deriving DecidableEq, Repr

/-- The fence map as flash holds it (18 R655, R662, R663). -/
structure FenceMap where
  /-- Fence mask, STRIKE bits and STORE_WITHDRAWN of an Ashlar. -/
  ashlars : NMap (W64 × W64 × Bool) := []
  vaults : List Nat := []
  retired : List Nat := []
  deriving DecidableEq, Repr

/-- Start-up and firmware (16 R616, R620, R628 to R632). -/
structure Boot where
  stage : BootStage := .keep
  lastReset : Nat := 1
  fatal : Nat := 0
  /-- Firmware slots as the flash holds them: A, B. -/
  slotA : FwSlot := { holds := .valid, version := 1 }
  slotB : FwSlot := {}
  /-- SLOT_A and SLOT_B as GLOBAL_BOOT_INFO reports them. -/
  infoA : SlotState := .unchecked
  infoB : SlotState := .unchecked
  /-- Slot booted: false A, true B. -/
  bootedB : Bool := false
  fallback : Bool := false
  fwVersion : W32 := 0
  /-- Boot record in flash: the slot it names and its sequence number. -/
  recordB : Bool := false
  recordSeq : Nat := 0
  fwState : FwState := .none
  fwSlotB : Bool := false
  stagedVer : W32 := 0
  /-- The image being programmed. -/
  staged : FwSlot := {}
  heartbeat : W32 := 0
  /-- The stages of a WARM reset that follows (R632): run KEEP first; fill HBM. -/
  warmKeep : Bool := false
  /-- Lifetime error totals as flash holds them: Pier to corrected and uncorrectable (13 R528). -/
  flashLife : NMap (Nat × Nat) := []
  flashMap : FenceMap := {}
  deriving DecidableEq, Repr

/-- A command register's command (00 R722): what is in progress and how the last one ended. -/
structure CmdSt where
  busy : Bool := false
  op : Nat := 0
  sub : Nat := 0
  args : List W32 := []
  /-- Stroke at whose commit a commit-type command takes effect (R36). -/
  eff : Nat := 0
  /-- The work is done; the effect awaits the commit of this stroke (09 R362). -/
  ready : Bool := false
  /-- The outcome decided at the landing, and what the command read then. -/
  staged : Nat := 0
  data : List Byte := []
  /-- A word the command read was uncorrectable (01 R46 DESCRIPTOR). -/
  bad : Bool := false
  outcome : Nat := 0
  result : Nat := 0
  deriving DecidableEq, Repr

/-- What the block sends out of its connectors. -/
inductive Out where
  /-- An MSI-X message (16 R606). -/
  | msix (vector : Nat)
  /-- A posted write to host memory. -/
  | hostWrite (addr : Nat) (data : List Byte)
  /-- A posted write to host memory carried as a poisoned TLP (16 R625). -/
  | hostPoison (addr : Nat) (data : List Byte)
  /-- A read request to host memory. -/
  | hostRead (addr len : Nat)
  /-- A completion to a host read: the data returned, or poisoned. -/
  | completion (data : List Byte) (poisoned : Bool)
  /-- An Unsupported Request completion (16 R608). -/
  | unsupported
  /-- A PFC frame of a port: priorities and pause quanta (11 R424). -/
  | pfc (port prio quanta : Nat)
  /-- An LLDP frame of a port (11 R425). -/
  | lldp (port ttl : Nat)
  /-- A Hail datagram of a port (11 R430). -/
  | hail (port : Nat) (bytes : List Byte)
  /-- A message on the crew channel to the member at a position (07 R306, 11 R441). -/
  | carry (pos : Nat) (bytes : List Byte)
  /-- Chunk sums and the count forwarded to the owner at a position by Accumulate-Write (06 R262). -/
  | forward (pos round chunk : Nat) (words : List Nat) (count : Nat)
  /-- A RoCE packet: destination QPN, opcode, PSN, extension-header fields and payload (12). -/
  | rdma (qpn op psn : Nat) (fields : List Nat) (payload : List Byte)
  /-- An acknowledgement: destination QPN and PSN (12 R483). -/
  | ack (qpn psn : Nat)
  /-- A negative acknowledgement: kind 0 sequence, 1 invalid, 2 access, 3 operational, 4 RNR with its timer. -/
  | nak (qpn psn kind value : Nat)
  /-- A congestion notification packet (12 R497). -/
  | cnp (qpn : Nat)
  /-- An SMBus answer (20 R718). -/
  | smbus (data : List Byte)
  /-- A debug result (19 R676), or bits shifted out of the TAP. -/
  | debug (status : Nat) (data : W32)
  /-- A PCIe LTR message (17 R644): value in ns. -/
  | ltr (ns : Nat)
  /-- WAKE_N is driven low for 100 µs (17 R641). -/
  | wakeN
  deriving DecidableEq, Repr

end Sys2Proof.Machine
end

