-- ==== Sys2Proof/Machine/StKeep.lean ====
section
/-!
DEFINITION. Plain data of the Keep (14): fuses, root records, key slots, the life cycle and tamper.
-/

namespace Sys2Proof.Machine

/-- Life-cycle states (14 R541). -/
inductive LifeCycle where
  | blank | factory | opened | sealed | returned | scrapped | tamperLock
  deriving DecidableEq, Repr

/-- Code of a life-cycle state (R541). -/
def LifeCycle.code : LifeCycle → Nat
  | .blank => 1 | .factory => 2 | .opened => 3 | .sealed => 4 | .returned => 5 | .scrapped => 6 | .tamperLock => 7

/-- A root or key of 32 zero bytes. -/
def zero32 : List Byte := List.replicate 32 0

/-- The fuses (R540): none where a root is not burned. -/
structure Fuses where
  factoryRoot : Option (List Byte) := some zero32
  returnRoot : Option (List Byte) := some zero32
  /-- SHA-256 of 32 zero bytes: the update key of the firmware slot at reset (DESIGN CHOICE, log entry 10). -/
  wellothHash : List Byte := toBe 32 0x66687aadf862bd776c8fc18b8e9f8e20089714856ee233b3902a591d0d5f2925
  ownerRoot : Option (List Byte) := some zero32
  sealedRoot : Option (List Byte) := some zero32
  factoryDisable : Bool := true
  counter : Nat := 1
  returned : Bool := false
  sealedKill : Bool := false
  scrapped : Bool := false
  deriving DecidableEq, Repr

/-- A root record of the flash (R556): its settings, and the new root values while they are not burned. -/
structure RootRec where
  counter : Nat := 0
  ownerMix : List Byte := zero32
  authority : List Byte := zero32
  debugKey : List Byte := zero32
  /-- Life-cycle target, which stands as the life-cycle record once the slot is active. -/
  target : LifeCycle := .opened
  roots : Option (List Byte × List Byte) := none
  deriving DecidableEq, Repr

/-- The commit record, as the vote of its three copies gives it (R556, R557). -/
structure CommitRec where
  counter : Nat
  slotB : Bool
  kind : Nat
  /-- The named slot's record matches the digest. -/
  matching : Bool
  deriving DecidableEq, Repr

/-- A key slot that holds a key (R548, R550). -/
structure KeySlot where
  typ : Nat
  dest : Nat
  usage : Nat
  lcBind : Nat
  round : Nat
  tag : Nat
  key : List Byte
  /-- UNLOAD has landed: new uses are denied (R552). -/
  leaving : Bool := false
  deriving DecidableEq, Repr

/-- The Keep (14). -/
structure Keep where
  fuses : Fuses := {}
  rootA : RootRec := { counter := 1 }
  rootB : RootRec := {}
  activeB : Bool := false
  commit : Option CommitRec := none
  /-- The life-cycle state in force. -/
  lc : LifeCycle := .opened
  /-- The life-cycle record, none where its three copies have no majority (R521, R542). -/
  record : Option LifeCycle := some .opened
  drbgOk : Bool := false
  keysReady : Bool := false
  updateResult : Nat := 0
  slots : NMap KeySlot := []
  /-- Slot 62: the Welloth update public key, none while the slot is empty (R546). -/
  wellothKey : Option (List Byte) := none
  /-- Alarms latched, and sensors in alarm now, one bit each (R567). -/
  latched : Nat := 0
  nowAlarm : Nat := 0
  /-- The key update message (R568). -/
  msg : NMap W32 := []
  /-- Certificates of the flash, DER: device CA, FACTORY DIK, RETURN DIK, Owner DIK (15 R575). -/
  certCa : List Byte := []
  certFactory : List Byte := []
  certReturn : List Byte := []
  certOwner : List Byte := []
  deriving DecidableEq, Repr

end Sys2Proof.Machine
end

