-- ==== Sys2Proof/Machine/StNet.lean ====
section
/-!
DEFINITION. Plain data of Halyard (12), the Ethernet ports and Hail (11).
-/

namespace Sys2Proof.Machine

/-- Queue-pair states (12 R464, R503). -/
inductive QpState where
  | reset | init | rtr | rts | error
  deriving DecidableEq, Repr

def QpState.code : QpState → Nat
  | .reset => 0 | .init => 1 | .rtr => 2 | .rts => 3 | .error => 4

/-- A request sent and not complete (12 R470, R486). -/
structure SentReq where
  op : Nat
  wrId : Nat
  signaled : Bool
  len : Nat
  lkey : Nat
  laddr : Nat
  rkey : Nat
  raddr : Nat
  op0 : Nat
  op1 : Nat
  fmt : Nat
  /-- First and last PSN. -/
  first : Nat
  last : Nat
  spray : Bool
  /-- A request of the module's own (R471): it writes no completion. -/
  own : Bool
  /-- Bytes of a Read response placed so far. -/
  got : Nat := 0
  /-- Status once it is complete, waiting for earlier requests (R470). -/
  done : Option Nat := none
  /-- Payload of a request of the module's own. -/
  data : List Byte := []
  deriving DecidableEq, Repr

/-- A message in progress at the responder (12 R460, R466, R491). -/
structure RxMsg where
  /-- 0 Send, 1 Write, 2 Accumulate-Write. -/
  kind : Nat
  key : Nat := 0
  va : Nat := 0
  len : Nat := 0
  fmt : Nat := 0
  q : Nat := 0
  /-- Bytes received so far. -/
  got : Nat := 0
  /-- Bytes of the last word not yet written to the landing queue. -/
  tail : List Byte := []
  bad : Bool := false
  queue : Nat := 0
  deriving DecidableEq, Repr

/-- A spray context of the responder (12 R493). -/
structure SprayCtx where
  qp : Nat
  base : Nat
  len : Nat
  pkts : Nat
  got : List Nat
  acc : Bool
  imm : Option Nat
  /-- Key of the destination region. -/
  key : Nat := 0
  /-- SNAKs sent since it opened. -/
  snaks : Nat := 0
  /-- Complete: its SPRAY_ACK is to be released at this stroke's commit. -/
  full : Bool := false
  deriving DecidableEq, Repr

/-- A stall of R477: key, page I/O address, whether it arose as responder, and the PSN of the faulting packet. -/
structure Stall where
  key : Nat
  page : Nat
  resp : Bool
  psn : Nat
  deriving DecidableEq, Repr

/-- A queue pair (12 R461 to R465, R503). -/
structure Qp where
  live : Bool := false
  epoch : Nat := 0
  state : QpState := .reset
  /-- The attribute block of R503 as applied. -/
  attr : BitVec 512 := 0
  /-- Requester. -/
  nextPsn : Nat := 0
  sent : List SentReq := []
  retries : Nat := 0
  rnrTries : Nat := 0
  /-- PSN from which the requester resends when its RNR timer runs out. -/
  rnrFrom : Option Nat := none
  /-- Sending rate, in Mb/s; none stands for the port's line rate (R498). -/
  rate : Option Nat := none
  /-- Absolute cycle of the last rate decrease, and of the last CNP sent (R497, R498). -/
  lastCut : Option Nat := none
  lastCnp : Option Nat := none
  /-- Responder. -/
  expPsn : Nat := 0
  nakSent : Bool := false
  /-- Highest PSN landed in this stroke, to be acknowledged at cycle 2,016 (R483). -/
  ackPend : Option Nat := none
  rx : Option RxMsg := none
  /-- The last RESP_DEPTH atomics: PSN and original value (R479). -/
  atomics : List (Nat × Nat) := []
  /-- Spray messages completed: BASE_PSN and packets, newest first (R493). -/
  sprayed : List (Nat × Nat) := []
  stall : Option Stall := none
  /-- Oldest PSN sent and not acknowledged. -/
  una : Nat := 0
  /-- Atomic responses to be released at cycle 2,016: PSN and original value (R482). -/
  atomicPend : List (Nat × Nat) := []
  /-- BASE_PSNs whose SPRAY_ACK is to be released again (R493). -/
  sprayAgain : List Nat := []
  deriving DecidableEq, Repr

/-- A key (12 R473, R474). -/
structure RKey where
  live : Bool := false
  gen : Nat := 0
  /-- The index has been used by a REGISTER. -/
  used : Bool := false
  pd : Nat := 0
  host : Bool := false
  localWrite : Bool := false
  remoteRead : Bool := false
  remoteWrite : Bool := false
  remoteAtomic : Bool := false
  remoteAcc : Bool := false
  start : Nat := 0
  len : Nat := 0
  vaBase : Nat := 0
  table : Nat := 0
  /-- Tamrik's key over a round's accumulator area (R475). -/
  tamrik : Bool := false
  deriving DecidableEq, Repr

/-- A notice that waits for its message to complete (12 R467, R491, R493): the packets of the message that have not
yet landed (a Write) or whose adds have not yet committed (an accumulate). -/
structure AccNotice where
  qp : Nat
  base : Nat
  imm : Nat
  kind : Nat
  len : Nat
  left : Nat
  deriving DecidableEq, Repr

/-- Halyard (12). -/
structure Halyard where
  qps : NMap Qp := []
  pds : List Nat := []
  keys : NMap RKey := []
  /-- GID table: port × 16 + index to (IPV4, GID). -/
  gids : NMap (Bool × Nat) := []
  /-- Fault FIFO, oldest first (R477, R505): key and page. -/
  odp : List (Nat × Nat) := []
  /-- Cached translations: key and page I/O address to host page address. -/
  cache : List (Nat × Nat × Nat) := []
  spray : List SprayCtx := []
  notices : List AccNotice := []
  /-- Packets held from cycle 2,016 (02 R77). -/
  held : List Packet := []
  /-- By how much the claims since POR have advanced every epoch and every generation (15 R577). -/
  epochBase : Nat := 0
  genBase : Nat := 0
  deriving DecidableEq, Repr

/-- LLDP neighbour of a port (11 R426, R451). -/
structure LldpNbr where
  record : List Byte
  /-- Chassis ID and port ID, with their subtypes, by which a sender is told from another. -/
  sender : List Byte
  ttl : Nat
  /-- Absolute cycle at which the frame was received. -/
  since : Nat
  deriving DecidableEq, Repr

/-- An Ethernet port (11). Configuration and counters stand in the register file. -/
structure Port where
  phyUp : Bool := false
  linkUp : Bool := false
  fecLock : Bool := false
  lpiTx : Bool := false
  lpiRx : Bool := false
  rxPaused : Nat := 0
  txPausing : Nat := 0
  storm : Nat := 0
  /-- Buffer occupancy of each priority in KiB (R424). -/
  fill : NMap Nat := []
  nbr : Option LldpNbr := none
  /-- ETH_LLDP_AGE.MULTIPLE (R426). -/
  nbrMultiple : Bool := false
  /-- Settings held in flash (R423): ETH_CFG. -/
  flashCfg : W32 := 0
  deriving DecidableEq, Repr

/-- A candidate or crew member (11 R435 to R441). -/
structure Peer where
  /-- Our ephemeral private key and nonce for the pair, and the peer's. -/
  ephPriv : List Byte := []
  nonce : List Byte := []
  peerEph : List Byte := []
  peerNonce : List Byte := []
  /-- TX stamp of our HELLO and landing stamp of the peer's, in cycles (R438). -/
  stamp : Nat := 0
  attempts : Nat := 0
  attested : Bool := false
  refused : Bool := false
  confirmed : Bool := false
  /-- Stroke offset K (R438). -/
  k : Int := 0
  keyTx : List Byte := []
  keyRx : List Byte := []
  keyConfirm : List Byte := []
  /-- The queue pair of the crew channel, and whether it is connected. -/
  qp : Option Nat := none
  peerQpn : Nat := 0
  connected : Bool := false
  lost : Bool := false
  /-- Port on which its last message came. -/
  port : Nat := 0
  seqTx : Nat := 0
  seqRx : Nat := 0
  deriving DecidableEq, Repr

/-- Phase of HAIL_STS (11 R432, R434). -/
inductive HailPhase where
  | idle | forming | crew
  deriving DecidableEq, Repr

/-- Hail (11 R429 to R445). -/
structure Hail where
  phase : HailPhase := .idle
  formResult : Nat := 0
  crewId : Nat := 0
  expect : Nat := 0
  psk : List Byte := []
  pskWritten : List Nat := []
  /-- Peers whose beacon arrived within 3 s, and all seen since claim, by module id. -/
  seen : List Nat := []
  everSeen : List Nat := []
  /-- Peers whose last beacon carries STATE FORMING and our crew id. -/
  candidates : List Nat := []
  peers : NMap Peer := []
  /-- REPORTs held by the leader: sender, its module ids and offsets. -/
  reports : NMap (List (Nat × Int)) := []
  reported : Bool := false
  /-- Roster: members in order, and the adoption: stroke, value and epoch. -/
  members : List Nat := []
  /-- Own position in the member order. -/
  pos : Nat := 0
  rosterAcks : List Nat := []
  adoptAt : Option Nat := none
  adoptV : Nat := 0
  adoptEpoch : Int := 0
  keyEpoch : Nat := 0
  /-- Key epochs used since claim, by crew id (R436). -/
  epochs : NMap Nat := []
  degraded : Bool := false
  duplicate : Bool := false
  deriving DecidableEq, Repr

/-- The network side: eight ports, Halyard, Hail. -/
structure Net where
  ports : NMap Port := []
  /-- Base MAC address of the module (11 R422), in flash. -/
  mac : Nat := 0
  /-- HAIL_UDP_PORT in flash (R423). -/
  flashUdp : Nat := 48813
  halyard : Halyard := {}
  hail : Hail := {}
  deriving DecidableEq, Repr

end Sys2Proof.Machine
end

