-- ==== Sys2Proof/Machine/StPower.lean ====
section
/-!
DEFINITION. Plain data of reef states and the power brake (17), of power, cooling and SMBus (20), and of Telltale
(19).
-/

namespace Sys2Proof.Machine

/-- Reef states and the power brake (17). -/
structure Reef where
  /-- REEF_STS.STATE: the current state code (R633). -/
  level : Nat := 0
  /-- REEF_STS.TARGET (R636). -/
  target : Nat := 0
  exiting : Bool := false
  /-- Commits in a row at which the conditions of Reef-2, Reef-3 and bare poles have held without a break (R637). -/
  held2 : Nat := 0
  held3 : Nat := 0
  held4 : Nat := 0
  /-- The latency last reported in an LTR message, 0 where none was (R644). -/
  ltrSent : Nat := 0
  /-- REEF_STS.BLOCKER as last found. -/
  blocker : Nat := 0
  /-- The filtered PWR_BRAKE_N is asserted (R645). -/
  brakePin : Bool := false
  /-- The cap is in force, and its causes: the pin or BRAKE_FORCE, the power limiter, the thermal rules (R645,
  20 R705, R714). -/
  cap : Bool := false
  capPin : Bool := false
  capPower : Bool := false
  capThermal : Bool := false
  /-- Register writes that landed in bare poles and wait for the exit (R640), oldest first. -/
  heldWrites : List (Nat × W32) := []
  /-- Doorbell rings held in bare poles: queue, address bits [63:32], and what the fetch of the header returns. -/
  heldRings : List (Nat × W32 × Option (List Byte)) := []
  deriving DecidableEq, Repr

/-- Power, cooling and SMBus (20). -/
structure Power where
  /-- The 42 V input is in range, and the rails are up (R703, R720, R721). -/
  inputOk : Bool := true
  on : Bool := true
  /-- INPUT_V in 10 mV and INPUT_I in 10 mA (R718). -/
  inputV : Nat := 0
  inputI : Nat := 0
  coolantIn : Int := 0
  coolantOut : Int := 0
  plinthTj : Int := 0
  /-- Junctions of the Piers; the stacks' readings stand in HBMC_TEMP. -/
  pierTj : List Int := [0, 0, 0, 0, 0, 0]
  /-- Consecutive readings of REEF_POWER.NOW above 2,600 W (R705). -/
  overs : Nat := 0
  /-- Sensors whose last reading was at or above its trip threshold (R715). -/
  tripNear : List TempSensor := []
  tripped : Bool := false
  /-- Trip log (R719), which survives everything: TRIP_COUNT and TRIP_LAST. -/
  tripCount : Nat := 0
  tripLast : Nat := 0
  /-- FLASH_WP_N is low (R709). -/
  flashWp : Bool := false
  deriving DecidableEq, Repr

/-- The isolated trial of one Ashlar (19 R689). Its maps are by template position p: p, or 64p + a register, or 4p + a direction. -/
structure Trial where
  ashlar : Nat
  rig : Nat
  ord : Nat
  cycle : Nat := 64
  cores : NMap Core := []
  /-- The trial buffer: the words of the Ashlar's own store and of its core stores that the trial wrote, by byte address over 32,
  and whether each is poisoned. -/
  buffer : NMap (W256 × Bool) := []
  /-- Adds to the own store that have not reached their word. -/
  adds : List MAdd := []
  /-- Cycles from which results may be read, the next slot may issue, and a direction may send again. -/
  ready : NMap Nat := []
  next : NMap Nat := []
  sendAt : NMap Nat := []
  /-- Cycles at which the registers in a receive buffer arrive. -/
  arrive : NMap (List Nat) := []
  /-- ISO_STATE: 1 PAUSED, 2 STALLED, 3 ENDED; the first stalled slot and position. -/
  state : Nat := 1
  stalled : Option (Nat × Nat) := none
  deriving DecidableEq, Repr

/-- Telltale (19). Comparators, watch windows, memory registers and counters stand in the register file. -/
structure Telltale where
  /-- The TAP: instruction register, boundary register and the bits last captured (R671 to R674). -/
  ir : Nat := 2
  boundary : Nat := 0
  trst : Bool := false
  session : Bool := false
  /-- A token was accepted for the next session (R678). -/
  unlocked : Bool := false
  /-- The stroke at whose commit an accepted unlock starts its wipe (R684). -/
  unlockAt : Option Nat := none
  unlockPending : Bool := false
  unlockResult : Nat := 0
  halted : Bool := false
  stepping : Bool := false
  haltCause : Nat := 0
  hit : Nat := 0
  /-- The stroke after whose commit a requested halt takes effect, with its cause and hit (R686, R692). -/
  haltAt : Option (Nat × Nat × Nat) := none
  /-- FORCE was written with the halt (R687). -/
  force : Bool := false
  /-- The module halted while in a crew, and leaves it at RESUME or STEP (R687). -/
  leaveCrew : Bool := false
  /-- The result register: STATUS, ADDR and data of the last request (R676). -/
  resStatus : Nat := 0
  resAddr : Nat := 0
  resData : W32 := 0
  /-- The token registers (R697), which read as 0. -/
  token : NMap W32 := []
  trial : Option Trial := none
  /-- DEBUG_ENABLED of attestation statements: set by an opening until all memory is next wiped (R679). -/
  debugEnabled : Bool := false
  deriving DecidableEq, Repr

end Sys2Proof.Machine
end

