-- ==== Sys2Proof/Machine/StRound.lean ====
section
/-!
DEFINITION. Plain data of the rounds (01), Muster (06), the Keystone (07), ciphertext rounds and the CIPHER
engine (08).
-/

namespace Sys2Proof.Machine

/-- Round states (01 R44); a block that holds no round has none of them. -/
inductive RState where
  | none | open | collect | close | recover | release | retired | faulted
  deriving DecidableEq, Repr

/-- State code (R44). -/
def RState.code : RState → Nat
  | .none => 0 | .open => 1 | .collect => 2 | .close => 3 | .recover => 4 | .release => 5 | .retired => 6 | .faulted => 7

/-- ENTRY_STATE of a roster entry (06 R239). -/
inductive EState where
  | notEnrolled | enrolled | dropped
  deriving DecidableEq, Repr

/-- A roster entry (06 R239). `dropStroke` none stands for all ones. -/
structure REntry where
  next : Nat := 0
  estate : EState := .notEnrolled
  outcome : Nat := 0
  finalSeen : Bool := false
  retracted : Bool := false
  envelope : Bool := false
  home : Nat := 0
  window : W64 := 0
  admitted : Nat := 0
  dropStroke : Option Nat := none
  deriving DecidableEq, Repr

/-- A stored share (07 R288, R305): shares of `owner` held by `holder`, in order of acceptance. -/
structure Share where
  owner : Nat
  holder : Nat
  self : Nat
  pair : Nat
  deriving DecidableEq, Repr

/-- A needed secret (07 R291): the self seed or the pair root of a slot. -/
structure SecretId where
  root : Bool
  slot : Nat
  deriving DecidableEq, Repr

/-- A reconstructed secret (07 R293): its value, the stroke of reconstruction, the shares it used as (point,
value) pairs, and the position in the share list up to which later shares were tested. -/
structure Secret where
  id : SecretId
  value : Nat
  stroke : Nat
  used : List (Nat × Nat)
  tested : Nat
  deriving DecidableEq, Repr

/-- One cancellation term (07 R296): the run of chunks, the key, and how it is applied. -/
structure Term where
  seed : Nat
  first : Nat
  last : Nat
  slot : Nat
  peer : Nat
  pair : Bool
  add : Bool
  deriving DecidableEq, Repr

/-- A partial decryption of a ciphertext (08 R348 to R350), in order of acceptance. -/
structure Partial where
  member : Nat
  ct : Nat
  coeffs : List Nat
  /-- Stroke of acceptance. -/
  accepted : Nat
  deriving DecidableEq, Repr

/-- A chunk held in the assembly area of an ingress rig of a GLWE round (08 R344). -/
structure Held where
  rig : Nat
  slot : Nat
  chunk : Nat
  data : List Nat
  bad : Bool
  deriving DecidableEq, Repr

/-- A crew decision a member holds (11 R441, R442). -/
structure Decision where
  kind : Nat
  reason : Nat
  count : Nat
  named : Nat
  slots : List Nat := []
  /-- Members that have acknowledged it; at the leader. -/
  acked : List Nat := []
  applied : Bool := false
  deriving DecidableEq, Repr

/-- A round block (01, 06 R271, 07 R311). -/
structure Round where
  state : RState := .none
  reason : Nat := 0
  crew : Bool := false
  published : Bool := false
  /-- Header and body of the descriptor copy (01 R33), and whether a word past the header was uncorrectable. -/
  desc : List Byte := []
  descBad : Bool := false
  id : Nat := 0
  /-- Stroke at whose commit the round entered OPEN. -/
  openAt : Nat := 0
  setup : Bool := false
  /-- Stroke in which setup completed (15 R574). -/
  setupAt : Nat := 0
  /-- Stroke at whose commit the round left COLLECT. -/
  leftCollect : Option Nat := none
  /-- Stroke at whose commit the round left RECOVER. -/
  leftRecover : Option Nat := none
  footprint : Nat := 0
  accBase : Nat := 0
  resBase : Nat := 0
  /-- Stroke of the allocation of the result area (07 R312). -/
  allocAt : Nat := 0
  roster : NMap REntry := []
  /-- Admitted counts (06 R256), as the vote of the three copies gives them. -/
  counts : NMap Nat := []
  retractions : List (Nat × Nat) := []
  /-- Drop marks accepted and not yet applied: the commit's stroke and the listed slots (06 R253). -/
  dropPend : List (Nat × List Nat) := []
  /-- Reasons that have arisen for this stroke's commit (01 R46). -/
  reasons : List Nat := []
  /-- An abort takes effect at this stroke's commit. -/
  abortNow : Bool := false
  /-- Ingress queues (06 R260) and the rigs that consume them. -/
  ingress : List Nat := []
  ingressRigs : List Nat := []
  /-- Rigs for mask expansion, noise and release. -/
  workRigs : List Nat := []
  /-- The envelope feed queue (07 R725), the mask feed queues (07 R296) and the noise feed queue. -/
  envQueue : Option Nat := none
  maskQueues : List Nat := []
  noiseQueue : Option Nat := none
  held : List Held := []
  /-- Level of the sum of each ciphertext (08 R345). -/
  ctLevel : NMap Nat := []
  /-- The round X25519 key pair (07 R282). -/
  keyPriv : Option (List Byte) := none
  rpk : List Byte := []
  keyDestroyed : Bool := false
  shares : List Share := []
  planBuilt : Bool := false
  needed : List SecretId := []
  secrets : List Secret := []
  /-- Terms of the plan not yet issued, each as its runs, with the stroke of the reconstruction (07 R297); the
  terms issued in stroke `issuedAt`. -/
  toIssue : List (Nat × List Term) := []
  issuedAt : Nat := 0
  issuedCount : Nat := 0
  reconDone : Bool := false
  cancelDone : Bool := false
  /-- Noise drawn by chunk, chunks whose noise is released, and those whose packet is enqueued (07 R302). -/
  noiseDrawn : NMap (List Nat) := []
  noiseDone : List Nat := []
  noiseSent : List Nat := []
  resultWritten : Bool := false
  /-- Ciphertext rounds: accepted partial decryptions, combined ciphertexts and their decoded words. -/
  partials : List Partial := []
  combined : NMap (List Nat) := []
  /-- KEYSTONE counters of the round (07 R311). -/
  envAccepted : Nat := 0
  secretsNeeded : Nat := 0
  secretsDone : Nat := 0
  unreachable : Nat := 0
  mismatch : Nat := 0
  /-- Crew (06 R262 to R264, 07 R305): position and size, descriptor digests matched, members whose counts and
  whose statuses have arrived, admitted chunk sets and retractions of other members' slots, members that
  reported completion, decisions held. -/
  pos : Nat := 0
  size : Nat := 1
  digests : List Nat := []
  countsFrom : List Nat := []
  statusFrom : List Nat := []
  statuses : NMap Nat := []
  chunkSets : NMap (Nat × W64) := []
  doneFrom : List Nat := []
  exchanged : Bool := false
  decisions : List Decision := []
  deriving DecidableEq, Repr

/-- Role of a queue pair in a round (06 R242). -/
inductive BindRole where
  | contribution | envelope
  deriving DecidableEq, Repr

/-- A binding or the role left of one (06 R242, R243). -/
structure Bind where
  round : Option Nat
  role : BindRole
  landing : Nat
  deriving DecidableEq, Repr

/-- A refusal report not yet delivered (06 R250). -/
structure Report where
  round : Nat
  slot : Nat
  chunk : Nat
  tag : Nat
  reason : Nat
  stroke : Nat
  lostBefore : Bool := false
  deriving DecidableEq, Repr

/-- Muster and the Keystone (06, 07). -/
structure Rounds where
  blocks : NMap Round := []
  /-- High-water round ids (01 R35): crew id, 0 for the module alone, to round id. -/
  highWater : NMap Nat := []
  /-- Bindings by queue-pair index. -/
  binds : NMap Bind := []
  /-- Bindings that UNBIND ended while their landing queue still holds items (06 R242). -/
  ended : List (Nat × Bind) := []
  reports : NMap (List Report) := []
  /-- Queue pairs whose next delivered report carries LOST_BEFORE (06 R252). -/
  lost : List Nat := []
  deriving DecidableEq, Repr

/-- A registered key set (08 R336, R337). -/
structure KeySet where
  addr : Nat
  param : Nat
  content : Nat
  levelMax : Nat
  len : Nat
  k : Nat
  logn : Nat
  plainLog : Nat
  modIndex : Nat
  deriving DecidableEq, Repr

/-- A CIPHER request performed whose completion word is still to be enqueued (08 R323). -/
structure CipherDone where
  cookie : Nat
  status : Nat
  level : Nat
  refreshes : Nat
  /-- Address of a status record, whose STROKE the completing commit writes (R341). -/
  record : Option Nat
  deriving DecidableEq, Repr

/-- The CIPHER engine (08 R321, R341). -/
structure CipherEng where
  loaded : Bool := false
  /-- Courses given (R321). -/
  courses : Nat := 0
  /-- Sealed object area. -/
  areaBase : Nat := 0
  areaLen : Nat := 0
  reqQueue : Nat := 0
  doneQueue : Nat := 0
  version : W32 := 0
  keySets : NMap KeySet := []
  /-- Replica held by each Course given (08 R339): the key set id and the BSK chunks, headers included. -/
  replica : NMap (Nat × List Byte) := []
  events : Nat := 0
  refreshes : Nat := 0
  autoRefreshes : Nat := 0
  exhausted : Nat := 0
  poisonIn : Nat := 0
  keyMismatch : Nat := 0
  vaultFaults : Nat := 0
  refused : Nat := 0
  /-- Requests performed whose completion words are still to be enqueued, oldest first (08 R323). -/
  completions : List CipherDone := []
  deriving DecidableEq, Repr

/-- A WEIGHTS_IO request performed: its outcome (R588), and the range it wrote. -/
structure WioDone where
  cookie : Nat
  status : Nat
  base : Nat
  len : Nat
  deriving DecidableEq, Repr

/-- The WEIGHTS_IO function (15 R581 to R583). -/
structure WeightsIo where
  loaded : Bool := false
  version : W32 := 0
  reqQueue : Nat := 0
  doneQueue : Nat := 0
  /-- Requests performed whose completion is still to come, oldest first (R583). -/
  completions : List WioDone := []
  deriving DecidableEq, Repr

end Sys2Proof.Machine
end

