-- ==== Sys2Proof/Machine/StTenancy.lean ====
section
/-!
DEFINITION. Plain data of tenancy and guard modes (15).
-/

namespace Sys2Proof.Machine

/-- Tenancy (15 R576 to R590). -/
structure Tenancy where
  claimed : Bool := false
  /-- A claim's HBM fill is in progress (R577). -/
  claiming : Bool := false
  /-- A release is in progress (R584). -/
  scrubbing : Bool := false
  guardC : Bool := false
  guardW : Bool := false
  /-- Interleave mode in force: false PIER, true MODULE (13 R510). -/
  moduleMode : Bool := false
  /-- CLAIM_DIGEST and TENANT_RIG_KEY of the claim in force (R576, R577). -/
  claimDigest : List Byte := List.replicate 32 0
  rigKey : List Byte := List.replicate 32 0
  deriving DecidableEq, Repr

end Sys2Proof.Machine
end

