-- ==== Sys2Proof/Machine/State.lean ====
section
/-!
DEFINITION. The state of the module: plain data, every piece of state the spec gives the block, and the
queue of waiting commands. `State.reset` is the state right after POR.
-/

namespace Sys2Proof.Machine

/-- The state of the block. -/
structure State where
  /-- Register file: BAR0 address to value, unlisted registers at their reset value (00 R14 to R18). -/
  regs : NMap W32 := []
  /-- Latched values of the companion _HI registers, by BAR0 address (16 R598). -/
  hiLatch : NMap W32 := []
  /-- BAR0 bases of the pages whose ERR_CAPT holds an error (16 R612). -/
  captHeld : List Nat := []
  /-- Memory, by byte address: module addresses (13 R508) and above 2^48 the stores that have none. -/
  mem : List Host.Cell := []
  /-- Stored check symbols of a word XOR the valid ones (13 R512), by byte address over 32. -/
  ecc : NMap W32 := []
  stroke : StrokeUnit := {}
  fabric : Fabric := {}
  cores : NMap Core := []
  spill : Spill := {}
  rounds : Rounds := {}
  cipher : CipherEng := {}
  weights : WeightsIo := {}
  net : Net := {}
  pcie : Pcie := {}
  boot : Boot := {}
  ten : Tenancy := {}
  keep : Keep := {}
  reef : Reef := {}
  power : Power := {}
  tt : Telltale := {}
  bosun : CmdSt := {}
  muster : CmdSt := {}
  halyardCmd : CmdSt := {}
  keepCmd : CmdSt := {}
  spillCmd : NMap CmdSt := []
  mtCmd : CmdSt := {}
  ttMem : CmdSt := {}
  /-- The model's own counter of free values drawn. -/
  free : Nat := 0
  /-- What the block has sent, newest first. -/
  out : List Out := []
  /-- Commands waiting, first in, first out. -/
  pending : List Instr := []
  deriving DecidableEq, Repr

/-- Why the machine stops. -/
inductive Fault where
  /-- The command names a unit the module does not have: an index out of range (03 R112, R113). Raised by
  every meaning that takes a unit index. Safe: no such command can be given to the hardware. -/
  | noUnit
  /-- The slot word is invalid (04 R181): an image holding it is never loaded. Raised by the slot
  meanings. Safe. -/
  | invalidSlot
  /-- The operands describe an event that no module can produce, such as a choice of Tamrik's outside the
  bounds the manual gives it. Raised by meanings whose operands carry such a choice. Safe: no such event
  exists. -/
  | badEvent
  deriving DecidableEq, Repr

/-- Why a command has no meaning. -/
inductive Refusal where
  /-- Raised by `exec` for a command that has no meaning yet. Safe. -/
  | notModelled (mnemonic : String)
  deriving DecidableEq, Repr

/-- The outcome of a command. -/
abbrev Res := Host.Outcome State Fault Refusal

/-- The state right after POR (00 R17, 16 R631). -/
def State.reset : State := {}

end Sys2Proof.Machine
end

