-- ==== Sys2Proof/Machine/Ops.lean ====
section
/-!
DEFINITION. The named operations over registers, events, vectors and commands in progress that every
meaning is written in.
-/

namespace Sys2Proof.Machine

/-- The stored value of a register. -/
def State.reg (s : State) (p : Page) (i off : Nat) : W32 :=
  s.regs.get (regReset (regAddr p i off)) (regAddr p i off)

/-- Stores a register's value; the file keeps its canonical form. -/
def State.setReg (s : State) (p : Page) (i off : Nat) (v : W32) : State :=
  { s with regs := s.regs.put (regReset (regAddr p i off)) (regAddr p i off) v }

/-- Adds to a saturating counter register. -/
def State.bumpBy (s : State) (p : Page) (i off n : Nat) : State :=
  s.setReg p i off (satAdd (s.reg p i off) n)

/-- Counts one in a saturating counter register. -/
def State.bump (s : State) (p : Page) (i off : Nat) : State := s.bumpBy p i off 1

/-- Adds to a 64-bit counter held in a register pair; it saturates. -/
def State.bump64 (s : State) (p : Page) (i off n : Nat) : State :=
  let v := min (2 ^ 64 - 1) ((s.reg p i off).toNat + 2 ^ 32 * (s.reg p i (off + 4)).toNat + n)
  (s.setReg p i off (BitVec.ofNat 32 v)).setReg p i (off + 4) (BitVec.ofNat 32 (v / 2 ^ 32))

/-- Sets a register pair to a 64-bit value. -/
def State.setPair (s : State) (p : Page) (i off v : Nat) : State :=
  (s.setReg p i off (BitVec.ofNat 32 v)).setReg p i (off + 4) (BitVec.ofNat 32 (v / 2 ^ 32))

/-- The 64-bit value of a register pair. -/
def State.getPair (s : State) (p : Page) (i off : Nat) : Nat :=
  (s.reg p i off).toNat + 2 ^ 32 * (s.reg p i (off + 4)).toNat

/-- A free value of the manual, and the state with the counter moved on (log entry 1). -/
def State.draw (s : State) : Nat × State :=
  (Config.freeValue s.free, { s with free := s.free + 1 })

/-- A memory request to the host other than an MSI-X message (16 R594). -/
def Out.hostRequest : Out → Bool
  | .hostRead _ _ => true
  | .hostWrite _ _ => true
  | .hostPoison _ _ => true
  | _ => false

/-- Sends something out of the block; a memory request to the host is not sent while Bus Master Enable is 0 (16 R594). -/
def State.emit (s : State) (o : Out) : State :=
  if o.hostRequest && !s.pcie.bme then s else { s with out := o :: s.out }

/-- Logs an uncorrectable error in AER: its bit of the status register (16 R608). -/
def State.logAer (s : State) (bit : Nat) : State :=
  { s with pcie := { s.pcie with aerStatus := s.pcie.aerStatus ||| BitVec.ofNat 32 (2 ^ bit) } }

/-- Moves time to a fabric cycle of the current stroke; the cycle stands still while the generator is stopped or held (02
R90, R93). -/
def State.atCycle (s : State) (c : Nat) : State :=
  if s.tt.halted || !s.stroke.running then s else { s with stroke := { s.stroke with cycle := c } }

/-! ### Vectors (16 R605 to R607) -/

/-- The condition of a page (R605). -/
def State.pageCond (s : State) (p : Page) (i : Nat) : Bool :=
  decide (s.reg p i 0x14 &&& s.reg p i 0x18 ≠ 0)

/-- The pages of a type whose EVT_LATCH is not 0. -/
def State.latchedPages (s : State) (p : Page) : List Nat :=
  (s.regs.filter fun e => decide (p.base ≤ e.1 ∧ e.1 < p.base + p.count * 0x1000 ∧ e.1 % 0x1000 = 0x14)).map
    fun e => (e.1 - p.base) / 0x1000

/-- The condition of the vector of a page: for the summary vectors 65 to 67, of any page of the type. -/
def State.vectorCond (s : State) (p : Page) (i : Nat) : Bool :=
  match p with
  | .course | .vault | .ashlar => (s.latchedPages p).any (fun j => s.pageCond p j)
  | _ => s.pageCond p i

/-- Vectors other than vector 0 are held (R607). -/
def State.vectorsHeld (s : State) : Bool := decide (s.boot.stage ≠ .ready) || s.ten.scrubbing

/-- A vector is to be sent: its message goes out, or its pending bit is set (R606, R607). -/
def State.sendVector (s : State) (v : Nat) (special : Bool := false) : State :=
  let ent := s.pcie.msix.get {} v
  let held := s.vectorsHeld && !special
  if held || ent.masked || s.pcie.funcMask || !s.pcie.msixEn || !s.pcie.bme then
    { s with pcie := { s.pcie with pba := if s.pcie.pba.contains v then s.pcie.pba else v :: s.pcie.pba } }
  else
    { s with out := .msix v :: s.out, pcie := { s.pcie with pba := s.pcie.pba.filter (· ≠ v) } }

/-- Latches events of a page and sends the page's vector when its condition rises (R606). GLOBAL's READY
and SCRUB_DONE are sent under R607 whatever EVT_ENABLE holds, during the times it names. -/
def State.latchEvt (s : State) (p : Page) (i : Nat) (mask : Nat) : State :=
  let m := BitVec.ofNat 32 (mask % 2 ^ p.evtBits)
  let before := s.vectorCond p i
  let s' := s.setReg p i 0x14 (s.reg p i 0x14 ||| m)
  if s'.vectorCond p i && !before then s'.sendVector (p.vector i) else s'

/-! ### Errors of a page (16 R612, 13 R534) -/

/-- Pages whose ERR_CAPT follows 13 R534. -/
def memCapt : Page → Bool
  | .hbmc => true | .mortar => true | .ashlar => true | _ => false

/-- The area that holds an address. -/
def State.areaOf (s : State) (a : Nat) : Option Area :=
  s.fabric.areas.find? fun r => decide (r.base ≤ a ∧ a < r.base + r.len)

/-- The address and syndrome a capture of 13 R534 holds: for a word in a SEALED or WEIGHTS region the address
rounded down to its page, and no syndrome while a guard mode is set. -/
def State.redact (s : State) (addr : Nat) (syndrome : W32) : Nat × W32 :=
  match s.areaOf addr with
  | some r =>
    if r.tag = 2 ∨ r.tag = 3 then
      (addr / 0x200000 * 0x200000, if s.ten.guardC || s.ten.guardW then 0 else syndrome)
    else (addr, syndrome)
  | none => (addr, syndrome)

/-- Writes the capture of 13 R534 when it is free: EVT_LATCH of the page reads 0. -/
def State.captMem (s : State) (p : Page) (i addr kind requester : Nat) (syndrome : W32) : State :=
  if s.reg p i 0x14 ≠ 0 then s
  else
    let x := s.redact addr syndrome
    (((s.setReg p i 0x24 (BitVec.ofNat 32 x.1)).setReg p i 0x28
        (BitVec.ofNat 32 (x.1 / 2 ^ 32 % 2 ^ 16 + kind * 2 ^ 16 + requester * 2 ^ 20))).setReg p i 0x2C
        x.2).setReg p i 0x30 (BitVec.ofNat 32 s.stroke.now)

/-- Writes the capture of 16 R612 when it is free. -/
def State.captReg (s : State) (p : Page) (i off kind : Nat) (data : W32) : State :=
  if s.captHeld.contains (p.base + i * 0x1000) then s
  else
    let s1 := (((s.setReg p i 0x24 (BitVec.ofNat 32 (off % 2 ^ 12 + kind * 2 ^ 12))).setReg p i 0x28
        data).setReg p i 0x2C (BitVec.ofNat 32 s.stroke.now)).setReg p i 0x30
        (BitVec.ofNat 32 (s.stroke.now / 2 ^ 32))
    { s1 with captHeld := (p.base + i * 0x1000) :: s1.captHeld }

/-- Counts an error of a page in its ERR_COUNT and captures it: KIND as R612 gives (R612), or KIND 8 with
address 0 on the pages of R534. `requester` is R534's. -/
def State.pageError (s : State) (p : Page) (i off kind : Nat) (data : W32) (requester : Nat := 0) : State :=
  let s1 := if memCapt p then s.captMem p i 0 8 requester 0 else s.captReg p i off kind data
  s1.bump p i 0x34

/-- Counts an error that concerns a memory address. -/
def State.memError (s : State) (p : Page) (i addr kind requester : Nat) (syndrome : W32) : State :=
  (s.captMem p i addr kind requester syndrome).bump p i 0x34

/-! ### Landing of commands (01 R36, 00 R722) -/

/-- The stroke at whose commit a command landing now takes effect (R36): the current one before
cycle 1,920, otherwise the next. -/
def State.effStroke (s : State) : Nat :=
  if s.stroke.cycle < 1920 then s.stroke.now else s.stroke.now + 1

/-- Rounds a Boolean to a bit. -/
def b2n (b : Bool) : Nat := if b then 1 else 0

/-- The module holds in LC_HOLD or TAMPER_LOCK (14 R560, 16 R599). -/
def State.lcHold (s : State) : Bool :=
  match s.keep.lc with
  | .blank => true
  | .scrapped => true
  | .tamperLock => true
  | _ => false

/-- The state in which every page is in service (16 R599); a fatal fault leaves the pages of BOOT_STAGE FAILED
(18 R661). -/
def State.inService (s : State) : Bool :=
  decide (s.boot.stage = .ready) && !s.ten.scrubbing && !s.lcHold && decide (s.boot.fatal = 0) && s.power.on

/-- Absolute fabric cycle. -/
def State.cycles (s : State) : Nat := 2048 * s.stroke.now + s.stroke.cycle

/-- The fabric clock is gated for the whole stroke: the power cap (17 R645), or a reef state in which no rig runs (R92). -/
def State.gated (s : State) : Bool :=
  decide (s.reef.level ≥ 2) || (s.reef.cap && decide (s.stroke.now % 5 ≠ 0 ∧ s.stroke.now % 5 ≠ 2))

/-- The generator runs strokes: it is running, not held by a halt, and the module is not in bare poles (R90, R92, R93). -/
def State.generating (s : State) : Bool := s.stroke.running && s.power.on && !s.tt.halted && decide (s.reef.level ≠ 4)

/-- A Vault or Pier DMA request may start: strokes run, and this one is not gated (17 R645, 19 R686). -/
def State.enginesStart (s : State) : Bool := s.generating && !s.gated

/-- Fabric cycles of a microsecond (02 R104: 2.000 GHz). -/
def usCycles : Nat := 2000

/-! ### Wake events (17 R639) -/

/-- Codes of pages whose accesses start no exit (17 R639, R640). -/
def quietPage : Page → Bool
  | .global => true | .reef => true | .keep => true | .pcie => true | _ => false

/-- The dwells of every state deeper than Reef-1 start again (R637). -/
def State.breakDwells (s : State) : State := { s with reef := { s.reef with held2 := 0, held3 := 0, held4 := 0 } }

/-- A request packet has arrived: the dwells of Reef-3 and bare poles start again (R637). -/
def State.requestSeen (s : State) : State := { s with reef := { s.reef with held3 := 0, held4 := 0 } }

/-- An exit from a reef state starts, for a cause (R636, R639); WAKE_N is driven where R641 says. -/
def State.startExit (s : State) (cause : Nat) : State :=
  if s.reef.level = 0 ∨ s.reef.exiting then s
  else
    let s0 := if cause = 1 ∨ cause = 9 then s else s.breakDwells
    let s1 := ({ s0 with reef := { s0.reef with exiting := true } } : State).setReg .reef 0 0x4C
      (BitVec.ofNat 32 (cause + 16 * s.reef.level))
    if (cause = 4 ∨ cause = 5) ∧ s.reef.level ≥ 3 then s1.emit .wakeN else s1

/-- A wake event that leaves the states from `lo` to `hi`. -/
def State.wake (s : State) (cause lo hi : Nat) : State :=
  if lo ≤ s.reef.level ∧ s.reef.level ≤ hi then s.startExit cause else s

/-- The page is in service (16 R599, 18 R661). -/
def State.serves (s : State) (p : Page) : Bool :=
  if !s.power.on then false
  else if s.lcHold then decide (p = .global ∨ p = .keep)
  else match s.boot.stage with
    | .failed => decide (p = .global ∨ p = .reef ∨ p = .keep ∨ p = .pcie ∨ p = .bosun)
    | .ready => !s.ten.scrubbing || decide (p = .global ∨ p = .reef ∨ p = .keep)
    | _ => decide (p = .global ∨ p = .reef ∨ p = .keep)

/-- A write of `v` to register `off` of a page while the page is in service (16 R599, 17 R639): elsewhere it is discarded. In
bare poles a write to a page that starts an exit waits for its end (17 R640). -/
def State.pageWrite (s : State) (p : Page) (i off : Nat) (v : W32) (f : State → State) : State :=
  if !s.serves p then s
  else if quietPage p then f s
  else if s.reef.level = 4 then
    let s1 := s.startExit 2
    { s1 with reef := { s1.reef with heldWrites := s1.reef.heldWrites ++ [(regAddr p i off, v)] } }
  else f (s.wake 2 2 4)

/-- The same for a write over the host link: in D3hot every request other than a configuration request is unsupported (R593). -/
def State.onPage (s : State) (p : Page) (i off : Nat) (v : W32) (f : State → State) : State :=
  if s.pcie.d3hot then s.logAer 20 else s.pageWrite p i off v f

/-- Zeroises the key slots that satisfy `p`, other than by UNLOAD (14 R552). -/
def State.zeroiseSlots (s : State) (p : Nat → KeySlot → Bool) : State :=
  if s.keep.slots.any fun e => p e.1 e.2 then
    ({ s with keep := { s.keep with slots := s.keep.slots.filter fun e => !p e.1 e.2 } } : State).latchEvt .keep 0 16
  else s

/-- Draws `n` bytes of a random bit generator (14 R547, log entry 1). -/
def State.drawBytes (s : State) (n : Nat) : List Byte × State :=
  let d := s.draw
  (toLe n (d.1 % 2 ^ (8 * n)), d.2)

end Sys2Proof.Machine
end

