-- ==== Sys2Proof/Machine/TtHooks.lean ====
section
/-!
DEFINITION. Telltale's comparators and watch windows (19 R691 to R693): what an event of the machine matches, and the halt it
asks for.
-/

namespace Sys2Proof.Machine

/-- A halt after the commit of the current stroke is asked for by a match: the earliest stroke stands, and in one stroke the
lowest-numbered comparator or window (R692). -/
def State.matchHalt (s : State) (cause hit : Nat) : State :=
  let now := s.stroke.now
  let keep := match s.tt.haltAt with
    | some (n, c, h) => decide (n < now) || (decide (n = now ∧ (c = 2 ∨ c = 3) ∧ h ≤ hit))
    | none => false
  if keep then s else { s with tt := { s.tt with haltAt := some (now, cause, hit) } }

/-- Comparator `b` is armed with the kind. -/
def State.bpArmed (s : State) (b kind : Nat) : Bool :=
  let c := (s.reg .telltale 0 (0x100 + 16 * b)).toNat
  c.testBit 0 && decide (bits c 1 2 = kind)

/-- Comparator `b` matches: it counts, and with ACTION HALT asks for a halt (R692). -/
def State.bpHit (s : State) (b : Nat) : State :=
  let s1 := (s.bump .telltale 0 (0x10C + 16 * b)).latchEvt .telltale 0 2
  if (s.reg .telltale 0 (0x100 + 16 * b)).toNat.testBit 3 then s1 else s1.matchHalt 2 b

/-- Every comparator of a kind that satisfies `f` of its number matches. -/
def State.bpMatch (s : State) (kind : Nat) (f : Nat → Bool) : State :=
  ((List.range 16).filter fun b => s.bpArmed b kind && f b).foldl (fun (t : State) b => t.bpHit b) s

/-- KIND STROKE: the current stroke. -/
def State.bpStroke (s : State) : State :=
  s.bpMatch 0 fun b => decide (s.getPair .telltale 0 (0x104 + 16 * b) = s.stroke.now)

/-- KIND QUEUE: event `bit` of a queue. -/
def State.bpQueue (s : State) (n bit : Nat) : State :=
  s.bpMatch 1 fun b =>
    (s.reg .telltale 0 (0x100 + 16 * b)).toNat.testBit (4 + bit) &&
    decide ((s.reg .telltale 0 (0x104 + 16 * b)).toNat % 2 ^ 14 = n)

/-- KIND SLOT: the issue of a sequence slot at a template position on an Ashlar. -/
def State.bpSlot (s : State) (ashlar slot pos : Nat) : State :=
  s.bpMatch 2 fun b =>
    let lo := (s.reg .telltale 0 (0x104 + 16 * b)).toNat
    let hi := (s.reg .telltale 0 (0x108 + 16 * b)).toNat
    decide (bits lo 0 13 = ashlar ∧ bits lo 13 9 = slot) && (hi.testBit 6 || decide (hi % 64 = pos))

/-- Base address of a watch window (R697). -/
def State.wwBase (s : State) (w : Nat) : Nat :=
  (s.reg .telltale 0 (0x200 + 16 * w)).toNat / 32 * 32 + 2 ^ 32 * ((s.reg .telltale 0 (0x204 + 16 * w)).toNat % 2 ^ 16)

/-- Length of a watch window. -/
def State.wwLen (s : State) (w : Nat) : Nat := (s.reg .telltale 0 (0x208 + 16 * w)).toNat

/-- Watch window `w` matches for a requester: the first match records it (R693). -/
def State.wwHit (s : State) (w req : Nat) : State :=
  let c := s.reg .telltale 0 (0x20C + 16 * w)
  let s1 := if bits c.toNat 5 4 = 0 then s.setReg .telltale 0 (0x20C + 16 * w) (c ||| BitVec.ofNat 32 (req * 32)) else s
  let s2 := s1.latchEvt .telltale 0 4
  if c.toNat.testBit 4 then s2 else s2.matchHalt 3 (16 + w)

/-- An access to `n` bytes at `a` by requester `req` of 13 R534: kind 1 a read, 2 a write, 3 a Mortar add (R693). -/
def State.watched (s : State) (a n kind req : Nat) : State :=
  ((List.range 8).filter fun w =>
    let c := (s.reg .telltale 0 (0x20C + 16 * w)).toNat
    c.testBit 0 && c.testBit kind && decide (a < s.wwBase w + s.wwLen w ∧ s.wwBase w < a + n ∧ a < 2 ^ 48)).foldl
    (fun (t : State) w => t.wwHit w req) s

end Sys2Proof.Machine
end

