-- ==== Sys2Proof/Machine/Mem.lean ====
section
/-!
DEFINITION. Memory: the address map (13 R508, R509), reads with correction and poison (R513 to R519),
writes (R518), Mortar beds in front of memory (05 R216, R217) and region tags (03 R143).
-/

namespace Sys2Proof.Machine

/-- What an unlisted byte reads as: 0x00, the contents every fill leaves (R524; log entry 2). -/
def memDefault : Byte := 0

/-- The canonical form of a memory. -/
def Memory.wf (m : List Host.Cell) : Bool := NMap.wf memDefault m

/-- Reads one byte as stored. -/
def memGet (m : List Host.Cell) (a : Nat) : Byte := NMap.get m memDefault a

/-- Writes one byte. -/
def memPut (m : List Host.Cell) (a : Nat) (v : Byte) : List Host.Cell := NMap.put m memDefault a v

/-- Reads `n` bytes as stored. -/
def memRead (m : List Host.Cell) (a n : Nat) : List Byte := (List.range n).map fun k => memGet m (a + k)

/-- Writes bytes at an address. -/
def memWrite (m : List Host.Cell) (a : Nat) (l : List Byte) : List Host.Cell :=
  match l with
  | [] => m
  | b :: r => memWrite (memPut m a b) (a + 1) r

/-- Keys of the stores that have no module address (R508): core stores and Vault buffers. -/
def coreStoreBase (key : Nat) : Nat := 2 ^ 48 + key * 8192
def vaultBufBase (course : Nat) : Nat := 2 ^ 50 + course * 0x200000

/-- Where an address lies. -/
inductive Place where
  | hbm (pc off : Nat)
  | ashlar (a off : Nat)
  | plinth
  | coreStore
  | vaultBuf (course : Nat)
  | nothing
  deriving DecidableEq, Repr

/-- Pseudo-channel and offset of an HBM address (R509). -/
def hbmPlace (moduleMode : Bool) (a : Nat) : Nat × Nat :=
  let o := a % 4096
  if moduleMode then
    let b := a / 4096
    (b % 384, b / 384 * 4096 + o)
  else
    let p := a / 0x3000000000
    let b := a % 0x3000000000 / 4096
    (64 * p + b % 64, b / 64 * 4096 + o)

/-- The address map (R508, 03 R119); unbacked window bytes hold nothing. -/
def placeOf (moduleMode : Bool) (a : Nat) : Place :=
  if a < 0x12000000000 then
    let h := hbmPlace moduleMode a
    .hbm h.1 h.2
  else if a < 0x20000000000 then .nothing
  else if a < 0x20960000000 then
    let x := a - 0x20000000000
    if x % 0x800000 < 0x600000 then .ashlar (x / 0x800000) (x % 0x800000) else .nothing
  else if a < 0x30000000000 then .nothing
  else if a < 0x30100000000 then .plinth
  else if a < 2 ^ 48 then .nothing
  else if a < 2 ^ 50 then .coreStore
  else .vaultBuf ((a - 2 ^ 50) / 0x200000)

/-- Base address of an Ashlar's store window (03 R118). -/
def ashlarBase (a : Nat) : Nat := 0x20000000000 + a * 0x800000

/-- The place of an address in this state. -/
def State.place (s : State) (a : Nat) : Place := placeOf s.ten.moduleMode a

/-- The tag of an address (R143): its area's, RESERVED in granule 95 of an Ashlar store (03 R119), and FREE
elsewhere, also where nothing is held (R508). -/
def State.tagAt (s : State) (a : Nat) : Nat :=
  match s.areaOf a with
  | some r => r.tag
  | none => match s.place a with
    | .ashlar _ off => if off / 0x10000 = 95 then 6 else 0
    | _ => 0

/-- Adds an allocated range. -/
def State.addArea (s : State) (r : Area) : State :=
  { s with fabric := { s.fabric with areas := s.fabric.areas ++ [r] } }

/-- Frees the ranges that satisfy `p`: their granules and pages return to FREE. -/
def State.dropAreas (s : State) (p : Area → Bool) : State :=
  { s with fabric := { s.fabric with areas := s.fabric.areas.filter fun r => !p r } }

/-- The area belongs to the tenant: a region of its own, or a released result area (07 R726), which alone of a
round's areas is tagged OPEN. -/
def Area.tenantHeld (r : Area) : Bool :=
  match r.owner with
  | .tenant => true
  | .round _ => r.tag = 1
  | _ => false

/-- The tenant's region that holds the `n` bytes at `a` with the tag, if any. -/
def State.tenantRange (s : State) (a n tag : Nat) : Bool :=
  s.fabric.areas.any fun r => r.tenantHeld && decide (r.tag = tag ∧ r.base ≤ a ∧ a + n ≤ r.base + r.len)

/-- The Pier that holds an address, for the lifetime totals (R528). -/
def State.pierOf (s : State) (a : Nat) : Option Nat :=
  match s.place a with
  | .hbm pc _ => some (pc / 64)
  | .ashlar x _ => some (x / 800)
  | .vaultBuf c => some (c / 16)
  | .coreStore => some ((a - 2 ^ 48) / 8192 / 64 / 800)
  | _ => none

/-- Counts a corrected word (R516, R528). -/
def State.countCorrected (s : State) (a req : Nat) (syn : W32) : State :=
  let s1 := match s.pierOf a with
    | some p => s.bump .pier p 0x5C
    | none => s
  match s.place a with
  | .hbm pc _ => (((s1.bump .hbmc (pc / 32) 0x48).captMem .hbmc (pc / 32) a 1 req syn).latchEvt .hbmc (pc / 32) 1)
  | _ => s1

/-- Counts a new uncorrectable error (R514, R528). -/
def State.countUncorrectable (s : State) (a req : Nat) (syn : W32) : State :=
  let s1 := match s.pierOf a with
    | some p => s.bump .pier p 0x60
    | none => s
  match s.place a with
  | .hbm pc _ => (((s1.bump .hbmc (pc / 32) 0x4C).captMem .hbmc (pc / 32) a 2 req syn).latchEvt .hbmc (pc / 32) 2)
  | .ashlar x _ => s1.captMem .ashlar x a 2 req syn
  | _ => s1

/-- The bed's committed value of a word, where it is not yet written back (05 R216). -/
def State.bedComm (s : State) (w : Nat) : Option (W256 × Bool) := (s.fabric.bed.get {} w).comm

/-- What a bad word is before it is read, for a capture (R534): KIND and syndromes. -/
def State.badKind (s : State) (w : Nat) : Nat × W32 :=
  if (s.bedComm w).isNone ∧ decodeDelta (s.ecc.get 0 w) = .uncorrectable then (2, syndromes (s.ecc.get 0 w))
  else (3, syndromes poisonDelta)

/-- Counts a read that consumed poison (R514, R532). -/
def State.countPoisonRead (s : State) (a req : Nat) : State :=
  match s.place a with
  | .hbm pc _ => (((s.bump .hbmc (pc / 32) 0x50).captMem .hbmc (pc / 32) a 3 req (syndromes poisonDelta)).latchEvt
      .hbmc (pc / 32) 4)
  | .ashlar x _ => s.captMem .ashlar x a 3 req (syndromes poisonDelta)
  | _ => s

/-- The bytes of a word with the symbol error of a decoder's answer removed; check symbols hold none. -/
def repairBytes (l : List Byte) (pos mag : Nat) : List Byte :=
  if pos < 4 then l else l.modify (pos - 4) (fun b => b ^^^ BitVec.ofNat 8 mag)

/-- Stores the data and check difference of a word. -/
def State.storeWord (s : State) (w : Nat) (l : List Byte) (d : W32) : State :=
  { s with mem := memWrite s.mem (32 * w) l, ecc := s.ecc.put 0 w d }

/-- Reads the word of index `w` for requester `req` (R534): its 32 bytes, whether it is uncorrectable or
poisoned, and the state after write-back and counting (R513 to R517). -/
def State.readWord (s : State) (req w : Nat) : List Byte × Bool × State :=
  match s.bedComm w with
  | some (v, bad) => (toLe 32 v.toNat, bad, if bad then s.countPoisonRead (32 * w) req else s)
  | none =>
    let l := memRead s.mem (32 * w) 32
    let d := s.ecc.get 0 w
    match decodeDelta d with
    | .clean => (l, false, s)
    | .poison => (l, true, s.countPoisonRead (32 * w) req)
    | .corrected pos mag =>
      let l' := repairBytes l pos mag
      let s1 := if s.place (32 * w) = .coreStore then s else s.storeWord w l' 0
      (l', false, s1.countCorrected (32 * w) req (syndromes d))
    | .uncorrectable =>
      let s1 := if s.place (32 * w) = .coreStore then s else s.storeWord w l poisonDelta
      (l, true, s1.countUncorrectable (32 * w) req (syndromes d))

/-- Reads `n` words from index `w`: the bytes, and whether any word was bad. -/
def State.readWords (s : State) (req w n : Nat) : List Byte × Bool × State :=
  match n with
  | 0 => ([], false, s)
  | n + 1 =>
    let r := s.readWord req w
    let q := r.2.2.readWords req (w + 1) n
    (r.1 ++ q.1, r.2.1 || q.2.1, q.2.2)

/-- Reads `n` bytes at address `a` by whole words. -/
def State.readBytes (s : State) (req a n : Nat) : List Byte × Bool × State :=
  if n = 0 then ([], false, s)
  else
    let w := a / 32
    let r := (s.watched a n 1 req).readWords req w ((a + n - 1) / 32 - w + 1)
    ((r.1.drop (a % 32)).take n, r.2.1, r.2.2)

/-- A write to a word first puts back a committed bed value (R216 serves every access from the bed), and
marks a provisional entry it meets (R217). -/
def State.touchBed (s : State) (w : Nat) : State :=
  let e := s.fabric.bed.get {} w
  let s1 := match e.comm with
    | some (v, bad) => s.storeWord w (toLe 32 v.toNat) (if bad then poisonDelta else 0)
    | none => s
  { s1 with fabric := { s1.fabric with
      bed := s1.fabric.bed.put {} w { e with comm := none, wrote := e.wrote + b2n e.prov.isSome } } }

/-- Writes a whole word with fresh check symbols, or the poison pattern (R514, R518). -/
def State.writeWord (s : State) (w : Nat) (l : List Byte) (bad : Bool) : State :=
  (s.touchBed w).storeWord w (padTo 32 l) (if bad then poisonDelta else 0)

/-- Writes `l` at byte `o` of word `w` by read, merge and write (R518). -/
def State.mergeWord (s : State) (req w o : Nat) (l : List Byte) (bad : Bool) : State :=
  let s0 := s.touchBed w
  let r := s0.readWord req w
  r.2.2.storeWord w (r.1.take o ++ l ++ r.1.drop (o + l.length)) (if r.2.1 || bad then poisonDelta else 0)

/-- Writes bytes at address `a`, word by word; `fuel` bounds the number of words. -/
def State.writeFuel (s : State) (fuel req a : Nat) (l : List Byte) (bad : Bool) : State :=
  match fuel with
  | 0 => s
  | f + 1 =>
    if l.isEmpty then s
    else
      let o := a % 32
      let part := l.take (32 - o)
      let s1 := if part.length = 32 then s.writeWord (a / 32) part bad else s.mergeWord req (a / 32) o part bad
      s1.writeFuel f req (a + part.length) (l.drop (32 - o)) bad

/-- Writes bytes at address `a`. -/
def State.writeBytes (s : State) (req a : Nat) (l : List Byte) (bad : Bool := false) : State :=
  (s.watched a l.length 2 req).writeFuel (l.length / 32 + 2) req a l bad

/-- Fills a range with zero words (R524): no cell, check difference or bed entry is left in it. -/
def State.zeroRange (s : State) (a n : Nat) : State :=
  { s with
    mem := NMap.dropWhere s.mem (fun k => decide (a ≤ k ∧ k < a + n)),
    ecc := s.ecc.dropWhere (fun w => decide (a ≤ 32 * w ∧ 32 * w < a + n)),
    fabric := { s.fabric with bed := s.fabric.bed.dropWhere (fun w => decide (a ≤ 32 * w ∧ 32 * w < a + n)) } }

/-- Copies whole words, poisoned words as poisoned words (03 R149): whether any source word was bad. -/
def State.copyWords (s : State) (req src dst n : Nat) : Bool × State :=
  match n with
  | 0 => (false, s)
  | n + 1 =>
    let r := (s.watched (32 * src) 32 1 req).readWord req src
    let s1 := (r.2.2.watched (32 * dst) 32 2 req).writeWord dst r.1 r.2.1
    let q := s1.copyWords req (src + 1) (dst + 1) n
    (r.2.1 || q.1, q.2)

end Sys2Proof.Machine
end

