-- ==== Sys2Proof/Machine/QueueOps.lean ====
section
/-!
DEFINITION. The operations of a spill queue (10): producing, completing, abandoning, reading, releasing,
flushing, notices and zones. Every producer and consumer of the block goes through these.
-/

namespace Sys2Proof.Machine

/-- Mortar feeder queues: 16,320 to 16,351 (12 R491; log entry 30). -/
def isFeeder (n : Nat) : Bool := decide (16320 ≤ n) && decide (n < 16352)

/-- Items a feeder is handed in a stroke at most, standing for PER_STROKE (05 R221). -/
def feederMax : Nat := 64

/-- Queue `n` as reset leaves it; queues 16,320 up are SYSTEM (R383). -/
def queueDefault (n : Nat) : Queue :=
  if isFeeder n then { owner := .system, ringLog := 14, consumer := .unit, feeder := true, feedAllow := feederMax }
  else if n ≥ 16320 then { owner := .system } else {}

def State.queue (s : State) (n : Nat) : Queue := s.spill.queues.get (queueDefault n) n

def State.setQueue (s : State) (n : Nat) (q : Queue) : State :=
  { s with spill := { s.spill with queues := s.spill.queues.put (queueDefault n) n q } }

/-- Capacity in words (R384). -/
def Queue.cap (q : Queue) : Nat := if q.ringLog = 0 then 0 else 2 ^ q.ringLog

/-- Words written and not yet released (R398). -/
def Queue.level (q : Queue) : Nat := q.items.foldl (fun n i => n + i.words.length) 0

/-- The open packet, which is always the newest item (R389). -/
def Queue.openItem (q : Queue) : Option QItem :=
  match q.items.getLast? with
  | some i => if i.closed then none else some i
  | none => none

/-- Zone of a level (R402). -/
def Queue.zoneOf (q : Queue) (lv : Nat) : Zone :=
  if q.highWm ≠ 0 ∧ lv ≥ q.highWm then .high else if lv ≤ q.lowWm then .low else .mid

/-- A consumer may see the item (R394). -/
def QItem.deliverable (i : QItem) : Bool := i.complete && !i.abandoned && decide (i.decision = 0)

/-- SOURCE code of a producer (R386). -/
def Producer.code : Producer → Nat
  | .core _ => 1 | .host => 2 | .doorbell => 2 | .halyard _ => 3 | .keystone => 4 | .vault _ => 5 | .pierDma _ => 6
  | .tamrik => 7 | .cipher => 1

/-- The producer is a core of a rig. -/
def Producer.isCore : Producer → Bool
  | .core _ => true
  | _ => false

/-- A control word of tag 0x02 or 0x04 (R386). -/
def ctrlWord (tag words bytes source decision stroke qpn discarded : Nat) : W256 :=
  BitVec.ofNat 256 (words % 2 ^ 17 + 2 ^ 17 * (bytes % 2 ^ 24) + 2 ^ 48 * (source % 2 ^ 8) + 2 ^ 56 * (decision % 2 ^ 8) +
    2 ^ 64 * (stroke % 2 ^ 64) + 2 ^ 128 * (qpn % 2 ^ 24) + 2 ^ 152 * (min discarded (2 ^ 32 - 1)) + 2 ^ 248 * tag)

/-- A data or marker word: payload bits [247:0] with the tag the module sets (R385). -/
def tagWord (tag : Nat) (w : W256) : W256 := BitVec.ofNat 256 (w.toNat % 2 ^ 248 + 2 ^ 248 * tag)

/-- Tag of a word. -/
def wordTag (w : W256) : Nat := w.toNat / 2 ^ 248

/-- Latches an event on a queue and the same bit on its page (R414). -/
def State.queueEvt (s : State) (n bit : Nat) : State :=
  let q := s.queue n
  let s1 := s.setQueue n { q with evt := q.evt ||| BitVec.ofNat 6 (2 ^ bit) }
  if n ≥ 16384 then s1 else (s1.latchEvt .spill (n / 1024) (2 ^ bit)).bpQueue n bit

/-- The zone is evaluated (R403). -/
def State.evalZone (s : State) (n : Nat) : State :=
  let q := s.queue n
  let z := q.zoneOf q.level
  let s1 := s.setQueue n { q with zone := z }
  if z = q.zone then s1
  else match z with
    | .high => s1.queueEvt n 1
    | .low => s1.queueEvt n 2
    | .mid => s1

/-- One notice (R401). During the times of 16 R607 no queue notice is sent and ARMED stays. -/
def State.notice (s : State) (n : Nat) : State :=
  let q := s.queue n
  let s1 := (s.setQueue n { q with notices := min (q.notices + 1) 0xFFFFFF, packets := min (q.packets + 1) 0xFFFFFFFF }).queueEvt n 0
  if q.noticeEn && q.armed && !s.vectorsHeld then
    (s1.setQueue n { s1.queue n with armed := false }).sendVector q.vector
  else s1

/-- An item has completed (R391, R401, R403); on a queue that the fabric or a Plinth unit consumes it wakes the module
(17 R639). -/
def State.itemDone (s : State) (n : Nat) : State :=
  let s1 := (s.notice n).evalZone n
  match (s.queue n).consumer with
  | .rig => s1.wake 4 2 4
  | .unit => s1.wake 4 2 4
  | _ => s1

/-- Changes the newest item of a queue. -/
def Queue.modifyLast (q : Queue) (f : QItem → QItem) : Queue :=
  match q.items.getLast? with
  | some i => { q with items := q.items.dropLast ++ [f i] }
  | none => q

/-- A write was ignored as full (R400). -/
def State.queueOverrun (s : State) (n : Nat) : State :=
  let q := s.queue n
  (s.setQueue n { q with overruns := min (q.overruns + 1) 0xFFFFFFFF }).queueEvt n 3

/-- What a production access answers (R409 LAST). -/
inductive ProdRes where
  | accepted | full | abandoned | noOpen | openBusy | dropped
  deriving DecidableEq, Repr

/-- Code of LAST (R408). -/
def ProdRes.code : ProdRes → Nat
  | .accepted => 0 | .full => 1 | .abandoned => 2 | .noOpen => 3 | .openBusy => 4 | .dropped => 5

/-- Data words an item holds, its length slot not counted. -/
def QItem.dataWords (i : QItem) : Nat := i.words.length + i.freed - 1

/-- Words of 10 that keep the head window and read-ahead filled: a word that finds them not full and
nothing before it in the ring goes straight to them (R397 text). -/
def Queue.grow (q : Queue) (k : Nat) : Queue :=
  let q' := q
  let lv := q.level
  if q.inPlace + k = lv - min lv q.intakeMark ∧ q.inPlace + k ≤ 128 then { q' with inPlace := q.inPlace + k } else q'

/-- Abandons the open packet (R392). -/
def State.abandonOpen (s : State) (n cause : Nat) : State :=
  let q := s.queue n
  (s.setQueue n (q.modifyLast fun i => { i with abandoned := true, cause := cause })).queueEvt n 5

/-- Writes a data word into the open packet of the queue (R392, R400). -/
def State.pushData (s : State) (n : Nat) (w : QWord) : ProdRes × State :=
  let q := s.queue n
  match q.openItem with
  | none => (.noOpen, s)
  | some i =>
    if i.abandoned then (.dropped, s.setQueue n { q with dropped := min (q.dropped + 1) 0xFFFFFFFF })
    else if q.level + 1 > q.cap then (.full, (s.queueOverrun n).abandonOpen n 3)
    else if i.dataWords ≥ 65536 then
      (.dropped, (s.setQueue n { q with dropped := min (q.dropped + 1) 0xFFFFFFFF }).abandonOpen n 4)
    else (.accepted, s.setQueue n ((q.modifyLast fun i => { i with words := i.words ++ [w] }).grow 1))

/-- Closes the open packet (R388, R391, R392): a rig's item completes at its commit, unless the module closes it (cause
PRODUCER), every other now. -/
def State.closeOpen (s : State) (n : Nat) : ProdRes × State :=
  let q := s.queue n
  match q.openItem with
  | none => (.noOpen, s)
  | some i =>
    if i.abandoned then
      let q1 := q.modifyLast fun i => { i with
        closed := true, complete := !(i.src.isCore && decide (i.cause ≠ 5)), stroke := s.stroke.now,
        words := match i.words with
          | _ :: r => { w := ctrlWord 4 i.dataWords 0 i.src.code i.cause s.stroke.now 0 0 } :: r
          | [] => [] }
      let s1 := s.setQueue n { q1 with abandoned := min (q1.abandoned + 1) 0xFFFFFFFF }
      (.abandoned, if i.src.isCore && decide (i.cause ≠ 5) then s1 else s1.itemDone n)
    else
      let q1 := q.modifyLast fun i => { i with
        closed := true, complete := !i.src.isCore, stroke := s.stroke.now,
        words := match i.words with
          | _ :: r => { w := ctrlWord 2 i.dataWords i.bytes i.src.code i.decision s.stroke.now i.qpn 0 } :: r
          | [] => [] }
      let s1 := s.setQueue n q1
      (.accepted, if i.src.isCore then s1 else s1.itemDone n)

/-- The producer's own packet is open, or a flush took it and its close is still to come (R389, R405). -/
def Queue.ownOpen (q : Queue) (p : Producer) : Bool :=
  q.flushed.contains p || (match q.openItem with
    | some i => decide (i.src = p)
    | none => false)

/-- Another producer's packet is open. -/
def Queue.otherOpen (q : Queue) (p : Producer) : Bool :=
  match q.openItem with
  | some i => decide (i.src ≠ p)
  | none => false

/-- Opens a packet and writes its first data word (R388, R389, R400). -/
def State.openPacket (s : State) (n : Nat) (p : Producer) (w : QWord) : ProdRes × State :=
  let q := s.queue n
  if q.ownOpen p || q.otherOpen p then (.openBusy, s)
  else if q.level + 2 > q.cap then (.full, s.queueOverrun n)
  else (.accepted, s.setQueue n
    (({ q with items := q.items ++ [{ kind := .packet, src := p, words := [{ w := 0 }, w] }] } : Queue).grow 2))

/-- Writes a lone marker (R388 to R391). -/
def State.putMarker (s : State) (n : Nat) (p : Producer) (w : QWord) : ProdRes × State :=
  let q := s.queue n
  if q.ownOpen p then (.noOpen, s)
  else if q.otherOpen p then (.openBusy, s)
  else if q.level + 1 > q.cap then (.full, s.queueOverrun n)
  else
    let s1 := s.setQueue n (({ q with items := q.items ++
      [{ kind := .marker, src := p, words := [w], closed := true, complete := !p.isCore, stroke := s.stroke.now }] } : Queue).grow 1)
    (.accepted, if p.isCore then s1 else s1.itemDone n)

/-- A data word or close of a packet that a flush took (R392, R405). -/
def State.flushedWord (s : State) (n : Nat) : State :=
  let q := s.queue n
  s.setQueue n { q with dropped := min (q.dropped + 1) 0xFFFFFFFF }

/-- The close of a packet that a flush took. -/
def State.flushedClose (s : State) (n : Nat) (p : Producer) : State :=
  let q := s.queue n
  s.setQueue n { q with flushed := q.flushed.erase p, abandoned := min (q.abandoned + 1) 0xFFFFFFFF }

/-- The production operation `op`, as ENQ SUBOP 0 to 4 (04 R202, R408, R409). -/
def State.produce (s : State) (n : Nat) (p : Producer) (op : Nat) (w : W256) (bad : Bool := false) : ProdRes × State :=
  let q := s.queue n
  let d : QWord := { w := tagWord 1 w, bad := bad }
  let own := match q.openItem with
    | some i => decide (i.src = p)
    | none => false
  match op with
  | 0 =>
    if q.flushed.contains p then (.dropped, s.flushedWord n)
    else if own then s.pushData n d else (.noOpen, s)
  | 1 => s.openPacket n p d
  | 2 =>
    if q.flushed.contains p then (.abandoned, (s.flushedWord n).flushedClose n p)
    else if own then (s.pushData n d).2.closeOpen n else (.noOpen, s)
  | 3 =>
    let r := s.openPacket n p d
    if r.1 = .accepted then r.2.closeOpen n else r
  | 4 => s.putMarker n p { w := tagWord 3 w, bad := bad }
  | _ => (.noOpen, s)

/-- A Plinth unit writes a one-word packet; when another producer's packet is open the unit holds it
(R389), which the caller sees as `openBusy`. -/
def State.produceOne (s : State) (n : Nat) (p : Producer) (w : W256) : ProdRes × State := s.produce n p 3 w

/-- A whole packet of a Plinth unit as one item (R387, R388): its words, bytes, decision and QPN. -/
def State.putPacket (s : State) (n : Nat) (p : Producer) (words : List W256) (bytes qpn decision : Nat) : ProdRes × State :=
  let q := s.queue n
  if q.otherOpen p || q.ownOpen p then (.openBusy, s)
  else if q.level + words.length + 1 > q.cap then (.full, s)
  else
    let hd : QWord := { w := ctrlWord 2 words.length bytes p.code decision s.stroke.now qpn 0 }
    let it : QItem := {
      kind := .packet, src := p, words := hd :: words.map (fun w => { w := tagWord 1 w }), closed := true,
      complete := true, decision := decision, stroke := s.stroke.now, qpn := qpn, bytes := bytes }
    (.accepted, (s.setQueue n (({ q with items := q.items ++ [it] } : Queue).grow (words.length + 1))).itemDone n)

/-- The bytes of a message as the data words of a byte-stream packet (R387). -/
def streamWords (l : List Byte) : List W256 :=
  if l.isEmpty then [0] else (chunksOf (l.length / 24 + 1) 24 l).map fun c => BitVec.ofNat 256 (ofLe c)

/-- The module closes the open packet of a producer that stops, with cause PRODUCER (R392). -/
def State.producerStops (s : State) (n : Nat) (p : Producer) : State :=
  let q := s.queue n
  let s1 := s.setQueue n { q with flushed := q.flushed.erase p }
  match (s1.queue n).openItem with
  | some i => if i.src = p then ((s1.abandonOpen n 5).closeOpen n).2 else s1
  | none => s1

/-! ### Reading and releasing -/

/-- The item that holds the word at position `pos` and the position within it. -/
def itemAt (items : List QItem) (pos : Nat) : Option (QItem × Nat) :=
  match items with
  | [] => none
  | i :: r => if pos < i.words.length then some (i, pos) else itemAt r (pos - i.words.length)

/-- Passes over complete items that a consumer never sees (R394), from a position at an item's start. -/
def skipFrom (fuel : Nat) (items : List QItem) (pos : Nat) : Nat :=
  match fuel with
  | 0 => pos
  | f + 1 =>
    match itemAt items pos with
    | some (i, k) => if k = 0 ∧ i.freed = 0 ∧ i.complete ∧ !i.deliverable then skipFrom f items (pos + i.words.length) else pos
    | none => pos

/-- Takes the next word a consumer sees from `pos`: the word and the position after it. -/
def Queue.nextWord (q : Queue) (pos : Nat) : Option (QWord × Nat) :=
  let p := skipFrom (q.items.length + 1) q.items pos
  match itemAt q.items p with
  | some (i, k) => if i.deliverable then some (nth i.words k { w := 0 }, p + 1) else none
  | none => none

/-- Words visible past a position: of deliverable items before the first item not complete (R408). -/
def visibleWords (items : List QItem) (pos : Nat) : Nat :=
  match items with
  | [] => 0
  | i :: r =>
    if pos ≥ i.words.length then visibleWords r (pos - i.words.length)
    else if !i.complete then 0
    else (if i.deliverable then i.words.length - pos else 0) + visibleWords r 0

/-- Drops the first `k` words of a queue (R396). -/
def dropWords (items : List QItem) (k : Nat) : List QItem :=
  match items with
  | [] => []
  | i :: r =>
    if k = 0 then i :: r
    else if k ≥ i.words.length then dropWords r (k - i.words.length)
    else { i with words := i.words.drop k, freed := i.freed + k } :: r

/-- Releases the words before position `p`: every mark moves down with them. -/
def Queue.release (q : Queue) (p : Nat) : Queue :=
  { q with
    items := dropWords q.items p, rd := q.rd - p, intakeMark := q.intakeMark - p, rigMark := q.rigMark - p,
    hostMark := q.hostMark - p, handed := q.handed - p, relPoint := q.relPoint - p, inPlace := q.inPlace - (p - min p q.intakeMark) }

/-- The position after at most `k` deliverable items from `pos`, and how many there were (R395). -/
def handItems (fuel : Nat) (items : List QItem) (pos k : Nat) : Nat × Nat :=
  match fuel with
  | 0 => (pos, 0)
  | f + 1 =>
    if k = 0 then (pos, 0)
    else
      let p := skipFrom (items.length + 1) items pos
      match itemAt items p with
      | some (i, o) =>
        if i.deliverable then
          let r := handItems f items (p + (i.words.length - o)) (k - 1)
          (r.1, r.2 + 1)
        else (pos, 0)
      | none => (pos, 0)

/-- Intake of stroke `now` for a rig or feeder consumer with an allowance, of the items that completed by the end of the
stroke before (R395). -/
def Queue.intake (q : Queue) (now allow : Nat) : Queue :=
  let h := handItems (q.items.length + 1) (q.items.takeWhile fun i => !i.complete || decide (i.stroke < now)) q.rd allow
  { q with
    intakeMark := q.rd, rigMark := q.rd, handed := h.1, handedItems := h.2, qrel := false,
    inPlace := min (q.level - q.rd) 128 }

/-- A flush (R405) by the party of SOURCE code `source`. -/
def State.flushQueue (s : State) (n source : Nat) : State :=
  let q := s.queue n
  let discarded := q.level
  let gone := match q.openItem with
    | some i => [i.src]
    | none => []
  let mk : QItem := {
    kind := .flush, src := .tamrik, words := [{ w := ctrlWord 4 0 0 source 1 s.stroke.now 0 discarded }],
    closed := true, complete := true, stroke := s.stroke.now }
  let s1 := s.setQueue n { q with
    items := [mk], rd := 0, intakeMark := 0, rigMark := 0, hostMark := 0, handed := 0,
    handedItems := 0, relPend := none, qrel := false, relPoint := 0, inPlace := 1, flushed := q.flushed ++ gone }
  let s2 := if gone.isEmpty then s1 else s1.queueEvt n 5
  ((s2.queueEvt n 4).notice n).evalZone n

/-- Writes into queues are held from cycle 2,016 (R390). -/
def State.holding (s : State) : Bool := decide (s.stroke.cycle ≥ 2016)

end Sys2Proof.Machine
end

