-- ==== Sys2Proof/Machine/FabricOps.lean ====
section
/-!
DEFINITION. The named operations over rigs, cores, fences and regions (03) that the slot meanings, the
placement procedure and the commit are written in.
-/

namespace Sys2Proof.Machine

/-! ### Rigs and cores -/

def State.rig? (s : State) (id : Nat) : Option Rig := s.fabric.rigs.find? id

def State.setRig (s : State) (id : Nat) (r : Rig) : State :=
  { s with fabric := { s.fabric with rigs := s.fabric.rigs.insertAt id r } }

def State.modRig (s : State) (id : Nat) (f : Rig → Rig) : State :=
  match s.rig? id with
  | some r => s.setRig id (f r)
  | none => s

/-- Key of a core in template coordinates. -/
def coreKey (rig ord pos : Nat) : Nat := (rig * 8192 + ord) * 64 + pos

def State.core (s : State) (k : Nat) : Core := s.cores.get {} k

def State.setCore (s : State) (k : Nat) (c : Core) : State := { s with cores := s.cores.put {} k c }

/-- Ashlar record; unlisted Ashlars have no fence. -/
def State.ashlar (s : State) (a : Nat) : Ashlar := s.fabric.ashlars.get {} a

def State.setAshlar (s : State) (a : Nat) (x : Ashlar) : State :=
  { s with fabric := { s.fabric with ashlars := s.fabric.ashlars.put {} a x } }

/-- Row-major position of a row and column (03 R113). -/
def posOf (r c : Nat) : Nat := 8 * r + c

/-- Symmetry g of a template position (03 R136). -/
def symPos (g p : Nat) : Nat :=
  let r := p / 8
  let c := p % 8
  match g with
  | 0 => posOf r c
  | 1 => posOf c (7 - r)
  | 2 => posOf (7 - r) (7 - c)
  | 3 => posOf (7 - c) r
  | 4 => posOf r (7 - c)
  | 5 => posOf (7 - r) c
  | 6 => posOf c r
  | _ => posOf (7 - c) (7 - r)

/-- Symmetry g of a mesh direction 0 N, 1 E, 2 S, 3 W (03 R136). -/
def symDir (g d : Nat) : Nat :=
  match g with
  | 0 => d
  | 1 => (d + 1) % 4
  | 2 => (d + 2) % 4
  | 3 => (d + 3) % 4
  | 4 => nth [0, 3, 2, 1] d 0
  | 5 => nth [2, 1, 0, 3] d 0
  | 6 => nth [3, 2, 1, 0] d 0
  | _ => nth [1, 0, 3, 2] d 0

/-- Position across a mesh link, none off the grid (03 R116). -/
def neighbour (p d : Nat) : Option Nat :=
  let r := p / 8
  let c := p % 8
  match d with
  | 0 => if r = 0 then none else some (p - 8)
  | 1 => if c = 7 then none else some (p + 1)
  | 2 => if r = 7 then none else some (p + 8)
  | _ => if c = 0 then none else some (p - 1)

/-- Set positions of a 64-bit mask, in ascending order. -/
def positions (m : W64) : List Nat := (List.range 64).filter fun i => m.toNat.testBit i

/-- Physical position of a template position (03 R135, R136). -/
def RigAshlar.physPos (a : RigAshlar) (p : Nat) : Nat :=
  if a.freeMask.toNat.testBit p then
    nth a.freeAt ((positions a.freeMask).idxOf p) p
  else symPos a.sym p

/-- Fenced cores of an Ashlar. -/
def Ashlar.fenceCount (a : Ashlar) : Nat := popcount 64 a.fence.toNat

/-- The Ashlar is withdrawn (03 R141, 13 R523). -/
def Ashlar.withdrawn (a : Ashlar) : Bool := decide (a.fenceCount > 8) || a.storeWithdrawn

/-- The rig placed on an Ashlar, with the ordinal it holds there. -/
def State.rigOn (s : State) (a : Nat) : Option (Nat × Rig × Nat) :=
  s.fabric.rigs.findSome? fun e =>
    (e.2.ashlars.findIdx? (fun x => decide (x.place = some a))).map fun o => (e.1, e.2, o)

/-- Key of the core store under a template position: its physical core (R118). -/
def Rig.storeKey (r : Rig) (u : Issue) : Nat :=
  match r.ashlars[u.ord]? with
  | some a => a.place.getD 0 * 64 + a.physPos u.pos
  | none => 0

/-- Ashlars on which a rig is placed. -/
def Rig.placedOn (r : Rig) : List Nat := r.ashlars.filterMap (·.place)

/-- The rig may run: it is not faulted, and all of it is placed. -/
def Rig.running (r : Rig) : Bool := !r.faulted && r.ashlars.all (fun a => a.place.isSome)

/-- Charges an event of this stroke to a rig: the stroke overruns and the rig is faulted at its commit
(03 R137, R145, 13 R519). -/
def State.strokeFault (s : State) (rig ashlar : Nat) : State :=
  { s with stroke := { s.stroke with strokeFaults := s.stroke.strokeFaults ++ [(rig, ashlar)] } }

/-- A tag violation (03 R145). -/
def State.tagViolation (s : State) (rig ord : Nat) : State :=
  match s.rig? rig with
  | none => s
  | some r =>
    match (nth r.ashlars ord { useMask := 0, freeMask := 0, seqFirst := 0, place := none }).place with
    | none => s
    | some a =>
      ((((s.setRig rig { r with permanent := true }).strokeFault rig a).bump .ashlar a 0x58).captMem .ashlar a 0 8 1 0).latchEvt
        .ashlar a 8

/-- A load that met an uncorrectable word (13 R519, Core, LDW): as a tag violation, with no event of its
own; the Ashlar page captures the address. -/
def State.loadFault (s : State) (rig ord addr : Nat) (kind : Nat × W32) : State :=
  match s.rig? rig with
  | none => s
  | some r =>
    match (nth r.ashlars ord { useMask := 0, freeMask := 0, seqFirst := 0, place := none }).place with
    | none => s
    | some a => (((s.setRig rig { r with permanent := true }).strokeFault rig a).captMem .ashlar a addr kind.1 1 kind.2)

/-- Every shadow of a rig's Ashlar is evacuated (03 R138): whether one of them is poisoned. -/
def State.shadowsBad (s : State) (rig ord : Nat) : Bool :=
  (List.range 64).any fun p => (s.core (coreKey rig ord p)).shadowBad.any (·.2)

/-- Records a fence in the Ashlar's mask, with withdrawal when it becomes due (03 R140, R141). -/
def State.fenceAt (s : State) (a pos : Nat) : State :=
  let x := s.ashlar a
  let x' := { x with fence := x.fence ||| BitVec.ofNat 64 (2 ^ pos) }
  let s1 := (s.setAshlar a x').latchEvt .ashlar a 2
  if x'.withdrawn && !x.withdrawn then s1.latchEvt .ashlar a 4 else s1

/-- A core of a placed rig is fenced (03 R137, R138, R140): the core stops, the stroke overruns charged to
the rig, the shadows are evacuated, and re-placement becomes due. -/
def State.fenceCore (s : State) (rig ord pos : Nat) : State :=
  match s.rig? rig with
  | none => s
  | some r =>
    let ra := nth r.ashlars ord { useMask := 0, freeMask := 0, seqFirst := 0, place := none }
    match ra.place with
    | none => s
    | some a =>
      let s1 := s.fenceAt a (ra.physPos pos)
      let s2 := s1.setRig rig { r with
        ashlars := r.ashlars.modify ord (fun x => { x with broken := true, evacuated := true }),
        replaceFrom := some s.stroke.now,
        drain := if r.drain.phase = .copying then { r.drain with overwritten := true } else r.drain }
      let s3 := if s2.shadowsBad rig ord then s2.latchEvt .ashlar a 32 else s2
      if r.faulted then s3 else s3.strokeFault rig a

/-! ### Regions of a rig -/

/-- ACCESS bits (03 R128). -/
def accRead : Nat := 0
def accWrite : Nat := 1
def accMortar : Nat := 2

/-- The module address of `n` bytes at byte offset `off` of a logical region, when the rig has bound it
with the access and the range lies inside it (03 R145, 04 R194). -/
def Rig.regionAddr (r : Rig) (q bit off n : Nat) : Option Nat :=
  match r.regions[q]? with
  | none => none
  | some g => if g.access.testBit bit && decide (off + n ≤ g.len) then some (g.base + off) else none

/-- The spill queue bound to a logical queue. -/
def Rig.queue? (r : Rig) (q : Nat) : Option RigQueue := r.queues[q]?

/-! ### Registers, accumulators and predicates of a core (04 R168 to R171) -/

/-- A general register, 128 bits. -/
def Core.g128 (c : Core) (r : Nat) : Nat := (c.g.get 0 r).toNat

/-- Lane i of a general register. -/
def Core.lane (c : Core) (r i : Nat) : Nat := bits (c.g128 r) (32 * i) 32

def Core.setG (c : Core) (r v : Nat) : Core := { c with g := c.g.put 0 r (BitVec.ofNat 128 v) }

/-- Predicate P[k] of lane i; P0 reads 1 (R168). -/
def Core.pred (c : Core) (k i : Nat) : Bool := k = 0 || (c.p.get 0 k).toNat.testBit i

/-- Writes a predicate in the lanes given; a write to P0 is discarded (R168, R171). -/
def Core.setPred (c : Core) (k : Nat) (lanes : List (Nat × Bool)) : Core :=
  if k = 0 then c
  else { c with p := c.p.put 0 k (BitVec.ofNat 4 (lanes.foldl
    (fun v e => if e.2 then v ||| 2 ^ e.1 else v &&& (15 - 2 ^ e.1)) (c.p.get 0 k).toNat)) }

/-- Lane i passes R170: enabled, and the execution predicate is 1. -/
def Core.laneOn (c : Core) (w : Slot) (i : Nat) : Bool := w.lanes.testBit i && (c.pred w.psel i != w.pinv)

/-- A 64-bit format: the even lane's predicate governs the pair (R170). -/
def Core.pairOn (c : Core) (w : Slot) (e : Nat) : Bool := w.lanes.testBit (2 * e) && (c.pred w.psel (2 * e) != w.pinv)

/-- A whole-core operation runs only when the predicate is 1 in lane 0 (R170). -/
def Core.wholeOn (c : Core) (w : Slot) : Bool := c.pred w.psel 0 != w.pinv

/-- Operand A, B, C of lane i; B may be the immediate (R180). -/
def Core.opA (c : Core) (w : Slot) (i : Nat) : Nat := c.lane w.srca i
def Core.opB (c : Core) (w : Slot) (i : Nat) : Nat := if w.bimm then w.imm32.toNat else c.lane w.srcb i
def Core.opC (c : Core) (w : Slot) (i : Nat) : Nat := c.lane w.srcc i

/-- Operand A, B, C of 64-bit element e (R169, R180). -/
def Core.opA64 (c : Core) (w : Slot) (e : Nat) : Nat := bits (c.g128 w.srca) (64 * e) 64
def Core.opB64 (c : Core) (w : Slot) (e : Nat) : Nat :=
  if w.bimm then w.imm32.toNat else bits (c.g128 w.srcb) (64 * e) 64
def Core.opC64 (c : Core) (w : Slot) (e : Nat) : Nat := bits (c.g128 w.srcc) (64 * e) 64

/-- Replaces bits [lo+w-1:lo] of a number. -/
def setBits (v lo w x : Nat) : Nat := v - (bits v lo w) * 2 ^ lo + (x % 2 ^ w) * 2 ^ lo

/-- Writes the lanes that pass with the values of `f` (R170). -/
def Core.writeLanes (c : Core) (w : Slot) (f : Nat → Nat) : Core :=
  c.setG w.dst ((List.range 4).foldl (fun v i => if c.laneOn w i then setBits v (32 * i) 32 (f i) else v) (c.g128 w.dst))

/-- Writes the 64-bit elements that pass with the values of `f` (R170). -/
def Core.writePairs (c : Core) (w : Slot) (f : Nat → Nat) : Core :=
  c.setG w.dst ((List.range 2).foldl (fun v e => if c.pairOn w e then setBits v (64 * e) 64 (f e) else v) (c.g128 w.dst))

/-- Accumulator entry of lane i (R168). -/
def Core.accLane (c : Core) (a i : Nat) : Nat := bits (c.acc.get 0 a).toNat (64 * i) 64

/-- Writes accumulator entries in the lanes of the list. -/
def Core.setAcc (c : Core) (a : Nat) (l : List (Nat × Nat)) : Core :=
  { c with acc := c.acc.put 0 a (BitVec.ofNat 256 (l.foldl (fun v e => setBits v (64 * e.1) 64 e.2) (c.acc.get 0 a).toNat)) }

/-- Loop index L0 (0) or L1 (1); 0 when no loop is active at that level (R182, R183). -/
def Core.loopIdx (c : Core) (level : Nat) : Nat :=
  match c.loops[level]? with
  | some f => f.idx
  | none => 0

/-- The index term of IDX and STRIDE (R179). -/
def Core.indexTerm (c : Core) (w : Slot) : Nat :=
  match w.idx with
  | 0 => 0
  | 1 => c.loopIdx 0 * w.stride
  | 2 => c.loopIdx 1 * w.stride
  | _ => (c.loopIdx 0 + c.loopIdx 1) * w.stride

/-- Moves to the next sequence slot, running the hardware loops that end here (R182): `fuel` covers the
two levels that may end on one slot. -/
def advanceLoops (fuel : Nat) (loops : List LoopFrame) (pc : Nat) : List LoopFrame × Nat :=
  match fuel with
  | 0 => (loops, pc + 1)
  | n + 1 =>
    match loops with
    | [] => ([], pc + 1)
    | f :: r =>
      if pc = f.stop then
        if f.idx + 1 < f.count then ({ f with idx := f.idx + 1 } :: r, f.start) else advanceLoops n r pc
      else (loops, pc + 1)

/-- The slot at `pc` is done. -/
def Core.next (c : Core) : Core :=
  let a := advanceLoops 2 c.loops c.pc
  { c with loops := a.1, pc := a.2, stalled := false }

/-- The modulus that MODSEL selects: an entry of the rig's MODULI section, or P64 (04 R176). -/
def p64 : Nat := 2 ^ 64 - 2 ^ 32 + 1

def Rig.modulus (r : Rig) (sel : Nat) : Option Nat :=
  if sel = 16 then some p64 else (r.moduli[sel]?).map (·.q)

end Sys2Proof.Machine
end

