-- ==== Sys2Proof/Machine/Flags.lean ====
section
/-!
DEFINITION. Number formats (04 R172 to R174): exact values of floats, one rounding to a destination
format, comparisons, and conversions (R190). The module keeps no exception flags (R174); predicates are its
only condition bits.
-/

namespace Sys2Proof.Machine

/-- A float format: exponent bits, fraction bits, bias, and whether it has infinities (R172, R173). -/
structure FFmt where
  eb : Nat
  fb : Nat
  bias : Nat
  inf : Bool
  deriving DecidableEq, Repr

def f32 : FFmt := ⟨8, 23, 127, true⟩
def bf16 : FFmt := ⟨8, 7, 127, true⟩
def e4m3 : FFmt := ⟨4, 3, 7, false⟩
def e5m2 : FFmt := ⟨5, 2, 15, true⟩

/-- An exact value: sign, and m × 2^e (R174: nothing is flushed to zero). -/
inductive FVal where
  | nan
  | inf (neg : Bool)
  | fin (neg : Bool) (m : Nat) (e : Int)
  deriving DecidableEq, Repr

/-- Width of the format in bits. -/
def FFmt.width (f : FFmt) : Nat := 1 + f.eb + f.fb

/-- The exact value of a bit pattern. -/
def FFmt.decode (f : FFmt) (v : Nat) : FVal :=
  let frac := bits v 0 f.fb
  let ex := bits v f.fb f.eb
  let neg := v.testBit (f.eb + f.fb)
  let top := 2 ^ f.eb - 1
  if f.inf && decide (ex = top) then (if frac = 0 then .inf neg else .nan)
  else if !f.inf && decide (ex = top ∧ frac = 2 ^ f.fb - 1) then .nan
  else if ex = 0 then .fin neg frac (1 - (f.bias : Int) - f.fb)
  else .fin neg (2 ^ f.fb + frac) ((ex : Int) - f.bias - f.fb)

/-- The canonical quiet NaN with sign 0 (R174); 0x7F for the 8-bit formats. -/
def FFmt.nanBits (f : FFmt) : Nat :=
  if f = e5m2 ∨ f = e4m3 then 0x7F else (2 ^ f.eb - 1) * 2 ^ f.fb + 2 ^ (f.fb - 1)

def FFmt.signBit (f : FFmt) (neg : Bool) : Nat := if neg then 2 ^ (f.eb + f.fb) else 0

/-- Pattern of infinity; formats without one have none. -/
def FFmt.infBits (f : FFmt) (neg : Bool) : Nat := f.signBit neg + (2 ^ f.eb - 1) * 2 ^ f.fb

/-- Pattern of the largest finite value. -/
def FFmt.maxBits (f : FFmt) (neg : Bool) : Nat :=
  f.signBit neg + (if f.inf then (2 ^ f.eb - 1) * 2 ^ f.fb - 1 else 2 ^ (f.eb + f.fb) - 2)

/-- m × 2^-k rounded to an integer under RND (R174), for the magnitude of a value of sign `neg`. -/
def roundShift (rnd : Nat) (neg : Bool) (m k : Nat) : Nat :=
  let q := m / 2 ^ k
  let r := m % 2 ^ k
  if r = 0 then q
  else
    let half := 2 ^ k
    match rnd with
    | 0 => if 2 * r > half ∨ (2 * r = half ∧ q % 2 = 1) then q + 1 else q
    | 1 => q
    | 2 => if neg then q + 1 else q
    | _ => if neg then q else q + 1

/-- What an overflow gives. -/
inductive Over where
  /-- ±∞, or ±largest finite where the mode rounds toward zero (R174, R190). -/
  | ieee
  | toMax
  | toNan
  | toInf
  deriving DecidableEq, Repr

/-- The overflow result of a value of sign `neg`. -/
def FFmt.overflow (f : FFmt) (o : Over) (rnd : Nat) (neg : Bool) : Nat :=
  match o with
  | .toMax => f.maxBits neg
  | .toNan => f.nanBits
  | .toInf => f.infBits neg
  | .ieee =>
    match rnd with
    | 0 => f.infBits neg
    | 1 => f.maxBits neg
    | 2 => if neg then f.infBits neg else f.maxBits neg
    | _ => if neg then f.maxBits neg else f.infBits neg

/-- Rounds an exact value once to the format (R174: single rounding). -/
def FFmt.round (f : FFmt) (rnd : Nat) (v : FVal) (o : Over := .ieee) : Nat :=
  match v with
  | .nan => f.nanBits
  | .inf neg =>
    match o with
    | .ieee => f.infBits neg
    | _ => f.overflow o rnd neg
  | .fin neg m e =>
    if m = 0 then f.signBit neg
    else
      let p := f.fb + 1
      let len := Nat.log2 m + 1
      let emin : Int := 1 - (f.bias : Int) - f.fb
      let q : Int := max (e + len - p) emin
      let m1 := if q ≤ e then m * 2 ^ (e - q).toNat else roundShift rnd neg m (q - e).toNat
      let m2 := if m1 = 2 ^ p then 2 ^ f.fb else m1
      let q2 := if m1 = 2 ^ p then q + 1 else q
      let ex : Int := q2 + f.bias + f.fb
      let code := if m2 < 2 ^ f.fb then m2 else (ex.toNat * 2 ^ f.fb) + (m2 - 2 ^ f.fb)
      if code > f.maxBits false then f.overflow o rnd neg else f.signBit neg + code

/-- Sign of an exact zero sum of operands of opposite sign (R174). -/
def zeroSign (rnd : Nat) : Bool := rnd = 2

/-- A finite term as an integer over 2^e0. -/
def scaled (e0 : Int) (neg : Bool) (m : Nat) (e : Int) : Int :=
  let x : Int := (m * 2 ^ (e - e0).toNat : Nat)
  if neg then -x else x

/-- The exact sum of terms (R174, R189): NaN operands and ∞ − ∞ give NaN. -/
def exactSum (rnd : Nat) (l : List FVal) : FVal :=
  if l.any (fun v => decide (v = .nan)) then .nan
  else if l.any (fun v => decide (v = .inf false)) then
    (if l.any (fun v => decide (v = .inf true)) then .nan else .inf false)
  else if l.any (fun v => decide (v = .inf true)) then .inf true
  else
    let e0 := l.foldl (fun a v => match v with | .fin _ _ e => min a e | _ => a) (1000 : Int)
    let t := l.foldl (fun a v => match v with | .fin n m e => a + scaled e0 n m e | _ => a) (0 : Int)
    if t = 0 then
      let neg := fun v => match v with | .fin n _ _ => n | _ => false
      let zero := fun v => match v with | .fin _ m _ => decide (m = 0) | _ => false
      if l.all (fun v => zero v && neg v) then .fin true 0 0
      else if l.all (fun v => zero v && !neg v) then .fin false 0 0
      else .fin (zeroSign rnd) 0 0
    else .fin (decide (t < 0)) t.natAbs e0

/-- The exact product (R174): ∞ × 0 is NaN. -/
def exactMul (a b : FVal) : FVal :=
  match a, b with
  | .nan, _ => .nan
  | _, .nan => .nan
  | .inf n, .inf k => .inf (n != k)
  | .inf n, .fin k m _ => if m = 0 then .nan else .inf (n != k)
  | .fin k m _, .inf n => if m = 0 then .nan else .inf (n != k)
  | .fin n m e, .fin k j i => .fin (n != k) (m * j) (e + i)

/-- Changes the sign of a value. -/
def FVal.negate : FVal → FVal
  | .nan => .nan
  | .inf n => .inf (!n)
  | .fin n m e => .fin (!n) m e

/-- a < b, a = b for values that are not NaN; −0 and +0 are equal (R185). -/
def FVal.lt (a b : FVal) : Bool :=
  match a, b with
  | .nan, _ => false
  | _, .nan => false
  | .inf n, .inf k => n && !k
  | .inf n, .fin .. => n
  | .fin .., .inf k => !k
  | .fin n m e, .fin k j i => decide (scaled (min e i) n m e < scaled (min e i) k j i)

def FVal.eq (a b : FVal) : Bool :=
  match a, b with
  | .nan, _ => false
  | _, .nan => false
  | .inf n, .inf k => n = k
  | .inf _, .fin .. => false
  | .fin .., .inf _ => false
  | .fin n m e, .fin k j i => decide (scaled (min e i) n m e = scaled (min e i) k j i)

/-- Sign of a value. -/
def FVal.neg? : FVal → Bool
  | .nan => false
  | .inf n => n
  | .fin n _ _ => n

/-- FADD, FSUB, FMUL and FMA on bit patterns (R187). -/
def FFmt.add (f : FFmt) (rnd a b : Nat) : Nat := f.round rnd (exactSum rnd [f.decode a, f.decode b])
def FFmt.sub (f : FFmt) (rnd a b : Nat) : Nat := f.round rnd (exactSum rnd [f.decode a, (f.decode b).negate])
def FFmt.mul (f : FFmt) (rnd a b : Nat) : Nat := f.round rnd (exactMul (f.decode a) (f.decode b))
def FFmt.fma (f : FFmt) (rnd a b c : Nat) : Nat :=
  f.round rnd (exactSum rnd [exactMul (f.decode a) (f.decode b), f.decode c])

/-- FMIN and FMAX (R188): −0 below +0; one NaN gives the other operand, two give the canonical NaN. -/
def FFmt.minMax (f : FFmt) (wantMax : Bool) (a b : Nat) : Nat :=
  let x := f.decode a
  let y := f.decode b
  if x = .nan ∧ y = .nan then f.nanBits
  else if x = .nan then b
  else if y = .nan then a
  else
    let aBelow := x.lt y || (x.eq y && x.neg? && !y.neg?)
    if aBelow then (if wantMax then b else a) else (if wantMax then a else b)

/-- FSGN (R187, R188): only the sign bit changes. -/
def FFmt.sgn (f : FFmt) (sub a b : Nat) : Nat :=
  let mag := a % 2 ^ (f.eb + f.fb)
  match sub with
  | 0 => mag
  | 1 => mag + f.signBit (!a.testBit (f.eb + f.fb))
  | _ => mag + f.signBit (b.testBit (f.eb + f.fb))

/-- A 32-bit pattern as a signed integer. -/
def s32 (v : Nat) : Int := if v < 2 ^ 31 then v else (v : Int) - 2 ^ 32

/-- An 8-bit pattern as a signed integer. -/
def s8 (v : Nat) : Int := if v < 128 then v else (v : Int) - 256

/-- The low `w` bits of an integer. -/
def wrapI (w : Nat) (v : Int) : Nat := (v % (2 ^ w : Nat)).toNat

/-- Clamps an integer. -/
def clampI (lo hi v : Int) : Int := max lo (min hi v)

/-- Condition of CMP (R184). -/
def cmpInt (sub : Nat) (a b : Int) : Bool :=
  match sub with
  | 0 => decide (a = b)
  | 1 => decide (a ≠ b)
  | 2 => decide (a < b)
  | 3 => decide (a ≤ b)
  | 4 => decide (a > b)
  | _ => decide (a ≥ b)

/-- Condition of CMP on F32 (R185): a NaN operand makes every condition false but NE. -/
def cmpF32 (sub a b : Nat) : Bool :=
  let x := f32.decode a
  let y := f32.decode b
  if x = .nan ∨ y = .nan then sub = 1
  else match sub with
    | 0 => x.eq y
    | 1 => !x.eq y
    | 2 => x.lt y
    | 3 => x.lt y || x.eq y
    | 4 => y.lt x
    | _ => y.lt x || x.eq y

/-- The float format of a FMT code (R172). -/
def fmtFloat (c : Nat) : FFmt :=
  match c with
  | 6 => bf16
  | 7 => e4m3
  | 8 => e5m2
  | _ => f32

/-- Element width in bits of a FMT code (R172). -/
def fmtWidth (c : Nat) : Nat :=
  match c with
  | 3 => 64 | 4 => 64 | 6 => 16 | 7 => 8 | 8 => 8 | 9 => 8 | 10 => 8 | _ => 32

/-- A float rounded to an integer in [lo, hi]; NaN gives 0 (R190). -/
def floatToInt (rnd : Nat) (lo hi : Int) (v : FVal) : Int :=
  match v with
  | .nan => 0
  | .inf n => if n then lo else hi
  | .fin n m e =>
    let mag : Nat := if e ≥ 0 then m * 2 ^ e.toNat else roundShift rnd n m (-e).toNat
    clampI lo hi (if n then -(mag : Int) else mag)

/-- The valid pairs of CVT (R190). -/
def cvtPair (src dst : Nat) : Bool :=
  (src == 5 && [6, 7, 8, 2, 1].contains dst) || ([6, 7, 8].contains src && dst == 5) ||
  ([2, 1].contains src && dst == 5) || ([9, 10].contains src && [2, 1].contains dst) ||
  ([2, 1].contains src && [9, 10].contains dst)

/-- The overflow rule of a conversion (R190). -/
def cvtOver (dst : Nat) (sat : Bool) : Over :=
  if dst = 6 then .ieee else if sat then .toMax else if dst = 7 then .toNan else .toInf

/-- CVT of one element `x` of format `src` (R190). -/
def cvtElem (src dst rnd : Nat) (sat : Bool) (x : Nat) : Nat :=
  if src = 5 then
    if dst = 2 then wrapI 32 (floatToInt rnd (-(2 ^ 31)) (2 ^ 31 - 1) (f32.decode x))
    else if dst = 1 then wrapI 32 (floatToInt rnd 0 (2 ^ 32 - 1) (f32.decode x))
    else (fmtFloat dst).round rnd (f32.decode x) (cvtOver dst sat)
  else if dst = 5 then
    if src = 2 then f32.round rnd (.fin (decide (s32 x < 0)) (s32 x).natAbs 0)
    else if src = 1 then f32.round rnd (.fin false x 0)
    else f32.round rnd ((fmtFloat src).decode x)
  else if src = 9 then wrapI 32 (s8 x)
  else if src = 10 then x
  else
    let v : Int := if src = 2 then s32 x else x
    if sat then (if dst = 9 then wrapI 8 (clampI (-128) 127 v) else wrapI 8 (clampI 0 255 v)) else x % 256

end Sys2Proof.Machine
end

