-- ==== Sys2Proof/Machine/Operands.lean ====
section
/-!
DEFINITION. Operand forms of the slot words (04 R179 to R183): which formats, fields and SUBOP values each
operation has, the decoding of the 128-bit word, and the frame every slot meaning runs in.
-/

namespace Sys2Proof.Machine

/-- The operations of the operation tables (R184, R186, R187, R190, R191, R192, R199). -/
inductive Op where
  | nop | add | sub | mul | mulhi | mad | and | or | xor | andn | shl | shr | min | max | cmp | sel | mov | spec
  | plog | loop | endSlot
  | maddq | msubq | mmulq | mmadq | mmulm | mmadm | mtom | mredq | mwide | mlift
  | fadd | fsub | fmul | fma | fmin | fmax | fsgn | dot2 | dot4 | cvt
  | sbox8 | mixcol | rotl32 | clmul32 | lut16
  | send | recv | ldc | stc | stc2 | ldw | stw | stw2 | accclr | accadd | accmac | accrd | accwr | tpush
  | deq | enq | qmark | qrel
  deriving DecidableEq, Repr

/-- One row of the operation tables: opcode, formats, the fields used, and the SUBOP values defined. -/
structure OpRow where
  op : Op
  code : Nat
  fmts : List Nat
  dst : Bool := false
  a : Bool := false
  b : Bool := false
  c : Bool := false
  acc : Bool := false
  /-- Formats in which B may be the immediate. -/
  immFmts : List Nat := []
  lanes : Bool := false
  pdst : Bool := false
  rndFmts : List Nat := []
  satFmts : List Nat := []
  imm : Bool := false
  addr : Bool := false
  idx : Bool := false
  /-- QREG: 0 unused, 1 queue, 2 region. -/
  q : Nat := 0
  subs : List Nat := [0]
  evenDst : Bool := false
  evenA : Bool := false
  deriving DecidableEq, Repr

/-- SUBOP values 0 to n - 1. -/
def upTo (n : Nat) : List Nat := List.range n

def alu (op : Op) (code : Nat) (fmts : List Nat) (sat : List Nat := []) : OpRow :=
  { op := op, code := code, fmts := fmts, dst := true, a := true, b := true, immFmts := fmts, lanes := true, satFmts := sat }

def flt (op : Op) (code : Nat) (rnd : Bool) (subs : List Nat := [0]) : OpRow :=
  { op := op, code := code, fmts := [5, 6], dst := true, a := true, b := true, immFmts := [5], lanes := true,
    rndFmts := if rnd then [5, 6] else [], subs := subs }

/-- The operation tables. -/
def opTable : List OpRow :=
  [{ op := .nop, code := 0x00, fmts := [0] }, alu .add 0x10 [1, 2, 3] [1, 2], alu .sub 0x11 [1, 2, 3] [1, 2],
   alu .mul 0x12 [1, 2], alu .mulhi 0x13 [1, 2], { alu .mad 0x14 [1, 2] with c := true }, alu .and 0x15 [0],
   alu .or 0x16 [0], alu .xor 0x17 [0], alu .andn 0x18 [0], alu .shl 0x19 [1, 3], alu .shr 0x1A [1, 2, 3],
   alu .min 0x1B [1, 2, 3], alu .max 0x1C [1, 2, 3],
   { alu .cmp 0x1D [1, 2, 3, 5] with dst := false, pdst := true, subs := upTo 6 },
   { alu .sel 0x1E [0] with subs := upTo 4 }, { alu .mov 0x1F [0] with a := false },
   { op := .spec, code := 0x20, fmts := [0], dst := true, lanes := true, subs := upTo 5 },
   { op := .plog, code := 0x21, fmts := [0], a := true, b := true, lanes := true, pdst := true, subs := upTo 5 }] ++
  [{ op := .loop, code := 0x22, fmts := [0], a := true, imm := true, addr := true, subs := upTo 2 },
   { op := .endSlot, code := 0x2F, fmts := [0] },
   alu .maddq 0x30 [4], alu .msubq 0x31 [4], alu .mmulq 0x32 [4], { alu .mmadq 0x33 [4] with c := true },
   alu .mmulm 0x34 [4], { alu .mmadm 0x35 [4] with c := true }, { alu .mtom 0x36 [4] with b := false, immFmts := [] },
   { alu .mredq 0x37 [4] with b := false, immFmts := [] }, { alu .mwide 0x38 [4] with immFmts := [] },
   { alu .mlift 0x39 [4] with b := false, immFmts := [] }] ++
  [flt .fadd 0x40 true, flt .fsub 0x41 true, flt .fmul 0x42 true, { flt .fma 0x43 true with c := true },
   flt .fmin 0x44 false, flt .fmax 0x45 false, flt .fsgn 0x46 false (upTo 3),
   { op := .dot2, code := 0x48, fmts := [6], a := true, b := true, acc := true, lanes := true, rndFmts := [6] },
   { op := .dot4, code := 0x49, fmts := [7, 8, 9, 10], a := true, b := true, acc := true, lanes := true,
     rndFmts := [7, 8], subs := upTo 2 },
   { op := .cvt, code := 0x50, fmts := [1, 2, 5, 6, 7, 8, 9, 10], dst := true, a := true, lanes := true,
     rndFmts := [1, 2, 5, 6, 7, 8, 9, 10], satFmts := [7, 8, 9, 10], subs := upTo 64 }] ++
  [{ op := .sbox8, code := 0x60, fmts := [0], dst := true, a := true, lanes := true, subs := upTo 2 },
   { op := .mixcol, code := 0x61, fmts := [0], dst := true, a := true, lanes := true, subs := upTo 2 },
   alu .rotl32 0x62 [0], { alu .clmul32 0x63 [0] with subs := upTo 2 },
   { alu .lut16 0x64 [0] with immFmts := [], subs := upTo 2 },
   { op := .send, code := 0x70, fmts := [0], a := true, subs := upTo 4 },
   { op := .recv, code := 0x71, fmts := [0], dst := true, lanes := true, subs := upTo 4 },
   { op := .ldc, code := 0x80, fmts := [0], dst := true, lanes := true, addr := true, idx := true },
   { op := .stc, code := 0x81, fmts := [0], a := true, lanes := true, addr := true, idx := true },
   { op := .stc2, code := 0x82, fmts := [0], a := true, lanes := true, addr := true, idx := true, evenA := true },
   { op := .ldw, code := 0x84, fmts := [0], dst := true, b := true, lanes := true, imm := true, idx := true, q := 2, subs := upTo 2 },
   { op := .stw, code := 0x85, fmts := [0], a := true, b := true, lanes := true, imm := true, idx := true, q := 2, subs := upTo 2 },
   { op := .stw2, code := 0x86, fmts := [0], a := true, b := true, lanes := true, imm := true, idx := true, q := 2,
     subs := upTo 2, evenA := true }] ++
  [{ op := .accclr, code := 0x90, fmts := [0], acc := true, lanes := true },
   { op := .accadd, code := 0x91, fmts := [1, 2, 3, 4, 5], a := true, acc := true, lanes := true, rndFmts := [5] },
   { op := .accmac, code := 0x92, fmts := [1, 2, 4, 5], a := true, b := true, acc := true, lanes := true, rndFmts := [5] },
   { op := .accrd, code := 0x93, fmts := [0], dst := true, acc := true, lanes := true, subs := upTo 2 },
   { op := .accwr, code := 0x94, fmts := [0], a := true, acc := true, lanes := true, subs := upTo 2 },
   { op := .tpush, code := 0x98, fmts := [1, 3, 4, 5, 6], a := true, b := true, acc := true, lanes := true, imm := true,
     idx := true, q := 2, subs := upTo 8 },
   { op := .deq, code := 0xA0, fmts := [0], dst := true, lanes := true, pdst := true, q := 1, subs := upTo 256, evenDst := true },
   { op := .enq, code := 0xA1, fmts := [0], a := true, lanes := true, pdst := true, q := 1, subs := upTo 5, evenA := true },
   { op := .qmark, code := 0xA2, fmts := [0], q := 1, subs := upTo 2 },
   { op := .qrel, code := 0xA3, fmts := [0], q := 1 }]

def opRow (op : Op) : Option OpRow := opTable.find? fun r => decide (r.op = op)

/-- A field that the row does not use is zero (R181). -/
def unused (used : Bool) (v : Nat) : Bool := used || decide (v = 0)

/-- Both lanes of a pair, or neither (R181). -/
def pairLanes (l : Nat) : Bool := l = 3 || l = 12 || l = 15

/-- The static part of R181: formats, SUBOP values, unused fields, lanes, even registers. -/
def OpRow.ok (r : OpRow) (w : Slot) : Bool :=
  r.fmts.contains w.fmt && r.subs.contains w.subop &&
  (!w.bimm || r.immFmts.contains w.fmt) &&
  unused r.dst w.dst &&
  unused (r.a && !((r.op = .loop && w.subop = 0) || (r.op = .tpush && w.subop.testBit 1))) w.srca &&
  unused (r.b && !w.bimm && !([Op.ldw, .stw, .stw2].contains r.op && w.subop = 0) &&
    !(r.op = .tpush && !w.subop.testBit 2)) w.srcb &&
  unused r.c w.srcc && unused (r.acc && !(r.op = .tpush && !w.subop.testBit 1)) w.acc &&
  (if r.lanes then w.lanes ≠ 0 && (!(w.fmt = 3 || w.fmt = 4) || pairLanes w.lanes) else w.lanes = 0) &&
  unused (w.fmt = 4) w.modsel && (w.fmt ≠ 4 || w.modsel ≤ 16) &&
  unused (r.rndFmts.contains w.fmt) w.rnd && (r.satFmts.contains w.fmt || !w.sat) && unused r.pdst w.pdst &&
  unused (w.bimm || (r.imm && !(r.op = .loop && w.subop = 1))) w.imm32.toNat && unused r.addr w.addr16 &&
  (if r.op = .loop then w.addr16 < 512 else !r.addr || w.addr16 < 512) &&
  unused (r.q ≠ 0) w.qreg && unused r.idx w.idx && unused r.idx w.stride &&
  (!([Op.loop, .endSlot].contains r.op) || (w.psel = 0 && !w.pinv)) &&
  (!r.evenDst || w.dst % 2 = 0) && (!r.evenA || w.srca % 2 = 0) &&
  (r.op ≠ .loop || w.subop = 1 || (1 ≤ w.imm32.toNat && w.imm32.toNat ≤ 65536)) &&
  (r.op ≠ .cvt || (cvtPair (w.subop % 16) w.fmt && cvtPos w)) && (r.op ≠ .tpush || w.subop < 8)
where
  /-- The element position of CVT exists on the side that holds more than one element per lane
(R190). RND may be set for every pair: R181 asks 0 of it only outside float and conversion operations. -/
  cvtPos (w : Slot) : Bool :=
    let n := max (32 / fmtWidth (w.subop % 16)) (32 / fmtWidth w.fmt)
    decide (w.subop / 16 < n)

/-- The part of R181 that depends on the rig: modulus, queue role and region access. -/
def rigSlotOk (r : Rig) (op : Op) (w : Slot) : Bool :=
  (w.fmt ≠ 4 || (r.modulus w.modsel).isSome) &&
  match op with
  | .ldw => regionAccess r w.qreg accRead
  | .stw | .stw2 => regionAccess r w.qreg accWrite
  | .tpush => regionAccess r w.qreg accMortar
  | .deq | .qmark | .qrel => match r.queue? w.qreg with
    | some q => q.role = 1
    | none => false
  | .enq => match r.queue? w.qreg with
    | some q => q.role = 2 || (q.role = 3 && w.subop = 3)
    | none => false
  | _ => true
where
  regionAccess (r : Rig) (q bit : Nat) : Bool :=
    match r.regions[q]? with
    | some g => g.access.testBit bit
    | none => false

/-- The slot word is valid for its operation (R181). -/
def slotOk (op : Op) (w : Slot) : Bool :=
  match opRow op with
  | some r => r.ok w
  | none => false

/-- Reads a 128-bit slot word (R179): its operation and fields, or none where OPCODE is in no table or a
reserved bit is set. -/
def decodeSlot (v : Nat) : Option (Op × Slot) :=
  if bits v 39 1 ≠ 0 ∨ bits v 54 2 ≠ 0 then none
  else
    match opTable.find? (fun r => decide (r.code = bits v 0 8)) with
    | none => none
    | some r =>
      some (r.op,
        { fmt := bits v 8 4, psel := bits v 12 2, pinv := v.testBit 14, bimm := v.testBit 15, dst := bits v 16 5,
          srca := bits v 21 5, srcb := bits v 26 5, srcc := bits v 31 5, acc := bits v 36 3, lanes := bits v 40 4,
          modsel := bits v 44 5, rnd := bits v 49 2, sat := v.testBit 51, pdst := bits v 52 2, subop := bits v 56 8,
          imm32 := BitVec.ofNat 32 (v >>> 64), addr16 := bits v 96 16, qreg := bits v 112 6, idx := bits v 118 2,
          stride := bits v 120 8 })

/-- The 128-bit slot word of an operation and its fields (R179). -/
def encodeSlot (op : Op) (w : Slot) : Nat :=
  let code := match opRow op with
    | some r => r.code
    | none => 0
  code + 2 ^ 8 * w.fmt + 2 ^ 12 * w.psel + 2 ^ 14 * b2n w.pinv + 2 ^ 15 * b2n w.bimm + 2 ^ 16 * w.dst + 2 ^ 21 * w.srca +
  2 ^ 26 * w.srcb + 2 ^ 31 * w.srcc + 2 ^ 36 * w.acc + 2 ^ 40 * w.lanes + 2 ^ 44 * w.modsel + 2 ^ 49 * w.rnd +
  2 ^ 51 * b2n w.sat + 2 ^ 52 * w.pdst + 2 ^ 56 * w.subop + 2 ^ 64 * w.imm32.toNat + 2 ^ 96 * w.addr16 +
  2 ^ 112 * w.qreg + 2 ^ 118 * w.idx + 2 ^ 120 * w.stride

/-- The fields of a slot fit their widths (R179). -/
def slotFits (w : Slot) : Bool :=
  decide (w.fmt < 16) && decide (w.psel < 4) && decide (w.dst < 32) && decide (w.srca < 32) && decide (w.srcb < 32) &&
  decide (w.srcc < 32) && decide (w.acc < 8) && decide (w.lanes < 16) && decide (w.modsel < 32) && decide (w.rnd < 4) &&
  decide (w.pdst < 4) && decide (w.subop < 256) && decide (w.addr16 < 65536) && decide (w.qreg < 64) &&
  decide (w.idx < 4) && decide (w.stride < 256)

/-- The multipliers of the operation carry the mod-3 residue check (R167). -/
def hasResidue (op : Op) : Bool :=
  [Op.mul, .mulhi, .mad, .mmulq, .mmadq, .mmulm, .mmadm, .mtom, .fmul, .fma, .dot2, .dot4, .accmac].contains op

/-- The issuing core exists: a used position of a template Ashlar of a loaded rig. -/
def Rig.hasCore (r : Rig) (u : Issue) : Bool :=
  decide (u.pos < 64) &&
  match r.ashlars[u.ord]? with
  | some a => a.useMask.toNat.testBit u.pos
  | none => false

/-- The core issues slots: its rig runs in this stroke, nothing under it is broken, and it has not reached END. -/
def Rig.coreLive (r : Rig) (u : Issue) (c : Core) : Bool :=
  r.active && r.running && !c.ended &&
  match r.ashlars[u.ord]? with
  | some a => !a.broken
  | none => false

/-- The issue of a slot as Telltale's comparators see it (19 R691): once, also where the slot stalls. -/
def State.slotIssued (s : State) (r : Rig) (u : Issue) (c : Core) : State :=
  match (r.ashlars[u.ord]?).bind (·.place) with
  | some a => if c.stalled then s else s.bpSlot a c.pc u.pos
  | none => s

/-- Runs one slot: checks that the core exists and the word is valid, does nothing on a core that issues no
slot, fences the core on a residue mismatch (R167), and otherwise runs `body`. -/
def runSlot (s : State) (u : Issue) (op : Op) (w : Slot) (body : State → Rig → Nat → Core → State) : Res :=
  match s.rig? u.rig with
  | none => .fault .noUnit
  | some r =>
    if !r.hasCore u then .fault .noUnit
    else if !(slotOk op w && slotFits w && rigSlotOk r op w) then .fault .invalidSlot
    else
      let k := coreKey u.rig u.ord u.pos
      let s1 := s.atCycle u.cycle
      let c := s1.core k
      if !r.coreLive u c then .next s1
      else if hasResidue op && !u.resOk then .next (s1.fenceCore u.rig u.ord u.pos)
      else .next (body (s1.slotIssued r u c) r k c)

/-- A slot that changes only its own core. -/
def coreSlot (s : State) (u : Issue) (op : Op) (w : Slot) (f : Rig → Core → Core) : Res :=
  runSlot s u op w fun s1 r k c => s1.setCore k (f r c).next

end Sys2Proof.Machine
end

