-- ==== Sys2Proof/Machine/CoreMod.lean ====
section
/-!
DEFINITION. Modular operations of a core (04 R175, R186): exact for every 64-bit operand, results in [0, q).
-/

namespace Sys2Proof.Machine

/-- b^e modulo q by repeated squaring over `fuel` bits of e. -/
def powModAux (fuel b e q acc : Nat) : Nat :=
  match fuel with
  | 0 => acc
  | f + 1 => powModAux f (b * b % q) (e / 2) q (if e % 2 = 1 then acc * b % q else acc)

/-- b^e modulo q, for exponents below 2^130. -/
def powMod (b e q : Nat) : Nat := powModAux 130 (b % q) e q (1 % q)

/-- 2^−64 modulo an odd q: the 64th power of the inverse (q + 1) / 2 of 2. -/
def inv2p64 (q : Nat) : Nat := powMod ((q + 1) / 2) 64 q

/-- The modulus of the slot; a valid slot has one (R176, R181). -/
def Rig.q (r : Rig) (w : Slot) : Nat := (r.modulus w.modsel).getD 1

/-- A modular operation on the two elements of a register. -/
def modOp (s : State) (u : Issue) (op : Op) (w : Slot) (f : Nat → Nat → Nat → Nat → Nat) : Res :=
  coreSlot s u op w fun r c => c.writePairs w fun e => f (r.q w) (c.opA64 w e) (c.opB64 w e) (c.opC64 w e)

/-- MADDQ: (A + B) mod q (R186). -/
def execSlMaddq (u : Issue) (w : Slot) (s : State) : Res := modOp s u .maddq w fun q a b _ => (a + b) % q

/-- MSUBQ: (A − B) mod q (R186). -/
def execSlMsubq (u : Issue) (w : Slot) (s : State) : Res :=
  modOp s u .msubq w fun q a b _ => (((a : Int) - b) % (q : Int)).toNat

/-- MMULQ: A × B mod q, Barrett form (R186). -/
def execSlMmulq (u : Issue) (w : Slot) (s : State) : Res := modOp s u .mmulq w fun q a b _ => (a * b) % q

/-- MMADQ: (A × B + C) mod q (R186). -/
def execSlMmadq (u : Issue) (w : Slot) (s : State) : Res := modOp s u .mmadq w fun q a b c => (a * b + c) % q

/-- MMULM: A × B × 2^−64 mod q, Montgomery form (R186). -/
def execSlMmulm (u : Issue) (w : Slot) (s : State) : Res := modOp s u .mmulm w fun q a b _ => (a * b * inv2p64 q) % q

/-- MMADM: (A × B × 2^−64 + C) mod q (R186). -/
def execSlMmadm (u : Issue) (w : Slot) (s : State) : Res :=
  modOp s u .mmadm w fun q a b c => (a * b * inv2p64 q + c) % q

/-- MTOM: A × 2^64 mod q (R186). -/
def execSlMtom (u : Issue) (w : Slot) (s : State) : Res := modOp s u .mtom w fun q a _ _ => (a * 2 ^ 64) % q

/-- MREDQ: A mod q (R186). -/
def execSlMredq (u : Issue) (w : Slot) (s : State) : Res := modOp s u .mredq w fun q a _ _ => a % q

/-- MWIDE: (B × 2^64 + A) mod q (R186). -/
def execSlMwide (u : Issue) (w : Slot) (s : State) : Res := modOp s u .mwide w fun q a b _ => (b * 2 ^ 64 + a) % q

/-- MLIFT: r = A mod q lifted to [−(q−1)/2, (q−1)/2] in two's complement (R186). -/
def execSlMlift (u : Issue) (w : Slot) (s : State) : Res :=
  modOp s u .mlift w fun q a _ _ =>
    let r := a % q
    if r ≤ (q - 1) / 2 then r else (2 ^ 64 + r - q) % 2 ^ 64

end Sys2Proof.Machine
end

