-- ==== Sys2Proof/Machine/Ntt.lean ====
section
/-!
DEFINITION. The transforms of a Vault and the arithmetic of the modulus table (09 R357 to R363).
-/

namespace Sys2Proof.Machine

/-- Exponent of 2 in n, over `fuel` halvings. -/
def twoAdic (fuel n : Nat) : Nat :=
  match fuel with
  | 0 => 0
  | f + 1 => if n ≠ 0 ∧ n % 2 = 0 then twoAdic f (n / 2) + 1 else 0

/-- v of a prime q (R357). -/
def vOf (q : Nat) : Nat := twoAdic 64 (q - 1)

/-- The smallest g ≥ 2 for which g^((q−1)/2) ≡ q − 1 (R357), searched upward. -/
def nonResidue (fuel g q : Nat) : Nat :=
  match fuel with
  | 0 => g
  | f + 1 => if powMod g ((q - 1) / 2) q = q - 1 then g else nonResidue f (g + 1) q

/-- ρ of order 2^v (R357). -/
def rootOf (q : Nat) : Nat := powMod (nonResidue 100000 2 q) ((q - 1) / 2 ^ vOf q) q

/-- ω_m and ψ_m (R357). -/
def omegaOf (q m : Nat) : Nat := powMod (rootOf q) (2 ^ (vOf q - m)) q
def psiOf (q m : Nat) : Nat := powMod (rootOf q) (2 ^ (vOf q - m - 1)) q

/-- The inverse modulo a prime. -/
def invMod (x q : Nat) : Nat := powMod x (q - 2) q

/-- Σ_j x_j × pt^j mod q. -/
def polyAt (q : Nat) (xs : List Nat) (pt : Nat) : Nat := xs.foldr (fun x acc => (x + acc * pt) % q) 0

/-- The m low bits of i reversed (R359). -/
def brev (m i : Nat) : Nat := (List.range m).foldl (fun r b => r + (if i.testBit b then 2 ^ (m - 1 - b) else 0)) 0

/-- Powers pt^0 to pt^(n−1), times a start value. -/
def powersFrom (n q pt x : Nat) : List Nat :=
  match n with
  | 0 => []
  | n + 1 => x :: powersFrom n q pt (x * pt % q)

/-- The forward transform of natural-order input, in the order of R359 (R358, R360). -/
def nttForward (q m : Nat) (nega : Bool) (xs : List Nat) : List Nat :=
  let n := 2 ^ m
  let w := omegaOf q m
  let ys := if nega then (xs.zip (powersFrom n q (psiOf q m) 1)).map fun e => e.1 * e.2 % q else xs.map (· % q)
  (List.range n).map fun i => polyAt q ys (powMod w (brev m i) q)

/-- The inverse transform of input in the order of R359, in natural order (R358). -/
def nttInverse (q m : Nat) (nega scale : Bool) (xs : List Nat) : List Nat :=
  let n := 2 ^ m
  let w := invMod (omegaOf q m) q
  let nat := (List.range n).map fun k => nth xs (brev m k) 0 % q
  let s := if scale then invMod (n % q) q else 1
  let ps := if nega then powersFrom n q (invMod (psiOf q m) q) s else List.replicate n s
  ((List.range n).zip ps).map fun e => polyAt q nat (powMod w e.1 q) * e.2 % q

/-- The squarings of one Miller–Rabin base: x, over `fuel` steps. -/
def mrSquares (fuel n x : Nat) : Bool :=
  match fuel with
  | 0 => false
  | f + 1 => if x = n - 1 then true else mrSquares f n (x * x % n)

/-- The deterministic Miller–Rabin test over the first 12 prime bases (R362), for odd n of at least 3. -/
def isPrime (n : Nat) : Bool :=
  let v := twoAdic 64 (n - 1)
  [2, 3, 5, 7, 11, 13, 17, 19, 23, 29, 31, 37].all fun a =>
    if a % n = 0 then true
    else
      let x := powMod a ((n - 1) / 2 ^ v) n
      x = 1 || mrSquares v n x

/-- A modulus of R363 serves transforms of size 2^m of the kind. -/
def modulusServes (q m : Nat) (nega : Bool) : Bool :=
  decide (q ≥ 2 ^ 32) && decide (10 ≤ m) && decide (m ≤ 19) && decide ((if nega then m + 1 else m) ≤ vOf q)

/-- Largest m of the kind, or 0 (R380). -/
def maxSize (q : Nat) (nega : Bool) : Nat :=
  ((List.range 20).filter fun m => modulusServes q m nega).foldl max 0

end Sys2Proof.Machine
end

