-- ==== Sys2Proof/Machine/MortarOps.lean ====
section
/-!
DEFINITION. Mortar units (05 R213 to R221, 13 R537 to R539): queues, the application of an add to its bed
entry, and what the commit or an overrun does to the beds.
-/

namespace Sys2Proof.Machine

/-- The Mortar unit of an address (R213): an Ashlar index, or 4,800 + pseudo-channel index. -/
def State.mortarUnit (s : State) (a : Nat) : Nat :=
  match s.place a with
  | .ashlar x _ => x
  | .hbm pc _ => 4800 + pc
  | _ => 0

/-- HBM stack of a unit, whose MORTAR page counts for it; none for an Ashlar unit. -/
def mortarStack (unit : Nat) : Option Nat := if unit < 4800 then none else some ((unit - 4800) / 32)

/-- Queue entries of a unit (R218). -/
def mortarEntries (unit : Nat) : Nat := if unit < 4800 then 64 else 128

/-- Provisional words of a unit per stroke (R218). -/
def mortarProv (unit : Nat) : Nat := if unit < 4800 then 1024 else 512

/-- The adds in a unit's queue. -/
def State.mortarQueue (s : State) (unit : Nat) : List MAdd :=
  s.fabric.adds.filter fun m => decide (s.mortarUnit m.addr = unit)

/-- QUEUE_NOW (13 R537). -/
def State.mortarNow (s : State) (unit : Nat) : Nat := min (s.mortarQueue unit).length (mortarEntries unit)

/-- The provisional bed words of a unit in this stroke (13 R537). -/
def State.provWords (s : State) (unit : Nat) : Nat :=
  (s.fabric.bed.filter fun e => e.2.prov.isSome && decide (s.mortarUnit (32 * e.1) = unit)).length

/-- An add enters the queue of its unit: an HBM unit counts it when more than 16 entries of other sources are
ahead of it (13 R538). -/
def State.queueAdd (s : State) (m : MAdd) : State :=
  let u := s.mortarUnit m.addr
  let ahead := ((s.mortarQueue u).filter fun x => decide (x.src ≠ m.src)).length
  let s1 : State := { s with fabric := { s.fabric with
    adds := s.fabric.adds ++ [m],
    fed := if s.fabric.fed.contains (m.src, u) then s.fabric.fed else s.fabric.fed ++ [(m.src, u)] } }
  match mortarStack u with
  | some k => if ahead > 16 then (s1.bump .mortar k 0x58).latchEvt .mortar k 2 else s1
  | none => s1

/-- Elements of an add applied to a stored value, both as numbers (R214). -/
def AddFmt.apply (f : AddFmt) (bytes stored add : Nat) : Nat :=
  match f with
  | .u32 => lanes 4 32 fun a b => a + b
  | .f32 => lanes (bytes / 4) 32 fun a b => Sys2Proof.Machine.f32.add 0 a b
  | .u64 => lanes 2 64 fun a b => a + b
  | .modq q => lanes 2 64 fun a b => if q = 0 then a + b else (a + b) % q
where
  lanes (n w : Nat) (op : Nat → Nat → Nat) : Nat :=
    (List.range n).foldl (fun v i => v + 2 ^ (w * i) * (op (bits stored (w * i) w) (bits add (w * i) w) % 2 ^ w)) 0

/-- The sum of the leaves of an adder tree from position `lo` on, of `d` levels: a node with one present input passes it on, one
with none is absent (R210). -/
def treeSum (f : AddFmt) (bytes : Nat) (l : NMap W256) : Nat → Nat → Option Nat
  | 0, lo => (l.find? lo).map (·.toNat)
  | d + 1, lo =>
    match treeSum f bytes l d lo, treeSum f bytes l d (lo + 2 ^ d) with
    | some a, some b => some (f.apply bytes a b)
    | some a, none => some a
    | none, y => y

/-- A push is presented to the adder tree of its Ashlar (R209, R211): it joins the group of its cycle, or opens one; none where
the tree takes another group in this cycle, or is still taking a BF16 group. -/
def State.treePush (s : State) (pos : Nat) (m : MAdd) : Option State :=
  let ord := m.tree.map (·.1)
  let sameTree (x : MAdd) : Bool := decide (x.src = m.src ∧ x.tree.isSome ∧ x.tree.map (·.1) = ord)
  let fits (x : MAdd) : Bool := decide (x.src = m.src ∧ x.tree = m.tree ∧ x.addr = m.addr ∧ x.bytes = m.bytes ∧ x.entered = m.entered)
  if s.fabric.adds.any fun x => sameTree x && !fits x &&
      (decide (x.entered = m.entered) || (decide (x.bytes = 32) && decide (x.entered + 1 = m.entered))) then none
  else if s.fabric.adds.any fits then
    let join (x : MAdd) : MAdd :=
      let l := x.leaves.insertAt pos m.data
      { x with leaves := l, data := BitVec.ofNat 256 ((treeSum x.fmt x.bytes l 6 0).getD 0), poison := x.poison || m.poison }
    some { s with fabric := { s.fabric with adds := s.fabric.adds.map fun x => if fits x then join x else x } }
  else some (s.queueAdd { m with leaves := [(pos, m.data)] })

/-- The value a unit adds to: the provisional entry, or else the committed value of the word (R216). -/
def State.provValue (s : State) (w : Nat) : W256 × Bool × State :=
  match (s.fabric.bed.get {} w).prov with
  | some (v, bad) => (v, bad, s)
  | none =>
    let r := s.readWord 2 w
    (BitVec.ofNat 256 (ofLe r.1), r.2.1, r.2.2)

/-- Applies an add to the provisional entry of its word; a poisoned value or destination leaves it poisoned
(R208, R216). -/
def State.applyAdd (s : State) (m : MAdd) : State :=
  let w := m.addr / 32
  let o := 8 * (m.addr % 32)
  let p := (s.watched m.addr m.bytes 3 2).provValue w
  let v := setBits p.1.toNat o (8 * m.bytes) (m.fmt.apply m.bytes (bits p.1.toNat o (8 * m.bytes)) m.data.toNat)
  let bad := p.2.1 || m.poison
  let e := p.2.2.fabric.bed.get {} w
  let s1 : State := { p.2.2 with fabric := { p.2.2.fabric with
    bed := p.2.2.fabric.bed.put {} w { e with prov := some (BitVec.ofNat 256 v, bad), adds := e.adds + 1 } } }
  match mortarStack (s.mortarUnit m.addr) with
  | some k => if bad then (s1.bump .mortar k 0x60).latchEvt .mortar k 4 else s1
  | none => s1

/-- The add can be served: its word is in the bed, or a provisional word is left (R218). -/
def State.canServe (s : State) (m : MAdd) : Bool :=
  (s.fabric.bed.get {} (m.addr / 32)).prov.isSome ||
  decide (s.provWords (s.mortarUnit m.addr) < mortarProv (s.mortarUnit m.addr))

/-- Takes out the first add of the list that satisfies `p`. -/
def takeAdd (p : MAdd → Bool) : List MAdd → Option (MAdd × List MAdd)
  | [] => none
  | m :: r => if p m then some (m, r) else (takeAdd p r).map fun x => (x.1, m :: x.2)

/-- A unit serves the next entry of its queue at a cycle; the entries that wait for a provisional word are
counted once each (R215, R218, 13 R538). -/
def State.serveMortar (s : State) (unit cycle : Nat) : State :=
  match takeAdd (fun m => decide (s.mortarUnit m.addr = unit ∧ m.entered ≤ cycle) && s.canServe m) s.fabric.adds with
  | none =>
    let waits := s.fabric.adds.filter fun m => decide (s.mortarUnit m.addr = unit ∧ m.entered ≤ cycle) && !m.waited
    let s1 : State := { s with fabric := { s.fabric with
      adds := s.fabric.adds.map fun m => if s.mortarUnit m.addr = unit ∧ m.entered ≤ cycle then { m with waited := true } else m } }
    match mortarStack unit with
    | some k => s1.bumpBy .mortar k 0x5C waits.length
    | none => s1
  | some (m, rest) =>
    let s1 : State := { s with fabric := { s.fabric with
      adds := rest,
      held1920 := if m.entered ≤ 1920 ∧ cycle > 1920 then s.fabric.held1920.modify 0 unit (· + 1) else s.fabric.held1920 } }
    s1.applyAdd m

/-- Entries that a unit's queue held at cycle 1,920 of this stroke (R235, 13 R537). -/
def State.heldAt1920 (s : State) (unit : Nat) : Nat :=
  min (s.fabric.held1920.get 0 unit + ((s.mortarQueue unit).filter fun m => decide (m.entered ≤ 1920)).length) (mortarEntries unit)

/-- The unit held more than three quarters of its entries at cycle 1,920 (R235). -/
def State.pressed (s : State) (unit : Nat) : Bool := decide (4 * s.heldAt1920 unit > 3 * mortarEntries unit)

/-- Some queue that received the party's adds was above three quarters (R235). -/
def State.srcPressed (s : State) (src : AddSource) : Bool :=
  s.fabric.fed.any fun e => decide (e.1 = src) && s.pressed e.2

/-! ### Whether the stroke overruns (02 R83, R84) -/

/-- A sealed rig of Tamrik's own, whose image the manual does not give: what it does in a stroke stands in the
operations of its round or function, and its cores reach END. -/
def Rig.ownWork (r : Rig) : Bool := r.sealed && r.seqs.isEmpty

/-- Core positions of a template Ashlar that have not executed END by cycle 1,984 (R83, R84). -/
def State.notEnded (s : State) (id ord : Nat) (a : RigAshlar) : List Nat :=
  (positions a.useMask).filter fun p =>
    let c := s.core (coreKey id ord p)
    !(c.ended && decide (c.endCycle ≤ 1984))

/-- The Ashlars of a running rig that have not reached their end-of-stroke marker, as (ashlar, rig): one with a
core without END, and one held back by a fault of this stroke (02 R83, 03 R137, R145, 18 R659). -/
def State.lateOf (s : State) (id : Nat) (r : Rig) : List (Nat × Nat) :=
  if !r.active then []
  else
    ((List.range r.ashlars.length).zip r.ashlars).filterMap fun e =>
      match e.2.place with
      | none => none
      | some a =>
        if s.stroke.strokeFaults.contains (id, a) || (!r.ownWork && !(s.notEnded id e.1 e.2).isEmpty) then some (a, id) else none

/-- Every Ashlar that has not reached its marker. -/
def State.lateAshlars (s : State) : List (Nat × Nat) := s.fabric.rigs.flatMap fun e => s.lateOf e.1 e.2

/-- The stroke is an overrun (02 R84). -/
def State.overran (s : State) : Bool := !s.lateAshlars.isEmpty || !s.fabric.adds.isEmpty

/-! ### The commit of the beds -/

/-- The registers that count lost writes of a word's store (R217, 13 R538). -/
def State.lostWrites (s : State) (w n : Nat) : State :=
  if n = 0 then s
  else match s.place (32 * w) with
    | .ashlar x _ => (s.captMem .ashlar x (32 * w) 6 0 0).bumpBy .ashlar x 0x34 n
    | .hbm pc _ =>
      let k := pc / 32
      ((((s.captMem .mortar k (32 * w) 6 0 0).bumpBy .mortar k 0x34 n).bumpBy .mortar k 0x64 n).latchEvt .mortar k 8)
    | _ => s

/-- A provisional entry becomes the word's committed value (R216). -/
def BedEntry.settle (e : BedEntry) : BedEntry :=
  match e.prov with
  | some v => { comm := some v }
  | none => { comm := e.comm }

/-- At cycle 2,041 of a stroke that commits every provisional entry becomes committed (R216): lost writes
and the adds applied are counted (R217, 13 R538). -/
def State.commitBeds (s : State) : State :=
  let s1 := s.fabric.bed.foldl (fun t e =>
    let t1 := if e.2.prov.isSome then t.lostWrites e.1 e.2.wrote else t
    match mortarStack (s.mortarUnit (32 * e.1)) with
    | some k => if e.2.prov.isSome then t1.bump64 .mortar k 0x4C e.2.adds else t1
    | none => t1) s
  { s1 with fabric := { s1.fabric with bed := s1.fabric.bed.map fun e => (e.1, e.2.settle) } }

/-- In an overrun every provisional entry is discarded (R216). -/
def State.discardBeds (s : State) : State :=
  { s with fabric := { s.fabric with
    bed := (s.fabric.bed.filter fun e => e.2.comm.isSome).map fun e => (e.1, { comm := e.2.comm }) } }

/-- Writes the committed entry of a word back to memory (R216). -/
def State.writeBack (s : State) (w : Nat) : State :=
  let e := s.fabric.bed.get {} w
  match e.comm with
  | some (v, bad) =>
    let s1 := s.storeWord w (toLe 32 v.toNat) (if bad then poisonDelta else 0)
    { s1 with fabric := { s1.fabric with bed := s1.fabric.bed.put {} w { e with comm := none } } }
  | none => s

/-- A Mortar unit serves the next entry of its queue (R216, R218). -/
def execMortarAdd (unit cycle : Nat) (s : State) : Res :=
  if unit ≥ 5184 then .fault .noUnit
  else .next ((s.atCycle cycle).serveMortar unit cycle)

/-- A committed bed entry is written back to memory (R216). -/
def execBedWriteBack (word : Nat) (s : State) : Res := .next (s.writeBack word)

end Sys2Proof.Machine
end

