-- ==== Sys2Proof/Machine/RigImage.lean ====
section
/-!
DEFINITION. The rig image container (03 R121 to R130): parsing and the MALFORMED checks.
-/

namespace Sys2Proof.Machine

/-- What a well-formed image gives: the rig it describes, not placed, and the header fields that the load
checks use. -/
structure RigImage where
  rig : Rig
  kind : Nat
  signKind : Nat
  endCycle : Nat
  mortarFinish : Nat
  signerId : List Byte
  signature : List Byte
  measured : List Byte
  deriving DecidableEq, Repr

/-- A section: type, offset, length. -/
structure Section where
  type : Nat
  off : Nat
  len : Nat
  deriving DecidableEq, Repr

/-- The section table (R123). -/
def sectionTable (l : List Byte) (n : Nat) : List (Section × Nat) :=
  (List.range n).map fun i =>
    let o := 64 + 16 * i
    ({ type := leAt l o 2, off := leAt l (o + 8) 8, len := leAt l (o + 4) 4 }, leAt l (o + 2) 2)

/-- Two sections share no byte. -/
def Section.apart (a b : Section) : Bool := decide (a.off + a.len ≤ b.off) || decide (b.off + b.len ≤ a.off)

/-- Every pair of a list satisfies `f`. -/
def allPairs {α : Type} (f : α → α → Bool) : List α → Bool
  | [] => true
  | a :: r => r.all (f a) && allPairs f r

/-- The table keeps R123, R124 and R130: known types at most once, ASHLARS and SEQUENCES present, offsets
aligned, sections apart and between the table and the signature block. -/
def tableOk (t : List (Section × Nat)) (imageLen : Nat) : Bool :=
  t.all (fun e => decide (e.2 = 0) && decide (1 ≤ e.1.type) && decide (e.1.type ≤ 7) && decide (e.1.off % 64 = 0) &&
    decide (64 + 16 * t.length ≤ e.1.off) && decide (e.1.off + e.1.len ≤ imageLen - 96)) &&
  allPairs (fun a b => decide (a.1.type ≠ b.1.type) && a.1.apart b.1) t &&
  (t.map (·.1.type)).contains 1 && (t.map (·.1.type)).contains 2

/-- The bytes of a section; an absent one is empty. -/
def sectionBytes (l : List Byte) (t : List (Section × Nat)) (ty : Nat) : List Byte :=
  match t.find? (fun e => e.1.type = ty) with
  | some (e, _) => (l.drop e.off).take e.len
  | none => []

/-- Entries of `n` bytes of a section. -/
def entries (n : Nat) (l : List Byte) : List (List Byte) := chunksOf (l.length / n + 1) n l

/-- ASHLARS entries, each with the used cores of the earlier ones (R125). -/
def parseAshlars (first : Nat) : List (List Byte) → Option (List RigAshlar)
  | [] => some []
  | e :: r =>
    let use := leAt e 0 8
    let free := leAt e 8 8
    if use = 0 ∨ leAt e 16 4 ≠ first ∨ !allZero (e.drop 20) ∨ (free ||| use) ≠ use then none
    else
      match parseAshlars (first + popcount 64 use) r with
      | none => none
      | some l => some ({ useMask := BitVec.ofNat 64 use, freeMask := BitVec.ofNat 64 free, seqFirst := first, place := none } :: l)

/-- Constant records (R127); `fuel` bounds their number. -/
def parseConsts (fuel ashlars : Nat) (l : List Byte) : Option (List RigConst) :=
  match fuel with
  | 0 => if l.isEmpty then some [] else none
  | f + 1 =>
    if l.isEmpty then some []
    else
      let ord := leAt l 0 2
      let kind := leAt l 2 1
      let pos := leAt l 3 1
      let off := leAt l 4 4
      let len := leAt l 8 4
      if l.length < 32 + len ∨ ord ≥ ashlars ∨ kind > 1 ∨ pos ≥ 64 ∨ (kind = 1 ∧ pos ≠ 0) ∨ off % 32 ≠ 0 ∨ len % 32 ≠ 0 ∨
          off + len > (if kind = 0 then 8192 else 1048576) ∨ !allZero ((l.drop 12).take 20) then none
      else match parseConsts f ashlars (l.drop (32 + len)) with
        | none => none
        | some r => some ({ ord := ord, kind := kind, pos := pos, offset := off, data := (l.drop 32).take len } :: r)

/-- A MODULI entry whose constants are those computed from its Q (R177, R178). -/
def parseModulus (e : List Byte) : Option Modulus :=
  let q := leAt e 0 8
  let k := Nat.log2 q + 1
  if q % 2 = 0 ∨ q < 3 ∨ q ≥ 2 ^ 62 then none
  else if leAt e 8 8 ≠ 2 ^ (2 * k) / q % 2 ^ 64 ∨ leAt e 16 8 * q % 2 ^ 64 ≠ 2 ^ 64 - 1 ∨ leAt e 24 8 ≠ 2 ^ 128 % q then none
  else some { q := q }

/-- A region declaration (R128). -/
def parseRegion (e : List Byte) : Option RigRegion :=
  if leAt e 1 1 ≥ 8 ∨ leAt e 2 6 ≠ 0 then none
  else some { tag := leAt e 0 1, access := leAt e 1 1, minLen := leAt e 8 8, base := 0, len := 0 }

/-- A queue declaration (R128). -/
def parseQueue (e : List Byte) : Option RigQueue :=
  let n := leAt e 2 2
  if leAt e 1 1 ≠ 0 ∨ leAt e 4 4 ≠ 0 ∨ leAt e 0 1 < 1 ∨ leAt e 0 1 > 3 ∨ n < 1 ∨ n > 4096 then none
  else some { role := leAt e 0 1, perStroke := n, queue := 0, allowance := n }

/-- A route entry (R126). -/
def parseRoute (ashlars : Nat) (e : List Byte) : Option Route :=
  if leAt e 0 2 ≥ ashlars ∨ leAt e 2 2 ≥ ashlars ∨ leAt e 0 2 = leAt e 2 2 ∨ leAt e 6 2 ≠ 0 then none
  else some { src := leAt e 0 2, dst := leAt e 2 2, maxCycles := leAt e 4 2 }

/-- Every LOOP of a sequence keeps R182 and R183: the ends of the bodies that enclose slot i, innermost
first. -/
def loopsOk (n i : Nat) (ends : List Nat) : List (Op × Slot) → Bool
  | [] => true
  | (op, w) :: r =>
    let live := ends.filter (fun e => decide (i ≤ e))
    if op = .loop then
      let e := w.addr16 % 512
      decide (i < e) && decide (e + 2 ≤ n) && decide (live.length < 2) && live.all (fun x => decide (e ≤ x)) &&
      loopsOk n (i + 1) (e :: live) r
    else loopsOk n (i + 1) live r

/-- A neighbour operation of a core: allowed on mesh cores, toward a connected link (R116, R130). -/
def neighbourOk (a : RigAshlar) (pos : Nat) (op : Op) (w : Slot) : Bool :=
  if op = .send ∨ op = .recv then !a.freeMask.toNat.testBit pos && (neighbour pos (w.subop % 4)).isSome else true

/-- The sequence of one core is valid (R130, R181). -/
def sequenceOk (r : Rig) (a : RigAshlar) (pos : Nat) (words : List (BitVec 128)) : Bool :=
  let d := words.map fun v => decodeSlot v.toNat
  d.all (fun x => match x with
    | some (op, w) => slotOk op w && rigSlotOk r op w && neighbourOk a pos op w
    | none => false) &&
  (match d.getLast? with
    | some (some (op, _)) => decide (op = .endSlot)
    | _ => false) &&
  loopsOk words.length 0 [] (d.filterMap id)

/-- The used cores of a rig in the order of SEQUENCES: template Ashlar and position (R124). -/
def Rig.usedCores (r : Rig) : List (RigAshlar × Nat) :=
  r.ashlars.flatMap fun a => (positions a.useMask).map fun p => (a, p)

/-- Every core's sequence is valid. -/
def Rig.sequencesOk (r : Rig) : Bool :=
  ((List.range r.usedCores.length).zip r.usedCores).all fun e =>
    sequenceOk r e.2.1 e.2.2 ((r.seqs.drop (e.1 * r.seqLen)).take r.seqLen)

/-- SHAPE and its limits (R122, R130). -/
def shapeOk (shape cols rows count : Nat) : Bool :=
  match shape with
  | 0 => decide (cols = 0 ∧ rows = 0)
  | 1 => decide (cols = 0 ∧ rows = 0 ∧ count ≤ 50)
  | 2 => decide (cols = 0 ∧ rows = 0 ∧ count ≤ 800)
  | 3 => decide (1 ≤ cols ∧ cols ≤ 5 ∧ 1 ≤ rows ∧ rows ≤ 10 ∧ count = cols * rows)
  | _ => false

/-- The header of an image keeps the stated ranges (R122). -/
def headerOk (l : List Byte) : Bool :=
  let n := leAt l 0x12 2
  let count := leAt l 0x14 2
  decide (64 + 96 ≤ l.length) && decide (leAt l 0 4 = 0x4D365249) && decide (leAt l 4 2 = 1) && decide (leAt l 6 2 = 64) &&
  decide (leAt l 8 8 = l.length) && decide (1 ≤ leAt l 0x10 1) && decide (leAt l 0x10 1 ≤ 2) && decide (leAt l 0x11 1 ≤ 2) &&
  decide (2 ≤ n) && decide (n ≤ 7) && decide (1 ≤ count) && decide (count ≤ 4800) &&
  decide (1 ≤ leAt l 0x16 2) && decide (leAt l 0x16 2 ≤ 512) &&
  shapeOk (leAt l 0x1C 1) (leAt l 0x1D 1) (leAt l 0x1E 1) count && decide (leAt l 0x1F 1 ≠ 0) &&
  decide (leAt l 0x24 2 ≤ 64) && decide (leAt l 0x26 2 ≤ 64) && decide (leAt l 0x28 1 ≤ 1) &&
  (decide (leAt l 0x28 1 = 0) || decide (leAt l 0x1C 1 = 1) || decide (leAt l 0x1C 1 = 3)) && allZero ((l.drop 0x29).take 23)

/-- The image a byte string holds, or none where it is MALFORMED (R130). -/
def parseImage (l : List Byte) : Option RigImage :=
  if !headerOk l then none
  else
    let n := leAt l 0x12 2
    let count := leAt l 0x14 2
    let t := sectionTable l n
    if l.length < 64 + 16 * n + 96 ∨ !tableOk t l.length then none
    else
      let ash := sectionBytes l t 1
      let seq := sectionBytes l t 2
      let mods := sectionBytes l t 5
      let hasMods := (t.map (·.1.type)).contains 5
      if ash.length ≠ 32 * count ∨ (sectionBytes l t 3).length % 8 ≠ 0 ∨ mods.length % 32 ≠ 0 ∨ mods.length > 512 ∨
          (hasMods ∧ mods.length = 0) ∨
          (sectionBytes l t 6).length ≠ 16 * leAt l 0x26 2 ∨ (sectionBytes l t 7).length ≠ 8 * leAt l 0x24 2 then none
      else
        match parseAshlars 0 (entries 32 ash), parseConsts (l.length / 32 + 1) count (sectionBytes l t 4),
            (entries 32 mods).mapM parseModulus, (entries 16 (sectionBytes l t 6)).mapM parseRegion,
            (entries 8 (sectionBytes l t 7)).mapM parseQueue, (entries 8 (sectionBytes l t 3)).mapM (parseRoute count) with
        | some as, some cs, some ms, some rs, some qs, some ro =>
          let r : Rig := {
            sealed := decide (leAt l 0x10 1 = 2), version := BitVec.ofNat 32 (leAt l 0x20 4),
            measurement := BitVec.ofNat 256 (ofBe (sha256 (l.take (l.length - 96)))), seqLen := leAt l 0x16 2,
            shape := leAt l 0x1C 1, blockCols := leAt l 0x1D 1, blockRows := leAt l 0x1E 1, symAllow := leAt l 0x1F 1,
            vaultUse := decide (leAt l 0x28 1 = 1), ashlars := as,
            seqs := (entries 16 seq).map fun e => BitVec.ofNat 128 (ofLe e),
            routes := ro, consts := cs, moduli := ms, regions := rs, queues := qs }
          if seq.length ≠ r.usedCores.length * r.seqLen * 16 ∨ !r.sequencesOk then none
          else some {
            rig := r, kind := leAt l 0x10 1, signKind := leAt l 0x11 1, endCycle := leAt l 0x18 2,
            mortarFinish := leAt l 0x1A 2, signerId := (l.drop (l.length - 96)).take 32,
            signature := l.drop (l.length - 64), measured := l.take (l.length - 96) }
        | _, _, _, _, _, _ => none

end Sys2Proof.Machine
end

