-- ==== Sys2Proof/Machine/Place.lean ====
section
/-!
DEFINITION. Placement (03 R134 to R142), routes over the links in service (03 R117, 18 R658, R659), areas of
memory that Tamrik allocates (16 R626).
-/

namespace Sys2Proof.Machine

/-! ### Routes -/

/-- Course index, Pier, row and column of an Ashlar (R113). -/
def courseOf (a : Nat) : Nat := a / 50
def pierOfAshlar (a : Nat) : Nat := a / 800

/-- The steps of a walk along one dimension, as (node, direction) pairs: `cw` nodes per row. -/
def walkCols (fuel cw node col : Nat) : List (Nat × Nat) × Nat :=
  match fuel with
  | 0 => ([], node)
  | f + 1 =>
    if node % cw = col then ([], node)
    else
      let d := if node % cw < col then 1 else 3
      let n := if node % cw < col then node + 1 else node - 1
      let r := walkCols f cw n col
      ((node, d) :: r.1, r.2)

def walkRows (fuel cw node row : Nat) : List (Nat × Nat) × Nat :=
  match fuel with
  | 0 => ([], node)
  | f + 1 =>
    if node / cw = row then ([], node)
    else
      let d := if node / cw < row then 2 else 0
      let n := if node / cw < row then node + cw else node - cw
      let r := walkRows f cw n row
      ((node, d) :: r.1, r.2)

/-- The links a route crosses on a grid of `cw` columns: column first, or row first (R117, 18 R659). -/
def gridRoute (cw src dst : Nat) (colFirst : Bool) : List (Nat × Nat) :=
  if colFirst then
    let c := walkCols cw cw src (dst % cw)
    c.1 ++ (walkRows 4 cw c.2 (dst / cw)).1
  else
    let r := walkRows 4 cw src (dst / cw)
    r.1 ++ (walkCols cw cw r.2 (dst % cw)).1

/-- A Pier-link side is down when all four of its lanes are (R658). -/
def State.pierLinkDown (s : State) (p d : Nat) : Bool :=
  (List.range 4).all fun l => s.fabric.downLinks.contains (1000 + 16 * p + 4 * d + l)

/-- A Course-link side is down. -/
def State.courseLinkDown (s : State) (c d : Nat) : Bool := s.fabric.downLinks.contains (4 * c + d)

/-- The route in use between two nodes of a grid under a test of down links; none when both routes cross a
down link (R659). -/
def liveRoute (cw : Nat) (down : Nat × Nat → Bool) (src dst : Nat) : Option (List (Nat × Nat)) :=
  let a := gridRoute cw src dst true
  if a.any down then
    let b := gridRoute cw src dst false
    if b.any down then none else some b
  else some a

/-- The route between two Piers. -/
def State.pierRoute (s : State) (p q : Nat) : Option (List (Nat × Nat)) :=
  liveRoute 3 (fun e => s.pierLinkDown e.1 e.2) p q

/-- The route between two Courses of one Pier, as module Course indices. -/
def State.courseRoute (s : State) (c d : Nat) : Option (List (Nat × Nat)) :=
  (liveRoute 4 (fun e => s.courseLinkDown (c / 16 * 16 + e.1) e.2) (c % 16) (d % 16)).map fun l =>
    l.map fun e => (c / 16 * 16 + e.1, e.2)

/-- A destination of a rig's traffic. -/
inductive Dest where
  | ashlar (a : Nat)
  | pier (p : Nat)
  deriving DecidableEq, Repr

/-- The Course links (false) and Pier links (true) on the path from an Ashlar to a destination; none where it
is unreachable. Paths to HBM and to other Piers are taken over the Pier links. -/
def State.path (s : State) (a : Nat) (d : Dest) : Option (List (Bool × Nat × Nat)) :=
  let pierPath (p : Nat) := (s.pierRoute (pierOfAshlar a) p).map fun l => l.map fun e => (true, e)
  match d with
  | .pier p => pierPath p
  | .ashlar b =>
    if pierOfAshlar a ≠ pierOfAshlar b then pierPath (pierOfAshlar b)
    else (s.courseRoute (courseOf a) (courseOf b)).map fun l => l.map fun e => (false, e)

/-- The destinations that the memory of a region has: its Ashlar, or the Piers of its pages (R509). -/
def State.regionDests (s : State) (g : RigRegion) : List Dest :=
  match s.place g.base with
  | .ashlar x _ => [.ashlar x]
  | .hbm _ _ =>
    if s.ten.moduleMode then (List.range 6).map Dest.pier
    else ((List.range 6).filter fun p =>
      decide (g.base < (p + 1) * 0x3000000000 ∧ p * 0x3000000000 < g.base + g.len)).map Dest.pier
  | .vaultBuf c => [.ashlar (50 * c)]
  | _ => []

/-- The destinations of a template Ashlar: its declared routes and every bound region of the rig. -/
def State.destsOf (s : State) (r : Rig) (ord : Nat) : List Dest :=
  (r.routes.filterMap fun t =>
    if t.src = ord then ((r.ashlars[t.dst]?).bind (·.place)).map Dest.ashlar else none) ++
  r.regions.flatMap s.regionDests

/-- Every destination of a template Ashlar on `a` is reachable (R659). -/
def State.reachable (s : State) (r : Rig) (ord a : Nat) : Bool :=
  (s.destsOf r ord).all fun d => (s.path a d).isSome

/-- Worst-case latency between two Ashlars (02 R81). -/
def ashlarLatency (a b : Nat) : Nat :=
  if courseOf a = courseOf b then
    let x := a % 50
    let y := b % 50
    let dr := if x / 5 < y / 5 then y / 5 - x / 5 else x / 5 - y / 5
    let dc := if x % 5 < y % 5 then y % 5 - x % 5 else x % 5 - y % 5
    6 + 2 * (dr + dc)
  else if pierOfAshlar a = pierOfAshlar b then 64
  else 64 + 160 * (gridRoute 3 (pierOfAshlar a) (pierOfAshlar b) true).length

/-! ### Placement (R135, R136) -/

/-- Fenced positions of an Ashlar as a number. -/
def State.fenceOf (s : State) (a : Nat) : Nat := (s.ashlar a).fence.toNat

/-- One symmetry of a template Ashlar on Ashlar `x`, if it clears the fences (R135). -/
def State.placeSym (s : State) (ra : RigAshlar) (x g : Nat) : Option RigAshlar :=
  let fence := s.fenceOf x
  let mesh := (positions (ra.useMask &&& ~~~ra.freeMask)).map (symPos g)
  if mesh.any (fun p => fence.testBit p) then none
  else if popcount 64 ra.useMask.toNat > 64 - popcount 64 fence then none
  else
    let open_ := (List.range 64).filter fun p => !fence.testBit p && !mesh.contains p
    some { ra with place := some x, sym := g, freeAt := open_.take (popcount 64 ra.freeMask.toNat), broken := false }

/-- A template Ashlar on Ashlar `x` under the first allowed symmetry that fits. -/
def State.placeOn (s : State) (symAllow : Nat) (ra : RigAshlar) (x : Nat) : Option RigAshlar :=
  (List.range 8).findSome? fun g => if symAllow.testBit g then s.placeSym ra x g else none

/-- The Ashlar takes a placement: it holds no rig but `self`, and is not withdrawn (R134, R141). -/
def State.ashlarFree (s : State) (self : Option Nat) (x : Nat) : Bool :=
  !(s.ashlar x).withdrawn &&
  match s.rigOn x with
  | some (id, _, _) => self = some id
  | none => true

/-- The Vault of a Course can be bound: no other rig holds it, and it is not fenced (09 R354). -/
def State.vaultFree (s : State) (self : Option Nat) (c : Nat) : Bool :=
  !(s.fabric.vaults.get {} c).fenced &&
  s.fabric.rigs.all fun e => self = some e.1 || !e.2.vaultUse || e.2.ashlars.all fun a => a.place.map courseOf ≠ some c

/-- The Ashlar keeps SHAPE with those already chosen, and VAULT_USE (R135). -/
def State.shapeFits (s : State) (self : Option Nat) (r : Rig) (chosen : List Nat) (x : Nat) : Bool :=
  (match r.shape with
    | 1 => chosen.all fun y => courseOf y = courseOf x
    | 2 => chosen.all fun y => pierOfAshlar y = pierOfAshlar x
    | _ => true) &&
  (!r.vaultUse || s.vaultFree self (courseOf x))

/-- Places the template Ashlars in order, each on the first candidate that takes it. -/
def State.placeSeq (s : State) (self : Option Nat) (r : Rig) (done : List RigAshlar) : List RigAshlar → Option (List RigAshlar)
  | [] => some done.reverse
  | a :: rest =>
    let chosen := done.filterMap (·.place)
    match (List.range 4800).findSome? fun x =>
        if s.ashlarFree self x && !chosen.contains x && s.shapeFits self r chosen x then s.placeOn r.symAllow a x else none with
    | some b => s.placeSeq self r (b :: done) rest
    | none => none

/-- Places a BLOCK rig with its top-left Ashlar on `x`. -/
def State.placeBlock (s : State) (self : Option Nat) (r : Rig) (x : Nat) : Option (List RigAshlar) :=
  if x % 5 + r.blockCols > 5 ∨ x % 50 / 5 + r.blockRows > 10 then none
  else ((List.range r.ashlars.length).zip r.ashlars).mapM fun e =>
    let y := x + 5 * (e.1 / r.blockCols) + e.1 % r.blockCols
    if s.ashlarFree self y && (!r.vaultUse || s.vaultFree self (courseOf y)) then s.placeOn r.symAllow e.2 y else none

/-- Every route entry keeps its MAX_CYCLES and its path is in service (R135, 18 R659). -/
def State.routesOk (s : State) (r : Rig) (as : List RigAshlar) : Bool :=
  r.routes.all fun t =>
    match (as[t.src]?).bind (·.place), (as[t.dst]?).bind (·.place) with
    | some a, some b => decide (ashlarLatency a b ≤ t.maxCycles) && (s.path a (.ashlar b)).isSome
    | _, _ => false

/-- The placement procedure of R135. -/
def State.findPlace (s : State) (self : Option Nat) (r : Rig) : Option (List RigAshlar) :=
  let p := if r.shape = 3 then (List.range 4800).findSome? fun x => s.placeBlock self r x else s.placeSeq self r [] r.ashlars
  match p with
  | some as => if s.routesOk r as then some as else none
  | none => none

/-! ### Allocation of areas (16 R626) -/

/-- The range is free and inside [lo, hi). -/
def State.rangeFree (s : State) (lo hi a len : Nat) : Bool :=
  decide (lo ≤ a) && decide (a + len ≤ hi) &&
  s.fabric.areas.all fun r => decide (r.base + r.len ≤ a) || decide (a + len ≤ r.base)

/-- Least element of a list of addresses. -/
def minOf : List Nat → Option Nat
  | [] => none
  | a :: r => some (r.foldl min a)

/-- Greatest element of a list of addresses. -/
def maxOf : List Nat → Option Nat
  | [] => none
  | a :: r => some (r.foldl max a)

/-- The lowest free address of a range that holds `len` bytes. -/
def State.lowestFree (s : State) (lo hi len : Nat) : Option Nat :=
  minOf ((lo :: s.fabric.areas.map fun r => r.base + r.len).filter fun a => s.rangeFree lo hi a len)

/-- The highest free address of a range that holds `len` bytes. -/
def State.highestFree (s : State) (lo hi len : Nat) : Option Nat :=
  if len > hi then none
  else maxOf (((hi - len) :: (s.fabric.areas.filter fun r => decide (len ≤ r.base)).map fun r => r.base - len).filter
    fun a => s.rangeFree lo hi a len)

/-- Bounds of an Ashlar store outside the RESERVED granule. -/
def storeLo (a : Nat) : Nat := ashlarBase a
def storeHi (a : Nat) : Nat := ashlarBase a + 0x5F0000

/-! ### Constants of a rig (R127) -/

/-- Bytes of the Ashlar-store constant area of an ordinal, in whole granules. -/
def Rig.constLen (r : Rig) (ord : Nat) : Nat :=
  let n := r.consts.foldl (fun m c => if c.kind = 1 ∧ c.ord = ord then max m (c.offset + c.data.length) else m) 0
  (n + 0xFFFF) / 0x10000 * 0x10000

/-- Allocates the constant area of an ordinal on its Ashlar and loads it. -/
def State.placeConstArea (s : State) (id : Nat) (r : Rig) (ord : Nat) (ra : RigAshlar) : Option (RigAshlar × State) :=
  let n := r.constLen ord
  match ra.place with
  | none => none
  | some x =>
    if n = 0 then some (ra, s)
    else if (s.ashlar x).storeWithdrawn then none
    else match s.highestFree (storeLo x) (storeHi x) n with
      | none => none
      | some b => some ({ ra with constBase := b }, s.addArea { base := b, len := n, tag := if r.sealed then 3 else 1, owner := .rig id })

/-- Loads the core-store constants of an ordinal into the cores it is placed on. -/
def State.loadCoreConsts (s : State) (r : Rig) (ord : Nat) (ra : RigAshlar) : State :=
  r.consts.foldl (fun t c =>
    if c.kind = 0 ∧ c.ord = ord then
      t.writeBytes 9 (coreStoreBase (ra.place.getD 0 * 64 + ra.physPos c.pos) + c.offset) c.data
    else t) s

/-- Loads the Ashlar-store constants of an ordinal. -/
def State.loadAshlarConsts (s : State) (r : Rig) (ord : Nat) (ra : RigAshlar) : State :=
  r.consts.foldl (fun t c => if c.kind = 1 ∧ c.ord = ord then t.writeBytes 9 (ra.constBase + c.offset) c.data else t) s

/-- Constant areas of every ordinal, in order; none when a store lacks the granules. -/
def State.constAreas (s : State) (id : Nat) (r : Rig) : List (Nat × RigAshlar) → Option (List RigAshlar × State)
  | [] => some ([], s)
  | (o, a) :: rest =>
    match s.placeConstArea id r o a with
    | none => none
    | some (b, s1) =>
      match s1.constAreas id r rest with
      | none => none
      | some (l, s2) => some (b :: l, s2)

/-- Forgets the cores of a rig: working copies and shadows are zero when it is first placed, and discarded
when it is unloaded (05 R207). -/
def State.dropCores (s : State) (id : Nat) : State :=
  { s with cores := s.cores.dropWhere fun k => decide (k / (8192 * 64) = id) }

/-- Places a rig as `id`: finds the placement, allocates and loads its constants, binds the Vault (R134,
R135, 09 R355). None where there is no placement. -/
def State.placeRig (s : State) (id : Nat) (r : Rig) : Option State :=
  match s.findPlace none r with
  | none => none
  | some as =>
    match s.constAreas id r ((List.range as.length).zip as) with
    | none => none
    | some (as1, s1) =>
      let c := courseOf (((as1[0]?).bind (·.place)).getD 0)
      let r1 : Rig := { r with ashlars := as1 }
      let r2 : Rig := if r.vaultUse then { r1 with
          regions := r.regions.modify (r.regions.length - 1) fun g => { g with base := vaultBufBase c, len := 0x100000 },
          queues := r.queues.modify (r.queues.length - 1) fun q => { q with queue := 16384 + c } } else r1
      let s2 := ((s1.dropCores id).setRig id r2)
      let s3 := if r.vaultUse then s2.setQueue (16384 + c) { owner := .tenant, ringLog := 9, consumer := .unit } else s2
      some (((List.range as1.length).zip as1).foldl (fun t e => (t.loadCoreConsts r e.1 e.2).loadAshlarConsts r e.1 e.2) s3)

/-- Binds the rig's queues (10 R393, R416): the rig becomes the consumer of its consume queues. -/
def State.bindQueues (s : State) (r : Rig) (bind : Bool) : State :=
  r.queues.foldl (fun t b =>
    if b.queue ≥ 16384 then t
    else
      let q := t.queue b.queue
      t.setQueue b.queue { q with
        rigBinds := if bind then q.rigBinds + 1 else q.rigBinds - 1,
        consumer :=
          if b.role = 1 then (if bind then .rig else if q.hostCons then .host else .none)
          else if b.role = 3 then (if bind then .unit else if q.hostCons then .host else .none)
          else q.consumer }) s

/-- The Course of the Vault a placed rig holds. -/
def Rig.vaultCourse (r : Rig) : Option Nat :=
  if r.vaultUse then ((r.ashlars[0]?).bind (·.place)).map courseOf else none

/-- The Vault's binding ends: its buffer is zeroised and its input emptied (09 R356). -/
def State.unbindVault (s : State) (r : Rig) : State :=
  match r.vaultCourse with
  | none => s
  | some c =>
    let s1 := (s.zeroRange (vaultBufBase c) 0x200000).setQueue (16384 + c) {}
    { s1 with fabric := { s1.fabric with
        vaults := s1.fabric.vaults.modify {} c fun v => { v with completion := none } } }

/-- Unloads a rig: its open packets are abandoned (10 R392), its queues unbound, its constant areas zero-filled
and freed, its shadows discarded (05 R207), its adds and requests dropped. -/
def State.unloadRig (s : State) (id : Nat) : State :=
  match s.rig? id with
  | none => s
  | some r =>
    let s1 := r.queues.foldl (fun t b =>
      match (t.queue b.queue).openItem with
      | some i => match i.src with
        | .core k => if k / (8192 * 64) = id then t.producerStops b.queue i.src else t
        | _ => t
      | none => t) s
    let s2 := (s1.bindQueues r false).unbindVault r
    let s3 := s2.fabric.areas.foldl (fun t a => if a.owner = .rig id then t.zeroRange a.base a.len else t) s2
    let s4 := (s3.dropAreas fun a => decide (a.owner = .rig id)).dropCores id
    { s4 with fabric := { s4.fabric with
        rigs := s4.fabric.rigs.erase id,
        adds := s4.fabric.adds.filter fun m => decide (m.src ≠ .rig id),
        dma := s4.fabric.dma.map fun e => (e.1, e.2.filter fun q => decide (q.rig ≠ id)) } }

/-! ### Re-placement (R139 to R142, 09 R372) -/

/-- The current place of an ordinal still clears the fences and reaches everything. -/
def State.stillFits (s : State) (r : Rig) (ord : Nat) (ra : RigAshlar) : Bool :=
  match ra.place with
  | none => false
  | some x =>
    !(s.ashlar x).withdrawn && s.reachable r ord x &&
    (positions ra.useMask).all fun p => !(s.fenceOf x).testBit (ra.physPos p)

/-- Step 1 of R139: the same Ashlar. -/
def State.replaceHere (s : State) (r : Rig) (ord : Nat) (ra : RigAshlar) : Option RigAshlar :=
  if s.stillFits r ord ra then some { ra with broken := false }
  else match ra.place with
    | some x => if (s.ashlar x).withdrawn || !s.reachable r ord x then none else s.placeOn r.symAllow ra x
    | none => none

/-- Step 2 of R139: the lowest-indexed free Ashlar that meets SHAPE and the routes of the ordinal. -/
def State.replaceThere (s : State) (id : Nat) (r : Rig) (ord : Nat) (ra : RigAshlar) : Option RigAshlar :=
  if r.shape = 3 then none
  else
    let others := (((List.range r.ashlars.length).zip r.ashlars).filter fun e => decide (e.1 ≠ ord)).filterMap (·.2.place)
    (List.range 4800).findSome? fun x =>
      if s.ashlarFree none x && s.shapeFits (some id) r others x && s.reachable r ord x then
        match s.placeOn r.symAllow ra x with
        | some b =>
          let as := r.ashlars.set ord b
          if (r.routes.filter fun t => decide (t.src = ord ∨ t.dst = ord)).all fun t =>
              match (as[t.src]?).bind (·.place), (as[t.dst]?).bind (·.place) with
              | some a, some c => decide (ashlarLatency a c ≤ t.maxCycles) && (s.path a (.ashlar c)).isSome
              | _, _ => false
          then some b else none
        | none => none
      else none

/-- Moves the constant area of an ordinal to its new Ashlar (R139): the words are copied and the old granules
freed. -/
def State.moveConsts (s : State) (id : Nat) (r : Rig) (ord : Nat) (old new : RigAshlar) : Option (RigAshlar × State) :=
  if old.place = new.place ∨ r.constLen ord = 0 then some (new, s)
  else match s.placeConstArea id r ord new with
    | none => none
    | some (b, s1) =>
      let s2 := (s1.copyWords 9 (old.constBase / 32) (b.constBase / 32) (r.constLen ord / 32)).2
      some (b, (s2.zeroRange old.constBase (r.constLen ord)).dropAreas fun a => decide (a.base = old.constBase ∧ a.owner = .rig id))

/-- The counters and event of a re-placement that completes on an Ashlar (R157, R159). -/
def State.replaced (s : State) (x : Nat) : State := (s.bump .ashlar x 0x5C).latchEvt .ashlar x 16

/-- Re-places one ordinal: none where it finds no placement (R142). Core stores are reloaded from the image
(13 R519), shadows restored by template position. -/
def State.replaceOrd (s : State) (id : Nat) (r : Rig) (ord : Nat) : Option (Rig × State) :=
  match r.ashlars[ord]? with
  | none => none
  | some ra =>
    let n := match s.replaceHere r ord ra with
      | some b => some b
      | none => s.replaceThere id r ord ra
    match n with
    | none => none
    | some b =>
      match s.moveConsts id r ord ra b with
      | none => none
      | some (b1, s1) =>
        let b2 := { b1 with evacuated := false }
        some ({ r with ashlars := r.ashlars.set ord b2 }, (s1.loadCoreConsts r ord b2).replaced (b2.place.getD 0))

/-- Re-places the broken ordinals one after another. -/
def State.replaceAll (s : State) (id : Nat) (r : Rig) : List Nat → Option (Rig × State)
  | [] => some (r, s)
  | o :: rest =>
    match s.replaceOrd id r o with
    | none => none
    | some (r1, s1) => (s1.setRig id r1).replaceAll id r1 rest

/-- The route entries between ordinals already placed in `as` keep their MAX_CYCLES and are in service. -/
def State.routesSoFar (s : State) (r : Rig) (as : List RigAshlar) : Bool :=
  r.routes.all fun t =>
    match (as[t.src]?).bind (·.place), (as[t.dst]?).bind (·.place) with
    | some a, some b => decide (ashlarLatency a b ≤ t.maxCycles) && (s.path a (.ashlar b)).isSome
    | _, _ => true

/-- Step 2 of R139 for every ordinal in turn: the lowest-indexed free Ashlar that meets SHAPE and the routes to
the ordinals placed before it. -/
def State.placeEach (s : State) (r : Rig) (done : List RigAshlar) : List RigAshlar → Option (List RigAshlar)
  | [] => some done.reverse
  | a :: rest =>
    let chosen := done.filterMap (·.place)
    match (List.range 4800).findSome? fun x =>
        if s.ashlarFree none x && !chosen.contains x && s.shapeFits none r chosen x then
          match s.placeOn r.symAllow a x with
          | some b => if s.routesSoFar r (b :: done).reverse then some b else none
          | none => none
        else none with
    | some b => s.placeEach r (b :: done) rest
    | none => none

/-- Moves the constant areas of a rig from its old ordinals to the new ones (R139, step 2). -/
def State.moveEach (s : State) (id : Nat) (r : Rig) : List (Nat × RigAshlar × RigAshlar) → Option (List RigAshlar × State)
  | [] => some ([], s)
  | (o, a, b) :: rest =>
    match s.moveConsts id r o a b with
    | none => none
    | some (c, s1) =>
      match s1.moveEach id r rest with
      | none => none
      | some (l, s2) => some ({ c with broken := false, evacuated := false } :: l, s2)

/-- Moves a rig whose Vault failed into another Course, by step 2 of R139 for every ordinal (09 R372). -/
def State.replaceCourse (s : State) (id : Nat) (r : Rig) : Option (Rig × State) :=
  let r0 : Rig := { r with ashlars := r.ashlars.map fun a => { a with place := none } }
  let s0 := s.setRig id r0
  match (if r.shape = 3 then s0.findPlace none r0 else s0.placeEach r0 [] r0.ashlars) with
  | none => none
  | some as =>
    let c := courseOf (((as[0]?).bind (·.place)).getD 0)
    match ((s.unbindVault r).setQueue (16384 + c) { owner := .tenant, ringLog := 9, consumer := .unit }).moveEach id r
        ((List.range as.length).zip (r.ashlars.zip as)) with
    | none => none
    | some (as1, s1) =>
      let r1 : Rig := { r with
        ashlars := as1, vaultBroken := false,
        regions := r.regions.modify (r.regions.length - 1) fun g => { g with base := vaultBufBase c },
        queues := r.queues.modify (r.queues.length - 1) fun q => { q with queue := 16384 + c } }
      some (r1, ((List.range as1.length).zip as1).foldl (fun t e =>
        (t.loadCoreConsts r e.1 e.2).replaced (e.2.place.getD 0)) (s1.setRig id r1))

/-- Tamrik tries the re-placement of a faulted rig (R139, R142): where it succeeds the rig may run again from
the next intake, where not it stays faulted and nothing changes. -/
def State.replaceRig (s : State) (id : Nat) : State :=
  match s.rig? id with
  | none => s
  | some r =>
    if !r.faulted || r.permanent then s
    else
      let broken := (List.range r.ashlars.length).filter fun o => (r.ashlars[o]?.map (·.broken)) = some true
      if broken.isEmpty && !r.vaultBroken then s
      else
        let res := if r.vaultBroken then s.replaceCourse id r else s.replaceAll id r broken
        match res with
        | none => s
        | some (r1, s1) => s1.setRig id { r1 with faulted := false, replaceFrom := none, charges := 0, vaultBroken := false }

def execRigReplace (id : Nat) (s : State) : Res :=
  match s.rig? id with
  | none => .fault .noUnit
  | some _ => .next (s.replaceRig id)

end Sys2Proof.Machine
end

