-- ==== Sys2Proof/Machine/Rounds.lean ====
section
/-!
DEFINITION. Rounds: the descriptor (01 R27 to R35), the neighbour graph (R30, R31), the roster and its statuses
(R49, R50, 06 R238 to R248), chunk arithmetic and the accumulator and result areas (R69, 06 R256, 07 R303).
-/

namespace Sys2Proof.Machine

/-! ### Access to the round blocks -/

def State.round (s : State) (b : Nat) : Round := s.rounds.blocks.get {} b

def State.setRound (s : State) (b : Nat) (r : Round) : State :=
  { s with rounds := { s.rounds with blocks := s.rounds.blocks.put {} b r } }

def State.modRound (s : State) (b : Nat) (f : Round → Round) : State := s.setRound b (f (s.round b))

/-- A state in which the round holds its resources (R34, R69). -/
def RState.live : RState → Bool
  | .none => false
  | .retired => false
  | _ => true

/-- A state from which a round may fault (R45, R46). -/
def RState.working : RState → Bool
  | .open => true
  | .collect => true
  | .close => true
  | .recover => true
  | _ => false

/-- Offset of round block b's registers on the MUSTER page (06 R266). -/
def blockOff (b : Nat) : Nat := 0x400 + 0x40 * b

/-! ### The descriptor -/

/-- The header of a round descriptor (R27). -/
structure Descr where
  magic : Nat
  version : Nat
  headerLen : Nat
  id : Nat
  crewId : Nat
  totalLen : Nat
  slots : Nat
  enrolled : Nat
  chunks : Nat
  sliceFirst : Nat
  format : Nat
  modIndex : Nat
  prg : Nat
  late : Nat
  degree : Nat
  threshold : Nat
  floor : Nat
  graph : Nat
  flags : Nat
  passIndex : Nat
  passCount : Nat
  dCollect : Nat
  dClose : Nat
  dRecover : Nat
  dRetire : Nat
  sigma : Nat
  enrolOff : Nat
  graphOff : Nat
  graphLen : Nat
  keySet : Nat
  rest : List Byte
  deriving DecidableEq, Repr

def parseDescr (l : List Byte) : Descr :=
  let f := leAt l
  { magic := f 0 4, version := f 4 2, headerLen := f 6 2, id := f 8 8, crewId := f 0x10 8, totalLen := f 0x18 8,
    slots := f 0x20 4, enrolled := f 0x24 4, chunks := f 0x28 4, sliceFirst := f 0x2C 4, format := f 0x30 1,
    modIndex := f 0x31 1, prg := f 0x32 1, late := f 0x33 1, degree := f 0x34 2, threshold := f 0x36 2,
    floor := f 0x38 4, graph := f 0x3C 1, flags := f 0x3D 1, passIndex := f 0x3E 1, passCount := f 0x3F 1,
    dCollect := f 0x40 8, dClose := f 0x48 8, dRecover := f 0x50 8, dRetire := f 0x58 8, sigma := f 0x60 8,
    enrolOff := f 0x68 8, graphOff := f 0x70 8, graphLen := f 0x78 8, keySet := f 0x80 8,
    rest := (l.drop 0x88).take 0x78 }

def Round.d (r : Round) : Descr := parseDescr r.desc

/-- NOISE and MULTI_PASS. -/
def Descr.noise (d : Descr) : Bool := d.flags.testBit 0
def Descr.multiPass (d : Descr) : Bool := d.flags.testBit 1

/-- FORMAT GLWE: a ciphertext round (R28). -/
def Descr.glwe (d : Descr) : Bool := decide (d.format = 4)

/-- Words of a chunk and bytes of a word (R28). -/
def Descr.words (d : Descr) : Nat := if d.format = 1 then 1008 else 504
def Descr.wordBytes (d : Descr) : Nat := if d.format = 1 then 4 else 8

/-- The modulus of the round's words (R28), none where MOD_INDEX names an empty entry. -/
def State.modulusOf (s : State) (d : Descr) : Option Nat :=
  match d.format with
  | 1 => some (2 ^ 32)
  | 2 => some (2 ^ 64)
  | _ =>
    if d.modIndex = 16 then some p64
    else if d.modIndex > 16 then none
    else match s.fabric.moduli.get 0 d.modIndex with
      | 0 => none
      | q => some q

/-- The modulus of a round in a block; 1 stands for none. -/
def State.roundMod (s : State) (r : Round) : Nat := (s.modulusOf r.d).getD 1

/-- Bytes of the enrolment bitmap (R29). -/
def Descr.bitmapLen (d : Descr) : Nat := (d.slots + 7) / 8

/-- Span S of a GLWE ciphertext in chunks (08 R342). -/
def KeySet.span (k : KeySet) : Nat := ((k.k + 1) * 2 ^ k.logn + 503) / 504

/-- R342 for a GLWE round. -/
def State.glweOk (s : State) (d : Descr) : Bool :=
  match s.cipher.keySets.find? d.keySet with
  | some k =>
    d.graph = 0 && d.prg = 0 && k.param = 0x10 && k.modIndex = d.modIndex && decide (k.span ≠ 0) &&
    decide (d.chunks % k.span = 0) && decide (d.floor ≤ k.levelMax)
  | none => false

/-- Header fields in range, whatever the format (R27, R31, 07 R281, R300). -/
def Descr.fieldsOk (d : Descr) : Bool :=
  decide (d.magic = 0x4D365244) && decide (d.version = 1) && decide (d.headerLen = 256) && decide (d.id ≠ 0) &&
  decide (32 ≤ d.slots ∧ d.slots ≤ 4194304) && decide (1 ≤ d.chunks ∧ d.chunks ≠ 0xFFFFFFFF) &&
  decide (1 ≤ d.format ∧ d.format ≤ 4) && decide (d.prg ≤ 1) && decide (d.late ≤ 1) &&
  decide (1 ≤ d.degree ∧ d.degree ≤ 512) && decide (1 ≤ d.threshold ∧ d.threshold ≤ d.degree) &&
  decide (32 ≤ d.floor ∧ d.floor ≤ d.enrolled) && decide (d.flags < 4) &&
  (if d.multiPass then decide (1 ≤ d.passCount ∧ d.passIndex < d.passCount)
    else decide (d.passIndex = 0 ∧ d.passCount = 1 ∧ d.sliceFirst = 0)) &&
  (if d.noise then decide (0x1000000 ≤ d.sigma ∧ d.sigma ≤ 2 ^ 56) else decide (d.sigma = 0)) && allZero d.rest

/-- Offsets and lengths fit TOTAL_LEN and do not overlap (R27, R34). -/
def Descr.offsetsOk (d : Descr) : Bool :=
  decide (d.enrolOff % 64 = 0 ∧ 256 ≤ d.enrolOff ∧ d.enrolOff + d.bitmapLen ≤ d.totalLen) &&
  (if d.graph = 1 then
    decide (d.graphOff % 64 = 0 ∧ 256 ≤ d.graphOff ∧ d.graphOff + d.graphLen ≤ d.totalLen) &&
    (decide (d.graphOff + d.graphLen ≤ d.enrolOff) || decide (d.enrolOff + d.bitmapLen ≤ d.graphOff))
  else decide (d.graphOff = 0 ∧ d.graphLen = 0))

/-- The header keeps its ranges and rules (R34 MALFORMED). -/
def State.headerOk (s : State) (d : Descr) : Bool :=
  d.fieldsOk && d.offsetsOk &&
  (if d.format = 3 ∨ d.format = 4 then decide (d.modIndex ≤ 16) && (s.modulusOf d).isSome else decide (d.modIndex = 0)) &&
  (if d.glwe then s.glweOk d
    else decide (d.keySet = 0) && (d.graph = 1 || (d.graph = 2 && decide (d.degree % 2 = 0 ∧ d.degree + 1 ≤ d.enrolled))))

/-! ### Memory of a round (R69) -/

/-- Chunks a member owns: chunk c is owned by position c mod n (R61). -/
def ownedCount (chunks n p : Nat) : Nat := if p < chunks then (chunks - p + n - 1) / n else 0

/-- Bytes of one chunk area. -/
def areaBytes (chunks n : Nat) : Nat := ((chunks + n - 1) / n * 4096 + 0x1FFFFF) / 0x200000 * 0x200000

/-- The footprint of R69. -/
def footprintOf (d : Descr) (n : Nat) : Nat := 2 * areaBytes d.chunks n + 32 * d.slots + d.totalLen

/-- HBM bytes of the areas that count against free memory by size: tenant regions, function areas, withheld
pages; rounds count by their footprints. -/
def State.hbmUsed (s : State) : Nat :=
  (s.fabric.areas.filter fun r => decide (r.base < 0x12000000000) && (match r.owner with
    | .tenant => true
    | .func _ => true
    | .withheld => true
    | _ => false)).foldl (fun n r => n + r.len) 0

/-- Free memory (R69): 1,152 GiB less Tamrik's 16 GiB and everything allocated. -/
def State.freeMemory (s : State) : Nat :=
  (1152 - 16) * 2 ^ 30 - s.hbmUsed -
    s.rounds.blocks.foldl (fun n e => n + if e.2.state.live then e.2.footprint else 0) 0

/-- Allocates an HBM area for Tamrik from the highest free addresses (16 R626). -/
def State.allocHigh (s : State) (len tag : Nat) (o : AreaOwner) : Option (Nat × State) :=
  match s.highestFree 0 0x12000000000 len with
  | some a => some (a, s.addArea { base := a, len := len, tag := tag, owner := o })
  | none => none

/-- The chunk areas, the roster and the descriptor copy of a round (R69, 06 R238). -/
def State.allocRound (s : State) (b : Nat) (d : Descr) (n : Nat) : Option (Nat × Nat × State) := do
  let a ← s.allocHigh (areaBytes d.chunks n) 3 (.round b)
  let c ← a.2.allocHigh (areaBytes d.chunks n) 3 (.round b)
  let e ← c.2.allocHigh ((32 * d.slots + d.totalLen + 0x1FFFFF) / 0x200000 * 0x200000) 3 (.round b)
  some (a.1, c.1, e.2)

/-! ### The neighbour graph (R29 to R31) -/

/-- Slot s is enrolled in the bitmap. -/
def Round.inBitmap (r : Round) (slot : Nat) : Bool :=
  let d := r.d
  decide (slot < d.slots) && (r.desc.getD (d.enrolOff + slot / 8) 0).toNat.testBit (slot % 8)

/-- The enrolled slots in ascending order. -/
def Round.enrolledSlots (r : Round) : List Nat := (List.range r.d.slots).filter r.inBitmap

/-- Offset s of an explicit graph, and entry i of its neighbour array. -/
def Round.graphOffset (r : Round) (s : Nat) : Nat := leAt r.desc (r.d.graphOff + 4 * s) 4
def Round.graphEntry (r : Round) (i : Nat) : Nat := leAt r.desc (r.d.graphOff + 4 * (r.d.slots + 1) + 4 * i) 4

/-- The neighbours of a slot, ascending (R30, R31). -/
def Round.neighbours (r : Round) (s : Nat) : List Nat :=
  if r.d.graph = 1 then
    (List.range (r.graphOffset (s + 1) - r.graphOffset s)).map fun k => r.graphEntry (r.graphOffset s + k)
  else
    let e := r.enrolledSlots
    let m := e.length
    match e.findIdx? (· = s) with
    | none => []
    | some i =>
      let h := r.d.degree / 2
      let l := (List.range h).flatMap fun j => [nth e ((i + (j + 1)) % m) 0, nth e ((i + m - (j + 1) % m) % m) 0]
      (List.range r.d.slots).filter fun t => l.contains t && t != s

/-- A list is strictly ascending. -/
def ascending : List Nat → Bool
  | a :: b :: r => decide (a < b) && ascending (b :: r)
  | _ => true

/-- The explicit graph keeps R30. -/
def Round.graphOk (r : Round) : Bool :=
  let d := r.d
  decide (d.graphLen = 4 * (d.slots + 1) + 4 * r.graphOffset d.slots) && decide (r.graphOffset 0 = 0) &&
  (List.range d.slots).all fun s =>
    let l := r.neighbours s
    decide (r.graphOffset s ≤ r.graphOffset (s + 1)) && decide (r.graphOffset (s + 1) ≤ r.graphOffset d.slots) &&
    ascending l && !l.contains s && decide (l.length ≤ d.degree) && (r.inBitmap s || l.isEmpty) &&
    l.all fun t => r.inBitmap t && (r.neighbours t).contains s

/-- The bitmap keeps R29 and ENROLLED_COUNT, the graph keeps R30, and no word was uncorrectable (R46 DESCRIPTOR). -/
def Round.descriptorOk (r : Round) : Bool :=
  let d := r.d
  !r.descBad && decide (r.enrolledSlots.length = d.enrolled) &&
  ((List.range (8 * d.bitmapLen)).drop d.slots).all (fun s => !(r.desc.getD (d.enrolOff + s / 8) 0).toNat.testBit (s % 8)) &&
  (d.graph ≠ 1 || r.graphOk)

/-! ### The roster -/

def Round.entry (r : Round) (slot : Nat) : REntry := r.roster.get {} slot

def Round.setEntry (r : Round) (slot : Nat) (e : REntry) : Round := { r with roster := r.roster.put {} slot e }

/-- The roster that setup builds (06 R240). -/
def Round.initRoster (r : Round) : Round :=
  r.enrolledSlots.foldl (fun t s => t.setEntry s { estate := .enrolled, home := s % r.size }) r

/-- Shifts the window past admitted chunks (06 R248). -/
def slideWindow (fuel next w : Nat) : Nat × Nat :=
  match fuel with
  | 0 => (next, w)
  | f + 1 => if w % 2 = 1 then slideWindow f (next + 1) (w / 2) else (next, w)

/-- R248 on the roster entry. -/
def REntry.takeIn (e : REntry) (chunk : Nat) (final : Bool) : REntry :=
  let w := slideWindow 64 e.next (e.window.toNat ||| 2 ^ (chunk - e.next))
  { e with next := w.1, window := BitVec.ofNat 64 w.2, admitted := e.admitted + 1, finalSeen := e.finalSeen || final }

/-- Chunk c of the entry is admitted (06 R239). -/
def REntry.has (e : REntry) (c : Nat) : Bool :=
  decide (c < e.next) || (decide (c < e.next + 64) && e.window.toNat.testBit (c - e.next))

/-- The status of a slot from its entry (R50, 06 R259). -/
def REntry.status (e : REntry) (chunks : Nat) : Nat :=
  match e.estate with
  | .notEnrolled => 0
  | .enrolled => if e.admitted = 0 then 4 else if e.admitted = chunks then 1 else 2
  | .dropped => if e.admitted = 0 then 4 else 3

/-- A client is dropped at a commit (06 R253). -/
def REntry.drop (e : REntry) (stroke : Nat) : REntry := { e with estate := .dropped, dropStroke := some stroke }

/-- The classification of R49 at the commit of D_CLOSE. -/
def REntry.classify (e : REntry) (chunks late stroke : Nat) : REntry :=
  if e.estate = .enrolled ∧ (e.admitted = 0 ∨ (e.admitted < chunks ∧ late = 1)) then e.drop stroke else e

/-- The published status of a slot: from the roster for home slots, from the crew's exchange for others. -/
def Round.statusOf (r : Round) (slot : Nat) : Nat :=
  if r.size ≤ 1 ∨ slot % r.size = r.pos then (r.entry slot).outcome else r.statuses.get 0 slot

/-- The slots of the round that are home slots of this member. -/
def Round.homeSlots (r : Round) : List Nat := (r.roster.filter fun e => decide (e.2.home = r.pos)).map (·.1)

/-- The admitted set A_s of a slot (07 R291). -/
def Round.inA (r : Round) (slot c : Nat) : Bool :=
  let st := r.statusOf slot
  if st = 0 ∨ st = 4 ∨ r.retractions.contains (slot, c) then false
  else if r.size ≤ 1 ∨ slot % r.size = r.pos then (r.entry slot).has c
  else match r.chunkSets.find? slot with
    | some (n, w) => decide (c < n) || (decide (c < n + 64) && w.toNat.testBit (c - n))
    | none => st = 1 && decide (c < r.d.chunks)

/-! ### Counts and chunks -/

/-- Chunks this member owns, in ascending order. -/
def Round.owned (r : Round) : List Nat := (List.range (ownedCount r.d.chunks r.size r.pos)).map fun i => r.pos + i * r.size

/-- The member owns a chunk, and the chunk's entry in its areas. -/
def Round.owns (r : Round) (c : Nat) : Bool := decide (c < r.d.chunks) && decide (c % r.size = r.pos)
def Round.accAt (r : Round) (c : Nat) : Nat := r.accBase + 4096 * (c / r.size)
def Round.resAt (r : Round) (c : Nat) : Nat := r.resBase + 4096 * (c / r.size)

/-- The count word of a chunk's accumulator (06 R261): the first 8 bytes the accumulator leaves free. -/
def countWordOff : Nat := 0xFC0

/-- MIN_COUNT (06 R271). -/
def Round.minCount (r : Round) : Nat := (minOf (r.owned.map fun c => r.counts.get 0 c)).getD 0

def Round.addCount (r : Round) (c n : Nat) : Round := { r with counts := r.counts.put 0 c (r.counts.get 0 c + n) }

/-- The words of `n` bytes each that bytes hold. -/
def wordsOf (n : Nat) (l : List Byte) : List Nat := (chunksOf (l.length / n + 1) n l).map ofLe

/-- Adds words of `n` bytes modulo `m` into memory at `a`, 32-byte word by word; a poisoned word stays poisoned,
and `bad` poisons every word written (05 R208, R216). -/
def State.addWords (s : State) (n m a : Nat) (l : List Nat) (bad : Bool) : State :=
  let per := 32 / n
  (List.range ((l.length + per - 1) / per)).foldl (fun t k =>
    let old := t.readWord 2 (a / 32 + k)
    let add := (l.drop (per * k)).take per
    let cur := wordsOf n old.1
    let new := (List.range per).flatMap fun i => toLe n (if i < add.length then (nth cur i 0 + nth add i 0) % m else nth cur i 0)
    old.2.2.writeWord (a / 32 + k) new (old.2.1 || bad)) (s.watched a (n * l.length) 3 2)

/-- Adds to the 64-bit count word of a chunk (06 R261). -/
def State.addCountWord (s : State) (a n : Nat) (bad : Bool) : State :=
  let r := s.readBytes 2 (a + countWordOff) 8
  r.2.2.writeBytes 2 (a + countWordOff) (toLe 8 ((ofLe r.1 + n) % 2 ^ 64)) (r.2.1 || bad)

/-- A range holds a poisoned or uncorrectable word, or a poisoned committed bed entry. -/
def State.rangeBad (s : State) (a n : Nat) : Bool :=
  (s.ecc.any fun e => decide (a ≤ 32 * e.1 ∧ 32 * e.1 < a + n) && (match decodeDelta e.2 with
    | .poison => true
    | .uncorrectable => true
    | _ => false)) ||
  s.fabric.bed.any fun e => decide (a ≤ 32 * e.1 ∧ 32 * e.1 < a + n) && (match e.2.comm with
    | some v => v.2
    | none => false)

/-- Poisons one word of every accumulator of the round: an uncorrectable sealed structure (13 R520). -/
def State.poisonRound (s : State) (b : Nat) : State :=
  let r := s.round b
  r.owned.foldl (fun t c => t.mergeWord 9 (r.accAt c / 32) 0 [] true) s

/-! ### Masks (07 R278, R279) -/

/-- The key bytes and keystream of a PRG: `n` bytes from block `i0` on, over `fuel` blocks. -/
def keystream (prg key round chunk fuel i0 : Nat) : List Byte :=
  match fuel with
  | 0 => []
  | f + 1 =>
    let k := toLe 16 key
    let b := if prg = 0 then aesEnc (aesKeys k) (toBe 8 round ++ toBe 4 chunk ++ toBe 4 i0)
      else chachaBlock (k ++ List.replicate 16 0) i0 (toLe 8 round ++ toLe 4 chunk)
    b ++ keystream prg key round chunk f (i0 + 1)

/-- Blocks of a PRG that hold `n` bytes. -/
def blocksFor (prg n : Nat) : Nat := if prg = 0 then (n + 15) / 16 else (n + 63) / 64

/-- The mask of a key for every word of a chunk (R279), modulo m. -/
def maskWords (d : Descr) (m key chunk : Nat) : List Nat :=
  let n := if d.format = 3 then 16 else d.wordBytes
  (wordsOf n ((keystream d.prg key d.id chunk (blocksFor d.prg (n * d.words)) 0).take (n * d.words))).map fun v => v % m

/-- The prime of the shares (07 R276). -/
def shareP : Nat := 2 ^ 127 - 1

/-- The pair seed of s < t from the pair root of s (07 R274). -/
def pairSeed (d : Descr) (root t : Nat) : Nat :=
  let b := keystream d.prg root d.id 0xFFFFFFFF 1 t
  (ofLe (b.take 16) % 2 ^ 127) % shareP

/-! ### Shamir (07 R293, 08 R350) -/

/-- x^−1 modulo a prime below 2^128. -/
def invP (x p : Nat) : Nat := powP 128 (x % p) (p - 2) p

/-- Lagrange coefficient of point x at 0 for the other points, modulo p. -/
def lambdaAt (p at0 x : Nat) (others : List Nat) : Nat :=
  others.foldl (fun v xm => v * ((xm + p - at0 % p) % p) % p * invP ((xm + p - x % p) % p) p % p) (1 % p)

/-- The value at `at0` of the polynomial through the points. -/
def interpolate (p at0 : Nat) (pts : List (Nat × Nat)) : Nat :=
  pts.foldl (fun v e => (v + e.2 * lambdaAt p at0 e.1 ((pts.map (·.1)).filter (· ≠ e.1))) % p) 0

/-! ### Byte-stream items -/

/-- The message bytes of a byte-stream item (10 R387). -/
def QItem.stream (i : QItem) : List Byte := ((i.words.drop 1).flatMap fun w => toLe 24 w.w.toNat).take i.bytes

/-- Some data word of the item is uncorrectable or poisoned. -/
def QItem.hasBad (i : QItem) : Bool := (i.words.drop 1).any (·.bad)

end Sys2Proof.Machine
end

