-- ==== Sys2Proof/Machine/Crew.lean ====
section
/-!
DEFINITION. The crew channel (07 R305 to R307, 11 R441, R442): sending and receiving carriage messages, and the
naming of decisions (01 R59, R60).
-/

namespace Sys2Proof.Machine

/-- The module is in a crew (11 R439). -/
def State.inCrew (s : State) : Bool := decide (s.net.hail.phase = .crew)

/-- The module leads its crew: position 0 (11 R439). -/
def State.isLeader (s : State) : Bool := s.inCrew && decide (s.net.hail.pos = 0)

def State.setHail (s : State) (h : Hail) : State := { s with net := { s.net with hail := h } }

/-- The record of a peer. -/
def State.peer (s : State) (id : Nat) : Peer := s.net.hail.peers.get {} id

def State.setPeer (s : State) (id : Nat) (p : Peer) : State :=
  s.setHail { s.net.hail with peers := s.net.hail.peers.put {} id p }

/-- Module id at a position of the member order. -/
def State.memberId (s : State) (pos : Nat) : Nat := nth s.net.hail.members pos 0

/-- Positions of the other members. -/
def State.otherPositions (s : State) : List Nat :=
  (List.range s.net.hail.members.length).filter (· ≠ s.net.hail.pos)

/-- The nonce of a carriage message (07 R307). -/
def carryNonce (sender receiver seq : Nat) : List Byte :=
  [BitVec.ofNat 8 sender, BitVec.ofNat 8 receiver, 0, 0] ++ toLe 8 seq

/-- The cleartext header of a carriage message (07 R306). -/
def carryHeader (kind epoch round sender receiver len seq : Nat) : List Byte :=
  toLe 4 0x4D364B43 ++ [BitVec.ofNat 8 kind, 1] ++ toLe 2 epoch ++ toLe 8 round ++
  [BitVec.ofNat 8 sender, BitVec.ofNat 8 receiver] ++ toLe 2 0 ++ toLe 4 len ++ toLe 8 seq

/-- Sends one carriage message to the member at `pos`, where its channel is connected. -/
def State.carry1 (s : State) (pos kind round : Nat) (body : List Byte) : State :=
  let id := s.memberId pos
  let p := s.peer id
  if !p.connected then s
  else
    let seq := p.seqTx + 1
    let h := carryHeader kind s.net.hail.keyEpoch round s.net.hail.pos pos body.length seq
    (s.setPeer id { p with seqTx := seq }).emit
      (.carry pos (h ++ gcmSeal p.keyTx (carryNonce s.net.hail.pos pos seq) h body))

/-- Sends records of `size` bytes to the member at `pos`, as many in a message as LENGTH allows. -/
def State.carry (s : State) (pos kind round size : Nat) (records : List (List Byte)) : State :=
  let per := 65472 / size
  (List.range ((records.length + per - 1) / per)).foldl (fun t k =>
    t.carry1 pos kind round ((records.drop (per * k)).take per).flatten) s

/-- Sends records to every other member. -/
def State.carryAll (s : State) (kind round size : Nat) (records : List (List Byte)) : State :=
  s.otherPositions.foldl (fun t p => t.carry p kind round size records) s

/-- Record length of a KIND, none where it is not defined (07 R306, 11 R441). -/
def carryRecord : Nat → Option Nat
  | 1 => some 40 | 2 => some 32 | 3 => some 16 | 4 => some 8 | 5 => some 8
  | 0x10 => some 16 | 0x11 => some 8 | 0x12 => some 8 | 0x13 => some 8 | 0x14 => some 32 | 0x15 => some 8
  | 0x16 => some 16 | _ => none

/-- The block of the live round with an id. -/
def State.blockOf (s : State) (id : Nat) : Option Nat :=
  s.rounds.blocks.findSome? fun e => if e.2.state.live && decide (e.2.id = id) then some e.1 else none

/-! ### Decisions of the leader -/

/-- The 16-byte record of a DECISION (11 R441). -/
def Decision.record (d : Decision) : List Byte :=
  [BitVec.ofNat 8 d.kind, BitVec.ofNat 8 d.reason, 0, 0] ++ toLe 4 d.count ++ toLe 8 d.named

/-- The 16-byte DROP_SLOTS records of a decision. -/
def Decision.slotRecords (d : Decision) : List (List Byte) :=
  d.slots.map fun s => toLe 8 d.named ++ toLe 4 s ++ toLe 4 0

/-- Sends a decision and its slots to one member (R442). -/
def State.sendDecision (s : State) (round pos : Nat) (d : Decision) : State :=
  (s.carry pos 0x10 round 16 [d.record]).carry pos 0x16 round 16 d.slotRecords

/-- The leader names a decision: it holds it and sends it to every member (R59, 11 R442). -/
def State.nameDecision (s : State) (b : Nat) (d : Decision) : State :=
  let s1 := s.modRound b fun r => { r with decisions := r.decisions ++ [d] }
  s1.otherPositions.foldl (fun t p => t.sendDecision (s.round b).id p d) s1

/-- A reason arises in a round (R46): alone it stands for this commit; in a crew the leader names FAULTED 64
strokes later, and another member reports it to the leader (R59, 06 R263). -/
def State.raise (s : State) (b reason : Nat) : State :=
  let r := s.round b
  if !r.state.working then s
  else if !r.crew then s.setRound b { r with reasons := r.reasons ++ [reason] }
  else if s.isLeader then
    if r.decisions.any fun d => decide (d.kind = 3) then s
    else s.nameDecision b { kind := 3, reason := reason, count := 0, named := s.stroke.now + 64 }
  else s.carry 0 0x15 r.id 8 [BitVec.ofNat 8 reason :: List.replicate 7 0]

/-- The round faults on this member at this stroke's commit, whatever the crew does. -/
def State.raiseHere (s : State) (b reason : Nat) : State :=
  s.modRound b fun r => if r.state.working then { r with reasons := r.reasons ++ [reason] } else r

/-! ### Receiving -/

/-- A message is discarded (07 R307): counted, and one of KIND 1 to 4 of a live round reported to the leader. -/
def State.carryDropped (s : State) (kind round : Nat) : State :=
  let s1 := (s.bump .keystone 0 0x6C).latchEvt .keystone 0 16
  if 1 ≤ kind ∧ kind ≤ 4 then
    match s1.blockOf round with
    | some b => s1.raise b 7
    | none => s1
  else s1

/-- Opens a message from the member at `pos`: its KIND, round id and body, or none where it is discarded. -/
def State.carryOpen (s : State) (pos : Nat) (msg : List Byte) : Option (Nat × Nat × List Byte) × State :=
  let kind := leAt msg 4 1
  let round := leAt msg 8 8
  let len := leAt msg 0x14 4
  let seq := leAt msg 0x18 8
  let id := s.memberId pos
  let p := s.peer id
  let bad := decide (leAt msg 0 4 ≠ 0x4D364B43 ∨ leAt msg 5 1 ≠ 1 ∨ leAt msg 0x10 1 ≠ pos ∨
    leAt msg 0x11 1 ≠ s.net.hail.pos ∨ leAt msg 0x12 2 ≠ 0 ∨ msg.length ≠ 0x30 + len ∨
    leAt msg 6 2 ≠ s.net.hail.keyEpoch ∨ seq ≤ p.seqRx)
  match carryRecord kind with
  | none => (none, s.carryDropped kind round)
  | some n =>
    if bad || decide (len % n ≠ 0) || decide (len > 65472) then (none, s.carryDropped kind round)
    else match gcmOpen p.keyRx (carryNonce pos s.net.hail.pos seq) (msg.take 0x20) (msg.drop 0x20) with
      | none => (none, s.carryDropped kind round)
      | some body => (some (kind, round, body), s.setPeer id { p with seqRx := seq })

/-- A command that receives a message of KIND `kind` from the member at `pos`. -/
def onCarry (s : State) (pos kind : Nat) (msg : List Byte) (f : Nat → List (List Byte) → State → State) : Res :=
  if pos ≥ s.net.hail.members.length ∨ pos = s.net.hail.pos then .fault .noUnit
  else match s.carryOpen pos msg with
    | (none, s1) => .next s1
    | (some (k, round, body), s1) =>
      if k ≠ kind then .fault .badEvent
      else match s1.blockOf round with
        | none => .next s1
        | some b => .next (f b (chunksOf (body.length + 1) ((carryRecord k).getD 1) body) s1)

/-- Whether a member holds a whole decision (R442). -/
def Decision.whole (d : Decision) : Bool := d.kind ≠ 1 || decide (d.slots.length = d.count)

/-- A member holds a whole decision: it acknowledges, and a late one is handled under R60. -/
def State.decisionHeld (s : State) (b : Nat) (d : Decision) : State :=
  let s1 := s.carry 0 0x11 (s.round b).id 8 [toLe 8 d.named]
  if d.named < s.stroke.now then
    if d.kind = 1 then s1.raise b 7
    else (s1.bump .muster 0 (blockOff b + 0x3C)).latchEvt .muster 0 32
  else s1

/-- DECISION received by a member (R442). A decision already held is acknowledged again. -/
def execDecision (pos : Nat) (msg : List Byte) (s : State) : Res :=
  onCarry s pos 0x10 msg fun b recs t =>
    match recs with
    | [r] =>
      let d : Decision := { kind := leAt r 0 1, reason := leAt r 1 1, count := leAt r 4 4, named := leAt r 8 8 }
      match (t.round b).decisions.find? fun e => decide (e.kind = d.kind ∧ e.named = d.named) with
      | some e => if e.whole then t.carry 0 0x11 (t.round b).id 8 [toLe 8 e.named] else t
      | none =>
        let t1 := t.modRound b fun x => { x with decisions := x.decisions ++ [d] }
        if d.whole then t1.decisionHeld b d else t1
    | _ => t.carryDropped 0x10 (t.round b).id

/-- DROP_SLOTS received by a member (R442): the slots join the DROP decision of their NAMED stroke. -/
def execDropSlots (pos : Nat) (msg : List Byte) (s : State) : Res :=
  onCarry s pos 0x16 msg fun b recs t =>
    let named := leAt (recs.headD []) 0 8
    match (t.round b).decisions.find? fun e => decide (e.kind = 1 ∧ e.named = named) with
    | none => t.carryDropped 1 (t.round b).id
    | some e =>
      if recs.any fun r => decide (leAt r 0 8 ≠ named) then t.carryDropped 1 (t.round b).id
      else if e.whole then t
      else
        let e' : Decision := { e with slots := e.slots ++ recs.map fun r => leAt r 8 4 }
        let t1 := t.modRound b fun x => { x with decisions := x.decisions.map fun y => if y = e then e' else y }
        if e'.whole then t1.decisionHeld b e' else t1

/-- DECISION_ACK received by the leader (R442). -/
def execDecisionAck (pos : Nat) (msg : List Byte) (s : State) : Res :=
  onCarry s pos 0x11 msg fun b recs t =>
    let named := leAt (recs.headD []) 0 8
    t.modRound b fun x => { x with decisions := x.decisions.map fun d =>
      if d.named = named ∧ !d.acked.contains pos then { d with acked := d.acked ++ [pos] } else d }

/-- The leader resends the decisions of a round that a member has not acknowledged (R442). -/
def execDecisionResend (b : Nat) (s : State) : Res :=
  if b ≥ 16 then .fault .noUnit
  else if !s.isLeader then .next s
  else
    let r := s.round b
    .next (r.decisions.foldl (fun t d =>
      (t.otherPositions.filter fun p => !d.acked.contains p).foldl (fun u p => u.sendDecision r.id p d) t) s)

/-- DIGEST received by the leader during OPEN (01 R57). -/
def execDigest (pos : Nat) (msg : List Byte) (s : State) : Res :=
  onCarry s pos 0x14 msg fun b recs t =>
    let r := t.round b
    if recs.headD [] = sha256 r.desc then t.setRound b { r with digests := r.digests ++ [pos] } else t.raise b 7

/-- FAULT_REPORT received by the leader (06 R263). -/
def execFaultReport (pos : Nat) (msg : List Byte) (s : State) : Res :=
  onCarry s pos 0x15 msg fun b recs t => if t.isLeader then t.raise b (leAt (recs.headD []) 0 1) else t

/-- COUNTS received by an owner (06 R262). -/
def execCounts (pos : Nat) (msg : List Byte) (s : State) : Res :=
  onCarry s pos 0x12 msg fun b recs t =>
    t.modRound b fun r =>
      let r1 := recs.foldl (fun x e => if x.owns (leAt e 0 4) then x.addCount (leAt e 0 4) (leAt e 4 4) else x) r
      { r1 with countsFrom := if r1.countsFrom.contains pos then r1.countsFrom else r1.countsFrom ++ [pos] }

/-- STATUSES received by a member (06 R262). -/
def execStatuses (pos : Nat) (msg : List Byte) (s : State) : Res :=
  onCarry s pos 0x13 msg fun b recs t =>
    t.modRound b fun r =>
      let r1 := recs.foldl (fun (x : Round) e => { x with statuses := x.statuses.put 0 (leAt e 0 4) (leAt e 4 1) }) r
      { r1 with statusFrom := if r1.statusFrom.contains pos then r1.statusFrom else r1.statusFrom ++ [pos] }

/-- CHUNK_SETS received by a member (07 R305). -/
def execChunkSets (pos : Nat) (msg : List Byte) (s : State) : Res :=
  onCarry s pos 3 msg fun b recs t =>
    t.modRound b fun r => recs.foldl (fun (x : Round) e =>
      { x with chunkSets := x.chunkSets.insertAt (leAt e 0 4) (leAt e 4 4, BitVec.ofNat 64 (leAt e 8 8)) }) r

/-- RETRACTIONS received by a member (07 R305). -/
def execRetractions (pos : Nat) (msg : List Byte) (s : State) : Res :=
  onCarry s pos 4 msg fun b recs t =>
    t.modRound b fun r => { r with retractions := r.retractions ++ recs.map fun e => (leAt e 0 4, leAt e 4 4) }

/-- Every member has reported completion: the leader names RELEASE (07 R305, 01 R59). -/
def State.leaderRelease (s : State) (b : Nat) : State :=
  let r := s.round b
  if s.isLeader && r.state = .recover && decide (r.doneFrom.length = r.size) && !(r.decisions.any fun d => decide (d.kind = 2)) then
    s.nameDecision b { kind := 2, reason := 0, count := 0, named := s.stroke.now + 64 }
  else s

/-- DONE received by the leader. -/
def execDone (pos : Nat) (msg : List Byte) (s : State) : Res :=
  onCarry s pos 5 msg fun b _ t =>
    (t.modRound b fun r => { r with doneFrom := if r.doneFrom.contains pos then r.doneFrom else r.doneFrom ++ [pos] }).leaderRelease b

end Sys2Proof.Machine
end

