-- ==== Sys2Proof/Machine/Certs.lean ====
section
/-!
DEFINITION. X.509 certificates of the attestation chain (15 R575, R727), DER-encoded.
-/

namespace Sys2Proof.Machine

/-- DER length octets. -/
def derLen (n : Nat) : List Byte :=
  if n < 128 then toBe 1 n else if n < 256 then 0x81 :: toBe 1 n else 0x82 :: toBe 2 n

/-- One DER value. -/
def der (tag : Byte) (body : List Byte) : List Byte := tag :: derLen body.length ++ body

def derSeq (l : List (List Byte)) : List Byte := der 0x30 l.flatten

/-- An INTEGER of big-endian bytes that stand for a value that is not negative: leading zero bytes dropped, one put back
before a set high bit. -/
def derIntBody (l : List Byte) : List Byte :=
  let m := l.dropWhile (· == 0)
  match m with
  | [] => [0]
  | b :: _ => if b.toNat ≥ 128 then 0 :: m else m

def derInt (l : List Byte) : List Byte := der 0x02 (derIntBody l)
def derOid (l : List Byte) : List Byte := der 0x06 l
def derBits (unused : Byte) (l : List Byte) : List Byte := der 0x03 (unused :: l)
def derOctets (l : List Byte) : List Byte := der 0x04 l

/-- A hexadecimal digit in lower case. -/
def hexDigit (n : Nat) : Byte := BitVec.ofNat 8 (if n < 10 then 0x30 + n else 0x57 + n)

def hexBytes (l : List Byte) : List Byte := l.flatMap fun b => [hexDigit (b.toNat / 16), hexDigit (b.toNat % 16)]

/-- Algorithm identifier of Ed25519 (RFC 8410). -/
def algEd25519 : List Byte := derSeq [derOid [0x2B, 0x65, 0x70]]

/-- A name: one RDN that holds one commonName as UTF8String. -/
def certName (cn : List Byte) : List Byte :=
  derSeq [der 0x31 (derSeq [derOid [0x55, 0x04, 0x03], der 0x0C cn])]

/-- An extension of id-ce `n`. -/
def certExt (n : Byte) (critical : Bool) (value : List Byte) : List Byte :=
  derSeq [derOid [0x55, 0x1D, n], if critical then [0x01, 0x01, 0xFF] else [], derOctets value]

/-- Serial number: the first 16 bytes of the hash of the subject key, the top bit cleared. -/
def certSerial (pub : List Byte) : List Byte :=
  match (sha256 pub).take 16 with
  | [] => []
  | b :: r => (b &&& 0x7F) :: r

/-- Key identifier. -/
def keyId (pub : List Byte) : List Byte := (sha256 pub).take 20

/-- Validity from 1 January 2000 to the end of 9999. -/
def certValidity : List Byte := derSeq [der 0x17 (ascii "000101000000Z"), der 0x18 (ascii "99991231235959Z")]

/-- A certificate of `pub`, signed with a private seed. `ca` chooses the constraints of R727. -/
def certificate (subject pub issuer issuerSeed : List Byte) (ca : Bool) (more : List (List Byte)) : List Byte :=
  let exts := derSeq ([
    certExt 0x13 true (derSeq [if ca then [0x01, 0x01, 0xFF] else []]),
    certExt 0x0F true (if ca then derBits 2 [0x04] else derBits 7 [0x80]),
    certExt 0x0E false (derOctets (keyId pub)),
    certExt 0x23 false (derSeq [der 0x80 (keyId (ed25519Pub issuerSeed))])] ++ more)
  let tbs := derSeq [
    der 0xA0 (derInt [2]), derInt (certSerial pub), algEd25519, certName issuer, certValidity, certName subject,
    derSeq [algEd25519, derBits 0 pub], der 0xA3 exts]
  derSeq [tbs, algEd25519, derBits 0 (ed25519Sign issuerSeed tbs)]

/-- Common name of a DIK: its device identity hash in hexadecimal. -/
def dikName (seed : List Byte) : List Byte := hexBytes (sha256 (ed25519Pub seed))

/-- The certificate of one DIK, signed by another (R545). -/
def dikCertificate (seed issuerSeed : List Byte) : List Byte :=
  certificate (dikName seed) (ed25519Pub seed) (dikName issuerSeed) issuerSeed true []

/-- The TCG DICE TcbInfo extension of the Alias certificate (R727). -/
def tcbInfo (fwVersion : Nat) (counter : Nat) (measurement : List Byte) (lc : Nat) : List Byte :=
  let fwid := derSeq [derOid [0x60, 0x86, 0x48, 0x01, 0x65, 0x03, 0x04, 0x02, 0x01], derOctets measurement]
  let v := derSeq [der 0x80 (ascii "Welloth"), der 0x81 (ascii "Mizeane M6"), der 0x82 (hexBytes (toBe 4 fwVersion)),
    der 0x83 (derIntBody (toBe 4 counter)), der 0xA6 fwid, der 0x88 (toBe 1 lc)]
  derSeq [derOid [0x67, 0x81, 0x05, 0x05, 0x04, 0x01], derOctets v]

end Sys2Proof.Machine
end

