-- ==== Sys2Proof/Machine/Keep.lean ====
section
/-!
DEFINITION. The Keep (14): the life cycle, derived keys, wrapped blobs, key slots, key updates and its commands.
-/

namespace Sys2Proof.Machine

def State.setKeep (s : State) (k : Keep) : State := { s with keep := k }

/-! ### Roots and derived keys (R540, R541, R544, R545) -/

/-- A root as the datapath reads it. -/
def Fuses.read (f : Fuses) (zeroed : Bool) (r : Option (List Byte)) : List Byte :=
  if f.scrapped || zeroed then zero32 else r.getD zero32

def Fuses.factory (f : Fuses) : List Byte := f.read f.factoryDisable f.factoryRoot
def Fuses.ret (f : Fuses) : List Byte := f.read false f.returnRoot
def Fuses.owner (f : Fuses) : List Byte := f.read false f.ownerRoot
def Fuses.sealRoot (f : Fuses) : List Byte := f.read f.sealedKill f.sealedRoot

/-- Identity root of a life-cycle state (R541). -/
def Keep.identityRoot (k : Keep) : Option (List Byte) :=
  match k.lc with
  | .factory => some k.fuses.factory
  | .opened => some k.fuses.owner
  | .sealed => some k.fuses.owner
  | .returned => some k.fuses.ret
  | .tamperLock => some k.fuses.ret
  | _ => none

/-- Wrap input of a life-cycle state (R541). -/
def Keep.wrapInput (k : Keep) : List Byte :=
  match k.lc with
  | .factory => k.fuses.factory
  | .opened => k.fuses.owner
  | .sealed => sha256 (k.fuses.owner ++ k.fuses.sealRoot)
  | _ => k.fuses.ret

/-- The KDF of R544: one block of counter mode. -/
def kdf (key : List Byte) (label : String) (ctx : List Byte) : List Byte :=
  hmac key (toBe 4 1 ++ ascii label ++ [0] ++ ctx ++ toBe 4 256)

/-- The active root record. -/
def Keep.active (k : Keep) : RootRec := if k.activeB then k.rootB else k.rootA

/-- DIK seed of a root. -/
def dikSeed (root : List Byte) : List Byte := kdf root "M6 device identity" []

/-- Device identity hash of a DIK public key (R545). -/
def Keep.deviceHash (k : Keep) : List Byte :=
  match k.identityRoot with
  | some r => sha256 (ed25519Pub (dikSeed r))
  | none => zero32

/-- The firmware slot booted. -/
def Boot.running (b : Boot) : FwSlot := if b.bootedB then b.slotB else b.slotA

/-- Alias key seed (R544). -/
def State.aliasSeed (s : State) : List Byte :=
  kdf (dikSeed (s.keep.identityRoot.getD zero32)) "M6 alias" s.boot.running.measurement

def Keep.wrapKey (k : Keep) : List Byte := kdf k.wrapInput "M6 blob wrap" k.active.ownerMix
def Keep.importKey (k : Keep) : List Byte := kdf k.wrapInput "M6 key import" k.active.ownerMix
def Keep.importPub (k : Keep) : List Byte := x25519 k.importKey x25519Base

/-- Module id (11 R431). -/
def State.moduleId (s : State) : Nat := leAt s.keep.deviceHash 0 8

/-! ### AES key wrap with padding (R548; NIST SP 800-38F) -/

/-- One of the 6 n steps of the wrap, at position `i` from 0, with counter `t`. -/
def kwStep (keys : List (List Nat)) (x : List Byte × List (List Byte)) (i t : Nat) : List Byte × List (List Byte) :=
  let b := aesEnc keys (x.1 ++ nth x.2 i [])
  (xorBytes (b.take 8) (toBe 8 t), x.2.set i (b.drop 8))

/-- One step of the unwrap. -/
def kuStep (keys : List (List Nat)) (x : List Byte × List (List Byte)) (i t : Nat) : List Byte × List (List Byte) :=
  let b := aesDec keys (xorBytes x.1 (toBe 8 t) ++ nth x.2 i [])
  (b.take 8, x.2.set i (b.drop 8))

/-- Wraps a string whose length is a multiple of 8, of at least 16 bytes. -/
def kwpWrap (key pt : List Byte) : List Byte :=
  let n := pt.length / 8
  let keys := aesKeys key
  let x := (List.range (6 * n)).foldl (fun x k => kwStep keys x (k % n) (k + 1))
    (toBe 4 0xA65959A6 ++ toBe 4 pt.length, chunksOf (n + 1) 8 pt)
  x.1 ++ x.2.flatten

/-- Unwraps `ct` into `len` bytes, a multiple of 8: none where the integrity check fails. -/
def kwpUnwrap (key ct : List Byte) (len : Nat) : Option (List Byte) :=
  let n := len / 8
  let keys := aesKeys key
  let x := (List.range (6 * n)).reverse.foldl (fun x k => kuStep keys x (k % n) (k + 1))
    (ct.take 8, chunksOf (n + 1) 8 (ct.drop 8))
  if x.1 = toBe 4 0xA65959A6 ++ toBe 4 len then some x.2.flatten else none

/-! ### Blobs (R548, R549) -/

/-- The header of a blob or template. -/
structure BlobHdr where
  magic : Nat
  version : Nat
  typ : Nat
  keyLen : Nat
  dest : Nat
  usage : Nat
  lcBind : Nat
  rsv : Nat
  epoch : Nat
  round : Nat
  tag : Nat
  deriving DecidableEq, Repr

def parseBlob (l : List Byte) : BlobHdr :=
  { magic := leAt l 0 4, version := leAt l 4 2, typ := leAt l 6 1, keyLen := leAt l 7 1, dest := leAt l 8 1
    usage := leAt l 9 1, lcBind := leAt l 10 1, rsv := leAt l 11 1, epoch := leAt l 12 4, round := leAt l 16 8
    tag := leAt l 24 8 }

def BlobHdr.bytes (h : BlobHdr) : List Byte :=
  toLe 4 h.magic ++ toLe 2 h.version ++ toLe 1 h.typ ++ toLe 1 h.keyLen ++ toLe 1 h.dest ++ toLe 1 h.usage ++
  toLe 1 h.lcBind ++ toLe 1 h.rsv ++ toLe 4 h.epoch ++ toLe 8 h.round ++ toLe 8 h.tag

/-- KEY_LEN of a KEY_TYPE. -/
def keyLenOf (typ : Nat) : Nat := if typ = 1 then 16 else 32

/-- KEY_TYPE and the reserved fields. -/
def BlobHdr.fieldsOk (h : BlobHdr) : Bool :=
  decide (1 ≤ h.typ ∧ h.typ ≤ 5 ∧ h.dest < 32 ∧ h.usage < 128 ∧ h.lcBind < 16 ∧ h.rsv = 0)

/-- A template: the module fields are zero. -/
def BlobHdr.templateOk (h : BlobHdr) : Bool :=
  h.fieldsOk && decide (h.magic = 0 ∧ h.version = 0 ∧ h.keyLen = 0 ∧ h.epoch = 0)

/-- A blob's header (R550 check 1). -/
def BlobHdr.blobOk (h : BlobHdr) : Bool :=
  h.fieldsOk && decide (h.magic = 0x4D364B42 ∧ h.version = 1 ∧ h.keyLen = keyLenOf h.typ)

/-- The header of the finished blob. -/
def State.blobHeader (s : State) (h : BlobHdr) : BlobHdr :=
  { h with magic := 0x4D364B42, version := 1, keyLen := keyLenOf h.typ, epoch := s.keep.fuses.counter }

/-- Writes the finished blob of a key at `a`. -/
def State.writeBlob (s : State) (a : Nat) (h : BlobHdr) (key : List Byte) : State :=
  let b := (s.blobHeader h).bytes
  s.writeBytes 0 a (b ++ kwpWrap s.keep.wrapKey (b ++ key))

/-- The states in which blobs are made (R549), and the claim condition. -/
def State.blobState (s : State) (clear : Bool) : Bool :=
  s.ten.claimed && !s.ten.claiming && !s.ten.scrubbing &&
  (match s.keep.lc with
    | .opened => true
    | .factory => !clear
    | .sealed => !clear
    | .returned => !clear
    | _ => false)

/-- GENERATE, IMPORT_SEALED and IMPORT_CLEAR (R549): outcome and effect. -/
def State.makeBlob (s : State) (op a arg slot : Nat) : Nat × State :=
  if a % 32 ≠ 0 ∨ arg ≠ 0 ∨ slot ≠ 0 then (1, s)
  else if !s.blobState (op = 3) then (4, s)
  else if op = 3 ∧ (s.ten.guardC ∨ s.ten.guardW) then (8, s)
  else if !s.tenantRange a 32 1 then (2, s)
  else
    let t := s.readBytes 0 a 32
    let h := parseBlob t.1
    let n := keyLenOf h.typ
    let extra := if op = 1 then 0 else if op = 2 then 32 + n + 16 else n
    if t.2.1 ∨ !h.templateOk then (1, t.2.2)
    else if !t.2.2.tenantRange a (max (72 + n) (32 + extra)) 1 then (2, t.2.2)
    else if h.dest / 4 ≠ 0 then (6, t.2.2)
    else
      let x := t.2.2.readBytes 0 (a + 32) extra
      if x.2.1 then (1, x.2.2)
      else match op with
        | 1 => let d := x.2.2.drawBytes n; (0, d.2.writeBlob a h d.1)
        | 2 =>
          match hpkeOpen s.keep.importKey s.keep.importPub (x.1.take 32) (ascii "M6 key import") t.1 (x.1.drop 32) with
          | some key => (0, x.2.2.writeBlob a h key)
          | none => (3, x.2.2)
        | _ => (0, x.2.2.writeBlob a h x.1)

/-! ### Key slots (R550 to R552) -/

/-- LC_BIND bit of a life-cycle state. -/
def LifeCycle.bindBit : LifeCycle → Option Nat
  | .factory => some 0 | .opened => some 1 | .sealed => some 2 | .returned => some 3 | _ => none

/-- A round of this module in a state other than RETIRED has the id. -/
def State.liveRound (s : State) (id : Nat) : Bool :=
  s.rounds.blocks.any fun e => decide (e.2.id = id ∧ e.2.state ≠ .none ∧ e.2.state ≠ .retired)

/-- LOAD (R550): outcome and effect. -/
def State.loadBlob (s : State) (a arg slot : Nat) : Nat × State :=
  let hdr := (s.readBytes 0 a 32).1
  let h := parseBlob hdr
  let n := keyLenOf h.typ
  if a % 32 ≠ 0 ∨ arg ≠ 0 ∨ !h.blobOk then (1, s)
  else if !s.tenantRange a (72 + n) 1 then (2, s)
  else if slot > 55 ∨ (s.keep.slots.find? slot).isSome then (7, s)
  else
    let x := s.readBytes 0 a (72 + n)
    if x.2.1 then (3, x.2.2)
    else match kwpUnwrap s.keep.wrapKey (x.1.drop 32) (32 + n) with
      | none => (3, x.2.2)
      | some pt =>
        if pt.take 32 ≠ x.1.take 32 then (3, x.2.2)
        else if h.dest = 0 ∨ h.dest / 4 ≠ 0 then (6, x.2.2)
        else if !((s.keep.lc.bindBit.map fun b => h.lcBind.testBit b).getD false) then (4, x.2.2)
        else if h.round ≠ 0 ∧ !s.liveRound h.round then (5, x.2.2)
        else
          let k : KeySlot := {
            typ := h.typ, dest := h.dest, usage := h.usage, lcBind := h.lcBind, round := h.round, tag := h.tag, key := pt.drop 32 }
          (0, x.2.2.setKeep { x.2.2.keep with slots := x.2.2.keep.slots.insertAt slot k })

/-- Key type and destination bit of the internal slots 56 to 62 that hold a key (R546), none where the slot is
empty. Slots 60 to 62 hold public keys that no engine but their own asks for. -/
def Keep.internal (k : Keep) (slot : Nat) : Option (Nat × Option Nat) :=
  match slot with
  | 56 => if k.keysReady then some (3, some 2) else none
  | 57 => if k.keysReady then some (3, some 2) else none
  | 58 => if k.keysReady then some (2, some 3) else none
  | 59 => if k.keysReady then some (4, some 3) else none
  | 60 => if k.keysReady then some (3, none) else none
  | 61 => if k.keysReady then some (3, some 4) else none
  | 62 => if k.wellothKey.isSome then some (3, none) else none
  | _ => none

/-- A request of R551 is denied. -/
def State.keyDenied (s : State) : State := (s.bump .keep 0 0x6C).latchEvt .keep 0 2

/-- An engine asks for slot `slot` with its DEST_MASK bit and a USAGE bit, for work of round `round` (0 for none):
the key, or a denial (R551). -/
def State.keyRequest (s : State) (slot dest use round : Nat) : Option KeySlot × State :=
  match s.keep.slots.find? slot with
  | some k =>
    if k.leaving ∨ !k.dest.testBit dest ∨ !k.usage.testBit use ∨ (k.round ≠ 0 ∧ k.round ≠ round) then (none, s.keyDenied)
    else (some k, s)
  | none => (none, s.keyDenied)

/-- KEY_REQUEST. An internal slot serves the one destination of R546, whatever use it asks for. -/
def execKpKeyRequest (slot dest use round : Nat) (s : State) : Res :=
  if slot ≥ 64 ∨ dest ≥ 5 ∨ use ≥ 7 then .fault .noUnit
  else if slot < 56 then .next (s.keyRequest slot dest use round).2
  else match s.keep.internal slot with
    | some (_, some d) => .next (if d = dest then s else s.keyDenied)
    | _ => .next s.keyDenied

/-- UNLOAD's outcome and effect (R552). -/
def State.unloadSlot (s : State) (arg slot : Nat) : Nat × State :=
  if arg ≠ 0 then (1, s)
  else if slot > 55 ∨ (s.keep.slots.find? slot).isNone then (7, s)
  else (0, s.setKeep { s.keep with slots := s.keep.slots.erase slot })

/-! ### Key updates (R553 to R557) -/

/-- The message in KEEP_MSG. -/
def Keep.message (k : Keep) : List Byte := (List.range 48).flatMap fun i => toLe 4 (k.msg.get 0 i).toNat

/-- PAYLOAD_LEN of a kind (R554). -/
def updatePayload (kind : Nat) : Option Nat :=
  match kind with
  | 1 => some 64 | 2 => some 0 | 3 => some 32 | 4 => some 32 | 5 => some 0 | 6 => some 0 | 7 => some 0 | 8 => some 0
  | _ => none

/-- R555 check 1. -/
def updateForm (m : List Byte) (arg : Nat) : Bool :=
  let n := leAt m 0x2C 4
  decide (arg = 128 + n ∧ n ≤ 64 ∧ leAt m 0 4 = 0x4D364B55 ∧ leAt m 4 2 = 1) && allZero ((m.drop 0x30).take 16) &&
  (match updatePayload (leAt m 6 1) with
    | some k => decide (n = k)
    | none => true)

/-- The kind and SIGNER are allowed from the state (R554). -/
def Keep.updateAllowed (k : Keep) (kind signer : Nat) : Bool :=
  let own := decide (k.lc = .opened ∨ k.lc = .sealed)
  match kind with
  | 1 => decide (k.lc = .factory ∧ signer = 2)
  | 2 => own && decide (signer = 1)
  | 3 => own && decide (signer = 1)
  | 4 => own && decide (signer = 1)
  | 5 => decide (k.lc = .opened ∧ signer = 1)
  | 6 => decide (k.lc = .sealed ∧ signer = 1)
  | 7 => (own && decide (signer = 1)) || decide (k.lc = .tamperLock ∧ signer = 2 ∧ k.nowAlarm = 0)
  | 8 => (own && decide (signer = 1 ∨ signer = 2)) ||
      decide ((k.lc = .factory ∨ k.lc = .returned ∨ k.lc = .tamperLock) ∧ signer = 2)
  | _ => false

/-- The key that a SIGNER's signatures verify under: slot 60 or slot 62. -/
def Keep.signerKey (k : Keep) (signer : Nat) : Option (List Byte) :=
  if signer = 1 then some k.active.authority else k.wellothKey

/-- The checks of R555 in order; `flashFails` says that step 1 fails twice. -/
def State.updateOutcome (s : State) (arg slot : Nat) (flashFails : Bool) : Nat :=
  let k := s.keep
  let m := k.message
  let len := 128 + leAt m 0x2C 4
  let signer := leAt m 7 1
  if slot ≠ 0 ∨ !updateForm m arg then 1
  else if s.ten.claimed ∨ s.ten.claiming then 0x0E
  else if (m.drop 8).take 32 ≠ k.deviceHash then 0x0A
  else if !k.updateAllowed (leAt m 6 1) signer then 0x0D
  else if !((k.signerKey signer).map fun p => ed25519phVerify p "M6 key update" (m.take (len - 64)) ((m.take len).drop (len - 64))).getD false then 9
  else if k.fuses.counter ≥ 256 then 0x0C
  else if leAt m 0x28 4 ≠ k.fuses.counter + 1 then 0x0B
  else if flashFails then 0x0F
  else 0

/-- The root record an accepted message writes, from the active record (R554, R556 step 1). -/
def State.newRecord (s : State) (m : List Byte) : RootRec × State :=
  let kind := leAt m 6 1
  let pay := m.drop 0x40
  let base : RootRec := { s.keep.active with counter := s.keep.fuses.counter + 1, roots := none }
  match kind with
  | 1 =>
    let mix := s.drawBytes 32
    let own := mix.2.drawBytes 32
    let sealedR := own.2.drawBytes 32
    ({ base with
      ownerMix := mix.1, authority := pay.take 32, debugKey := (pay.drop 32).take 32, target := .opened,
      roots := some (own.1, sealedR.1) }, sealedR.2)
  | 2 => let mix := s.drawBytes 32; ({ base with ownerMix := mix.1 }, mix.2)
  | 3 => ({ base with authority := pay.take 32 }, s)
  | 4 => ({ base with debugKey := pay.take 32 }, s)
  | 5 => ({ base with target := .sealed }, s)
  | 6 => ({ base with target := .opened }, s)
  | 7 => ({ base with target := .returned }, s)
  | _ => ({ base with target := .scrapped }, s)

/-- The record in a flash slot. -/
def Keep.recordAt (k : Keep) (b : Bool) : RootRec := if b then k.rootB else k.rootA
def Keep.setRecord (k : Keep) (b : Bool) (r : RootRec) : Keep := if b then { k with rootB := r } else { k with rootA := r }

/-- Burns the fuses of a kind not yet burned, takes the slot as active and erases its wrapped roots (R556 step 3). -/
def Keep.burnKind (k : Keep) (slotB : Bool) (kind : Nat) : Keep :=
  let r := k.recordAt slotB
  let f := match kind with
    | 1 =>
      { k.fuses with
        ownerRoot := k.fuses.ownerRoot.or (r.roots.map (·.1)), sealedRoot := k.fuses.sealedRoot.or (r.roots.map (·.2))
        factoryDisable := true }
    | 7 => { k.fuses with returned := true }
    | 8 => { k.fuses with scrapped := true }
    | _ => k.fuses
  let k1 := k.setRecord slotB { r with roots := none }
  { k1 with
    -- The FACTORY DIK certifies the owner DIK before FACTORY_DISABLE is burned (R545).
    certOwner :=
      if kind = 1 ∧ !k.fuses.factoryDisable then dikCertificate (dikSeed f.owner) (dikSeed k.fuses.factory) else k.certOwner
    fuses := f, activeB := slotB
    record := if r.target = .opened ∨ r.target = .sealed then some r.target else k.record }

/-- How far an update has come when it is interrupted (R556, R557): nothing durable, the root record, one copy of
the commit record, a second copy half written, a majority of the copies, the COUNTER fuse. -/
def State.updateProgress (s : State) (progress : Nat) : State :=
  let m := s.keep.message
  let x := s.newRecord m
  let slotB := !s.keep.activeB
  if progress = 0 then s
  else
    let k1 := x.2.keep.setRecord slotB x.1
    let c : CommitRec := { counter := x.1.counter, slotB := slotB, kind := leAt m 6 1, matching := true }
    let k2 : Keep :=
      if progress = 1 ∨ progress = 2 then k1
      else if progress = 3 then { k1 with commit := none }
      else { k1 with commit := some c }
    x.2.setKeep (if progress ≥ 5 then { k2 with fuses := { k2.fuses with counter := k2.fuses.counter + 1 } } else k2)

/-- Steps 1 to 3 of R556. -/
def State.applyUpdate (s : State) : State :=
  let s1 := s.updateProgress 5
  s1.setKeep (s1.keep.burnKind (!s.keep.activeB) (leAt s.keep.message 6 1))

/-- R557: the outcome of an interrupted update at start-up. -/
def Keep.rollForward (k : Keep) : Keep :=
  let c := k.fuses.counter
  let named := decide (k.rootA.counter = c + 1) || decide (k.rootB.counter = c + 1) ||
    ((k.commit.map fun r => decide (r.counter = c + 1)).getD false)
  let fallback : Keep := { k with activeB := decide (k.rootA.counter ≠ c ∧ k.rootB.counter = c) }
  match k.commit with
  | none => { fallback with updateResult := if named then 2 else 0 }
  | some r =>
    if r.counter = c + 1 ∧ r.matching then
      if k.fuses.sealedKill ∨ (k.latched ≠ 0 ∧ k.fuses.ownerRoot.isSome) then { fallback with commit := none, updateResult := 2 }
      else { ({ k with fuses := { k.fuses with counter := c + 1 } } : Keep).burnKind r.slotB r.kind with updateResult := 1 }
    else if r.counter = c then { k.burnKind r.slotB r.kind with updateResult := 0 }
    else { fallback with updateResult := if named then 2 else 0 }

/-- R542. -/
def Keep.decide542 (k : Keep) : LifeCycle :=
  if k.fuses.scrapped then .scrapped
  else if k.fuses.returned then .returned
  else if k.fuses.sealedKill then .tamperLock
  else if k.fuses.ownerRoot.isSome ∧ k.latched ≠ 0 then .tamperLock
  else if k.fuses.factoryRoot.isNone then .blank
  else if k.fuses.ownerRoot.isNone then .factory
  else match k.record with
    | some .sealed => .sealed
    | some _ => .opened
    | none => .tamperLock

/-- Slot 62 (R546): the update key of the firmware slot that the boot record names, or of the other. -/
def State.loadWelloth (s : State) : Option (List Byte) :=
  let pick (f : FwSlot) : Option (List Byte) :=
    if f.holds = .valid ∧ sha256 f.updateKey = s.keep.fuses.wellothHash then some f.updateKey else none
  if s.boot.recordB then (pick s.boot.slotB).or (pick s.boot.slotA) else (pick s.boot.slotA).or (pick s.boot.slotB)

/-- Stage KEEP of a start-up (16 R631, R632): R557, R542, slot 62 and the DRBG. `derive` says whether the keys of
R544 are derived in this stage. -/
def State.keepStage (s : State) (derive : Bool) : State :=
  let k := s.keep.rollForward
  let lc := k.decide542
  let s1 := s.setKeep { k with
    lc := lc, wellothKey := s.loadWelloth, drbgOk := decide (lc ≠ .tamperLock ∧ lc ≠ .scrapped)
    keysReady := derive && decide (lc = .factory ∨ lc = .opened ∨ lc = .sealed ∨ lc = .returned) }
  if k.updateResult ≠ 0 then s1.latchEvt .keep 0 8 else s1

/-! ### KEEP_CMD (R564) -/

/-- A write of KEEP_CMD lands: while one is in progress it is ignored and counted. -/
def State.landKeep (s : State) (op slot : Nat) : State :=
  if s.keepCmd.busy then s.pageError .keep 0 0x48 3 (BitVec.ofNat 32 (op + 16 * slot))
  else
    let s1 : State := { s with keepCmd := { s.keepCmd with
      busy := true, op := op, sub := slot, args := [s.reg .keep 0 0x54, s.reg .keep 0 0x58, s.reg .keep 0 0x50] } }
    if op = 5 ∧ slot < 56 ∧ s.reg .keep 0 0x50 = 0 then
      match s.keep.slots.find? slot with
      | some k => s1.setKeep { s1.keep with slots := s1.keep.slots.insertAt slot { k with leaving := true } }
      | none => s1
    else s1

/-- Outcome and effect of a command; APPLY_UPDATE's reset is forced by its completion. -/
def State.keepEffect (s : State) (flashFails : Bool) : Nat × State :=
  let c := s.keepCmd
  let a := (c.args.getD 0 0).toNat + 2 ^ 32 * ((c.args.getD 1 0).toNat % 2 ^ 16)
  let arg := (c.args.getD 2 0).toNat
  match c.op with
  | 1 => s.makeBlob 1 a arg c.sub
  | 2 => s.makeBlob 2 a arg c.sub
  | 3 => s.makeBlob 3 a arg c.sub
  | 4 => s.loadBlob a arg c.sub
  | 5 => s.unloadSlot arg c.sub
  | 6 => let o := s.updateOutcome arg c.sub flashFails; (o, if o = 0 then s.applyUpdate else s)
  | _ => (1, s)

/-- A command ends with an outcome: BUSY falls and CMD_DONE latches; APPLY_UPDATE clears KEEP_MSG (R568). -/
def State.finishKeep (s : State) (o : Nat) : State :=
  let s1 := if s.keepCmd.op = 6 then s.setKeep { s.keep with msg := [] } else s
  ({ s1 with keepCmd := { s1.keepCmd with busy := false, outcome := o } } : State).latchEvt .keep 0 1

/-- A KEEP command row. -/
def keepCommand (op slot : Nat) (s : State) : Res := .next (s.onPage .keep 0 0x48 (BitVec.ofNat 32 (op + 16 * slot)) fun t => t.landKeep op slot)

def execKpGenerate (s : State) : Res := keepCommand 1 0 s
def execKpImportSealed (s : State) : Res := keepCommand 2 0 s
def execKpImportClear (s : State) : Res := keepCommand 3 0 s
def execKpLoad (slot : Nat) (s : State) : Res := if slot ≥ 64 then .fault .noUnit else keepCommand 4 slot s
def execKpUnload (slot : Nat) (s : State) : Res := if slot ≥ 64 then .fault .noUnit else keepCommand 5 slot s

/-- APPLY_UPDATE of a message of one kind. -/
def updateRow (kind : Nat) (s : State) : Res :=
  if leAt s.keep.message 6 1 = kind then keepCommand 6 0 s else .fault .badEvent

def execKpTakeOwnership (s : State) : Res := updateRow 1 s
def execKpRotate (s : State) : Res := updateRow 2 s
def execKpSetAuthority (s : State) : Res := updateRow 3 s
def execKpSetDebugKey (s : State) : Res := updateRow 4 s
def execKpSeal (s : State) : Res := updateRow 5 s
def execKpUnseal (s : State) : Res := updateRow 6 s
def execKpReturn (s : State) : Res := updateRow 7 s
def execKpScrap (s : State) : Res := updateRow 8 s

end Sys2Proof.Machine
end

