-- ==== Sys2Proof/Machine/Attest.lean ====
section
/-!
DEFINITION. The fence map image (18 R662) and attestation statements (15 R570 to R575).
-/

namespace Sys2Proof.Machine

/-! ### The fence map (18 R655, R662, R663) -/

/-- Enabled cores of an Ashlar (03 R154). -/
def Ashlar.enabled (a : Ashlar) : Nat := 64 - a.fenceCount

/-- Enabled cores of the Ashlars of a Pier (03 R161). -/
def State.pierEnabled (s : State) (p : Nat) : Nat :=
  s.fabric.ashlars.foldl (fun n e => if e.1 / 800 = p then n - e.2.fenceCount else n) 51200

def State.enabledCores (s : State) : Nat := (List.range 6).foldl (fun n p => n + s.pierEnabled p) 0

/-- Withdrawn Ashlars. -/
def State.withdrawnCount (s : State) : Nat := (s.fabric.ashlars.filter fun e => e.2.withdrawn).length

/-- Fenced Vaults by Course. -/
def State.fencedVaults (s : State) : List Nat := (s.fabric.vaults.filter fun e => e.2.fenced).map (·.1)

/-- Insertion into an ascending list. -/
def insertAsc (x : Nat) : List Nat → List Nat
  | [] => [x]
  | y :: r => if x ≤ y then x :: y :: r else y :: insertAsc x r

def sortAsc (l : List Nat) : List Nat := l.foldr insertAsc []

/-- The fence map image. -/
def State.fenceImage (s : State) : List Byte :=
  let ret := sortAsc s.fabric.retired
  let v := s.fencedVaults
  toLe 4 0x4D36464D ++ toLe 2 1 ++ toLe 2 0 ++ toLe 4 s.enabledCores ++ toLe 2 s.withdrawnCount ++ toLe 2 v.length ++
  toLe 4 ret.length ++ toLe 4 (153680 + 4 * ret.length) ++ List.replicate 0x28 0 ++
  ((List.range 4800).flatMap fun a =>
    let x := s.fabric.ashlars.get {} a
    toLe 8 x.fence.toNat ++ toLe 8 x.strike.toNat ++
    toLe 16 (b2n x.withdrawn + 2 * b2n x.storeWithdrawn)) ++
  toLe 16 (v.foldl (fun n c => n + 2 ^ c) 0) ++
  ret.flatMap fun r => toLe 4 (r % 2 ^ 20 + r / 2 ^ 20 * 2 ^ 20)

/-- Tamrik has written the fence map to flash (R655, R663). -/
def State.saveFences (s : State) : State :=
  { s with boot := { s.boot with flashMap := {
    ashlars := (s.fabric.ashlars.filter fun e => decide (e.2.fence ≠ 0 ∨ e.2.strike ≠ 0) || e.2.storeWithdrawn).map fun e =>
      (e.1, (e.2.fence, e.2.strike, e.2.storeWithdrawn))
    vaults := s.fencedVaults, retired := s.fabric.retired } } }

def execFenceRecordWrite (s : State) : Res := .next s.saveFences

/-! ### Statements -/

/-- Bytes in lexicographic order. -/
def bytesLe : List Byte → List Byte → Bool
  | [], _ => true
  | _ :: _, [] => false
  | a :: x, b :: y => decide (a.toNat < b.toNat) || (decide (a = b) && bytesLe x y)

def insertBytes (x : List Byte) : List (List Byte) → List (List Byte)
  | [] => [x]
  | y :: r => if bytesLe x y then x :: y :: r else y :: insertBytes x r

/-- SEALED_SET (R571). -/
def FwSlot.sealedSet (f : FwSlot) : List Byte := sha256 (f.rigs.foldr insertBytes []).flatten

/-- The body of a statement built at the commit of stroke `stroke` (R570, R572). `kind` is 1 MODULE, 2 ROUND or
3 CREW; `crewId` is the crew being formed for CREW. -/
def State.statementBody (s : State) (kind block crewId : Nat) (nonce : List Byte) (stroke : Nat) : List Byte :=
  let fw := s.boot.running
  let h := s.net.hail
  let r := s.round block
  let isRound := decide (kind = 2)
  toLe 4 0x4D364154 ++ toLe 2 1 ++ toLe 1 kind ++ toLe 1 s.keep.lc.code ++ s.keep.deviceHash ++
  toLe 4 s.boot.fwVersion.toNat ++ toLe 4 s.keep.fuses.counter ++ fw.measurement ++ fw.sealedSet ++
  toLe 2 fw.rigs.length ++ toLe 1 (b2n s.ten.guardC + 2 * b2n s.ten.guardW) ++
  toLe 1 (b2n (s.ten.claimed && !s.ten.claiming) + 2 * b2n s.tt.debugEnabled + 4 * b2n s.ten.moduleMode + 8 * b2n h.degraded) ++
  toLe 4 s.enabledCores ++ toLe 8 (if kind = 3 then crewId else if s.inCrew then h.crewId else 0) ++
  sha256 s.fenceImage ++ s.ten.claimDigest ++ toLe 8 (if isRound then r.id else 0) ++
  toLe 1 (if isRound then r.state.code else 0) ++ toLe 1 (if s.inCrew then h.pos else 0) ++
  toLe 2 (if s.inCrew then h.members.length else 1) ++ toLe 4 0 ++
  (if isRound then sha256 r.desc else zero32) ++ (if isRound then padTo 32 r.rpk else zero32) ++
  toLe 8 stroke ++ toLe 8 0 ++ padTo 32 (nonce.take 32) ++ List.replicate 192 0

/-- The 576-byte statement, signed by the Alias key. -/
def State.statement (s : State) (kind block crewId : Nat) (nonce : List Byte) (stroke : Nat) : List Byte :=
  let b := s.statementBody kind block crewId nonce stroke
  b ++ ed25519Sign s.aliasSeed b

/-- The Alias certificate (R545, R727). -/
def State.aliasCert (s : State) : List Byte :=
  let dik := dikSeed (s.keep.identityRoot.getD zero32)
  certificate (dikName dik ++ ascii ".alias") (ed25519Pub s.aliasSeed) (dikName dik) dik false
    [tcbInfo s.boot.fwVersion.toNat s.keep.fuses.counter s.boot.running.measurement s.keep.lc.code]

/-- The DER chain in the order of R575. -/
def State.certChain (s : State) : List Byte :=
  s.aliasCert ++
  (match s.keep.lc with
    | .factory => s.keep.certFactory
    | .returned => s.keep.certReturn ++ s.keep.certFactory
    | _ => s.keep.certOwner ++ s.keep.certFactory) ++ s.keep.certCa

end Sys2Proof.Machine
end

