-- ==== Sys2Proof/Machine/Keystone.lean ====
section
/-!
DEFINITION. The Keystone (07): envelopes, reconstruction, cancellation terms, noise and result records, and the
committee's partial decryptions of a ciphertext round (08 R346 to R353).
-/

namespace Sys2Proof.Machine

/-- The binding of a queue pair by its index. -/
def State.bind? (s : State) (qp : Nat) : Option Bind := s.rounds.binds.find? qp

/-! ### Refusal reports (06 R250 to R252) -/

/-- A report for a queue pair: stored, or lost where 4,096 are held. -/
def State.addReport (s : State) (qp : Nat) (r : Report) : State :=
  let l := s.rounds.reports.get [] qp
  if l.length ≥ 4096 then
    ({ s with rounds := { s.rounds with lost := if s.rounds.lost.contains qp then s.rounds.lost else qp :: s.rounds.lost } }
      |>.bump .muster 0 0x68).latchEvt .muster 0 4
  else { s with rounds := { s.rounds with reports := s.rounds.reports.put [] qp (l ++ [r]) } }

/-! ### Envelopes -/

/-- The round was in RECOVER during a stroke (07 R287 check 1, 01 R52). -/
def Round.recoveringAt (r : Round) (stroke : Nat) : Bool :=
  (r.state = .recover || r.leftRecover.isSome) && decide (r.d.dClose + 1024 < stroke) &&
  (match r.leftRecover with
    | some l => decide (stroke ≤ l)
    | none => true)

/-- Ring degree of a GLWE round. -/
def KeySet.ring (k : KeySet) : Nat := 2 ^ k.logn

/-- The key set of a GLWE round. -/
def State.roundKey (s : State) (r : Round) : KeySet :=
  s.cipher.keySets.get ⟨0, 0, 0, 0, 0, 0, 0, 0, 0⟩ r.d.keySet

/-- Sender, tag and the ciphertexts of an envelope: SLOT or MEMBER, FRONTEND_TAG, CT_FIRST, CT_N. -/
def envSender (glwe : Bool) (e : List Byte) : Nat := if glwe then leAt e 0x14 2 else leAt e 0x10 4
def envTag (glwe : Bool) (e : List Byte) : Nat := if glwe then leAt e 0x18 4 else leAt e 0x14 4

/-- Checks 3 to 5 of a share envelope (07 R287): 0 where all pass. -/
def Round.shareChecks (r : Round) (e : List Byte) : Nat :=
  let n := leAt e 6 2
  let slot := leAt e 0x10 4
  if e.length ≠ 96 + 40 * n ∨ leAt e 0 4 ≠ 0x4D365345 ∨ leAt e 4 2 ≠ 1 ∨ n = 0 ∨ n > r.d.degree ∨ leAt e 0x18 8 ≠ 0 then 3
  else if slot ≥ r.d.slots ∨ (r.entry slot).home ≠ r.pos ∨ ((r.entry slot).outcome ≠ 1 ∧ (r.entry slot).outcome ≠ 2) then 4
  else if (r.entry slot).envelope then 5
  else 0

/-- Checks 3 to 5 of a decryption envelope (08 R349). -/
def Round.glweChecks (r : Round) (k : KeySet) (e : List Byte) : Nat :=
  let n := leAt e 6 2
  let first := leAt e 0x10 4
  let m := leAt e 0x14 2
  if e.length ≠ 96 + 8 * k.ring * n ∨ 8 * k.ring * n > 1048576 ∨ leAt e 0 4 ≠ 0x4D365044 ∨ leAt e 4 2 ≠ 1 ∨ n = 0 ∨
      leAt e 0x16 2 ≠ 0 ∨ leAt e 0x1C 4 ≠ 0 then 3
  else if m ≥ r.d.degree ∨ first + n > r.d.chunks / k.span then 4
  else if r.partials.any fun p => decide (p.member = m ∧ first ≤ p.ct ∧ p.ct < first + n) then 5
  else 0

/-- Checks 1 to 5 of an envelope that landed in `stroke`: 0, or the number of the check that fails. -/
def State.envChecks (s : State) (b : Option Nat) (e : List Byte) (stroke : Nat) : Nat :=
  match b with
  | none => 1
  | some b =>
    let r := s.round b
    if !r.recoveringAt stroke then 1
    else if leAt e 8 8 ≠ r.id then 2
    else if r.d.glwe then r.glweChecks (s.roundKey r) e else r.shareChecks e

/-- An envelope is refused with check `n` (07 R287, R288, R311). -/
def State.envRefuse (s : State) (qp n : Nat) (glwe : Bool) (e : List Byte) (stroke : Nat) : State :=
  (((s.bump .keystone 0 (0x80 + 4 * (n - 1))).latchEvt .keystone 0 1).addReport qp
    { round := leAt e 8 8, slot := envSender glwe e, chunk := 0xFFFFFFFF, tag := envTag glwe e, reason := 0x20 + n,
      stroke := stroke })

/-- The form of the round bound to a queue pair. -/
def State.boundGlwe (s : State) (b : Option Nat) : Bool :=
  match b with
  | some b => (s.round b).d.glwe
  | none => false

/-- Changes item `i` of a queue. -/
def State.modItem (s : State) (n i : Nat) (f : QItem → QItem) : State :=
  s.setQueue n { s.queue n with items := (s.queue n).items.modify i f }

/-- The bound round has left RECOVER, so that an envelope that passes the checks stays unopened and is discarded (07 R290,
R725). -/
def State.roundOver (s : State) (b : Option Nat) : Bool := b.any fun n => !(s.round n).state.working

/-- Decides the landed envelopes of one queue pair (07 R288): each item once, by the checks 1 to 5. -/
def State.decideEnvs (s : State) (qp : Nat) (bd : Bind) : State :=
  (List.range (s.queue bd.landing).items.length).foldl (fun t i =>
    match (t.queue bd.landing).items[i]? with
    | some it =>
      if it.judged || !it.complete || decide (it.stroke ≥ t.stroke.now) then t
      else
        let e := it.stream
        let c0 := t.envChecks bd.round e it.stroke
        let c := if c0 = 0 ∧ t.roundOver bd.round then 1 else c0
        let t1 := t.modItem bd.landing i fun x => { x with judged := true, decision := if c = 0 then 0 else 0x20 + c }
        if c = 0 then t1 else t1.envRefuse qp c (t1.boundGlwe bd.round) e it.stroke
    | none => t) s

/-- Position of an item's first word in the queue. -/
def wordPos (items : List QItem) (i : Nat) : Nat := (items.take i).foldl (fun n x => n + x.words.length) 0

/-- Passes a landing queue's head over handled items: refused ones, and those `f` takes. The words before the
new read position are released at the commit of this stroke, or the next that commits (06 R249, R724). -/
def State.drainLanding (fuel n : Nat) (f : State → QItem → Option State) (s : State) : State :=
  match fuel with
  | 0 => s
  | k + 1 =>
    let q := s.queue n
    match itemAt q.items q.rd with
    | none => s
    | some (it, _) =>
      let pass (t : State) : State :=
        let q1 := t.queue n
        let p := q1.rd + it.words.length
        drainLanding k n f (t.setQueue n { q1 with rd := p, relPend := some p, relFrom := t.stroke.now })
      if !it.complete then s
      else if it.abandoned then pass s
      else if !it.judged then s
      else if it.decision ≠ 0 then pass s
      else match f s it with
        | some t => pass t
        | none => s

/-- Copies a landed item into a Keystone or ingress queue, where it has room (06 R724, 07 R725). -/
def State.copyItem (s : State) (n : Nat) (it : QItem) : Option State :=
  let q := s.queue n
  if q.level + it.words.length > q.cap then none
  else some ((s.setQueue n (({ q with items := q.items ++ [it] } : Queue).grow it.words.length)).itemDone n)

/-- Handles up to `fuel` envelopes at the head of a landing queue: those that passed go to the round's feed queue
(07 R725). -/
def State.moveEnvsUpTo (s : State) (fuel : Nat) (bd : Bind) : State :=
  State.drainLanding fuel bd.landing (fun t it =>
    match bd.round with
    | none => some t
    | some b =>
      match (t.round b).envQueue with
      | some n => t.copyItem n { it with judged := false }
      | none => some t) s

/-- Moves the envelopes that passed from a landing queue to the round's feed queue (07 R725). -/
def State.moveEnvs (s : State) (bd : Bind) : State := s.moveEnvsUpTo ((s.queue bd.landing).items.length + 1) bd

/-- The ENVELOPE bindings, those that UNBIND ended with items left among them (06 R242). -/
def State.envBinds (s : State) : List (Nat × Bind) :=
  (s.rounds.binds ++ s.rounds.ended).filter fun e => e.2.role = .envelope

/-- The items not yet passed in the landing queues of the ENVELOPE bindings, in landing order: landing time, queue
pair and binding (07 R725). -/
def State.envOrder (s : State) : List (Nat × Nat × Bind) :=
  let one (e : Nat × Bind) : List (Nat × Nat × Bind) :=
    (List.range (s.queue e.2.landing).items.length).filterMap fun i =>
      match (s.queue e.2.landing).items[i]? with
      | some it =>
        if (s.queue e.2.landing).rd ≤ wordPos (s.queue e.2.landing).items i then some (it.stroke * 2048 + it.cycle, e.1, e.2) else none
      | none => none
  (s.envBinds.flatMap one).mergeSort fun a b => decide (a.1 < b.1 ∨ (a.1 = b.1 ∧ a.2.1 ≤ b.2.1))

/-- ENVELOPE_DECIDE: every ENVELOPE queue pair is decided, then the envelopes move in landing order (07 R288,
R725). -/
def execEnvelopeDecide (s : State) : Res :=
  let s1 := s.envBinds.foldl (fun t e => t.decideEnvs e.1 e.2) s
  .next (s1.envOrder.foldl (fun t e => t.moveEnvsUpTo 1 e.2.2) s1)

/-- The entries of an opened share envelope: slot, self share, pair share. -/
def shareEntries (l : List Byte) : List (Nat × Nat × Nat × Nat) :=
  (chunksOf (l.length + 1) 40 (l.drop 16)).map fun e => (leAt e 0 4, leAt e 4 4, leAt e 8 16, leAt e 0x18 16)

/-- Check 8 of a share envelope on its plaintext. -/
def Round.shareContent (r : Round) (e pt : List Byte) : Bool :=
  let n := leAt e 6 2
  let slot := leAt e 0x10 4
  let es := shareEntries pt
  let nb := r.neighbours slot
  decide (pt.length = 16 + 40 * n) && decide (leAt pt 0 8 = leAt e 8 8) && decide (leAt pt 8 4 = slot) &&
  decide (leAt pt 0xC 2 = n) && decide (leAt pt 0xE 2 = 0) && ascending (es.map (·.1)) &&
  es.all fun x => nb.contains x.1 && decide (x.2.1 = 0) && decide (x.2.2.1 < shareP) && decide (x.2.2.2 < shareP)

/-- Check 8 of a decryption envelope on its plaintext. -/
def glweContent (k : KeySet) (q : Nat) (e pt : List Byte) : Bool :=
  let n := leAt e 6 2
  decide (pt.length = 16 + 8 * k.ring * n) && decide (leAt pt 0 8 = leAt e 8 8) && decide (leAt pt 8 4 = leAt e 0x10 4) &&
  decide (leAt pt 0xC 2 = leAt e 0x14 2) && decide (leAt pt 0xE 2 = 0) && (wordsOf 8 (pt.drop 16)).all fun v => decide (v < q)

/-- A share that arrives after its secret is reconstructed, or beyond the shares used, is tested against the
polynomial (07 R293): the number of mismatches. -/
def Secret.offPoly (x : Secret) (sh : Share) : Bool :=
  x.id.slot = sh.owner && !(x.used.any fun e => decide (e.1 = sh.holder + 1)) &&
  decide (interpolate shareP (sh.holder + 1) x.used ≠ (if x.id.root then sh.pair else sh.self))

/-- Stores a share and tests it against the secrets already reconstructed. -/
def State.storeShare (s : State) (b : Nat) (sh : Share) : State :=
  let r := s.round b
  let off := (r.secrets.filter fun x => x.offPoly sh).length
  let s1 := s.setRound b { r with shares := r.shares ++ [sh], mismatch := min (r.mismatch + off) 0xFFFFFFFF }
  if off = 0 then s1 else s1.latchEvt .keystone 0 8

/-- The 40-byte SHARES record (07 R306). -/
def Share.record (x : Share) : List Byte := toLe 4 x.owner ++ toLe 4 x.holder ++ toLe 16 x.self ++ toLe 16 x.pair

/-- An accepted share stays with the owner's home member, or is carried there (07 R305). -/
def State.routeShare (s : State) (b : Nat) (sh : Share) : State :=
  let r := s.round b
  if sh.owner % r.size = r.pos then s.storeShare b sh else s.carry (sh.owner % r.size) 1 r.id 40 [sh.record]

/-- Opens one envelope of a round: check number that fails, or the accepted state (07 R287, R288, 08 R349). -/
def State.openEnv (s : State) (b : Nat) (e : List Byte) (bad : Bool) : Nat × State :=
  let r := s.round b
  let k := s.roundKey r
  let q := s.roundMod r
  let c5 := if r.d.glwe then r.glweChecks k e else r.shareChecks e
  if c5 = 5 then (5, s)
  else if bad then (6, s)
  else match r.keyPriv with
    | none => (7, s)
    | some sk =>
      let info := if r.d.glwe then ascii "M6 decryption shares" else ascii "M6 share envelope"
      match hpkeOpen sk r.rpk ((e.drop 0x20).take 32) info (e.take (if r.d.glwe then 0x18 else 0x14)) (e.drop 0x40) with
      | none => (7, s)
      | some pt =>
        if r.d.glwe then
          if !glweContent k q e pt then (8, s)
          else
            let first := leAt e 0x10 4
            let ps := (List.range (leAt e 6 2)).map fun i =>
              ({ member := leAt e 0x14 2, ct := first + i, accepted := s.stroke.now,
                 coeffs := ((wordsOf 8 (pt.drop 16)).drop (i * k.ring)).take k.ring } : Partial)
            (0, s.setRound b { r with partials := r.partials ++ ps, envAccepted := min (r.envAccepted + 1) 0xFFFFFFFF })
        else if !r.shareContent e pt then (8, s)
        else
          let slot := leAt e 0x10 4
          let r1 := r.setEntry slot { r.entry slot with envelope := true }
          let s1 := s.setRound b { r1 with envAccepted := min (r1.envAccepted + 1) 0xFFFFFFFF }
          (0, (shareEntries pt).foldl (fun t x => t.routeShare b { owner := x.1, holder := slot, self := x.2.2.1, pair := x.2.2.2 }) s1)

/-- ENVELOPE_OPEN: an engine opens the oldest envelope of a round's feed queue (07 R288). -/
def execEnvelopeOpen (b : Nat) (s : State) : Res :=
  if b ≥ 16 then .fault .noUnit
  else match (s.round b).envQueue with
    | none => .next s
    | some n =>
      match (s.queue n).items with
      | [] => .next s
      | it :: rest =>
        let s1 := s.setQueue n { s.queue n with items := rest }
        if !(s1.round b).state.working then .next s1
        else
          let r := s1.openEnv b it.stream it.hasBad
          .next (if r.1 = 0 then r.2 else r.2.envRefuse (it.qpn % 2 ^ 16) r.1 (s.round b).d.glwe it.stream it.stroke)

/-- Envelopes that passed checks 1 to 5 and are unopened when the round enters RELEASE or FAULTED are discarded
(07 R725). -/
def State.discardEnvs (s : State) (b : Nat) : State :=
  let g := (s.round b).d.glwe
  let refuse (u : State) (it : QItem) : State := u.envRefuse (it.qpn % 2 ^ 16) 1 g it.stream it.stroke
  let s1 := match (s.round b).envQueue with
    | none => s
    | some n =>
      ((s.queue n).items.foldl (fun (t : State) (it : QItem) => if it.kind = ItemKind.packet then refuse t it else t) s).setQueue n
        { s.queue n with items := [] }
  let landing (t : State) (n : Nat) : State :=
    (List.range (t.queue n).items.length).foldl (fun u i =>
      match (u.queue n).items[i]? with
      | some it =>
        if it.judged && decide (it.decision = 0) && decide ((u.queue n).rd ≤ wordPos (u.queue n).items i) then
          refuse (u.modItem n i fun x => { x with decision := 0x21 }) it
        else u
      | none => u) t
  s1.envBinds.foldl (fun (t : State) (e : Nat × Bind) => if e.2.round = some b then landing t e.2.landing else t) s1

/-- Word positions of a chunk that hold a B coefficient of a GLWE round (08 R343): word and coefficient index. -/
def glweB (k : KeySet) (chunk : Nat) : List (Nat × Nat) :=
  (List.range 504).filterMap fun w =>
    let i := (chunk % k.span) * 504 + w
    if k.k * k.ring ≤ i ∧ i < (k.k + 1) * k.ring then some (w, i - k.k * k.ring) else none

/-- Every ciphertext with a B coefficient in an owned chunk (08 R350, R352). -/
def State.ownedCts (s : State) (r : Round) : List Nat :=
  let k := s.roundKey r
  (List.range (r.d.chunks / max 1 k.span)).filter fun x =>
    (List.range k.span).any fun i => r.owns (x * k.span + i) && !(glweB k (x * k.span + i)).isEmpty

/-! ### The cancellation plan (07 R291 to R299) -/

/-- The secrets a round needs of this member's home slots (R291). -/
def Round.plan (r : Round) : List SecretId :=
  r.homeSlots.flatMap fun s =>
    let all := List.range r.d.chunks
    (if all.any (r.inA s) then [({ root := false, slot := s } : SecretId)] else []) ++
    (if (r.neighbours s).any fun t => decide (s < t) && all.any fun c => r.inA s c != r.inA t c
      then [({ root := true, slot := s } : SecretId)] else [])

/-- Neighbours that can send an envelope (R277, R292). -/
def Round.reachable (r : Round) (x : SecretId) : Bool :=
  decide (((r.neighbours x.slot).filter fun t => r.statusOf t = 1 || r.statusOf t = 2).length ≥ r.d.threshold)

/-- CANCELLATION_PLAN: at intake of D_CLOSE + 1,025 (R291, R292, 08 R352). -/
def execCancellationPlan (b : Nat) (s : State) : Res :=
  if b ≥ 16 then .fault .noUnit
  else
    let r := s.round b
    if r.state ≠ .recover ∨ r.planBuilt ∨ s.stroke.now ≤ r.d.dClose + 1024 then .next s
    else if r.d.glwe then .next (s.setRound b { r with planBuilt := true, secretsNeeded := (s.ownedCts r).length })
    else
      let p := r.plan
      let u := (p.filter fun x => !r.reachable x).length
      let s1 := s.setRound b { r with planBuilt := true, needed := p, secretsNeeded := p.length, unreachable := u }
      .next (if u = 0 then s1 else s1.latchEvt .keystone 0 4)

/-- Maximal runs of consecutive chunks below `n` that satisfy `p`. -/
def runsOf (p : Nat → Bool) (n : Nat) : List (Nat × Nat) :=
  ((List.range n).foldl (fun (l : List (Nat × Nat)) c =>
    if p c then
      match l with
      | (a, e) :: r => if e + 1 = c then (a, c) :: r else (c, c) :: l
      | [] => [(c, c)]
    else l) []).reverse

/-- The self term of a slot (R295), as its runs. -/
def Round.selfTerm (r : Round) (slot seed : Nat) : List Term :=
  (runsOf (r.inA slot) r.d.chunks).map fun e =>
    { seed := seed, first := e.1, last := e.2, slot := slot, peer := slot, pair := false, add := false }

/-- The pair term of s < t (R295), as its runs in ascending CHUNK_FIRST. -/
def Round.pairTerm (r : Round) (s t root : Nat) : List Term :=
  let k := pairSeed r.d root t
  let sub := (runsOf (fun c => r.inA s c && !r.inA t c) r.d.chunks).map fun e => (e, false)
  let add := (runsOf (fun c => !r.inA s c && r.inA t c) r.d.chunks).map fun e => (e, true)
  let all := (sub ++ add).mergeSort fun a b => decide (a.1.1 ≤ b.1.1)
  all.map fun e => { seed := k, first := e.1.1, last := e.1.2, slot := s, peer := t, pair := true, add := e.2 }

/-- The terms of a secret in order of issue (R297): each term as its runs. -/
def Round.termsOf (r : Round) (x : SecretId) (v : Nat) : List (List Term) :=
  (if x.root then ((r.neighbours x.slot).filter (x.slot < ·)).map fun t => r.pairTerm x.slot t v
    else [r.selfTerm x.slot v]).filter (!·.isEmpty)

/-- Every reachable needed secret is reconstructed. -/
def Round.allRecon (r : Round) : Bool :=
  r.planBuilt && r.needed.all fun x => !r.reachable x || r.secrets.any fun y => y.id = x

/-- SECRET_RECONSTRUCT (R293, R294). -/
def execSecretReconstruct (b : Nat) (root : Bool) (slot : Nat) (s : State) : Res :=
  if b ≥ 16 then .fault .noUnit
  else
    let r := s.round b
    let x : SecretId := { root := root, slot := slot }
    let el := r.shares.filter fun sh => decide (sh.owner = slot)
    if r.state ≠ .recover ∨ !r.planBuilt ∨ !r.needed.contains x ∨ (r.secrets.any fun y => y.id = x) ∨
        el.length < r.d.threshold ∨ s.stroke.now ≤ r.d.dClose + 1024 then .next s
    else
      let pts := (el.take r.d.threshold).map fun sh => (sh.holder + 1, if root then sh.pair else sh.self)
      let v := interpolate shareP 0 pts
      let sec : Secret := { id := x, value := v, stroke := s.stroke.now, used := pts, tested := el.length }
      let off := ((el.drop r.d.threshold).filter fun sh => sec.offPoly sh).length
      let r1 : Round := { r with
        secrets := r.secrets ++ [sec], secretsDone := r.secretsDone + 1, mismatch := min (r.mismatch + off) 0xFFFFFFFF,
        toIssue := r.toIssue ++ (r.termsOf x v).map fun t => (s.stroke.now, t) }
      let done := r1.allRecon
      let s1 := s.setRound b { r1 with reconDone := done }
      let s2 := if off = 0 then s1 else s1.latchEvt .keystone 0 8
      .next (if done then s2.latchEvt .keystone 0 2 else s2)

/-- The payload of a term packet (R296), and back. -/
def Term.word (t : Term) : W256 :=
  BitVec.ofNat 256 (t.seed % 2 ^ 128 + 2 ^ 128 * t.first + 2 ^ 160 * t.last + 2 ^ 192 * (t.slot % 2 ^ 22) +
    2 ^ 214 * (t.peer % 2 ^ 22) + 2 ^ 236 * b2n t.pair + 2 ^ 237 * b2n t.add)

def termOf (w : Nat) : Term :=
  { seed := bits w 0 128, first := bits w 128 32, last := bits w 160 32, slot := bits w 192 22, peer := bits w 214 22,
    pair := w.testBit 236, add := w.testBit 237 }

/-- Some chunk of the run is owned by the member at a position. -/
def Term.touches (t : Term) (n p : Nat) : Bool :=
  decide (t.first + (p + n - t.first % n) % n ≤ t.last)

/-- Enqueues one run of a term on the mask feed queue of its slot; none where the queue is full. -/
def State.enqueueTerm (s : State) (b : Nat) (t : Term) : Option State :=
  let r := s.round b
  match r.maskQueues[t.slot % max 1 r.maskQueues.length]? with
  | none => none
  | some n =>
    let x := s.putPacket n .keystone [t.word] 0 0 0
    if x.1 = .accepted then some x.2 else none

/-- Issues one term: its runs to this member's queue, and to the members that own chunks in them (07 R305). -/
def State.issueTerm (s : State) (b : Nat) (l : List Term) : Option State :=
  l.foldlM (fun t x => do
    let r := t.round b
    let t1 ← if x.touches r.size r.pos then t.enqueueTerm b x else some t
    some ((t1.otherPositions.filter fun p => r.crew && x.touches r.size p).foldl (fun u p =>
      u.carry p 2 r.id 32 [toLe 32 x.word.toNat]) t1)) s

/-- TERM_ISSUE: the terms of a round whose stroke has come, up to 1,024 in a stroke (R297). -/
def State.issueTerms (fuel b : Nat) (s : State) : State :=
  match fuel with
  | 0 => s
  | f + 1 =>
    let r := s.round b
    let used := if r.issuedAt = s.stroke.now then r.issuedCount else 0
    match r.toIssue with
    | [] => s
    | (at', l) :: rest =>
      if at' ≥ s.stroke.now ∨ used ≥ 1024 then s
      else match s.issueTerm b l with
        | none => s
        | some t => issueTerms f b (t.modRound b fun x => { x with toIssue := rest, issuedAt := s.stroke.now, issuedCount := used + 1 })

def execTermIssue (b : Nat) (s : State) : Res :=
  if b ≥ 16 then .fault .noUnit
  else if (s.round b).state ≠ .recover then .next s else .next (State.issueTerms 1024 b s)

/-- The runs waiting in the round's mask feed queues. -/
def State.pendingRuns (s : State) (r : Round) : List Term :=
  r.maskQueues.flatMap fun n => (s.queue n).items.filterMap fun i => (i.words[1]?).map fun w => termOf w.w.toNat

/-- KEYSTONE_TERMS_PENDING (R298). -/
def State.termsPending (s : State) (r : Round) : Nat :=
  ((s.pendingRuns r).map fun t => (t.pair, t.slot, t.peer)).eraseDups.length

/-- SHARES received (R305). -/
def execShares (pos : Nat) (msg : List Byte) (s : State) : Res :=
  onCarry s pos 1 msg fun b recs t =>
    if !(t.round b).state.working then t
    else recs.foldl (fun u e => u.storeShare b
      { owner := leAt e 0 4, holder := leAt e 4 4, self := leAt e 8 16, pair := leAt e 0x18 16 }) t

/-- TERMS received (R305): they join this member's mask feed queue, and cancellation goes on. -/
def execTerms (pos : Nat) (msg : List Byte) (s : State) : Res :=
  onCarry s pos 2 msg fun b recs t =>
    if (t.round b).state ≠ .recover then t
    else recs.foldl (fun u e =>
      let x := termOf (ofLe e)
      ((u.enqueueTerm b x).getD u).modRound b fun r => { r with cancelDone := false }) t

/-! ### Noise (R300 to R302) -/

/-- Modulus of a round's noise: the words' modulus, or the plaintext modulus t of a GLWE round (08 R351). -/
def State.noiseMod (s : State) (r : Round) : Nat := if r.d.glwe then 2 ^ (s.roundKey r).plainLog else s.roundMod r

/-- Draws the noise of a chunk: one draw for every word, or for every decoded coefficient (log entry 1). -/
def State.drawNoise (s : State) (r : Round) (c : Nat) : List Nat × State :=
  let m := s.noiseMod r
  let on (w : Nat) : Bool := !r.d.glwe || (glweB (s.roundKey r) c).any fun e => decide (e.1 = w)
  (List.range r.d.words).foldl (fun (a : List Nat × State) w =>
    if on w then
      let d := a.2.draw
      (a.1 ++ [d.1 % m], d.2)
    else (a.1 ++ [0], a.2)) ([], s)

/-- The words of a noise packet (R302): the chunk index, then seven 32-bit or three 64-bit values a word. -/
def noiseWords (d : Descr) (c : Nat) (l : List Nat) : List W256 :=
  let per := if d.format = 1 then 7 else 3
  let w := if d.format = 1 then 32 else 64
  BitVec.ofNat 256 c :: (List.range ((l.length + per - 1) / per)).map fun k =>
    BitVec.ofNat 256 ((List.range per).foldl (fun v i => v + 2 ^ (w * i) * nth l (per * k + i) 0) 0)

/-- The values of a noise packet's data words after the first. -/
def noiseValues (d : Descr) (ws : List Nat) : List Nat :=
  let per := if d.format = 1 then 7 else 3
  let w := if d.format = 1 then 32 else 64
  (ws.flatMap fun v => (List.range per).map fun i => bits v (w * i) w).take d.words

/-- NOISE_DRAW: the noise of an owned chunk is drawn, from COLLECT on, and its packet enqueued from stroke
D_CLOSE + 1,025 (R302, 18 R668). -/
def execNoiseDraw (b c : Nat) (s : State) : Res :=
  if b ≥ 16 then .fault .noUnit
  else
    let r := s.round b
    if !r.d.noise ∨ !r.owns c ∨ ¬(r.state = .collect ∨ r.state = .close ∨ r.state = .recover) then .next s
    else
      let s1 := match r.noiseDrawn.find? c with
        | some _ => s
        | none =>
          let x := s.drawNoise r c
          x.2.modRound b fun y => { y with noiseDrawn := y.noiseDrawn.insertAt c x.1 }
      let r1 := s1.round b
      if r1.state ≠ .recover ∨ s1.stroke.now ≤ r1.d.dClose + 1024 ∨ r1.noiseSent.contains c then .next s1
      else match r1.noiseQueue with
        | none => .next s1
        | some n =>
          let x := s1.putPacket n .keystone (noiseWords r1.d c (r1.noiseDrawn.get [] c)) 0 0 0
          if x.1 = .accepted then .next (x.2.modRound b fun y => { y with noiseSent := y.noiseSent ++ [c] }) else .next x.2

/-! ### What the sealed rigs do in a stroke that commits -/

/-- A rig of the round that serves mask expansion, noise or release is faulted and paused (01 R54). -/
def State.workPaused (s : State) (r : Round) : Bool :=
  r.workRigs.any fun id => match s.rig? id with
    | some x => !x.running
    | none => true

/-- Expands one run into the working copies of the owned chunks (R295, R303). -/
def State.applyTerm (s : State) (b : Nat) (t : Term) : State :=
  let r := s.round b
  let m := s.roundMod r
  (r.owned.filter fun c => decide (t.first ≤ c ∧ c ≤ t.last)).foldl (fun u c =>
    let ws := maskWords r.d m t.seed c
    u.addWords r.d.wordBytes m (r.resAt c) (if t.add then ws else ws.map fun v => (m - v % m) % m) false) s

/-- The items of a feed queue that were complete before this stroke are consumed and released (R298). -/
def State.consume (s : State) (n : Nat) (f : State → QItem → State) : State :=
  let l := (s.queue n).items
  let old := l.takeWhile fun i => i.complete && decide (i.stroke < s.stroke.now)
  let s1 := old.foldl (fun t i => if i.kind = .packet then f t i else t) s
  s1.setQueue n { s1.queue n with items := (s1.queue n).items.drop old.length }

/-- The mask and noise feeds of a round in a stroke that commits. -/
def State.maskWork (s : State) (b : Nat) : State :=
  let r := s.round b
  if s.workPaused r then s
  else
    let s1 := r.maskQueues.foldl (fun t n => t.consume n fun u i =>
      (i.words.drop 1).foldl (fun v w => v.applyTerm b (termOf w.w.toNat)) u) s
    match r.noiseQueue with
    | none => s1
    | some n => s1.consume n fun u i =>
      let ws := (i.words.drop 1).map fun w => w.w.toNat % 2 ^ 248
      let c := bits (ws.headD 0) 0 32
      (u.addWords r.d.wordBytes (u.noiseMod r) (r.resAt c) (noiseValues r.d (ws.drop 1)) false).modRound b fun y =>
        { y with noiseDone := y.noiseDone ++ [c] }

/-- Cancellation is complete (R298, 08 R352). -/
def State.cancelComplete (s : State) (r : Round) : Bool :=
  if r.d.glwe then r.planBuilt && (s.ownedCts r).all fun x => (r.combined.find? x).isSome
  else r.planBuilt && r.toIssue.isEmpty && (r.needed.all fun x => r.secrets.any fun y => y.id = x) &&
    (s.pendingRuns r).isEmpty

/-- A secret is zeroised once its last term has been released (R294); the shares it was made from stay for the tests of R293. -/
def State.dropSpent (s : State) (r : Round) : Round :=
  let live := r.toIssue.flatMap (·.2) ++ s.pendingRuns r
  { r with secrets := r.secrets.map fun y =>
      if live.any fun t => decide (t.slot = y.id.slot ∧ t.pair = y.id.root) then y else { y with value := 0 } }

/-- What a committed stroke leaves of the secrets; CANCEL_DONE latches at the commit at which it becomes true. -/
def State.noteCancel (s0 : State) (b : Nat) : State :=
  let r := s0.dropSpent (s0.round b)
  let s := s0.setRound b r
  if r.state = .recover ∧ !r.cancelDone ∧ s.cancelComplete r then
    let s1 := (s.setRound b { r with cancelDone := true }).latchEvt .keystone 0 32
    if r.d.glwe then (s1.modRound b fun x => { x with reconDone := true }).latchEvt .keystone 0 2 else s1
  else s

/-- NOISE_DONE (R310). -/
def Round.noiseOk (r : Round) : Bool := !r.d.noise || r.owned.all fun c => r.noiseDone.contains c

/-! ### Ciphertext rounds -/

/-- Coefficient i of the summed ciphertext x: word i mod 504 of chunk x × S + i div 504 (08 R343). -/
def State.glweSum (s : State) (r : Round) (k : KeySet) (x i : Nat) : Nat :=
  ofLe (memRead s.mem (r.accAt (x * k.span + i / 504) + 8 * (i % 504)) 8)

/-- Combines and decodes one coefficient (08 R350). -/
def glweDecode (q t bsum : Nat) (pts : List (Nat × Nat)) : Nat :=
  let v := (bsum + q - interpolate q 0 pts % q) % q
  ((t * v + q / 2) / q) % t

/-- GLWE_COMBINE (08 R350). -/
def execGlweCombine (b x : Nat) (s : State) : Res :=
  if b ≥ 16 then .fault .noUnit
  else
    let r := s.round b
    let k := s.roundKey r
    let q := s.roundMod r
    let ps := (r.partials.filter fun p => decide (p.ct = x)).take r.d.threshold
    if r.state ≠ .recover ∨ !r.d.glwe ∨ !(s.ownedCts r).contains x ∨ (r.combined.find? x).isSome ∨
        ps.length < r.d.threshold ∨ (ps.any fun p => decide (p.accepted ≥ s.stroke.now)) ∨ s.workPaused r ∨
        s.stroke.now ≤ r.d.dClose + 1024 then .next s
    else
      let vals := (List.range k.ring).map fun i =>
        let idx := k.k * k.ring + i
        if r.owns (x * k.span + idx / 504) then
          glweDecode q (2 ^ k.plainLog) (s.glweSum r k x idx) (ps.map fun p => (p.member + 1, nth p.coeffs i 0))
        else 0
      .next (s.setRound b { r with combined := r.combined.insertAt x vals, secretsDone := r.secretsDone + 1 })

/-! ### Result records (R303, R304) -/

/-- The bytes of a result record. -/
def resultRecord (d : Descr) (words : List Nat) (chunk count : Nat) (noised : Bool) : List Byte :=
  words.flatMap (toLe d.wordBytes) ++ toLe 4 chunk ++ toLe 4 count ++ toLe 8 d.id ++
  [BitVec.ofNat 8 d.format, BitVec.ofNat 8 (b2n noised), 0, 0] ++ List.replicate 44 0

/-- The sum words of an owned chunk: accumulator plus working copy, or decoded words plus noise (R303, 08 R351). -/
def State.sumWords (s : State) (r : Round) (c : Nat) : List Nat × Bool :=
  let d := r.d
  let acc := memRead s.mem (r.accAt c) 4032
  let wc := wordsOf d.wordBytes (memRead s.mem (r.resAt c) 4032)
  let bad := s.rangeBad (r.accAt c) 4096 || s.rangeBad (r.resAt c) 4096
  if d.glwe then
    let k := s.roundKey r
    let m := r.combined.get [] (c / max 1 k.span)
    let bs := glweB k c
    ((List.range 504).map fun w =>
      match bs.find? fun e => decide (e.1 = w) with
      | some e => (nth m e.2 0 + nth wc w 0) % s.noiseMod r
      | none => 0, bad)
  else
    let m := s.roundMod r
    (((wordsOf d.wordBytes acc).zip wc).map fun e => (e.1 + e.2) % m, bad)

/-- The round's admitted items still in its landing or ingress queues, or held for assembly (06 R259). -/
def State.unconsumed (s : State) (b : Nat) : Bool :=
  let r := s.round b
  !r.held.isEmpty || r.ingress.any (fun n => !(s.queue n).items.isEmpty) ||
  (s.rounds.binds ++ s.rounds.ended).any fun e => e.2.role = .contribution && e.2.round = some b &&
    (List.range (s.queue e.2.landing).items.length).any fun i =>
      match (s.queue e.2.landing).items[i]? with
      | some it => decide (it.decision = 0) && decide ((s.queue e.2.landing).rd ≤ wordPos (s.queue e.2.landing).items i)
      | none => false

/-- RESULT_WRITE: the release rig writes the record of every owned chunk (R303). -/
def execResultWrite (b : Nat) (s : State) : Res :=
  if b ≥ 16 then .fault .noUnit
  else
    let r := s.round b
    if r.state ≠ .recover ∨ r.resultWritten ∨ !r.cancelDone ∨ !r.noiseOk ∨ s.unconsumed b ∨ s.workPaused r then .next s
    else
      let s1 := r.owned.foldl (fun t c =>
        let x := t.sumWords r c
        t.writeBytes 9 (r.resAt c) (resultRecord r.d x.1 c (r.counts.get 0 c) r.d.noise) x.2) s
      let s2 := s1.setRound b { r with resultWritten := true }
      if !r.crew then .next s2
      else if s2.isLeader then
        .next ((s2.modRound b fun x => { x with doneFrom := if x.doneFrom.contains 0 then x.doneFrom else x.doneFrom ++ [0] }).leaderRelease b)
      else .next (s2.carry 0 5 r.id 8 [toLe 8 s.stroke.now])

/-! ### The end of a round's secrets (01 R55, 07 R299) -/

/-- The round private key is destroyed. -/
def Round.destroyKey (r : Round) : Round := { r with keyPriv := none, keyDestroyed := true }

/-- Stored shares, secrets and everything derived from them are zeroised, and issue stops. -/
def Round.zeroise (r : Round) : Round :=
  { r with shares := [], secrets := [], toIssue := [], partials := [], noiseDrawn := [] }

/-- The round's feed queues are flushed by the Keystone (07 R299, 10 R405). -/
def State.flushFeeds (s : State) (b : Nat) : State :=
  let r := s.round b
  let l := r.maskQueues ++ r.noiseQueue.toList ++ r.envQueue.toList
  l.foldl (fun t n => t.flushQueue n 4) s

end Sys2Proof.Machine
end

