-- ==== Sys2Proof/Machine/Spill.lean ====
section
/-!
DEFINITION. Commands of the SPILL pages, the host window and the doorbells (10 R397 to R417, 16 R602 to
R604).
-/

namespace Sys2Proof.Machine

/-- A command that names one of the 16,384 queues, while the pages and windows are reachable (16 R599);
otherwise the access is discarded. -/
def onQueue (s : State) (n cycle : Nat) (f : State → State) : Res :=
  if n ≥ 16384 then .fault .noUnit
  else
    let s1 := s.atCycle cycle
    if s1.pcie.d3hot then .next (s1.logAer 20)
    else if s1.inService then .next (f (s1.wake 3 2 4)) else .next s1

/-- A write of a register of a SPILL page. -/
def onSpillPage (s : State) (k off : Nat) (v : W32) (cycle : Nat) (f : State → State) : Res :=
  if k ≥ 16 then .fault .noUnit else .next ((s.atCycle cycle).onPage .spill k off v f)

/-! ### Registers of the selected queue -/

/-- The queue that SPILL_SEL of a page selects. -/
def State.selQueue (s : State) (k : Nat) : Nat := 1024 * k + (s.reg .spill k 0x40).toNat % 1024

/-- SPILL_Q_CFG as the applied configuration (R411). -/
def Queue.cfgWord (q : Queue) : W32 :=
  BitVec.ofNat 32 (q.ringLog + 32 * b2n q.hostProd + 64 * b2n q.hostCons + 128 * b2n q.noticeEn + 256 * q.vector)

/-- SPILL_SEL (R411). -/
def State.spillSel (s : State) (k : Nat) (v : W32) : State :=
  let s1 := s.setReg .spill k 0x40 (v &&& 0x3FF)
  s1.setReg .spill k 0x44 (s1.queue (s1.selQueue k)).cfgWord

def execSpillSel (k : Nat) (v : W32) (s : State) : Res := onSpillPage s k 0x40 v s.stroke.cycle fun s1 => s1.spillSel k v

/-- A write of HIGH_WM or LOW_WM: ignored and counted where R412 refuses it. -/
def State.watermark (s : State) (k : Nat) (high : Bool) (v : W32) : State :=
  let n := s.selQueue k
  let q := s.queue n
  let x := v.toNat % 2 ^ 23
  let h := if high then x else q.highWm
  let l := if high then q.lowWm else x
  if q.owner ≠ .tenant || (h ≠ 0 && h ≤ l) || h > q.cap || l > q.cap then
    s.pageError .spill k (if high then 0x48 else 0x4C) 4 v
  else s.setQueue n { q with highWm := h, lowWm := l }

def execWatermarkWrite (k : Nat) (high : Bool) (v : W32) (s : State) : Res :=
  onSpillPage s k (if high then 0x48 else 0x4C) v s.stroke.cycle fun s1 => s1.watermark k high v

/-! ### SPILL_CMD (R416) -/

/-- The queue pool in KiB (R384). -/
def poolKiB : Nat := 14 * 2 ^ 20

/-- KiB of rings allocated; Tamrik's own queues lie outside the pool. -/
def State.poolUsed (s : State) : Nat :=
  s.spill.queues.foldl (fun n e => n + (if e.2.ringLog = 0 ∨ e.1 ≥ 16320 then 0 else 2 ^ e.2.ringLog / 32)) 0

/-- SPILL_POOL_FREE (R416). -/
def State.poolFree (s : State) : Nat := poolKiB - s.poolUsed

/-- The command in progress on a SPILL page. -/
def State.spillCmdOf (s : State) (k : Nat) : CmdSt := s.spillCmd.get {} k

/-- A write of SPILL_CMD lands (R404, R416): while one is in progress it is ignored and counted. -/
def State.landSpill (s : State) (k op : Nat) : State :=
  let c := s.spillCmdOf k
  if c.busy then s.pageError .spill k 0x70 3 (BitVec.ofNat 32 op)
  else { s with spillCmd := s.spillCmd.put {} k { c with
    busy := true, op := op, eff := s.effStroke,
    args := [BitVec.ofNat 32 (s.selQueue k), s.reg .spill k 0x44] } }

def execConfigure (k cycle : Nat) (s : State) : Res := onSpillPage s k 0x70 1 cycle fun s1 => s1.landSpill k 1
def execFlush (k cycle : Nat) (s : State) : Res := onSpillPage s k 0x70 2 cycle fun s1 => s1.landSpill k 2
def execFree (k cycle : Nat) (s : State) : Res := onSpillPage s k 0x70 3 cycle fun s1 => s1.landSpill k 3

/-- The first outcome that applies, in the order of R416. -/
def State.spillOutcome (s : State) (op n cfg : Nat) : Nat :=
  let q := s.queue n
  let rl := bits cfg 0 5
  let used := if q.ringLog = 0 then 0 else 2 ^ q.ringLog / 32
  if op = 0 ∨ op > 3 ∨ (op = 1 ∧ (rl < 8 ∨ rl > 22 ∨ bits cfg 8 11 > 2047)) then 4
  else if q.owner = .sealed ∨ q.owner = .system then 1
  else if op = 2 ∧ q.owner = .free then 5
  else if op ≠ 2 ∧ (q.level ≠ 0 ∨ q.openItem.isSome ∨ q.rigBinds ≠ 0 ∨ q.qpBinds ≠ 0) then 2
  else if op = 1 ∧ 2 ^ rl / 32 > s.poolFree + used then 3
  else 0

/-- CONFIGURE's effect: the staged configuration applied, the queue TENANT, its counters 0 (R415, R416). -/
def Queue.configured (q : Queue) (cfg : Nat) : Queue :=
  { q with
    owner := .tenant, ringLog := bits cfg 0 5, hostProd := cfg.testBit 5, hostCons := cfg.testBit 6,
    noticeEn := cfg.testBit 7, vector := bits cfg 8 11, consumer := if cfg.testBit 6 then .host else .none,
    notices := 0, packets := 0, dropped := 0, abandoned := 0, overruns := 0 }

/-- FREE's effect: events and counters stay (R415). -/
def Queue.freed (q : Queue) : Queue :=
  { evt := q.evt, notices := q.notices, packets := q.packets, dropped := q.dropped, abandoned := q.abandoned,
    overruns := q.overruns }

/-- The outcome instant of a SPILL command (00 R722): its outcome and, where ACCEPTED, its effect. -/
def State.endSpill (s : State) (k : Nat) : State :=
  let c := s.spillCmdOf k
  let n := (c.args.getD 0 0).toNat
  let cfg := (c.args.getD 1 0).toNat
  let o := s.spillOutcome c.op n cfg
  let s1 :=
    if o ≠ 0 then s
    else match c.op with
      | 1 => s.setQueue n ((s.queue n).configured cfg)
      | 3 => s.setQueue n (s.queue n).freed
      | _ => s
  ({ s1 with spillCmd := s1.spillCmd.put {} k { c with busy := false, outcome := o } } : State).latchEvt .spill k 64

/-- The flushes in progress that name this stroke's commit: at cycle 2,044 (R404, R405). -/
def State.hostFlushes (s : State) : State :=
  (List.range 16).foldl (fun s k =>
    let c := s.spillCmdOf k
    let n := (c.args.getD 0 0).toNat
    if c.busy && c.op == 2 && decide (c.eff ≤ s.stroke.now) && s.spillOutcome 2 n 0 == 0 then s.flushQueue n 2 else s) s

/-- The outcomes of those flushes: at cycle 2,047. -/
def State.endFlushes (s : State) : State :=
  (List.range 16).foldl (fun s k =>
    let c := s.spillCmdOf k
    if c.busy && c.op == 2 && decide (c.eff ≤ s.stroke.now) then s.endSpill k else s) s

/-! ### The host window (R406 to R409) -/

/-- An access of a side that is not active: ignored, read as zero, counted (R406). -/
def State.inactiveWin (s : State) (n off : Nat) : State := s.pageError .spill (n / 1024) off 6 0

/-- Stages bytes of the word to produce; byte 31 is ignored (R407). -/
def stageBytes (w : W256) (off : Nat) (l : List Byte) : W256 :=
  let old := toLe 32 w.toNat
  let new := old.take off ++ l ++ old.drop (off + l.length)
  BitVec.ofNat 256 (ofLe (new.take 31))

/-- A write to WIN_DATA: any naturally aligned size stages its bytes (R407, 00 R15). -/
def execWinDataWrite (n off cycle : Nat) (l : List Byte) (s : State) : Res :=
  onQueue s n cycle fun s1 =>
    let q := s1.queue n
    if !q.hostProd then s1.inactiveWin n off
    else if off + l.length > 32 ∨ ¬ [1, 2, 4, 8, 16, 32].contains l.length ∨ off % l.length ≠ 0 then
      s1.pageError .spill (n / 1024) off 1 0
    else s1.setQueue n { q with staged := stageBytes q.staged off l }

/-- A read of WIN_DATA from offset 0: the next visible word goes into the latch (R407). -/
def Queue.winTake (q : Queue) : Queue :=
  match q.nextWord q.rd with
  | some (d, p) =>
    { q with latch := if d.bad then BitVec.ofNat 256 (d.w.toNat % 2 ^ 248 + 255 * 2 ^ 248) else d.w, rd := p }
  | none => { q with latch := 0 }

def execWinDataRead (n cycle len : Nat) (s : State) : Res :=
  onQueue s n cycle fun s1 =>
    let q := s1.queue n
    if !q.hostCons then (s1.inactiveWin n 0).emit (.completion (List.replicate len 0) false)
    else
      let q1 := q.winTake
      (s1.setQueue n q1).emit (.completion ((toLe 32 q1.latch.toNat).take len) false)

/-- A WIN_PROD_OP and its LAST (R408, R409), at the moment it is applied. -/
def State.winProd (s : State) (n op : Nat) (w : W256) : State :=
  let q := s.queue n
  let r : ProdRes × State :=
    if op = 4 ∧ (q.ownOpen .host) then (.noOpen, s) else s.produce n .host op w
  r.2.setQueue n { r.2.queue n with last := r.1.code }

/-- A write of WIN_PROD_OP: held from cycle 2,016 (R390). -/
def State.prodOp (s : State) (n op : Nat) : State :=
  let q := s.queue n
  if !q.hostProd then s.inactiveWin n 0x20
  else if s.holding then { s with spill := { s.spill with held := s.spill.held ++ [.hostProd n op q.staged] } }
  else s.winProd n op q.staged

def execProdData (n cycle : Nat) (s : State) : Res := onQueue s n cycle fun s1 => s1.prodOp n 0
def execProdOpen (n cycle : Nat) (s : State) : Res := onQueue s n cycle fun s1 => s1.prodOp n 1
def execProdClose (n cycle : Nat) (s : State) : Res := onQueue s n cycle fun s1 => s1.prodOp n 2
def execProdSingle (n cycle : Nat) (s : State) : Res := onQueue s n cycle fun s1 => s1.prodOp n 3
def execProdMarker (n cycle : Nat) (s : State) : Res := onQueue s n cycle fun s1 => s1.prodOp n 4

/-- A write of WIN_CONS_OP (R396, R408). -/
def State.consOp (s : State) (n cons : Nat) : State :=
  let q := s.queue n
  if !q.hostCons then s.inactiveWin n 0x28
  else match cons with
    | 1 => s.setQueue n { q with hostMark := q.rd }
    | 2 => s.setQueue n { q with rd := q.hostMark }
    | 3 => s.setQueue n { q with
        relPend := some q.rd, relFrom := if s.stroke.cycle < 2041 then s.stroke.now else s.stroke.now + 1,
        hostMark := q.rd }
    | _ => s

def execWinMark (n cycle : Nat) (s : State) : Res := onQueue s n cycle fun s1 => s1.consOp n 1
def execWinRewind (n cycle : Nat) (s : State) : Res := onQueue s n cycle fun s1 => s1.consOp n 2
def execWinRelease (n cycle : Nat) (s : State) : Res := onQueue s n cycle fun s1 => s1.consOp n 3

/-- A write of WIN_NOTICE_ACK: COUNT acknowledged, ARM re-arms; a queue re-armed with notices left sends its
vector again at once, which clears ARMED as every sending does (R401, R408). -/
def State.noticeAck (s : State) (n : Nat) (v : W32) : State :=
  let q := s.queue n
  if !q.hostProd && !q.hostCons then s.inactiveWin n 0x30
  else
    let left := q.notices - v.toNat % 2 ^ 24
    let arm := v.toNat.testBit 31
    let s1 := s.setQueue n { q with notices := left, armed := q.armed || arm }
    if arm && decide (left ≠ 0) && q.noticeEn && !s.vectorsHeld then
      (s1.setQueue n { s1.queue n with armed := false }).sendVector q.vector
    else s1

def execWinNoticeAck (n : Nat) (v : W32) (s : State) : Res := onQueue s n s.stroke.cycle fun s1 => s1.noticeAck n v

/-! ### The ring -/

/-- A burst of 8 words arrives in the head window or read-ahead (R397). -/
def execRingFetch (n : Nat) (s : State) : Res :=
  if n ≥ 16384 then .fault .noUnit
  else
    let q := s.queue n
    .next (s.setQueue n { q with inPlace := max q.inPlace (min (q.inPlace + 8) (q.level - q.intakeMark)) })

/-! ### Doorbells (16 R602 to R604) -/

/-- Ends a doorbell with LAST. -/
def State.doorLast (s : State) (n code : Nat) : State :=
  s.setQueue n { s.queue n with dbBusy := false, dbLast := code }

/-- Opens the doorbell's packet: the length slot, while two words are free (R388, R400). -/
def State.doorOpen (s : State) (n : Nat) : State :=
  let q := s.queue n
  if q.otherOpen .doorbell then s.doorLast n 3
  else if q.level + 2 > q.cap then (s.queueOverrun n).doorLast n 1
  else s.setQueue n (({ q with items := q.items ++ [{ kind := .packet, src := .doorbell, words := [{ w := 0 }] }] } : Queue).grow 1)

/-- The header of a host packet is valid (R603). -/
def hostHeaderOk (h : List Byte) : Bool :=
  decide (h.length = 32) && decide (1 ≤ leAt h 0 4) && decide (leAt h 0 4 ≤ 65536) && allZero (h.drop 4)

/-- A write of DB_ADDR_HI rings the doorbell (R604). -/
def State.ring (s : State) (n : Nat) (addrHi : W32) (header : Option (List Byte)) : State :=
  let q := s.queue n
  let addr := q.dbAddrLo.toNat + 2 ^ 32 * addrHi.toNat
  let refused : State := (s.pageError .spill (n / 1024) 0 6 addrHi)
  if !q.hostProd || addr % 64 ≠ 0 || q.dbBusy then refused.setQueue n { refused.queue n with dbLast := 4 }
  else if q.ownOpen .host || q.otherOpen .doorbell then s.doorLast n 3
  else
    let s1 := s.emit (.hostRead addr 32)
    match if s.pcie.bme then header else none with
    | none => s1.doorLast n 2
    | some h =>
      if !hostHeaderOk h then (s1.pageError .spill (n / 1024) 0 6 addrHi).doorLast n 4
      else
        let s2 := (s1.emit (.hostRead (addr + 32) (32 * leAt h 0 4))).setQueue n { q with dbBusy := true, dbWords := leAt h 0 4 }
        if s2.holding then { s2 with spill := { s2.spill with held := s2.spill.held ++ [.doorOpen n] } } else s2.doorOpen n

def execDoorbellRing (n cycle : Nat) (addrHi : W32) (header : Option (List Byte)) (s : State) : Res :=
  onQueue s n cycle fun s1 =>
    if s1.reef.level = 4 then { s1 with reef := { s1.reef with heldRings := s1.reef.heldRings ++ [(n, addrHi, header)] } }
    else s1.ring n addrHi header

/-- Writes the fetched data words one by one. -/
def State.doorWords (s : State) (n : Nat) (l : List (List Byte)) : State :=
  l.foldl (fun s b => (s.pushData n { w := tagWord 1 (BitVec.ofNat 256 (ofLe b)) }).2) s

/-- The fetch ended: the words are written and the packet closed, or it is abandoned with cause PRODUCER
(R604). -/
def State.doorEnd (s : State) (n : Nat) (data : Option (List Byte)) : State :=
  let q := s.queue n
  if !q.dbBusy then s
  else if !q.ownOpen .doorbell then s.doorLast n 2
  else if q.flushed.contains .doorbell then
    (s.setQueue n { q with
      flushed := q.flushed.erase .doorbell, abandoned := min (q.abandoned + 1) 0xFFFFFFFF,
      dropped := min (q.dropped + (if data.isSome then q.dbWords else 0)) 0xFFFFFFFF }).doorLast n (if data.isSome then 0 else 2)
  else match data with
    | none => ((s.abandonOpen n 5).closeOpen n).2.doorLast n 2
    | some l =>
      let s1 := s.doorWords n (chunksOf q.dbWords 32 (padTo (32 * q.dbWords) l))
      let r := s1.closeOpen n
      r.2.doorLast n (if r.1 = .accepted then 0 else 1)

def execDoorbellFetchDone (n cycle : Nat) (data : Option (List Byte)) (s : State) : Res :=
  if n ≥ 16384 then .fault .noUnit
  else
    let s1 := s.atCycle cycle
    .next (if s1.holding then { s1 with spill := { s1.spill with held := s1.spill.held ++ [.doorEnd n data] } }
      else s1.doorEnd n data)

/-! ### Held writes (R390) -/

/-- A Plinth unit's write of a whole item: held from cycle 2,016, or made at once; while another producer's
packet is open on the queue the unit holds the item (R389, R390). A full queue ignores it (R400). -/
def State.unitItem (s : State) (n : Nat) (p : Producer) (words : List W256) (bytes qpn decision : Nat) : State :=
  let q := s.queue n
  if s.holding || q.openItem.isSome then
    { s with spill := { s.spill with held := s.spill.held ++ [.item n p words bytes qpn decision] } }
  else
    let r := s.putPacket n p words bytes qpn decision
    if r.1 = .full then r.2.queueOverrun n else r.2

/-- A Plinth unit's lone marker, under the same rule. -/
def State.unitMarker (s : State) (n : Nat) (p : Producer) (w : W256) : State :=
  let q := s.queue n
  if s.holding || q.openItem.isSome then
    { s with spill := { s.spill with held := s.spill.held ++ [.marker n p w] } }
  else (s.produce n p 4 w).2

/-- One held write applied at cycle 0. -/
def State.applyHeldOp (s : State) : HeldOp → State
  | .hostProd n op w => s.winProd n op w
  | .doorOpen n => s.doorOpen n
  | .doorEnd n d => s.doorEnd n d
  | .item n p ws b q d => s.unitItem n p ws b q d
  | .marker n p w => s.unitMarker n p w

/-- The writes held from cycle 2,016 are applied at cycle 0 of the next stroke, in order. -/
def State.applyHeld (s : State) : State :=
  s.spill.held.foldl State.applyHeldOp { s with spill := { s.spill with held := [] } }

end Sys2Proof.Machine
end

