-- ==== Sys2Proof/Machine/Drain.lean ====
section
/-!
DEFINITION. Drains (05 R222 to R230), Pier DMA (03 R148 to R150) and the marker maximum (03 R153).
-/

namespace Sys2Proof.Machine

/-- A write of a register of an ASHLAR page. -/
def onAshlar (s : State) (a off : Nat) (v : W32) (f : State → State) : Res :=
  if a ≥ 4800 then .fault .noUnit else .next (s.onPage .ashlar a off v f)

/-- ASHLAR_MARKER.MAX is set to 0 (03 R153). -/
def State.markerMaxClr (s : State) (a : Nat) : State := s.setAshlar a { s.ashlar a with markerMax := 0 }

def execMarkerMaxClr (a : Nat) (s : State) : Res := onAshlar s a 0x40 1 fun s1 => s1.markerMaxClr a

/-! ### Drains -/

/-- The destination range of a drain: even offset, bound with write ACCESS, inside the region (R225). -/
def Rig.drainRange (r : Rig) (region base : Nat) : Option Nat :=
  if base % 2 ≠ 0 then none else r.regionAddr region accWrite (16 * base) (16384 * r.ashlars.length)

/-- A drain request on the page of Ashlar `a` (R222, R223, R225). -/
def State.drainReq (s : State) (a region : Nat) : State :=
  let base := (s.reg .ashlar a 0x94).toNat
  let s1 := s.setReg .ashlar a 0x90 (BitVec.ofNat 32 (2 * (region % 64)))
  match s1.rigOn a with
  | none => s1.setAshlar a { s1.ashlar a with noRigResult := 6 }
  | some (id, r, _) =>
    let d := r.drain
    let d' :=
      if d.phase = .pending ∨ d.phase = .copying then { d with busyCount := min (d.busyCount + 1) 0xFFFF }
      else if r.sealed then { d with phase := .finished, result := 2 }
      else if (r.drainRange region base).isNone then { d with phase := .finished, result := 3 }
      else { d with phase := .pending, region := region, base := base, fromStroke := s1.effStroke }
    s1.setRig id { r with drain := d' }

def execDrainReq (a region cycle : Nat) (s : State) : Res :=
  onAshlar (s.atCycle cycle) a 0x90 (BitVec.ofNat 32 (1 + 2 * (region % 64))) fun s1 => s1.drainReq a region

/-- The values a drain captures at cycle 2,041: the working accumulators that commit into the shadows in the
same step (R207, R223), by template ordinal, position and accumulator. -/
def State.capture (s : State) (id : Nat) (r : Rig) : List (Nat × W256 × Bool) :=
  (List.range r.ashlars.length).flatMap fun o =>
    (List.range 64).flatMap fun p =>
      let c := s.core (coreKey id o p)
      (List.range 8).filterMap fun a =>
        let v := c.acc.get 0 a
        let b := c.accBad.get false a
        if v = 0 ∧ !b then none else some (o * 512 + p * 8 + a, v, b)

/-- The drain of the rig is due at this stroke's commit (R223): pending, its stroke reached, and the rig
placed and running. -/
def Rig.drainDue (r : Rig) (now : Nat) : Bool :=
  decide (r.drain.phase = .pending) && decide (r.drain.fromStroke ≤ now) && r.running

/-- Capture at cycle 2,041, when the stroke commits. -/
def State.drainCapture (s : State) (id : Nat) : State :=
  match s.rig? id with
  | none => s
  | some r =>
    if r.drainDue s.stroke.now && !s.overran then
      s.setRig id { r with drain := { r.drain with
        phase := .copying, captured := s.stroke.now, copy := s.capture id r, overwritten := false } }
    else s

/-- Writes the captured words to the destination from unit offset 0 of `base` (R224). -/
def State.drainWords (s : State) (base : Nat) (copy : List (Nat × W256 × Bool)) (n : Nat) : State :=
  (List.range n).foldl (fun s k =>
    match copy.find? (fun e => e.1 = k) with
    | some (_, v, b) => s.writeWord (base / 32 + k) (toLe 32 v.toNat) b
    | none => s.writeWord (base / 32 + k) (List.replicate 32 0) false) (s.watched base (32 * n) 2 0)

/-- Free values in the destination of a drain that a fence overwrote (R225; log entry 1). -/
def State.drawWords (s : State) (base n : Nat) : State :=
  (List.range n).foldl (fun s k =>
    let d := s.draw
    d.2.writeWord (base / 32 + k) (toLe 32 (d.1 % 2 ^ 256)) false) (s.watched base (32 * n) 2 0)

/-- The copy of a drain ends within 64 strokes with its result (R225). -/
def State.drainDone (s : State) (id : Nat) : State :=
  match s.rig? id with
  | none => s
  | some r =>
    let d := r.drain
    if d.phase ≠ .copying then s
    else match r.drainRange d.region d.base with
      | none => s.setRig id { r with drain := { d with phase := .finished, result := 3, copy := [] } }
      | some a =>
        let n := 512 * r.ashlars.length
        if d.overwritten then
          (s.drawWords a n).setRig id { r with drain := { d with phase := .finished, result := 4, copy := [] } }
        else
          (s.drainWords a d.copy n).setRig id { r with drain := { d with
            phase := .finished, result := if d.copy.any (·.2.2) then 5 else 1, copy := [] } }

/-- A command that names a loaded rig. -/
def onRig (s : State) (id : Nat) (f : State → State) : Res :=
  match s.rig? id with
  | none => .fault .noUnit
  | some _ => .next (f s)

def execDrainCapture (id : Nat) (s : State) : Res := onRig s id fun s1 => (s1.atCycle 2041).drainCapture id
def execDrainCopyDone (id : Nat) (s : State) : Res := onRig s id fun s1 => s1.drainDone id

/-! ### Pier DMA -/

/-- Fields of a DMA request (R148). -/
structure DmaWord where
  srcRegion : Nat
  srcOff : Nat
  dstRegion : Nat
  dstOff : Nat
  len : Nat
  doneQueue : Nat
  cookie : Nat
  rest : Nat
  deriving DecidableEq, Repr

def dmaWord (w : W256) : DmaWord :=
  let v := w.toNat
  { srcRegion := bits v 0 6, srcOff := bits v 6 40, dstRegion := bits v 46 6, dstOff := bits v 52 40, len := bits v 92 32,
    doneQueue := bits v 124 6, cookie := bits v 130 32, rest := bits v 162 86 }

/-- A Pier whose DMA engine serves the rig: a Pier on which it is placed. -/
def Rig.onPier (r : Rig) (p : Nat) : Bool := r.placedOn.any fun a => decide (a / 800 = p)

/-- The oldest request of a rig that waits in one of its request queues, with that queue and the position
after the item. -/
def State.dmaWaiting (s : State) (r : Rig) : Option (W256 × Nat × Nat) :=
  (r.queues.filter fun q => decide (q.role = 3)).findSome? fun b =>
    let q := s.queue b.queue
    match q.nextWord q.rd with
    | some (_, p1) => match q.nextWord p1 with
      | some (d, p2) => some (d.w, b.queue, p2)
      | none => none
    | none => none

/-- The DMA engine of a Pier starts the next request: its words are complete, so the stroke that issued it has
committed (R149, 10 R391). The engine releases what it has read. -/
def State.dmaStart (s : State) (p : Nat) : State :=
  match s.fabric.rigs.findSome? (fun e =>
      if e.2.onPier p then (s.dmaWaiting e.2).map fun x => (e.1, x) else none) with
  | none => s
  | some (id, w, qn, pos) =>
    let q := s.queue qn
    let s1 := s.setQueue qn { q with rd := pos, relPend := some pos, relFrom := s.stroke.now }
    { s1 with fabric := { s1.fabric with
      dma := s1.fabric.dma.modify [] p fun l => l ++ [{ rig := id, word := w, issued := s.stroke.now, started := true }] } }

/-- The source and destination addresses of a request that keeps its rules (R144, R148, R149). -/
def Rig.dmaRange (r : Rig) (d : DmaWord) : Option (Nat × Nat) :=
  if d.rest ≠ 0 ∨ d.srcOff % 32 ≠ 0 ∨ d.dstOff % 32 ≠ 0 ∨ d.len % 32 ≠ 0 ∨ d.len < 32 ∨ d.len > 16777216 then none
  else match r.regionAddr d.srcRegion accRead d.srcOff d.len, r.regionAddr d.dstRegion accWrite d.dstOff d.len,
      r.queues[d.doneQueue]? with
    | some a, some b, some q => if q.role = 1 then some (a, b) else none
    | _, _, _ => none

/-- The completion word of a request, and its counters (R149, R161). -/
def State.dmaEnd (s : State) (p : Nat) (r : Rig) (d : DmaWord) (status bytes : Nat) : State :=
  let s1 :=
    if status = 0 then (s.bump64 .pier p 0x4C bytes).bump .pier p 0x54
    else ((s.bump64 .pier p 0x4C bytes).bump .pier p 0x58).latchEvt .pier p 2
  match r.queues[d.doneQueue]? with
  | some q => if q.role = 1 then
      s1.unitItem q.queue (.pierDma p) [BitVec.ofNat 256 (d.cookie + 2 ^ 32 * status)] 0 0 0 else s1
  | none => s1

/-- The oldest request of a Pier's engine completes (R149, R150). -/
def State.dmaComplete (s : State) (p : Nat) : State :=
  match s.fabric.dma.get [] p with
  | [] => s
  | q :: rest =>
    let s1 : State := { s with fabric := { s.fabric with dma := s.fabric.dma.put [] p rest } }
    match s1.rig? q.rig with
    | none => s1
    | some r =>
      let d := dmaWord q.word
      match r.dmaRange d with
      | none => s1.dmaEnd p r d 1 0
      | some (a, b) =>
        let c := s1.copyWords 3 (a / 32) (b / 32) (d.len / 32)
        c.2.dmaEnd p r d (if c.1 then 2 else 0) d.len

/-- PIER_DMA_START: no request starts in a gated stroke or while the module is halted (17 R645, 19 R686). -/
def execPierDmaStart (p : Nat) (s : State) : Res :=
  if p ≥ 6 then .fault .noUnit else .next (if s.enginesStart then s.dmaStart p else s)

def execPierDmaComplete (p : Nat) (s : State) : Res := if p ≥ 6 then .fault .noUnit else .next (s.dmaComplete p)

end Sys2Proof.Machine
end

