-- ==== Sys2Proof/Machine/Vault.lean ====
section
/-!
DEFINITION. The Vaults: requests, verification, completions (09 R354 to R374).
-/

namespace Sys2Proof.Machine

/-- Fields of a Vault request (R364). -/
structure VaultReq where
  op : Nat
  nega : Bool
  scale : Bool
  m : Nat
  modsel : Nat
  srcRegion : Nat
  srcOff : Nat
  dstRegion : Nat
  dstOff : Nat
  doneQueue : Nat
  cookie : Nat
  stageRegion : Nat
  stageOff : Nat
  batch : Nat
  rest : Nat
  deriving DecidableEq, Repr

def vaultReq (w : W256) : VaultReq :=
  let v := w.toNat
  { op := bits v 0 4, nega := v.testBit 4, scale := v.testBit 5, m := bits v 6 5, modsel := bits v 11 5,
    srcRegion := bits v 16 6, srcOff := bits v 22 40, dstRegion := bits v 62 6, dstOff := bits v 68 40,
    doneQueue := bits v 108 6, cookie := bits v 114 32, stageRegion := bits v 146 6, stageOff := bits v 152 40,
    batch := bits v 192 8, rest := bits v 200 48 }

/-- A field is outside its range (R366 MALFORMED). -/
def VaultReq.malformed (q : VaultReq) : Bool :=
  !(q.op = 1 || q.op = 2) || decide (q.m < 10) || decide (q.m > 19) || decide (q.batch < 1) || decide (q.batch > 64) ||
  (decide (q.m ≥ 17) && decide (q.batch ≠ 1)) || decide (q.rest ≠ 0) || (q.op = 1 && q.scale) ||
  (decide (q.m < 17) && (decide (q.stageRegion ≠ 0) || decide (q.stageOff ≠ 0)))

/-- The modulus of a request, none where R363 is not met. -/
def State.vaultModulus (s : State) (q : VaultReq) : Option Nat :=
  if q.modsel = 16 then some p64
  else if q.modsel > 16 then none
  else match s.fabric.moduli.get 0 q.modsel with
    | 0 => none
    | p => if modulusServes p q.m q.nega then some p else none

/-- Source, destination and, for m ≥ 17, stage address of a request that keeps R367. -/
def State.vaultRanges (s : State) (r : Rig) (q : VaultReq) : Option (Nat × Nat × Option Nat) :=
  let n := 8 * 2 ^ q.m
  let len := n * q.batch
  if q.srcOff % 32 ≠ 0 ∨ q.dstOff % 32 ≠ 0 ∨ q.stageOff % 32 ≠ 0 then none
  else match r.regionAddr q.srcRegion accRead q.srcOff len, r.regionAddr q.dstRegion accWrite q.dstOff len with
    | some a, some b =>
      let apart (x y lx ly : Nat) : Bool := decide (x + lx ≤ y) || decide (y + ly ≤ x)
      if !(a = b || apart a b len len) then none
      else if q.m < 17 then some (a, b, none)
      else match r.regionAddr q.stageRegion accRead q.stageOff n, r.regionAddr q.stageRegion accWrite q.stageOff n with
        | some t, some _ =>
          match s.place t with
          | .ashlar _ _ => if apart t a n n && apart t b n n then some (a, b, some t) else none
          | _ => none
        | _, _ => none
    | _, _ => none

/-- Coefficients of a byte string (R359), and back. -/
def coeffs (l : List Byte) : List Nat := (chunksOf (l.length / 8 + 1) 8 l).map ofLe
def coeffBytes (l : List Nat) : List Byte := l.flatMap (toLe 8)

/-- Writes `n` words wholly poisoned (R369). -/
def State.writePoison (s : State) (word n : Nat) : State :=
  (List.range n).foldl (fun t k => t.writeWord (word + k) (List.replicate 32 0) true) (s.watched (32 * word) (32 * n) 2 4)

/-- How a request has gone so far: status, FAIL_INDEX, RECOMPUTES. -/
structure VaultRun where
  status : Nat := 0
  failIndex : Nat := 0
  recomputes : Nat := 0
  deriving DecidableEq, Repr

/-- One transform of a batch: poisoned sources give poisoned outputs; a failed check recomputes once, and a
second failure stops the request (R369, R371, R372). `fails` lists the transforms whose check fails, with
whether the second check fails as well. -/
def State.vaultOne (s : State) (c p a b n : Nat) (q : VaultReq) (fails : List (Nat × Bool)) (r : VaultRun) (i : Nat) : VaultRun × State :=
  if r.status = 5 then (r, s)
  else
    let d := s.readBytes 4 (a + i * n) n
    if d.2.1 then
      ({ r with status := 2, failIndex := if r.status = 2 then r.failIndex else i }, d.2.2.writePoison ((b + i * n) / 32) (n / 32))
    else
      let x := coeffs d.1
      let y := if q.op = 1 then nttForward p q.m q.nega x else nttInverse p q.m q.nega q.scale x
      match fails.find? (fun e => decide (e.1 = i)) with
      | none => (r, d.2.2.writeBytes 4 (b + i * n) (coeffBytes y))
      | some (_, twice) =>
        let s1 := (d.2.2.bump .vault c 0x4C).latchEvt .vault c 1
        if twice then ({ r with status := 5, failIndex := i }, s1)
        else ({ r with recomputes := r.recomputes + 1 }, s1.writeBytes 4 (b + i * n) (coeffBytes y))

/-- The transforms of a batch in order. -/
def State.vaultBatch (s : State) (c p a b n : Nat) (q : VaultReq) (fails : List (Nat × Bool)) : VaultRun × State :=
  (List.range q.batch).foldl (fun x i => x.2.vaultOne c p a b n q fails x.1 i) ({}, s)

/-- The Vault faults: its buffer is zeroised, it is fenced, and its rig faults at the commit (R372). -/
def State.vaultFault (s : State) (c id : Nat) : State :=
  let s1 := (s.zeroRange (vaultBufBase c) 0x200000).modRig id fun r => { r with vaultBroken := true }
  let s2 : State := { s1 with fabric := { s1.fabric with
    vaults := s1.fabric.vaults.modify {} c fun v => { v with fenced := true } } }
  (s2.bump .vault c 0x54).latchEvt .vault c 2

/-- The completion word (R366). -/
def vaultWord (q : VaultReq) (r : VaultRun) : W256 :=
  BitVec.ofNat 256 (q.cookie + 2 ^ 32 * r.status + 2 ^ 40 * r.failIndex + 2 ^ 48 * r.recomputes)

/-- Free values in a stage region after a request (R370; log entry 1). -/
def State.drawStage (s : State) (t n : Nat) : State :=
  (List.range (n / 32)).foldl (fun s k =>
    let d := s.draw
    d.2.writeWord (t / 32 + k) (toLe 32 (d.1 % 2 ^ 256)) false) (s.watched t n 2 4)

/-- Performs a request of a rig: its status and the state. MALFORMED, MODULUS and REGION are decided in that
order before anything is read (R366). -/
def State.vaultDo (s : State) (c id : Nat) (r : Rig) (q : VaultReq) (fails : List (Nat × Bool)) : VaultRun × State :=
  if (s.fabric.vaults.get {} c).fenced then ({ status := 5 }, s)
  else if q.malformed then ({ status := 3 }, s)
  else match s.vaultModulus q with
    | none => ({ status := 4 }, s)
    | some p =>
      match s.vaultRanges r q with
      | none => ({ status := 1 }, s)
      | some (a, b, t) =>
        let x := s.vaultBatch c p a b (8 * 2 ^ q.m) q fails
        let s1 := match t with
          | some st => x.2.drawStage st (8 * 2 ^ q.m)
          | none => x.2
        if x.1.status = 5 then (x.1, s1.vaultFault c id) else (x.1, s1)

/-- Counters of a finished request (R378, R381). -/
def State.vaultCount (s : State) (c : Nat) (q : VaultReq) (r : VaultRun) : State :=
  match r.status with
  | 0 => s.bump64 .vault c 0x44 q.batch
  | 5 => s
  | _ => (s.bump .vault c 0x50).latchEvt .vault c 4

/-- Discards the packets of more than one word, and the lone markers, at the head of the request input (R365). -/
def State.vaultDiscard (fuel c : Nat) (s : State) : State :=
  match fuel with
  | 0 => s
  | f + 1 =>
    let q := s.queue (16384 + c)
    match q.items with
    | i :: rest =>
      if i.complete && (!i.deliverable || i.words.length ≠ 2) then
        let s1 := s.setQueue (16384 + c) { q with items := rest }
        vaultDiscard f c (if i.deliverable then (s1.pageError .vault c 0 6 0).latchEvt .vault c 16 else s1)
      else s
    | [] => s

/-- The oldest request whose stroke has committed, once everything before it is discarded. -/
def State.vaultHead (s : State) (c : Nat) : Option W256 :=
  match (s.queue (16384 + c)).items with
  | i :: _ => if i.deliverable then (i.words[1]?).map (·.w) else none
  | [] => none

/-- The rig that holds a Vault. -/
def State.vaultRig (s : State) (c : Nat) : Option (Nat × Rig) :=
  s.fabric.rigs.findSome? fun e => if e.2.vaultCourse = some c then some (e.1, e.2) else none

/-- The Vault takes its next request when its OP is `op`, or is neither operation (R358, R365). -/
def State.vaultTake (s : State) (c op : Nat) (fails : List (Nat × Bool)) : State :=
  let s0 := State.vaultDiscard 300 c s
  if (s0.fabric.vaults.get {} c).completion.isSome then s0
  else match s0.vaultHead c, s0.vaultRig c with
    | some w, some (id, r) =>
      let q := vaultReq w
      if q.op ≠ op ∧ (q.op = 1 ∨ q.op = 2) then s0
      else
        let s1 := s0.setQueue (16384 + c) { s0.queue (16384 + c) with items := (s0.queue (16384 + c)).items.drop 1 }
        let x := s1.vaultDo c id r q fails
        let s2 := x.2.vaultCount c q x.1
        match r.queues[q.doneQueue]? with
        | some d =>
          if d.role = 1 then
            { s2 with fabric := { s2.fabric with
              vaults := s2.fabric.vaults.modify {} c fun v => { v with completion := some (d.queue, vaultWord q x.1) } } }
          else s2
        | none => s2
    | _, _ => s0

/-- A Vault starts its next request, unless the stroke is gated or the module halted (17 R645, 19 R686). -/
def vaultStart (c op : Nat) (fails : List (Nat × Bool)) (s : State) : Res :=
  if c ≥ 96 then .fault .noUnit else .next (if s.enginesStart then s.vaultTake c op fails else s)

/-- A forward request (R358): `fails` lists the transforms whose verification fails, and whether it fails
twice. -/
def execVaultForward (c : Nat) (fails : List (Nat × Bool)) (s : State) : Res := vaultStart c 1 fails s

/-- An inverse request (R358). -/
def execVaultInverse (c : Nat) (fails : List (Nat × Bool)) (s : State) : Res := vaultStart c 2 fails s

/-- The completion word is written to the done queue (R366). -/
def State.vaultComplete (s : State) (c : Nat) : State :=
  match (s.fabric.vaults.get {} c).completion with
  | none => s
  | some (qn, w) =>
    let s1 : State := { s with fabric := { s.fabric with
      vaults := s.fabric.vaults.modify {} c fun v => { v with completion := none } } }
    s1.unitItem qn (.vault c) [w] 0 0 0

def execVaultCompletion (c cycle : Nat) (s : State) : Res :=
  if c ≥ 96 then .fault .noUnit else .next ((s.atCycle cycle).vaultComplete c)

end Sys2Proof.Machine
end

