-- ==== Sys2Proof/Machine/CipherEng.lean ====
section
/-!
DEFINITION. The CIPHER engine (08 R314 to R341, R347): objects, refresh, exhaustion and poison, key sets, the
status record and completions.
-/

namespace Sys2Proof.Machine

/-! ### Objects (R314 to R318) -/

/-- A bit parameter set (R318). -/
structure BitSet where
  n : Nat
  logN : Nat
  ell : Nat
  /-- log2 of the gadget base. -/
  logB : Nat
  levelMax : Nat
  msgMax : Nat
  deriving DecidableEq, Repr

/-- The bit parameter set of a PARAM_SET code. -/
def bitSet (p : Nat) : Option BitSet :=
  match p with
  | 1 => some ⟨630, 10, 3, 7, 16, 2⟩
  | 2 => some ⟨742, 11, 2, 10, 32, 3⟩
  | 3 => some ⟨1024, 12, 2, 11, 64, 4⟩
  | _ => none

/-- A ciphertext header (R314). -/
structure ObjHdr where
  ksid : Nat
  param : Nat
  typ : Nat
  flags : Nat
  w : Nat
  level : Nat
  len : Nat
  zero : Bool
  deriving DecidableEq, Repr

def parseHdr (l : List Byte) : ObjHdr :=
  { ksid := leAt l 0 8, param := leAt l 8 1, typ := leAt l 9 1, flags := leAt l 10 1, w := leAt l 11 1,
    level := leAt l 12 4, len := leAt l 16 4, zero := allZero ((l.drop 20).take 12) && decide (leAt l 10 1 < 4) }

def ObjHdr.bytes (h : ObjHdr) : List Byte :=
  toLe 8 h.ksid ++ toLe 1 h.param ++ toLe 1 h.typ ++ toLe 1 h.flags ++ toLe 1 h.w ++ toLe 4 h.level ++ toLe 4 h.len ++
  List.replicate 12 0

/-- Dimension of an object type under a set. -/
def BitSet.dim (b : BitSet) (typ : Nat) : Nat := if typ = 2 then 2 ^ b.logN else b.n

/-- LENGTH of an object of a type (R315); where the set or the type is none of R314's, the length found. -/
def objLen (param typ found : Nat) : Nat :=
  match bitSet param with
  | some b => if typ = 1 ∨ typ = 2 then 4 * (b.dim typ + 1) else found
  | none => found

/-- An LWE object as the engine holds it: header, body words, and whether it counts as poisoned. -/
structure Obj where
  h : ObjHdr
  body : List Nat
  poison : Bool
  deriving DecidableEq, Repr

/-- Poisoned (R317, R333, 13 R519). -/
def ObjHdr.poisoned (h : ObjHdr) (bad : Bool) : Bool :=
  bad || h.flags.testBit 0 || decide (h.level = 0) || (match bitSet h.param with
    | some b => decide (h.level > b.levelMax)
    | none => false)

/-- The torus, modulo 2^32. -/
def t32 : Nat := 2 ^ 32

/-- Linear combination a × x + b × y of two bodies on the torus. -/
def linBody (a : Nat) (x : List Nat) (b : Nat) (y : List Nat) : List Nat :=
  (x.zip y).map fun e => (a * e.1 + b * e.2) % t32

/-- Multiplies a body by a scalar. -/
def scaleBody (a : Nat) (x : List Nat) : List Nat := x.map fun v => a * v % t32

/-- Adds a constant to b, the last word. -/
def addConst (x : List Nat) (c : Nat) : List Nat := x.dropLast ++ [(x.getLastD 0 + c) % t32]

/-- −1 on the torus. -/
def negOne : Nat := t32 - 1

/-- Δ = 2^(31 − w) (R315). -/
def delta (w : Nat) : Nat := 2 ^ (31 - w)

/-! ### Refresh (R319, R327; conventions of log entry 20) -/

/-- Entry v of a LUT field. -/
def lutEntry (lut v : Nat) : Nat := bits lut (4 * v) 4

/-- The identity table T[v] = v of a width. -/
def identityLut (w : Nat) : Nat := (List.range (2 ^ w)).foldl (fun x v => x + v * 2 ^ (4 * v)) 0

/-- The modulus switch of step 1: x × 2N / 2^32 to the nearest integer, ties upward, in Z_2N. -/
def modSwitch (logN x : Nat) : Nat := (x + 2 ^ (30 - logN)) / 2 ^ (31 - logN) % 2 ^ (logN + 1)

/-- The test polynomial of step 2: T[v] × Δ on the N / 2^w coefficients nearest to v × N / 2^w, those below zero
wrapping negacyclically. -/
def testPoly (logN w lut : Nat) : List Nat :=
  let n := 2 ^ logN
  let box := n / 2 ^ w
  (List.range n).map fun i =>
    let v := (i + box / 2) / box
    if v < 2 ^ w then lutEntry lut v * delta w % t32 else (t32 - lutEntry lut 0 * delta w % t32) % t32

/-- Multiplies a polynomial of Z[X]/(X^N + 1) on the torus by X^k, k in Z_2N. -/
def rotPoly (logN k : Nat) (p : List Nat) : List Nat :=
  let n := 2 ^ logN
  (List.range n).map fun i =>
    let j := (i + 2 * n - k % (2 * n)) % (2 * n)
    if j < n then nth p j 0 else (t32 - nth p (j - n) 0 % t32) % t32

/-- The balanced digits of a torus value, most significant level first: the value is taken to its nearest multiple
of 2^(32 − levels × logB), ties upward, and the digits lie in [−B/2, B/2). -/
def digitsOf (logB levels x : Nat) : List Int :=
  let total := logB * levels
  let v := (x + 2 ^ (31 - total)) / 2 ^ (32 - total) % 2 ^ total
  let step (a : List Int × Nat) (j : Nat) : List Int × Nat :=
    let d := v / 2 ^ (logB * j) % 2 ^ logB + a.2
    if d ≥ 2 ^ (logB - 1) then (((d : Int) - (2 ^ logB : Nat)) :: a.1, 1) else ((d : Int) :: a.1, 0)
  ((List.range levels).foldl step ([], 0)).1

/-- A signed value modulo P64. -/
def toP64 (x : Int) : Nat := (x % (p64 : Int)).toNat

/-- A residue modulo P64 lifted with MLIFT and reduced modulo 2^32 (R319). -/
def fromP64 (x : Nat) : Nat := if x > (p64 - 1) / 2 then ((t32 : Int) - ((p64 - x) % t32 : Nat)).toNat % t32 else x % t32

/-- Reads a BSK body: rows of two polynomials of N coefficients (R336). -/
def bskPoly (n : Nat) (body : List Byte) (row part : Nat) : List Nat :=
  (List.range n).map fun i => leAt body (8 * (n * (2 * row + part) + i)) 8

/-- The product of one GGSW and a GLWE pair, by the Vault's transforms (R319). -/
def externalProduct (b : BitSet) (body : List Byte) (x : List Nat × List Nat) : List Nat × List Nat :=
  let n := 2 ^ b.logN
  let dec (p : List Nat) (l : Nat) : List Nat :=
    nttForward p64 b.logN true (p.map fun v => toP64 (nth (digitsOf b.logB b.ell v) l 0))
  let ds := (List.range b.ell).map (dec x.1) ++ (List.range b.ell).map (dec x.2)
  let side (part : Nat) : List Nat :=
    let sum := ((List.range (2 * b.ell)).zip ds).foldl (fun (acc : List Nat) (e : Nat × List Nat) =>
      ((acc.zip e.2).zip (bskPoly n body e.1 part)).map fun y => (y.1.1 + y.1.2 * y.2) % p64) (List.replicate n 0)
    (nttInverse p64 b.logN true true sum).map fromP64
  (side 0, side 1)

/-- Sum of two polynomials on the torus, the second times a scalar. -/
def addPoly (p : List Nat) (c : Nat) (q : List Nat) : List Nat := linBody 1 p c q

/-- The blind rotation of step 2, over the bodies of the BSK chunks. -/
def blindRotate (b : BitSet) (lut w : Nat) (body : List Nat) (keys : List (List Byte)) : List Nat × List Nat :=
  let n := 2 ^ b.logN
  let sw := body.map (modSwitch b.logN)
  let start := rotPoly b.logN (2 * n - sw.getLastD 0 % (2 * n)) (testPoly b.logN w lut)
  (sw.dropLast.zip keys).foldl (fun (acc : List Nat × List Nat) (e : Nat × List Byte) =>
    let d := (addPoly (rotPoly b.logN e.1 acc.1) negOne acc.1, addPoly (rotPoly b.logN e.1 acc.2) negOne acc.2)
    let x := externalProduct b e.2 d
    (addPoly acc.1 1 x.1, addPoly acc.2 1 x.2)) (List.replicate n 0, start)

/-- The constant coefficient as an LWE_BIG body (step 3). -/
def sampleExtract (g : List Nat × List Nat) : List Nat :=
  match g.1 with
  | [] => [g.2.headD 0]
  | a0 :: r => (a0 :: r.reverse.map fun v => (t32 - v % t32) % t32) ++ [g.2.headD 0]

/-- The key switch of step 4, over the bodies of the KSK chunks: base 2^4, 4 levels. -/
def keySwitch (b : BitSet) (big : List Nat) (keys : List (List Byte)) : List Nat :=
  let m := 4 * (b.n + 1)
  let start := List.replicate b.n 0 ++ [big.getLastD 0]
  ((List.range (2 ^ b.logN)).zip big).foldl (fun (acc : List Nat) (e : Nat × Nat) =>
    ((List.range 4).zip (digitsOf 4 4 e.2)).foldl (fun (acc : List Nat) (d : Nat × Int) =>
      let row := wordsOf 4 (((nth keys (e.1 / 64) []).drop (m * (4 * (e.1 % 64) + d.1))).take m)
      linBody 1 acc ((-d.2 % (t32 : Int)).toNat) row) acc) start

/-! ### Key sets (R336 to R340) -/

/-- Body bytes of a BSK and of a KSK chunk (R336). -/
def BitSet.bskLen (b : BitSet) : Nat := 32 * b.ell * 2 ^ b.logN
def BitSet.kskLen (b : BitSet) : Nat := 1024 * (b.n + 1)

/-- Bytes from the start of one chunk to the start of the next. -/
def chunkStride (body : Nat) : Nat := (32 + body + 63) / 64 * 64

/-- The chunks an image holds: kind, index and body length, with the offset of each (R336). -/
def BitSet.chunks (b : BitSet) (content : Nat) : List (Nat × Nat × Nat × Nat) :=
  let nb := if content.testBit 0 then b.n else 0
  let nk := if content.testBit 1 then 2 ^ b.logN / 64 else 0
  ((List.range nb).map fun i => (1, i, b.bskLen, 64 + i * chunkStride b.bskLen)) ++
  ((List.range nk).map fun i => (2, 64 * i, b.kskLen, 64 + nb * chunkStride b.bskLen + i * chunkStride b.kskLen))

/-- A key-chunk header is the one expected (R336). -/
def chunkHdrOk (h : List Byte) (ksid param kind index len : Nat) : Bool :=
  decide (leAt h 0 4 = 0x4D364B48) && decide (leAt h 4 4 = kind) && decide (leAt h 8 8 = ksid) &&
  decide (leAt h 16 4 = param) && decide (leAt h 20 4 = index) && decide (leAt h 24 4 = len) && decide (leAt h 28 4 = 0)

/-- What CIPHER compares in a key-chunk header that leads a stream (R339). -/
def streamHdrOk (h : List Byte) (ksid param kind index : Nat) : Bool :=
  decide (leAt h 8 8 = ksid) && decide (leAt h 16 1 = param) && decide (leAt h 4 1 = kind) && decide (leAt h 20 4 = index)

/-- The image header is valid, chunks apart (R336, R337). -/
def State.imageHdr (s : State) (a : Nat) (h : List Byte) : Option KeySet :=
  let k : KeySet := {
    addr := a, param := leAt h 0x10 1, content := leAt h 0x11 1, levelMax := leAt h 0x14 4, len := leAt h 0x18 8,
    k := leAt h 0x20 1, logn := leAt h 0x21 1, plainLog := leAt h 0x22 1, modIndex := leAt h 0x23 1 }
  let common := decide (leAt h 0 4 = 0x4D364B59) && decide (leAt h 4 2 = 1) && decide (leAt h 6 2 = 64) &&
    decide (leAt h 8 8 ≠ 0) && allZero ((h.drop 0x24).take 0x1C)
  let count := leAt h 0x12 2
  if !common then none
  else match bitSet k.param with
    | some b =>
      let cs := b.chunks k.content
      let stop := match cs.getLast? with
        | some e => e.2.2.2 + 32 + e.2.2.1
        | none => 64
      if decide (k.content < 4) && decide (k.content ≠ 0) && decide (count = cs.length) && decide (k.levelMax = 0) &&
          decide (leAt h 0x20 4 = 0) && decide (stop ≤ k.len) && decide (k.len ≤ (stop + 63) / 64 * 64) then some k
      else none
    | none =>
      let q := (s.modulusOf { parseDescr [] with format := 4, modIndex := k.modIndex }).getD 0
      if k.param = 0x10 && k.content = 0 && count = 0 && decide (32 ≤ k.levelMax) && decide (k.levelMax ≤ 0xFFFFFFFE) &&
          k.len = 64 && decide (1 ≤ k.k) && decide (k.k ≤ 4) && decide (10 ≤ k.logn) && decide (k.logn ≤ 16) &&
          decide (1 ≤ k.plainLog) && decide (2 ^ k.plainLog < q) && isPrime q && decide (k.span ≤ 64) then some k
      else none

/-- The chunk headers of an image are in sequence (R337). -/
def State.imageChunks (s : State) (ksid : Nat) (k : KeySet) : Bool × State :=
  match bitSet k.param with
  | none => (true, s)
  | some b => (b.chunks k.content).foldl (fun (x : Bool × State) (e : Nat × Nat × Nat × Nat) =>
      let r := x.2.readBytes 1 (k.addr + e.2.2.2) 32
      (x.1 && !r.2.1 && chunkHdrOk r.1 ksid k.param e.1 e.2.1 e.2.2.1, r.2.2)) (true, s)

/-- The bytes of the chunks of one kind read from the image: header and body of each. -/
def State.streamImage (s : State) (k : KeySet) (kind : Nat) : List (List Byte) × Bool × State :=
  match bitSet k.param with
  | none => ([], false, s)
  | some b => ((b.chunks k.content).filter fun e => decide (e.1 = kind)).foldl
      (fun (x : List (List Byte) × Bool × State) (e : Nat × Nat × Nat × Nat) =>
        let r := x.2.2.readBytes 1 (k.addr + e.2.2.2) (32 + e.2.2.1)
        (x.1 ++ [r.1], x.2.1 || r.2.1, r.2.2)) ([], false, s)

/-- Every header of a stream matches (R339); `step` is 1 for BSK and 64 for KSK. -/
def streamOk (l : List (List Byte)) (ksid param kind step : Nat) : Bool :=
  ((List.range l.length).zip l).all fun e => streamHdrOk e.2 ksid param kind (step * e.1)

def State.setCipher (s : State) (c : CipherEng) : State := { s with cipher := c }

/-- The Course's BSK replica of a key set, filled from the image where it holds another (R339). -/
def State.replicaOf (s : State) (course ksid : Nat) (k : KeySet) : List (List Byte) × State :=
  let stride := match bitSet k.param with
    | some b => 32 + b.bskLen
    | none => 32
  match s.cipher.replica.find? course with
  | some r => if r.1 = ksid then (chunksOf (r.2.length / stride + 1) stride r.2, s) else fill
  | none => fill
where
  fill : List (List Byte) × State :=
    let x := s.streamImage k 1
    (x.1, x.2.2.setCipher { x.2.2.cipher with replica := x.2.2.cipher.replica.insertAt course (ksid, x.1.flatten) })

/-- What a refresh ends with: a body, or a failure status of R324. -/
inductive RefreshRes where
  | ok (body : List Nat)
  | failed (status : Nat)
  deriving DecidableEq, Repr

/-- The environment's part in a request: the Course that runs it, and whether a Vault faults (R324). -/
structure RunOn where
  course : Nat
  vaultFault : Bool
  deriving DecidableEq, Repr

/-- The rig of the engine that holds the Vault of a Course it was given (R321). -/
def State.cipherRig (s : State) (c : Nat) : Option (Nat × Rig) :=
  s.fabric.rigs.findSome? fun e => if e.2.func = 1 ∧ e.2.vaultCourse = some c then some (e.1, e.2) else none

/-- The Vault of a Course fails its check twice during a refresh (09 R372): its rig moves to another Course, which fills a replica of
its own. -/
def State.refreshFault (s : State) (c : Nat) : State :=
  let s1 := (s.bump .vault c 0x4C).latchEvt .vault c 1
  let s2 := match s1.cipherRig c with
    | some e => s1.vaultFault c e.1
    | none => s1
  s2.setCipher { s2.cipher with replica := s2.cipher.replica.erase c }

/-- One refresh (R327, R339, R340); `big` stops at step 3. -/
def State.refresh (s : State) (on : RunOn) (h : ObjHdr) (body : List Nat) (lut : Nat) (big : Bool) : RefreshRes × State :=
  match s.cipher.keySets.find? h.ksid, bitSet h.param with
  | some k, some b =>
    let bsk := s.replicaOf on.course h.ksid k
    if !streamOk bsk.1 h.ksid h.param 1 1 || bsk.1.length ≠ b.n then
      (.failed 3, bsk.2.setCipher { bsk.2.cipher with replica := bsk.2.cipher.replica.erase on.course })
    else if on.vaultFault then (.failed 9, bsk.2.refreshFault on.course)
    else
      let x := sampleExtract (blindRotate b lut h.w body (bsk.1.map (·.drop 32)))
      let s1 := bsk.2.setCipher { bsk.2.cipher with refreshes := bsk.2.cipher.refreshes + 1 }
      if big then (.ok x, s1)
      else
        let ksk := s1.streamImage k 2
        if !streamOk ksk.1 h.ksid h.param 2 64 || ksk.1.length ≠ 2 ^ b.logN / 64 then (.failed 3, ksk.2.2)
        else (.ok (keySwitch b x (ksk.1.map (·.drop 32))), ksk.2.2)
  | _, _ => (.failed 4, s)

/-! ### Requests (R322 to R325) -/

/-- A request (R322). -/
structure CReq where
  op : Nat
  attr : Nat
  res0 : Nat
  c : Int
  lut : Nat
  cookie : Nat
  ksid : Nat
  in0 : Nat
  in1 : Nat
  in2 : Nat
  out : Nat
  res1 : Nat
  two : Bool
  deriving DecidableEq, Repr

/-- Reads the request of an item. -/
def parseReq (i : QItem) : CReq :=
  let a := ((i.words.drop 1).headD { w := 0 }).w.toNat
  let b := ((i.words.drop 2).headD { w := 0 }).w.toNat
  let c := bits a 24 32
  { op := bits a 0 8, attr := bits a 8 8, res0 := bits a 16 8, c := if c ≥ 2 ^ 31 then (c : Int) - (2 ^ 32 : Nat) else c,
    lut := bits a 56 64, cookie := bits a 120 64, ksid := bits a 184 64, in0 := bits b 0 48, in1 := bits b 48 48,
    in2 := bits b 96 48, out := bits b 144 48, res1 := bits b 192 56, two := decide (i.words.length = 3) }

/-- What an operation is (R325). -/
structure COp where
  inputs : Nat
  out : Bool := true
  useC : Bool := false
  useLut : Bool := false
  /-- The fixed table of a gate. -/
  table : Nat := 0
  /-- The inputs are bits (R316). -/
  bitIn : Bool := false
  auto : Bool := false
  deriving DecidableEq, Repr

def cOp (op : Nat) : Option COp :=
  match op with
  | 0x01 => some { inputs := 2, auto := true }
  | 0x02 => some { inputs := 2, auto := true }
  | 0x03 => some { inputs := 1, auto := true }
  | 0x04 => some { inputs := 1, useC := true, auto := true }
  | 0x05 => some { inputs := 1, useC := true, auto := true }
  | 0x06 => some { inputs := 1, auto := true }
  | 0x10 => some { inputs := 1, useLut := true }
  | 0x11 => some { inputs := 2, table := 0x1100, bitIn := true, auto := true }
  | 0x12 => some { inputs := 2, table := 0x1110, bitIn := true, auto := true }
  | 0x13 => some { inputs := 2, table := 0x1010, bitIn := true, auto := true }
  | 0x14 => some { inputs := 2, table := 0x0011, bitIn := true, auto := true }
  | 0x15 => some { inputs := 2, table := 0x0001, bitIn := true, auto := true }
  | 0x16 => some { inputs := 2, table := 0x0101, bitIn := true, auto := true }
  | 0x17 => some { inputs := 2, table := 0x0100, bitIn := true, auto := true }
  | 0x18 => some { inputs := 2, useLut := true, auto := true }
  | 0x19 => some { inputs := 3, table := 0x1000, bitIn := true, auto := true }
  | 0x1A => some { inputs := 1, useLut := true }
  | 0x20 => some { inputs := 1 }
  | 0x30 => some { inputs := 1, out := false }
  | 0x31 => some { inputs := 0, out := false }
  | 0x40 => some { inputs := 0, useC := true }
  | 0x41 => some { inputs := 0 }
  | _ => none

/-- The operation's result is a refresh. -/
def refreshing (op : Nat) : Bool := decide (0x10 ≤ op) && decide (op ≤ 0x1A)

/-- The form of a request that no object is needed to judge (R324 MALFORMED). -/
def CReq.formOk (r : CReq) : Bool :=
  match cOp r.op with
  | none => false
  | some o =>
    r.two && decide (r.res0 = 0) && decide (r.res1 = 0) && decide (r.attr < (if r.op = 0x41 then 4 else 2)) &&
    (o.useC || decide (r.c = 0)) && (o.useLut || decide (r.lut = 0)) && (r.op = 0x31 || decide (r.ksid = 0)) &&
    (decide (1 ≤ o.inputs) || decide (r.in0 = 0)) && (decide (2 ≤ o.inputs) || decide (r.in1 = 0)) &&
    (decide (3 ≤ o.inputs) || decide (r.in2 = 0)) && (o.out || decide (r.out = 0)) &&
    (r.op ≠ 4 || (decide (-(2 ^ 15 : Int) ≤ r.c) && decide (r.c ≤ 2 ^ 15)))

/-- C and LUT fit the message width (R324, R325). -/
def CReq.widthOk (r : CReq) (w : Nat) : Bool :=
  (r.op ≠ 5 || (decide (0 ≤ r.c) && decide (r.c < 2 ^ (w + 1)))) &&
  ((cOp r.op).all fun o => !o.useLut || ((List.range 16).all fun v => decide (lutEntry r.lut v < 2 ^ w)))

/-- The range lies in the sealed object area (R321). -/
def State.inSealedArea (s : State) (a n : Nat) : Bool :=
  decide (s.cipher.areaBase ≤ a) && decide (a + n ≤ s.cipher.areaBase + s.cipher.areaLen)

/-- An object's range is allowed (R322). -/
def State.objRange (s : State) (a n : Nat) : Bool := a % 32 = 0 && (s.tenantRange a n 1 || s.inSealedArea a n)

/-! ### Levels and automatic refresh (R317, R326, R332, R334) -/

/-- The level against which LEVEL_MAX is tested, from the input levels. -/
def testLevel (op : Nat) (c : Int) (l0 l1 l2 : Nat) : Nat :=
  match op with
  | 0x04 => c.natAbs * c.natAbs * l0
  | 0x01 => l0 + l1
  | 0x02 => l0 + l1
  | 0x17 => 4 * l0 + l1
  | 0x18 => 4 * l0 + l1
  | 0x19 => max (4 * l0 + l1) (4 * l0 + l2)
  | _ => if 0x11 ≤ op ∧ op ≤ 0x16 then l0 + l1 else l0

/-- The level of the result (R317, R326). -/
def resultLevel (op : Nat) (c : Int) (l0 l1 l2 : Nat) : Nat :=
  if op = 0x19 then 2 else if refreshing op then 1 else testLevel op c l0 l1 l2

/-- The input that an automatic refresh takes next: the highest level above 1, the lower index on a tie. -/
def nextAuto (ls : List Nat) : Option Nat :=
  let m := ls.foldl max 0
  if m ≤ 1 then none else ls.findIdx? fun l => decide (l = m)

def lv (os : List Obj) (i : Nat) : Nat := ((os[i]?).map (·.h.level)).getD 0

/-- Automatic refreshes until the result fits (R334): the inputs, how many, a failure, and the state. -/
def State.autoRefresh (s : State) (fuel : Nat) (on : RunOn) (op : Nat) (c : Int) (maxL : Nat) (os : List Obj) :
    List Obj × Nat × Option Nat × State :=
  match fuel with
  | 0 => (os, 0, none, s)
  | f + 1 =>
    if testLevel op c (lv os 0) (lv os 1) (lv os 2) ≤ maxL then (os, 0, none, s)
    else match nextAuto (os.map (·.h.level)) with
      | none => (os, 0, none, s)
      | some i =>
        match os[i]? with
        | none => (os, 0, none, s)
        | some x =>
          let r := s.refresh on x.h x.body (identityLut x.h.w) false
          match r.1 with
          | .failed e => (os, 0, some e, r.2)
          | .ok b =>
            let os1 := os.set i { x with h := { x.h with level := 1 }, body := b }
            let s1 := r.2.setCipher { r.2.cipher with
              autoRefreshes := r.2.cipher.autoRefreshes + 1, events := r.2.cipher.events ||| 16 }
            let q := s1.autoRefresh f on op c maxL os1
            (q.1, q.2.1 + 1, q.2.2.1, q.2.2.2)

/-! ### Performing a request -/

def bodyOf (os : List Obj) (i : Nat) : List Nat := ((os[i]?).map (·.body)).getD []

/-- The linear step of an operation, or its whole result where it has no refresh (R325). -/
def linStep (op w : Nat) (c : Int) (os : List Obj) : List Nat :=
  let x := bodyOf os 0
  let y := bodyOf os 1
  match op with
  | 0x01 => linBody 1 x 1 y
  | 0x02 => linBody 1 x negOne y
  | 0x03 => scaleBody negOne x
  | 0x04 => scaleBody ((c % (t32 : Int)).toNat) x
  | 0x05 => addConst x (c.toNat * delta w)
  | 0x06 => addConst (scaleBody negOne x) (delta w)
  | 0x17 => linBody 2 x 1 y
  | 0x18 => linBody 2 x 1 y
  | 0x19 => linBody 2 x 1 y
  | _ => if 0x11 ≤ op ∧ op ≤ 0x16 then linBody 1 x 1 y else x

/-- The second linear step of MUX: 2 × LNOT(in0) + in2. -/
def muxStep (w : Nat) (os : List Obj) : List Nat :=
  linBody 2 (addConst (scaleBody negOne (bodyOf os 0)) (delta w)) 1 (bodyOf os 2)

/-- Performs the operation on inputs that fit: the body or a failure, and the refreshes done. -/
def State.perform (s : State) (on : RunOn) (r : CReq) (h : ObjHdr) (os : List Obj) : RefreshRes × Nat × State :=
  let l := linStep r.op h.w r.c os
  if !refreshing r.op then (.ok l, 0, s)
  else
    let lut := match cOp r.op with
      | some o => if o.useLut then r.lut else o.table
      | none => 0
    let x := s.refresh on h l lut (r.op = 0x1A)
    match x.1 with
    | .failed e => (.failed e, 0, x.2)
    | .ok b =>
      if r.op ≠ 0x19 then (.ok b, 1, x.2)
      else
        let y := x.2.refresh on h (muxStep h.w os) lut false
        match y.1 with
        | .failed e => (.failed e, 1, y.2)
        | .ok b2 => (.ok (linBody 1 b 1 b2), 2, y.2)

/-- A saturating count of the status record. -/
def sat32 (n : Nat) : Nat := min n 0xFFFFFFFF

/-- Latches and counts a status (R332, R333, R340, R341). -/
def CipherEng.note (c : CipherEng) (status : Nat) : CipherEng :=
  match status with
  | 1 => { c with events := c.events ||| 1, exhausted := sat32 (c.exhausted + 1) }
  | 2 => { c with events := c.events ||| 4, poisonIn := sat32 (c.poisonIn + 1) }
  | 3 => { c with events := c.events ||| 2, keyMismatch := sat32 (c.keyMismatch + 1) }
  | 9 => { c with events := c.events ||| 8, vaultFaults := sat32 (c.vaultFaults + 1) }
  | _ => if [6, 7, 8, 10, 11].contains status then { c with refused := sat32 (c.refused + 1) } else c

/-- A request is done: its completion waits for the commit that completes it (R323). -/
def State.cipherDone (s : State) (r : CReq) (status level refreshes : Nat) (record : Option Nat := none) : State :=
  s.setCipher { s.cipher.note status with
    completions := s.cipher.completions ++ [⟨r.cookie, status, level, refreshes, record⟩] }

/-- Writes OUT as a poisoned object (R332) and completes. -/
def State.poisonOut (s : State) (r : CReq) (h : ObjHdr) (status refreshes : Nat) : State :=
  let h1 := { h with flags := h.flags ||| 1, level := 0xFFFFFFFF }
  (s.writeBytes 1 r.out (h1.bytes ++ List.replicate h1.len 0)).cipherDone r status 0xFFFFFFFF refreshes

/-- Reads the objects of a request: header, body and whether a word was bad. -/
def State.readObjs (s : State) (as : List Nat) : List Obj × State :=
  as.foldl (fun (x : List Obj × State) (a : Nat) =>
    let h := x.2.readBytes 1 a 32
    let hd := parseHdr h.1
    let n := objLen hd.param hd.typ 0
    let b := h.2.2.readBytes 1 (a + 32) n
    (x.1 ++ [{ h := hd, body := wordsOf 4 b.1, poison := hd.poisoned (h.2.1 || b.2.1) }], b.2.2)) ([], s)

/-- Headers alone, as they stand. -/
def State.hdrAt (s : State) (a : Nat) : ObjHdr := parseHdr (memRead s.mem a 32)

/-- An input has the type its operation takes (R324 TYPE). -/
def ObjHdr.typeOk (h x : ObjHdr) (o : COp) : Bool :=
  (match bitSet x.param with
    | some b => decide (x.typ = 1) && decide (x.len = 4 * (b.n + 1)) && decide (1 ≤ x.w) && decide (x.w ≤ b.msgMax) &&
      (!o.bitIn || decide (x.w = 2))
    | none => false) && x.zero && decide (x.ksid ≠ 0) && decide (x.ksid = h.ksid) && decide (x.param = h.param) &&
  decide (x.w = h.w)

/-- The key set has what the operation needs (R324 NO_KEY). -/
def KeySet.hasKeys (k : KeySet) (op : Nat) : Bool :=
  !refreshing op || (k.content.testBit 0 && (op = 0x1A || k.content.testBit 1))

/-- An LWE operation (R325, R331 to R334). -/
def State.lweRequest (s : State) (on : RunOn) (r : CReq) (o : COp) : State :=
  let as := [r.in0, r.in1, r.in2].take o.inputs
  if as.any fun a => !s.objRange a 32 then s.cipherDone r 6 0 0
  else
    let x := s.readObjs as
    let hs := x.1.map (·.h)
    let h0 := hs.headD (parseHdr [])
    let typ := if r.op = 0x1A then 2 else 1
    let len := objLen h0.param typ h0.len
    let s1 := x.2
    let clash := (as.zip hs).any fun e => overlapsRange e.1 (32 + objLen e.2.param e.2.typ 0) r.out (32 + len)
    let outSealed := s1.inSealedArea r.out (32 + len)
    let anySealed := hs.any fun h => h.flags.testBit 1
    let sealedFlag := anySealed || (r.op = 0x20 && outSealed)
    let bad : ObjHdr := { h0 with typ := typ, len := len, flags := if sealedFlag then 2 else 0 }
    if (bitSet h0.param).isSome && !r.widthOk h0.w then s1.cipherDone r 8 0 0
    else if ((as.zip hs).any fun e => !s1.objRange e.1 (32 + objLen e.2.param e.2.typ 0)) || !s1.objRange r.out (32 + len) ||
        clash then s1.cipherDone r 6 0 0
    else if anySealed && !outSealed then s1.cipherDone r 7 0 0
    else if hs.any fun h => !h0.typeOk h o then s1.poisonOut r bad 5 0
    else if x.1.any (·.poison) then s1.poisonOut r bad 2 0
    else match s1.cipher.keySets.find? h0.ksid, bitSet h0.param with
      | some k, some b =>
        if !k.hasKeys r.op then s1.poisonOut r bad 4 0
        else
          let canAuto := r.attr.testBit 0 && o.auto && k.content = 3
          let y := if canAuto then s1.autoRefresh 4 on r.op r.c b.levelMax x.1 else (x.1, 0, none, s1)
          let s2 := y.2.2.2
          match y.2.2.1 with
          | some e => s2.poisonOut r bad e y.2.1
          | none =>
            if testLevel r.op r.c (lv y.1 0) (lv y.1 1) (lv y.1 2) > b.levelMax then s2.poisonOut r bad 1 y.2.1
            else
              let p := s2.perform on r h0 y.1
              match p.1 with
              | .failed e => p.2.2.poisonOut r bad e (y.2.1 + p.2.1)
              | .ok body =>
                let level := resultLevel r.op r.c (lv y.1 0) (lv y.1 1) (lv y.1 2)
                let h1 := { bad with level := level }
                (p.2.2.writeBytes 1 r.out (h1.bytes ++ body.flatMap (toLe 4))).cipherDone r 0 level (y.2.1 + p.2.1)
      | _, _ => s1.poisonOut r bad 4 0
where
  overlapsRange (a n b m : Nat) : Bool := decide (a < b + m) && decide (b < a + n)

/-- KEYSET_REGISTER (R337). -/
def State.keysetRegister (s : State) (r : CReq) : State :=
  let held (n : Nat) : Bool := r.in0 % 32 = 0 && (s.tenantRange r.in0 n 1 || s.tenantRange r.in0 n 2)
  if !held 64 then s.cipherDone r 8 0 0
  else
    let h := s.readBytes 1 r.in0 64
    match h.2.2.imageHdr r.in0 h.1 with
    | none => h.2.2.cipherDone r 8 0 0
    | some k =>
      let id := leAt h.1 8 8
      if h.2.1 || !held k.len || (s.cipher.keySets.find? id).isSome || s.cipher.keySets.length ≥ 16 then
        h.2.2.cipherDone r 8 0 0
      else
        let c := h.2.2.imageChunks id k
        if !c.1 then c.2.cipherDone r 8 0 0
        else (c.2.setCipher { c.2.cipher with keySets := c.2.cipher.keySets.insertAt id k }).cipherDone r 0 0 0

/-- KEYSET_RELEASE (R338). -/
def State.keysetRelease (s : State) (r : CReq) : State :=
  match s.cipher.keySets.find? r.ksid with
  | none => s.cipherDone r 4 0 0
  | some _ =>
    if s.rounds.blocks.any fun e => e.2.state.live && e.2.d.glwe && decide (e.2.d.keySet = r.ksid) then s.cipherDone r 11 0 0
    else (s.setCipher { s.cipher with
        keySets := s.cipher.keySets.erase r.ksid
        replica := s.cipher.replica.filter fun e => decide (e.2.1 ≠ r.ksid) }).cipherDone r 0 0 0

/-- The A words of a chunk of a GLWE round: (word, value at accumulator) for the coefficients below K × N_g. -/
def glweA (k : KeySet) (chunk : Nat) : List Nat :=
  (List.range 504).filter fun w => decide (504 * (chunk % k.span) + w < k.k * k.ring)

/-- GLWE_EXPORT_A (R347). -/
def State.glweExport (s : State) (r : CReq) : State :=
  if r.c < 0 ∨ r.c > 15 then s.cipherDone r 8 0 0
  else
    let rd := s.round r.c.toNat
    let k := s.roundKey rd
    if rd.state ≠ .recover || !rd.d.glwe || k.span = 0 then s.cipherDone r 10 0 0
    else
      let cs := rd.owned.filter fun c => !(glweA k c).isEmpty
      if r.out % 32 ≠ 0 || !s.tenantRange r.out (4096 * max 1 cs.length) 1 then s.cipherDone r 6 0 0
      else
        let s1 := ((List.range cs.length).zip cs).foldl (fun (t : State) (e : Nat × Nat) =>
          let x := t.readBytes 1 (rd.accAt e.2) 4032
          let a := glweA k e.2
          let ws := ((List.range 504).zip (wordsOf 8 x.1)).map fun y => if a.contains y.1 then y.2 else 0
          x.2.2.writeBytes 1 (r.out + 4096 * e.1) (resultRecord rd.d ws e.2 (rd.counts.get 0 e.2) false) x.2.1) s
        s1.cipherDone r 0 0 0

/-- The engine status record, its STROKE still 0 (R341). -/
def CipherEng.record (c : CipherEng) : List Byte :=
  toLe 4 c.events ++ toLe 4 0 ++ toLe 8 (min c.refreshes (2 ^ 64 - 1)) ++ toLe 8 (min c.autoRefreshes (2 ^ 64 - 1)) ++
  toLe 4 c.exhausted ++ toLe 4 c.poisonIn ++ toLe 4 c.keyMismatch ++ toLe 4 c.vaultFaults ++ toLe 4 c.refused ++ toLe 4 0 ++
  List.replicate 16 0

/-- STATUS (R341). -/
def State.cipherStatus (s : State) (r : CReq) : State :=
  if !s.objRange r.out 64 then s.cipherDone r 6 0 0
  else
    let s1 := s.writeBytes 1 r.out s.cipher.record
    let s2 := if r.attr.testBit 1 then s1.setCipher { s1.cipher with events := 0 } else s1
    s2.cipherDone r 0 0 0 (some r.out)

/-- Performs one request. -/
def State.cipherRequest (s : State) (on : RunOn) (r : CReq) : State :=
  if !r.formOk then s.cipherDone r 8 0 0
  else match cOp r.op with
    | none => s.cipherDone r 8 0 0
    | some o =>
      match r.op with
      | 0x30 => s.keysetRegister r
      | 0x31 => s.keysetRelease r
      | 0x40 => s.glweExport r
      | 0x41 => s.cipherStatus r
      | _ => s.lweRequest on r o

/-- Takes the head item of the request queue, handed at intake in a stroke after its own (10 R395). -/
def State.cipherHead (s : State) : Option QItem :=
  ((s.queue s.cipher.reqQueue).items.find? (·.deliverable)).bind fun i => if i.stroke < s.stroke.now then some i else none

/-- Drops the head item and what a consumer never sees before it. -/
def State.dropHead (s : State) (n : Nat) : State :=
  let l := (s.queue n).items.dropWhile (fun i => i.complete && !i.deliverable)
  (s.setQueue n { s.queue n with items := l.drop 1 }).evalZone n

/-- The engine takes the head request of its queue, when its operation is `op`, or when it is none of R325's. -/
def State.cipherTake (s : State) (op course : Nat) (vaultFault : Bool) : State :=
  match s.cipherHead with
  | none => s
  | some i =>
    let r := parseReq i
    if i.kind ≠ .packet then s.dropHead s.cipher.reqQueue
    else if r.op ≠ op ∧ (cOp r.op).isSome then s
    else (s.dropHead s.cipher.reqQueue).cipherRequest ⟨course, vaultFault⟩ (if i.hasBad then { r with two := false } else r)

/-- A CIPHER row on a Course that the engine was given: its rig there must run in this stroke. -/
def cipherRow (op course : Nat) (vaultFault : Bool) (s : State) : Res :=
  if course ≥ 96 then .fault .noUnit
  else if !s.cipher.loaded then .next s
  else match s.cipherRig course with
    | none => .fault .badEvent
    | some e => .next (if s.enginesStart && e.2.running && !e.2.vaultBroken then s.cipherTake op course vaultFault else s)

def execCiLadd (course : Nat) (vf : Bool) (s : State) : Res := cipherRow 0x01 course vf s
def execCiLsub (course : Nat) (vf : Bool) (s : State) : Res := cipherRow 0x02 course vf s
def execCiLneg (course : Nat) (vf : Bool) (s : State) : Res := cipherRow 0x03 course vf s
def execCiLscale (course : Nat) (vf : Bool) (s : State) : Res := cipherRow 0x04 course vf s
def execCiLaddc (course : Nat) (vf : Bool) (s : State) : Res := cipherRow 0x05 course vf s
def execCiLnot (course : Nat) (vf : Bool) (s : State) : Res := cipherRow 0x06 course vf s
def execCiRefresh (course : Nat) (vf : Bool) (s : State) : Res := cipherRow 0x10 course vf s
def execCiAnd (course : Nat) (vf : Bool) (s : State) : Res := cipherRow 0x11 course vf s
def execCiOr (course : Nat) (vf : Bool) (s : State) : Res := cipherRow 0x12 course vf s
def execCiXor (course : Nat) (vf : Bool) (s : State) : Res := cipherRow 0x13 course vf s
def execCiNand (course : Nat) (vf : Bool) (s : State) : Res := cipherRow 0x14 course vf s
def execCiNor (course : Nat) (vf : Bool) (s : State) : Res := cipherRow 0x15 course vf s
def execCiXnor (course : Nat) (vf : Bool) (s : State) : Res := cipherRow 0x16 course vf s
def execCiAndn (course : Nat) (vf : Bool) (s : State) : Res := cipherRow 0x17 course vf s
def execCiLut2 (course : Nat) (vf : Bool) (s : State) : Res := cipherRow 0x18 course vf s
def execCiMux (course : Nat) (vf : Bool) (s : State) : Res := cipherRow 0x19 course vf s
def execCiExtract (course : Nat) (vf : Bool) (s : State) : Res := cipherRow 0x1A course vf s
def execCiCopy (course : Nat) (vf : Bool) (s : State) : Res := cipherRow 0x20 course vf s
def execCiKeysetRegister (course : Nat) (vf : Bool) (s : State) : Res := cipherRow 0x30 course vf s
def execCiKeysetRelease (course : Nat) (vf : Bool) (s : State) : Res := cipherRow 0x31 course vf s
def execCiGlweExportA (course : Nat) (vf : Bool) (s : State) : Res := cipherRow 0x40 course vf s
def execCiStatus (course : Nat) (vf : Bool) (s : State) : Res := cipherRow 0x41 course vf s

/-- The completion word (R323). -/
def CipherDone.word (d : CipherDone) (stroke : Nat) : W256 :=
  BitVec.ofNat 256 (d.cookie + 2 ^ 64 * d.status + 2 ^ 72 * d.level + 2 ^ 104 * min d.refreshes 255 + 2 ^ 112 * (stroke % 2 ^ 64))

/-- CIPHER_COMPLETION: at the commit of a committed stroke the oldest completion is enqueued; an overrun delays it
(R323, R330). -/
def execCiCompletion (s : State) : Res :=
  match s.cipher.completions with
  | [] => .next s
  | d :: rest =>
    if s.overran || s.gated then .next s
    else
      let s1 := s.setCipher { s.cipher with completions := rest }
      let s2 := match d.record with
        | some a => s1.writeBytes 1 (a + 0x30) (toLe 8 s.stroke.now)
        | none => s1
      .next (s2.unitItem s2.cipher.doneQueue .cipher [d.word s.stroke.now] 0 0 0)

end Sys2Proof.Machine
end

