-- ==== Sys2Proof/Machine/Eth.lean ====
section
/-!
DEFINITION. The Ethernet ports (11 R420 to R429, R445 to R452): frames, PFC, LLDP, links and their registers.
-/

namespace Sys2Proof.Machine

def State.port (s : State) (p : Nat) : Port := s.net.ports.get {} p

def State.setPort (s : State) (p : Nat) (x : Port) : State :=
  { s with net := { s.net with ports := s.net.ports.put {} p x } }

/-- What a port does in the module's state (R445). -/
inductive PortMode where
  | off | claimed | unclaimed | reef3 | scrub | halt
  deriving DecidableEq, Repr

/-- The row of R445 that holds now. -/
def State.portMode (s : State) : PortMode :=
  if !s.power.on ∨ s.lcHold ∨ s.boot.fatal ≠ 0 ∨ s.boot.stage = .failed then .off
  else if s.ten.scrubbing then .scrub
  else if s.boot.stage ≠ .ready ∨ s.reef.level = 4 then .off
  else if s.tt.halted then .halt
  else if s.reef.level = 3 then .reef3
  else if s.ten.claimed then .claimed
  else .unclaimed

/-- RoCE frames reach Halyard. -/
def PortMode.roce (m : PortMode) : Bool := decide (m = .claimed ∨ m = .reef3 ∨ m = .halt)

/-- PFC frames are sent. -/
def PortMode.pfc (m : PortMode) : Bool := decide (m = .claimed ∨ m = .reef3 ∨ m = .halt)

/-- LLDP runs, and PTP is sent. -/
def PortMode.lldp (m : PortMode) : Bool := decide (m = .claimed ∨ m = .unclaimed ∨ m = .reef3)

/-- PFC_EN of a port. -/
def State.pfcEn (s : State) (p : Nat) : Nat := bits (s.reg .eth p 0x40).toNat 12 8

/-- A command on a port that exists. -/
def onPort (p : Nat) (s : State) (f : State → State) : Res := if p ≥ 8 then .fault .noUnit else .next (f s)

/-- A bit of a mask set or cleared. -/
def putBit (m i : Nat) (b : Bool) : Nat := if m.testBit i = b then m else if b then m + 2 ^ i else m - 2 ^ i

/-! ### PFC (R424) -/

/-- Sends a PFC frame: a pause of 65,535 quanta, or 0 for XON. -/
def State.sendPfc (s : State) (p prio quanta : Nat) : State := (s.emit (.pfc p prio quanta)).bump .eth p 0x84

/-- The buffer occupancy of a priority becomes `fill` KiB: XOFF at ETH_PFC_XOFF, XON at ETH_PFC_XON. -/
def State.pfcLevel (s : State) (p prio fill : Nat) (refresh : Bool) : State :=
  let x := s.port p
  let s1 := s.setPort p { x with fill := x.fill.put 0 prio fill }
  let x1 := s1.port p
  if !s.portMode.pfc ∨ !(s.pfcEn p).testBit prio then s1
  else if x.txPausing.testBit prio then
    if fill ≤ (s.reg .eth p 0x54).toNat then (s1.setPort p { x1 with txPausing := putBit x1.txPausing prio false }).sendPfc p prio 0
    else if refresh then s1.sendPfc p prio 65535
    else s1
  else if fill ≥ (s.reg .eth p 0x50).toNat then
    (s1.setPort p { x1 with txPausing := putBit x1.txPausing prio true }).sendPfc p prio 65535
  else s1

/-- PFC_XOFF_REFRESH: half the pause time has passed since the last XOFF, with the occupancy at `fill` KiB. -/
def execPfcXoffRefresh (p prio fill : Nat) (s : State) : Res :=
  if prio ≥ 8 then .fault .noUnit
  else onPort p s fun t => if (t.port p).txPausing.testBit prio then t.pfcLevel p prio fill true else t

/-- PFC_FRAME_RX: the priorities in `pause` and PFC_EN stop transmission, those in `resume` resume. -/
def execPfcFrameRx (p pause resume : Nat) (s : State) : Res :=
  if pause ≥ 256 ∨ resume ≥ 256 ∨ pause &&& resume ≠ 0 then .fault .badEvent
  else onPort p s fun t =>
    let x := t.port p
    if t.portMode = .off ∨ !x.linkUp then t
    else
      let held := (x.rxPaused ||| (pause &&& t.pfcEn p)) &&& (255 - resume)
      ((t.setPort p { x with rxPaused := held, storm := x.storm &&& held }).bump .eth p 0x88).bump64 .eth p 0x60 1

/-- PFC_PAUSE_EXPIRY: the pause time of a priority runs out. -/
def execPfcPauseExpiry (p prio : Nat) (s : State) : Res :=
  if prio ≥ 8 then .fault .noUnit
  else onPort p s fun t =>
    let x := t.port p
    t.setPort p { x with rxPaused := putBit x.rxPaused prio false, storm := putBit x.storm prio false }

/-- PFC_STORM: a priority has been held paused without a break for 100 ms. -/
def execPfcStorm (p prio : Nat) (s : State) : Res :=
  if prio ≥ 8 then .fault .noUnit
  else onPort p s fun t =>
    let x := t.port p
    if !x.rxPaused.testBit prio then t
    else (t.setPort p { x with storm := putBit x.storm prio true }).latchEvt .eth p 16

/-! ### Received frames (R421, R424, R445) -/

/-- RX_FRAME: a frame of `len` bytes with `tags` 802.1Q tags arrives on priority `prio`, whose occupancy is `fill` KiB
with it. `cls` is 1 for a PAUSE frame, 2 for a RoCE frame, 3 for a RoCE frame with a bad ICRC, 4 for UDP to a port that is none of
the module's (12 R460), 0 otherwise. `corr` and `uncorr` count the FEC codewords
of the frame corrected and found uncorrectable. -/
def State.rxFrame (s : State) (p len tags prio cls fill corr uncorr : Nat) (fcsOk : Bool) : State :=
  let x := s.port p
  if s.portMode = .off ∨ !x.linkUp then s
  else
    let s1 := (s.bumpBy .eth p 0x7C corr).bumpBy .eth p 0x80 uncorr
    let s2 := if uncorr = 0 then s1 else s1.latchEvt .eth p 4
    if !fcsOk ∨ len < 64 ∨ len > 9216 ∨ tags > 1 then s2.bump .eth p 0x70
    else
      let full := decide ((x.fill.put 0 prio fill).foldl (fun n (e : Nat × Nat) => n + e.2) 0 > 8192)
      let s3 := s2.bump64 .eth p 0x60 1
      if cls = 1 then s3.bump .eth p 0x74
      else if full && !(s.pfcEn p).testBit prio then s3.bump .eth p 0x78
      else if cls = 4 ∨ ((cls = 2 ∨ cls = 3) ∧ !s.portMode.roce) then s3.bump .eth p 0x74
      else if cls = 3 then s3.bump .halyard 0 0x17C
      else s3.pfcLevel p prio fill false

def execRxFrame (p len tags prio cls fill corr uncorr : Nat) (fcsOk : Bool) (s : State) : Res :=
  if prio ≥ 8 then .fault .noUnit
  else if cls > 4 then .fault .badEvent
  else onPort p s fun t => t.rxFrame p len tags prio cls fill corr uncorr fcsOk

/-! ### LLDP (R425, R426, R451) -/

/-- LLDP_TX: a port transmits its LLDP frame. -/
def execLldpTx (p : Nat) (s : State) : Res :=
  onPort p s fun t =>
    if (t.reg .eth p 0x40).toNat.testBit 6 && (t.port p).linkUp && t.portMode.lldp then
      (t.emit (.lldp p 120)).bump64 .eth p 0x68 1
    else t

/-- The 32-byte neighbour record (R451). -/
def lldpRecord (chassisType : Nat) (chassis : List Byte) (portType : Nat) (port : List Byte) : List Byte :=
  toLe 1 chassisType ++ toLe 1 chassis.length ++ padTo 14 (chassis.take 14) ++
  toLe 1 portType ++ toLe 1 port.length ++ padTo 14 (port.take 14)

/-- LLDP_RX: a valid LLDP frame. A TTL of 0 ends the neighbour. -/
def execLldpRx (p chassisType : Nat) (chassis : List Byte) (portType : Nat) (port : List Byte) (ttl : Nat) (s : State) : Res :=
  onPort p s fun t =>
    let x := t.port p
    if !x.linkUp ∨ !t.portMode.lldp then t
    else
      let sender := lldpRecord chassisType [] portType [] ++ toBe 2 chassis.length ++ chassis ++ port
      let nbr : Option LldpNbr :=
        if ttl = 0 then none
        else some { record := lldpRecord chassisType chassis portType port, sender := sender, ttl := ttl, since := t.cycles }
      match x.nbr with
      | none => t.setPort p { x with nbr := nbr }
      | some n =>
        if n.sender = sender then t.setPort p { x with nbr := nbr }
        else if ttl = 0 then t
        else (t.setPort p { x with nbr := nbr, nbrMultiple := true }).latchEvt .eth p 8

/-- LLDP_TTL_EXPIRY: the neighbour is forgotten. -/
def execLldpTtlExpiry (p : Nat) (s : State) : Res :=
  onPort p s fun t => t.setPort p { t.port p with nbr := none }

/-! ### Links and ETH_CFG (R420, R447, R452) -/

/-- Lanes of a speed and lane rate (R420), 0 where the combination is absent. -/
def lanesOf (speed rate : Nat) : Nat :=
  match speed, rate with
  | 1, 0 => 4 | 1, 1 => 2 | 1, 2 => 1
  | 2, 0 => 8 | 2, 1 => 4 | 2, 2 => 2 | 2, 3 => 1
  | 3, 1 => 8 | 3, 2 => 4 | 3, 3 => 2
  | 4, 2 => 8 | 4, 3 => 4
  | 5, 3 => 8
  | _, _ => 0

/-- LINK_UP of a port falls. -/
def State.linkFalls (s : State) (p : Nat) : State :=
  let x := s.port p
  let s1 := s.setPort p { x with
    phyUp := false, linkUp := false, fecLock := false, lpiTx := false, lpiRx := false, rxPaused := 0, txPausing := 0
    storm := 0, fill := [] }
  if x.linkUp then (s1.bump .eth p 0x8C).latchEvt .eth p 1 else s1

/-- ETH_LINK_DOWN: the cable, the partner or ETH_REFCLK. -/
def execEthLinkDown (p : Nat) (s : State) : Res := onPort p s fun t => t.linkFalls p

/-- ETH_LINK_UP: a port that is not disabled finishes training. Lanes of 25 Gb/s with FEC_OFF have no FEC. -/
def execEthLinkUp (p : Nat) (s : State) : Res :=
  onPort p s fun t =>
    let cfg := (t.reg .eth p 0x40).toNat
    let x := t.port p
    if t.portMode = .off ∨ lanesOf (cfg % 8) (bits cfg 3 2) = 0 ∨ x.linkUp then t
    else (t.setPort p { x with
      phyUp := true, linkUp := true, fecLock := !(bits cfg 3 2 = 0 && cfg.testBit 5) }).latchEvt .eth p 2

/-- A write of ETH_CFG (R423, R447). -/
def State.writeEthCfg (s : State) (p : Nat) (v : W32) : State :=
  let n := v.toNat
  let old := (s.reg .eth p 0x40).toNat
  if (n % 8 ≠ 0 ∧ lanesOf (n % 8) (bits n 3 2) = 0) ∨ n &&& 0xFFF00E00 ≠ 0 then s.pageError .eth p 0x40 4 v
  else
    let s1 := (s.setReg .eth p 0x40 v).setPort p { s.port p with flashCfg := v }
    if n % 32 ≠ old % 32 then s1.linkFalls p else s1

def execEthCfgWrite (p : Nat) (v : W32) (s : State) : Res := onPort p s fun t => t.onPage .eth p 0x40 v fun u => u.writeEthCfg p v

/-- A write of ETH_PTP_CTL (R428, R449). -/
def State.writePtpCtl (s : State) (p : Nat) (v : W32) : State :=
  if bits v.toNat 1 2 = 3 then s.pageError .eth p 0x58 4 v
  else
    let s1 := s.setReg .eth p 0x58 (v &&& 0x7FF)
    if v.toNat.testBit 0 then
      (List.range 8).foldl (fun t q => if q = p then t else t.setReg .eth q 0x58 (t.reg .eth q 0x58 &&& 0x7FE)) s1
    else s1

def execPtpEnWrite (p : Nat) (v : W32) (s : State) : Res := onPort p s fun t => t.onPage .eth p 0x58 v fun u => u.writePtpCtl p v

/-- A write of a PFC threshold, of XOFF where `xoff` (R448). -/
def State.writePfc (s : State) (p : Nat) (xoff : Bool) (v : W32) : State :=
  let n := v.toNat % 2 ^ 14
  let off := if xoff then n else (s.reg .eth p 0x50).toNat
  let on := if xoff then (s.reg .eth p 0x54).toNat else n
  let a := if xoff then 0x50 else 0x54
  if on ≥ off ∨ (xoff ∧ ¬(1 ≤ n ∧ n ≤ 8191)) ∨ (!xoff ∧ n > 8190) then s.pageError .eth p a 4 v
  else s.setReg .eth p a (BitVec.ofNat 32 n)

end Sys2Proof.Machine
end

