-- ==== Sys2Proof/Machine/HalyardOps.lean ====
section
/-!
DEFINITION. The operations of Halyard that its commands and packets share (12): queue pairs, keys, residency,
completions, errors and responses.
-/

namespace Sys2Proof.Machine

def State.halyard (s : State) : Halyard := s.net.halyard

def State.setHalyard (s : State) (h : Halyard) : State := { s with net := { s.net with halyard := h } }

/-- Slot of a queue pair: its RC index, or 65,536 + its UD index. -/
def State.qp (s : State) (i : Nat) : Qp := s.halyard.qps.get {} i

def State.setQp (s : State) (i : Nat) (q : Qp) : State := s.setHalyard { s.halyard with qps := s.halyard.qps.put {} i q }

def State.modQp (s : State) (i : Nat) (f : Qp → Qp) : State := s.setQp i (f (s.qp i))

/-- Modular arithmetic on PSNs. -/
def psnMod : Nat := 2 ^ 24
def psnAdd (a b : Nat) : Nat := (a + b) % psnMod
def psnSub (a b : Nat) : Nat := (a + psnMod - b % psnMod) % psnMod

/-- The slot and epoch a QPN names (R461). -/
def qpSlot (qpn : Nat) : Option (Nat × Nat) :=
  let i := qpn % 2 ^ 16
  let e := qpn / 2 ^ 16 % 2 ^ 8
  if e = 0 then none
  else if e = 255 then (if i < 1024 then some (65536 + i, e) else none)
  else some (i, e)

/-- The live queue pair of a QPN with its epoch (R462). -/
def State.qpOf (s : State) (qpn : Nat) : Option (Nat × Qp) :=
  match qpSlot qpn with
  | none => none
  | some (i, e) => if (s.qp i).live ∧ (s.qp i).epoch = e then some (i, s.qp i) else none

/-- QPN of a slot (R461). -/
def Qp.qpn (q : Qp) (i : Nat) : Nat := i % 2 ^ 16 + 2 ^ 16 * q.epoch

/-! ### The attribute block (R503) -/

def Qp.field (q : Qp) (lo w : Nat) : Nat := bits q.attr.toNat lo w
def Qp.ud (q : Qp) : Bool := q.field 35 1 = 1
def Qp.ext (q : Qp) : Bool := q.field 36 1 = 1
def Qp.spray (q : Qp) : Bool := q.field 37 1 = 1
def Qp.ecn (q : Qp) : Bool := q.field 38 1 = 1
def Qp.port (q : Qp) : Nat := q.field 39 3
def Qp.paths (q : Qp) : Nat := q.field 55 4 + 1
/-- Path MTU in bytes. -/
def Qp.pmtu (q : Qp) : Nat := 2 ^ (q.field 59 3 + 7)
def Qp.pd (q : Qp) : Nat := q.field 64 12
def Qp.sq (q : Qp) : Nat := q.field 80 14
def Qp.cq (q : Qp) : Nat := q.field 96 14
def Qp.rq (q : Qp) : Nat := q.field 112 14
def Qp.maxMsg (q : Qp) : Nat := q.field 128 21
def Qp.dest (q : Qp) : Nat := q.field 160 24
def Qp.sqPsn (q : Qp) : Nat := q.field 192 24
def Qp.rqPsn (q : Qp) : Nat := q.field 224 24
def Qp.qkey (q : Qp) : Nat := q.field 448 32
def Qp.ackTimeout (q : Qp) : Nat := q.field 480 5
def Qp.retryCnt (q : Qp) : Nat := q.field 485 3
def Qp.rnrRetry (q : Qp) : Nat := q.field 488 3
def Qp.minRnr (q : Qp) : Nat := q.field 491 5
def Qp.initDepth (q : Qp) : Nat := q.field 496 7
def Qp.respDepth (q : Qp) : Nat := q.field 503 7

/-- The queue pair names spill queues: the tenant's from INIT on, when MAX_MSG is 1 or more; Tamrik's own name none (R463, R464). -/
def Qp.bound (q : Qp) : Bool := decide (q.maxMsg ≠ 0)

/-- Packets of a message of `len` bytes. -/
def Qp.packets (q : Qp) (len : Nat) : Nat := max 1 ((len + q.pmtu - 1) / q.pmtu)

/-! ### Keys and memory (R472 to R477) -/

def State.rkey (s : State) (i : Nat) : RKey := s.halyard.keys.get {} i

/-- The rights a use needs (R469, R474). -/
inductive Right where
  | local | localWrite | read | write | atomic | acc
  deriving DecidableEq, Repr

def RKey.allows (k : RKey) : Right → Bool
  | .local => true
  | .localWrite => k.localWrite
  | .read => k.remoteRead
  | .write => k.remoteWrite
  | .atomic => k.remoteAtomic
  | .acc => k.remoteAcc

/-- What the checks of R476 answer. -/
inductive KeyRes where
  | ok (k : RKey) (off : Nat)
  | stale
  | refused
  deriving DecidableEq, Repr

/-- The checks of R476 on `n` bytes at `va`, aligned to `al`. -/
def State.checkKey (s : State) (q : Qp) (key : Nat) (right : Right) (va n al : Nat) : KeyRes :=
  let i := key / 256 % 2 ^ 24
  let k := s.rkey i
  if i ≠ 0 ∧ i ≤ 1048575 ∧ k.live ∧ k.gen ≠ key % 256 then .stale
  else if i = 0 ∨ i > 1048575 ∨ !k.live then .refused
  else if k.pd ≠ q.pd then .refused
  else if !k.allows right then .refused
  else if va < k.vaBase ∨ va + n > k.vaBase + k.len ∨ va % al ≠ 0 then .refused
  else .ok k (va - k.vaBase)

/-- The pages of a LOCATION 1 region that `n` bytes at offset `off` touch. -/
def RKey.pages (k : RKey) (off n : Nat) : List Nat :=
  if n = 0 then [] else (List.range ((off % 4096 + n + 4095) / 4096)).map fun j => k.start + off / 4096 * 4096 + 4096 * j

/-- Puts present entries read over PCIe into the translation cache; none can be read while Bus Master Enable is 0 (16
R594). -/
def State.cachePages (s : State) (key : Nat) (l : List (Nat × Nat)) : State :=
  (if s.pcie.bme then l else []).foldl (fun t e => t.setHalyard { t.halyard with
    cache := if t.halyard.cache.any fun c => decide (c.1 = key ∧ c.2.1 = e.1) then t.halyard.cache
      else t.halyard.cache ++ [(key, e.1, e.2)] }) s

/-- Host address of a page, if cached. -/
def State.hostPage (s : State) (key page : Nat) : Option Nat :=
  (s.halyard.cache.find? fun c => decide (c.1 = key ∧ c.2.1 = page)).map (·.2.2)

/-- The first page of a range that is not resident. -/
def State.missing (s : State) (key : Nat) (k : RKey) (off n : Nat) : Option Nat :=
  if !k.host then none else (k.pages off n).find? fun p => (s.hostPage key p).isNone

/-- Host pieces of a resident range: host address and length of each. -/
def State.hostPieces (s : State) (key : Nat) (k : RKey) (off n : Nat) : List (Nat × Nat) :=
  (k.pages off n).map fun p =>
    let base := p - k.start
    let lo := max off base
    let hi := min (off + n) (base + 4096)
    (((s.hostPage key p).getD 0) + (lo - base), hi - lo)

/-- Writes bytes into a region: module memory, or issued to the host (R480). -/
def State.regionWrite (s : State) (key : Nat) (k : RKey) (off : Nat) (l : List Byte) (bad : Bool) : State :=
  if k.host then
    ((s.hostPieces key k off l.length).foldl (fun (a : State × List Byte) (e : Nat × Nat) =>
      (a.1.emit (.hostWrite e.1 (a.2.take e.2)), a.2.drop e.2)) (s, l)).1
  else s.writeBytes 5 (k.start + off) l bad

/-- Reads bytes of a region; `host` is what host memory returns. -/
def State.regionRead (s : State) (key : Nat) (k : RKey) (off n : Nat) (host : List Byte) : List Byte × Bool × State :=
  if k.host then
    (padTo n (host.take n), decide (host.length < n) || !s.pcie.bme,
      (s.hostPieces key k off n).foldl (fun t e => t.emit (.hostRead e.1 e.2)) s)
  else s.readBytes 5 (k.start + off) n

/-! ### Completions and errors (R464, R470, R504) -/

/-- The completion word (R470). -/
def cqWord (wrId status op qpn bytes stroke : Nat) : W256 :=
  BitVec.ofNat 256 (wrId % 2 ^ 64 + 2 ^ 64 * status + 2 ^ 72 * op + 2 ^ 80 * (qpn % 2 ^ 24) + 2 ^ 104 * (bytes % 2 ^ 32) +
    2 ^ 136 * (stroke % 2 ^ 64))

/-- Writes the completion of a finished request, where it has one. -/
def State.writeCq (s : State) (i : Nat) (r : SentReq) (status : Nat) : State :=
  let q := s.qp i
  if r.own || (status = 0 && !r.signaled) then s
  else s.unitItem q.cq (.halyard (q.qpn i)) [cqWord r.wrId status r.op (q.qpn i) (if status = 0 then r.len else 0) s.stroke.now] 0 0 0

/-- Completions of a queue pair in work-request order: those at the front that are done are written. -/
def State.flushDone (fuel i : Nat) (s : State) : State :=
  match fuel with
  | 0 => s
  | f + 1 =>
    match (s.qp i).sent with
    | [] => s
    | r :: rest =>
      match r.done with
      | none => s
      | some st => State.flushDone f i ((s.modQp i fun q => { q with sent := rest }).writeCq i r st)

def State.completions (s : State) (i : Nat) : State := State.flushDone ((s.qp i).sent.length + 1) i s

/-- Queue slots a queue pair names: its consumer binding (R465, 10 R416). -/
def State.bindQp (s : State) (q : Qp) (on : Bool) : State :=
  if !q.bound then s else
  let one (t : State) (n : Nat) : State :=
    let x := t.queue n
    t.setQueue n { x with qpBinds := if on then x.qpBinds + 1 else x.qpBinds - 1 }
  let s1 := one (one (one s q.sq) q.cq) q.rq
  let x := s1.queue q.sq
  s1.setQueue q.sq { x with consumer := if on then .unit else if x.hostCons then .host else .none }

/-- The queue in which a queue pair's Sends land (R465): Muster's landing queue, or its RQ. -/
def State.landingOf (s : State) (i : Nat) : Nat :=
  match s.rounds.binds.find? i with
  | some b => b.landing
  | none => (s.qp i).rq

/-- The two words of a work request on the SQ. -/
def wrWords (i : QItem) : Nat × Nat :=
  (((i.words.drop 1).headD { w := 0 }).w.toNat, ((i.words.drop 2).headD { w := 0 }).w.toNat)

/-- Removes the work request at the head of a queue with the items no consumer sees before it. -/
def State.takeWr (s : State) (n : Nat) : State :=
  let l := (s.queue n).items.dropWhile (fun i => i.complete && !i.deliverable)
  (s.setQueue n { s.queue n with items := l.drop 1 }).evalZone n

/-- The head work request that is complete. -/
def State.headWr (s : State) (n : Nat) : Option QItem :=
  match ((s.queue n).items.dropWhile (fun i => i.complete && !i.deliverable)).head? with
  | some i => if i.deliverable then some i else none
  | none => none

/-- A request that was never sent, with the status it ends in. -/
def unsent (a b : Nat) (status : Nat) : SentReq :=
  { op := a % 256, wrId := b % 2 ^ 64, signaled := a.testBit 8, len := bits a 120 32, lkey := 0, laddr := 0, rkey := 0,
    raddr := 0, op0 := 0, op1 := 0, fmt := 0, first := 0, last := 0, spray := false, own := false, done := some status }

/-- Flushes the work requests on the SQ (R464). -/
def State.flushSq (fuel i : Nat) (s : State) : State :=
  match fuel with
  | 0 => s
  | f + 1 =>
    match s.headWr (s.qp i).sq with
    | none => s
    | some it =>
      let w := wrWords it
      let s1 := s.takeWr (s.qp i).sq
      State.flushSq f i (if it.kind = .packet then s1.writeCq i (unsent w.1 w.2 0xB) 0xB else s1)

/-- Packets of the queue pair wait for cycle 0 (02 R77): they still land, and only then is its open packet closed
(R464). -/
def State.holdsFor (s : State) (i : Nat) : Bool :=
  s.halyard.held.any fun p => match qpSlot p.qpn with
    | some (j, _) => decide (j = i)
    | none => false

/-- A queue pair enters ERROR for a cause (R464, R504). -/
def State.qpError (s : State) (i cause : Nat) : State :=
  let q := s.qp i
  if q.state = .error then s
  else
    let s1 := s.setQp i { q with
      state := .error, sent := q.sent.map (fun r => if r.done.isNone then { r with done := some 0xB } else r),
      rx := none, stall := none, rnrFrom := none }
    let s2 := s1.setHalyard { s1.halyard with
      spray := s1.halyard.spray.filter fun c => decide (c.qp ≠ i)
      notices := s1.halyard.notices.filter fun n => decide (n.qp ≠ i) || decide (n.kind = 3) }
    let s3 := s2.setReg .halyard 0 0xC4 (BitVec.ofNat 32 (q.qpn i + 2 ^ 24 * cause))
    let s4 := (s3.completions i).latchEvt .halyard 0 2
    let s5 := if !q.bound then s4 else State.flushSq ((s4.queue q.sq).items.length + 1) i s4
    if s.holdsFor i then s5.modQp i fun x => { x with rx := q.rx }
    else s5.producerStops (s5.landingOf i) (.halyard (q.qpn i))

/-- A request ends in a status; other than SUCCESS it moves the queue pair to ERROR (R470). -/
def State.endReq (s : State) (i psn status : Nat) : State :=
  let s1 := s.modQp i fun q => { q with
    sent := q.sent.map fun r => if r.done.isNone ∧ r.first = psn then { r with done := some status } else r }
  if status = 0 ∨ status = 0xB then s1.completions i else (s1.qpError i status).completions i

/-- A work request fails before anything of it is sent. -/
def State.failWr (s : State) (i a b status : Nat) : State :=
  let s1 := s.modQp i fun q => { q with sent := q.sent ++ [unsent a b status] }
  (s1.qpError i status).completions i

/-! ### Responses -/

/-- Sends a NAK (R478, R483, R484): kind 0 sequence, 1 invalid request, 2 access, 3 operational, 4 RNR. -/
def State.nak (s : State) (i psn kind : Nat) : State :=
  let q := s.qp i
  let s1 := s.emit (.nak q.dest psn kind (if kind = 4 then q.minRnr else 0))
  if kind = 4 then s1.bump .halyard 0 0x150
  else if kind = 2 then s1.bump .halyard 0 0x158
  else if kind = 0 then s1.bump .halyard 0 0x14C
  else s1

/-- A NAK that moves the responder to ERROR (R460, R476, R484). -/
def State.nakError (s : State) (i psn kind : Nat) : State := (s.nak i psn kind).qpError i 0xFF

/-- The packet is to be acknowledged when this stroke's are released (R74, R483). -/
def State.ackLater (s : State) (i psn : Nat) : State :=
  s.modQp i fun q => { q with ackPend := match q.ackPend with
    | some p => some (if psnSub psn p < 2 ^ 23 then psn else p)
    | none => some psn }

/-- E advances past `n` PSNs. -/
def State.advance1 (s : State) (i n : Nat) : State :=
  s.modQp i fun q => { q with expPsn := psnAdd q.expPsn n, nakSent := false }

/-- An immediate's marker word (R467). -/
def immWord (imm kind qpn stroke len : Nat) : W256 :=
  BitVec.ofNat 256 (imm % 2 ^ 32 + 2 ^ 32 * kind + 2 ^ 40 * (qpn % 2 ^ 24) + 2 ^ 64 * (stroke % 2 ^ 64) + 2 ^ 128 * (len % 2 ^ 32))

/-- A CNP, at most one per queue pair per CNP_INTERVAL (R497). -/
def State.cnp (s : State) (i : Nat) : State :=
  let q := s.qp i
  let gap := usCycles * ((s.reg .halyard 0 0xC0).toNat % 2 ^ 10)
  let due := match q.lastCnp with
    | some t => decide (t + gap ≤ s.cycles)
    | none => true
  if due then ((s.setQp i { q with lastCnp := some s.cycles }).emit (.cnp q.dest)).bump .halyard 0 0x160 else s

/-- A miss of R477: recorded in the fault FIFO and the queue pair stalls; true when the FIFO was full. -/
def State.odpMiss (s : State) (i key page psn : Nat) (resp : Bool) : Bool × State :=
  let s1 := s.bump .halyard 0 0x180
  if s.halyard.odp.length ≥ 256 then (true, (s1.bump .halyard 0 0x184).latchEvt .halyard 0 8)
  else
    let s2 := s1.setHalyard { s1.halyard with odp := s1.halyard.odp ++ [(key, page)] }
    (false, (s2.modQp i fun q => { q with stall := some ⟨key, page, resp, psn⟩ }).latchEvt .halyard 0 4)

/-- A notice of a message can go: it waits for no packet, and no notice of its queue pair with an earlier PSN is
left (R493). -/
def State.noticeReady (s : State) (n : AccNotice) : Bool :=
  decide (n.left = 0) && !(s.halyard.notices.any fun m => decide (m.qp = n.qp ∧ m.base ≠ n.base ∧ psnSub n.base m.base < 2 ^ 23 ∧ m.base ≠ n.base))

/-- Writes the notices that are ready, oldest PSN first. -/
def State.sendNotices (fuel : Nat) (s : State) : State :=
  match fuel with
  | 0 => s
  | f + 1 =>
    match s.halyard.notices.find? s.noticeReady with
    | none => s
    | some n =>
      let s1 := s.setHalyard { s.halyard with notices := s.halyard.notices.erase n }
      let q := s1.qp n.qp
      State.sendNotices f (if q.live then
        s1.unitMarker q.rq (.halyard (q.qpn n.qp)) (immWord n.imm n.kind (q.qpn n.qp) s1.stroke.now n.len) else s1)

def State.deliverNotices (s : State) : State := State.sendNotices (s.halyard.notices.length + 1) s

/-- One packet of a message fewer to wait for. -/
def State.noticeStep (s : State) (qp base : Nat) : State :=
  s.setHalyard { s.halyard with notices := s.halyard.notices.map fun n =>
    if n.qp = qp ∧ n.base = base then { n with left := n.left - 1 } else n }

end Sys2Proof.Machine
end

