-- ==== Sys2Proof/Machine/Hail.lean ====
section
/-!
DEFINITION. Hail (11 R429 to R445, R453 to R458): beacons, crew formation and the loss of members.
-/

namespace Sys2Proof.Machine

def State.hail (s : State) : Hail := s.net.hail

/-- The STATE code of beacons and of HAIL_STS (R432, R445). -/
def State.hailState (s : State) : Nat :=
  if s.tt.halted then 7
  else if s.ten.scrubbing then 5
  else if s.reef.level = 3 then 6
  else if s.hail.phase = .crew then 4
  else if s.hail.phase = .forming then 3
  else if s.ten.claimed then 2
  else 1

/-- The 40-byte header of a Hail datagram (R430); TX stamps are those of the current cycle. -/
def State.hailHeader (s : State) (typ len : Nat) : List Byte :=
  toLe 4 0x4D364841 ++ toLe 1 1 ++ toLe 1 typ ++ toLe 2 len ++ toLe 8 s.moduleId ++
  toLe 8 (if s.hail.phase = .idle then 0 else s.hail.crewId) ++ toLe 8 s.stroke.now ++ toLe 8 s.stroke.cycle

/-- Sends a datagram with `body`; with a confirm key it ends with its HMAC (R437). -/
def State.sendHail (s : State) (port typ : Nat) (body : List Byte) (key : Option (List Byte) := none) : State :=
  let n := 40 + body.length + (if key.isSome then 32 else 0)
  let m := s.hailHeader typ n ++ body
  (s.emit (.hail port (match key with
    | some k => m ++ hmac k m
    | none => m))).bump64 .eth port 0x68 1

/-- Sends a datagram to a peer under the pair's confirm key. -/
def State.sendPeer (s : State) (id typ : Nat) (body : List Byte) : State :=
  let p := s.peer id
  s.sendHail p.port typ body (some p.keyConfirm)

/-! ### Beacons (R432, R433) -/

/-- GLOBAL_SCRUB_PROGRESS. -/
def State.permille (s : State) : Nat := (s.reg .global 0 0x44).toNat

def State.beaconBody (s : State) : List Byte :=
  let h := s.hail
  let st := s.hailState
  let inC := h.phase = .crew
  toLe 1 (st + 16 * b2n h.degraded) ++ toLe 1 s.keep.lc.code ++ toLe 1 (if inC then h.pos else 0) ++ toLe 1 0 ++
  toLe 2 (if inC then h.members.length else if h.phase = .forming then h.expect else 0) ++
  toLe 2 (if st = 5 then s.permille else 0) ++ toLe 4 s.boot.fwVersion.toNat ++ List.replicate 12 0

/-- Hail runs on the port: LINK_UP with HAIL_EN. -/
def State.hailPort (s : State) (p : Nat) : Bool :=
  decide (s.portMode ≠ .off) && (s.port p).linkUp && (s.reg .eth p 0x40).toNat.testBit 7

/-- BEACON_TX: the beacon of this second, on every port that Hail runs on. -/
def execBeaconTx (s : State) : Res :=
  .next ((List.range 8).foldl (fun t p =>
    if t.hailPort p then (t.sendHail p 1 t.beaconBody).bump .hail 0 0x84 else t) s)

/-- A datagram breaks R430. -/
def hailBad (m : List Byte) : Bool :=
  decide (m.length < 40 ∨ leAt m 0 4 ≠ 0x4D364841 ∨ leAt m 4 1 ≠ 1 ∨ leAt m 5 1 = 0 ∨ leAt m 5 1 > 9 ∨
    leAt m 6 2 ≠ m.length ∨ m.length > 8000 ∨ leAt m 0x20 8 ≥ 2 ^ 11)

/-- A beacon breaks R432: its length or a reserved field. -/
def beaconBad (m : List Byte) : Bool :=
  decide (m.length ≠ 64 ∨ leAt m 0x28 1 ≥ 32 ∨ leAt m 0x2B 1 ≠ 0) || !allZero (m.drop 0x34)

def State.hailDropped (s : State) : State := s.bump .hail 0 0x8C

/-! ### The end of a formation and of a crew (R440, R443, R444) -/

/-- The crew keys are zeroised and the crew channel is disconnected. -/
def State.dropPeers (s : State) : State :=
  let qps := s.hail.peers.filterMap fun e => e.2.qp
  let s1 := s.setHail { s.hail with peers := [] }
  s1.setHalyard { s1.halyard with qps := s1.halyard.qps.map fun e => if qps.contains e.1 then (e.1, { epoch := e.2.epoch }) else e }

/-- The module returns to CLAIMED with a result. -/
def State.leaveHail (s : State) (result : Nat) : State :=
  let s1 := s.dropPeers
  s1.setHail { s1.hail with
    phase := .idle, formResult := result, candidates := [], reports := [], reported := false, members := [], pos := 0
    rosterAcks := [], adoptAt := none, degraded := false, duplicate := false }

/-- A formation fails. -/
def State.formFails (s : State) (result : Nat) : State := (s.leaveHail result).latchEvt .hail 0 4

/-- Every crew round before RELEASE faults with CREW at this commit. -/
def State.faultCrewRounds (s : State) : State :=
  s.rounds.blocks.foldl (fun t e => if e.2.crew && e.2.state.working then t.raiseHere e.1 7 else t) s

/-- The crew is dissolved (R444): LEAVE to every member. -/
def State.dissolveCrew (s : State) : State :=
  if s.hail.phase ≠ .crew then s
  else
    let s1 := s.hail.members.foldl (fun t id => if id = t.moduleId then t else t.sendPeer id 9 []) s
    (s1.faultCrewRounds.leaveHail 9).latchEvt .hail 0 32

/-- The pre-shared key is gone. -/
def State.clearPsk (s : State) : State := s.setHail { s.hail with psk := [], pskWritten := [] }

/-- A member is lost (R443). -/
def State.memberLost (s : State) (id : Nat) : State :=
  let h := s.hail
  if h.phase ≠ .crew ∨ !h.members.contains id ∨ id = s.moduleId ∨ (s.peer id).lost then s
  else
    let s1 := s.setPeer id { s.peer id with lost := true }
    let s2 := ((s1.setHail { s1.hail with degraded := true }).bump .hail 0 0x94).latchEvt .hail 0 8
    if h.members.head? = some id then s2.faultCrewRounds
    else s2.rounds.blocks.foldl (fun t e => if e.2.crew && e.2.state.working then t.raise e.1 7 else t) s2

/-- MEMBER_LOST: the crew-channel queue pair of a member has entered the error state, or its beacons have ceased. -/
def execMemberLost (id : Nat) (s : State) : Res :=
  let p := s.peer id
  let broken := match p.qp with
    | some i => decide ((s.qp i).state = .error)
    | none => false
  if broken || !s.hail.seen.contains id then .next (s.memberLost id) else .next s

/-- PEER_SEEN_TIMEOUT: no beacon of a peer has arrived for 3 s. -/
def execPeerSeenTimeout (id : Nat) (s : State) : Res :=
  let h := s.hail
  let s1 := s.setHail { h with seen := h.seen.filter (· ≠ id), candidates := h.candidates.filter (· ≠ id) }
  .next (s1.memberLost id)

/-- FORMATION_TIMEOUT: 60 s since FORM. -/
def execFormationTimeout (s : State) : Res := .next (if s.hail.phase = .forming then s.formFails 6 else s)

/-! ### FORM and DISSOLVE (R434, R444, R454) -/

/-- HAIL_CREW_ID. -/
def State.crewIdReg (s : State) : Nat := s.getPair .hail 0 0x48

/-- EXPECT of HAIL_CTL. -/
def State.expectReg (s : State) : Nat := bits (s.reg .hail 0 0x40).toNat 8 9

/-- Every round of the module is RETIRED (02 R100). -/
def State.roundsIdle (s : State) : Bool := s.rounds.blocks.all fun e => decide (e.2.state = .none ∨ e.2.state = .retired)

/-- FORM (R434). -/
def State.form (s : State) : State :=
  let h := s.hail
  let id := s.crewIdReg
  let n := s.expectReg
  if id = 0 ∨ n < 2 ∨ n > 256 ∨ h.pskWritten.length < 8 ∨ !s.ten.claimed then (s.setHail { h with formResult := 5 }).latchEvt .hail 0 4
  else if h.phase ≠ .idle then s.setHail { h with formResult := 2 }
  else if !s.roundsIdle then (s.setHail { h with formResult := 3 }).latchEvt .hail 0 4
  else if s.stroke.sync ≠ .lockedPin ∧ s.stroke.sync ≠ .lockedPtp then (s.setHail { h with formResult := 4 }).latchEvt .hail 0 4
  else
    let e := h.epochs.get 0 id + 1
    s.setHail { h with
      phase := .forming, crewId := id, expect := n, keyEpoch := e % 2 ^ 16, epochs := h.epochs.put 0 id e, peers := []
      candidates := [], reports := [], reported := false, members := [], pos := 0, rosterAcks := [], formResult := 0 }

/-- DISSOLVE (R444). -/
def State.dissolve (s : State) : State := if s.hail.phase = .crew then s.dissolveCrew.clearPsk else s

/-- A write of HAIL_CTL. -/
def State.writeHailCtl (s : State) (v : W32) : State :=
  let n := v.toNat
  let s1 :=
    if s.hail.phase = .idle then s.setReg .hail 0 0x40 (v &&& 0x1FF00)
    else if bits n 8 9 ≠ s.expectReg then s.pageError .hail 0 0x40 4 v
    else s
  let s2 := if n.testBit 0 then s1.form else s1
  if n.testBit 1 then s2.dissolve else s2

/-- FORM: a write of HAIL_CTL with FORM set. -/
def execHaForm (v : W32) (s : State) : Res :=
  if v.toNat.testBit 0 then .next (s.onPage .hail 0 0x40 v fun t => t.writeHailCtl v) else .fault .badEvent

/-- DISSOLVE: a write of HAIL_CTL with DISSOLVE set. -/
def execHaDissolve (v : W32) (s : State) : Res :=
  if v.toNat.testBit 1 then .next (s.onPage .hail 0 0x40 v fun t => t.writeHailCtl v) else .fault .badEvent

/-! ### Candidates (R435 to R438) -/

/-- Absolute cycle of a message's TX stamps. -/
def txStamp (m : List Byte) : Nat := 2048 * leAt m 0x18 8 + leAt m 0x20 8

/-- A candidate is refused: its keys are zeroised. -/
def State.refuseCandidate (s : State) (id : Nat) : State :=
  s.setPeer id { refused := true, port := (s.peer id).port }

/-- Sends HELLO to a candidate, with the nonce and ephemeral key already drawn for it, or fresh ones. -/
def State.sendHello (s : State) (id port : Nat) : State :=
  let p := s.peer id
  let s1 :=
    if p.nonce.isEmpty then
      let n := s.drawBytes 32
      let e := n.2.drawBytes 32
      e.2.setPeer id { p with nonce := n.1, ephPriv := e.1, port := port }
    else s.setPeer id { p with port := port }
  let q := s1.peer id
  (s1.setPeer id { q with stamp := s1.cycles }).sendHail port 2 (q.nonce ++ x25519 q.ephPriv x25519Base)

/-- BEACON_RX: a beacon arrives on a port from a MAC address. -/
def State.beaconRx (s : State) (port mac : Nat) (m : List Byte) : State :=
  if !s.hailPort port then s
  else if hailBad m ∨ beaconBad m ∨ leAt m 5 1 ≠ 1 then s.hailDropped
  else
    let id := leAt m 8 8
    let own := decide (s.net.mac ≤ mac ∧ mac < s.net.mac + 8)
    if id = s.moduleId then
      if own then s
      else
        let s1 := s.hailDropped
        if s1.hail.phase = .forming then s1.formFails 8 else s1
    else
      let s1 := s.bump .hail 0 0x88
      let h := s1.hail
      let fresh := !h.everSeen.contains id
      let s2 := s1.setHail { h with
        seen := if h.seen.contains id then h.seen else id :: h.seen
        everSeen := if fresh then id :: h.everSeen else h.everSeen }
      let s3 := if fresh then s2.latchEvt .hail 0 1 else s2
      let cand := h.phase = .forming && decide (leAt m 0x28 1 % 16 = 3 ∧ leAt m 0x10 8 = h.crewId)
      if !cand then s3
      else
        let h3 := s3.hail
        let s4 := s3.setHail { h3 with candidates := if h3.candidates.contains id then h3.candidates else id :: h3.candidates }
        let p := s4.peer id
        if s4.moduleId < id ∧ !p.attested ∧ !p.refused then s4.sendHello id port else s4

def execBeaconRx (port mac : Nat) (m : List Byte) (s : State) : Res := onPort port s fun t => t.beaconRx port mac m

/-- A Hail message of a type arrives at a cycle while Hail runs on the port; a bad one is dropped and counted. -/
def onHail (port typ cycle : Nat) (m : List Byte) (s : State) (f : Nat → State → State) : Res :=
  if port ≥ 8 then .fault .noUnit
  else if cycle ≥ 2048 then .fault .badEvent
  else if !s.hailPort port then .next s
  else
    let s1 := s.atCycle cycle
    if hailBad m then .next s1.hailDropped
    else if leAt m 5 1 ≠ typ then .fault .badEvent
    else .next (f (leAt m 8 8) s1)

/-- The module is FORMING with the crew id of the message. -/
def State.formingWith (s : State) (m : List Byte) : Bool :=
  decide (s.hail.phase = .forming ∧ leAt m 0x10 8 = s.hail.crewId)

/-- The statement of KIND CREW that binds a nonce chosen by the peer to our ephemeral key (R435), as it stood at the
last commit (15 R572). -/
def State.crewStatement (s : State) (nonce eph : List Byte) : List Byte :=
  s.statement 3 0 s.hail.crewId (sha256 (nonce ++ eph)) (s.stroke.now - 1)

/-- ATTEST's body. -/
def State.attestBody (s : State) (nonce eph stamps theirNonce : List Byte) : List Byte :=
  let c := s.certChain
  nonce ++ eph ++ stamps ++ s.crewStatement theirNonce eph ++ toLe 2 c.length ++ c

/-- HELLO: the other module answers with ATTEST. -/
def State.hello (s : State) (port : Nat) (m : List Byte) (id : Nat) : State :=
  if m.length ≠ 40 + 64 then s.hailDropped
  else if !s.formingWith m ∨ id ≥ s.moduleId ∨ !s.hail.candidates.contains id ∨ (s.peer id).refused ∨ (s.peer id).attested then s
  else
    let n := s.drawBytes 32
    let e := n.2.drawBytes 32
    let s1 := e.2.setPeer id { s.peer id with
      nonce := n.1, ephPriv := e.1, peerNonce := (m.drop 40).take 32, peerEph := (m.drop 72).take 32, port := port
      stamp := s.cycles }
    s1.sendHail port 3 (s1.attestBody n.1 (x25519 e.1 x25519Base) (toLe 8 (txStamp m) ++ toLe 8 s.cycles) ((m.drop 40).take 32))

def execHaHello (port cycle : Nat) (m : List Byte) (s : State) : Res :=
  onHail port 2 cycle m s fun id t => t.hello port m id

/-- The statement of a peer matches ours (R435). -/
def State.statementMatches (s : State) (st nonce : List Byte) (aliasKey : Option (List Byte)) : Bool :=
  let own := s.statementBody 3 0 s.hail.crewId zero32 0
  let cut (o n : Nat) := (st.drop o).take n = (own.drop o).take n
  (match aliasKey with
    | some k => ed25519Verify k (st.take 512) (st.drop 512)
    | none => false) &&
  decide (leAt st 0 4 = 0x4D364154 ∧ leAt st 4 2 = 1 ∧ leAt st 6 1 = 3) && decide ((st.drop 0x120).take 32 = nonce) &&
  cut 0x30 32 && cut 0x50 34 && cut 0x72 1 && cut 7 1 && decide (s.keep.lc = .sealed ∨ s.keep.lc = .opened) && cut 0x78 8

/-- The keys of a pair (R436). -/
def State.pairKeys (s : State) (id : Nat) (priv theirs : List Byte) : List Byte :=
  let me := s.moduleId
  hkdf s.hail.psk (x25519 priv theirs)
    (ascii "M6 crew keys" ++ toLe 8 (min me id) ++ toLe 8 (max me id) ++ toLe 8 s.hail.crewId ++ toLe 2 s.hail.keyEpoch) 96

/-- Lowest of Tamrik's queue-pair indices that is free (12 R463). -/
def State.freeTamrikQp (s : State) : Option Nat := ((List.range 256).map (0xFF00 + ·)).find? fun i => !(s.qp i).live

/-- A queue pair is reserved for the pair (R437): its index and the state. -/
def State.reserveQp (s : State) : Option (Nat × State) :=
  match s.freeTamrikQp with
  | none => none
  | some i =>
    let e := (s.qp i).epoch
    some (i, s.setQp i { live := true, epoch := if e = 0 then s.halyard.epochBase % 0xFE + 1 else e % 0xFE + 1 })

/-- The pair derives its keys, zeroises the ephemeral key and CONFIRM is sent (R436, R437). -/
def State.confirmPair (s : State) (id : Nat) (k : Int) : State :=
  let p := s.peer id
  let keys := s.pairKeys id p.ephPriv p.peerEph
  let low := decide (s.moduleId < id)
  let a := keys.take 32
  let b := (keys.drop 32).take 32
  match s.reserveQp with
  | none => s.refuseCandidate id
  | some (i, s1) =>
    let q : Peer := { p with
      ephPriv := [], attested := true, k := k, keyTx := if low then a else b, keyRx := if low then b else a
      keyConfirm := keys.drop 64, qp := some i }
    let s2 := s1.setPeer id q
    s2.sendHail p.port 4 (toLe 4 ((s2.qp i).qpn i) ++
      hmac q.keyConfirm (ascii "M6 crew confirm" ++ toLe 8 s2.moduleId))

/-- θ and K of the four stamps (R438): K where it is valid. -/
def strokeOffset (t1 t2 t3 t4 : Nat) : Option Int :=
  let d : Int := ((t2 : Int) - t1) - ((t4 : Int) - t3)
  -- θ is d / 2; K rounds θ / 2,048, and |θ - 2,048 K| is at most 512.
  let k := (d + 2048) / 4096
  if (d - 4096 * k).natAbs ≤ 1024 then some k else none

/-- ATTEST received (R435). `aliasKey` is the Alias public key that the chain certifies up to the Welloth root, none
where the chain does not verify. -/
def State.attested (s : State) (port : Nat) (m : List Byte) (aliasKey : Option (List Byte)) (id : Nat) : State :=
  let p := s.peer id
  let n := leAt m (40 + 656) 2
  if m.length < 40 + 658 ∨ m.length ≠ 40 + 658 + n then s.hailDropped
  else if !s.formingWith m ∨ p.nonce.isEmpty ∨ p.attested ∨ p.refused then s
  else
    let nonce := (m.drop 40).take 32
    let eph := (m.drop 72).take 32
    let stamps := (m.drop 104).take 16
    let st := (m.drop 120).take 576
    let low := decide (s.moduleId < id)
    let shape := low || (allZero nonce && allZero stamps && decide (eph = p.peerEph))
    if !shape || !s.statementMatches st (sha256 (p.nonce ++ eph)) aliasKey then
      ((s.refuseCandidate id).bump .hail 0 0x90).latchEvt .hail 0 16
    else if !low then s.confirmPair id 0
    else match strokeOffset (leAt stamps 0 8) (leAt stamps 8 8) (txStamp m) s.cycles with
      | none =>
        let s1 := s.setPeer id { p with attempts := p.attempts + 1 }
        if p.attempts + 1 ≥ 3 then s1.refuseCandidate id else s1.sendHello id port
      | some k =>
        let own := x25519 p.ephPriv x25519Base
        let s1 := s.setPeer id { p with peerEph := eph, peerNonce := nonce, port := port }
        (s1.sendHail port 3 (s1.attestBody zero32 own (List.replicate 16 0) nonce)).confirmPair id k

def execHaAttest (port cycle : Nat) (m : List Byte) (aliasKey : Option (List Byte)) (s : State) : Res :=
  onHail port 3 cycle m s fun id t => t.attested port m aliasKey id

/-! ### REPORT and ROSTER (R439, R440) -/

/-- Peers confirmed by this module. -/
def State.confirmedPeers (s : State) : List Nat := (s.hail.peers.filter fun e => e.2.connected).map (·.1)

/-- The set this module would form: the EXPECT lowest ids of itself and the confirmed candidates, ascending. -/
def State.formSet (s : State) : List Nat := (sortAsc (s.moduleId :: s.confirmedPeers)).take s.hail.expect

/-- A two's-complement value in 8 bytes. -/
def toLeI (k : Int) : List Byte := toLe 8 (k % (2 ^ 64 : Int)).toNat

/-- The signed value of 8 bytes. -/
def leAtI (l : List Byte) (o : Nat) : Int :=
  let v := leAt l o 8
  if v < 2 ^ 63 then v else (v : Int) - 2 ^ 64

/-- The REPORT of a set: an entry of 16 bytes for each id, with its K. -/
def State.reportBody (s : State) (l : List Nat) : List Byte := l.flatMap fun id => toLe 8 id ++ toLeI (s.peer id).k

/-- The leader sends ROSTER once it holds identical sets from every other member. -/
def State.tryRoster (s : State) : State :=
  let h := s.hail
  let l := s.formSet
  if h.phase ≠ .forming ∨ !h.reported ∨ l.head? ≠ some s.moduleId ∨ !h.members.isEmpty then s
  else if !(l.drop 1).all fun id => (h.reports.find? id).isSome && decide ((h.reports.get [] id).map (·.1) = l) then s
  else
    let a := s.stroke.now + 4096
    let at0 (id : Nat) : Nat := ((a : Int) + (if id = s.moduleId then 0 else (s.peer id).k)).toNat
    let v := l.foldl (fun n id => max n (at0 id)) 0 + 1
    let ep : Int := if s.stroke.epochSet then s.stroke.epoch - ((v : Int) - a - 1) * 1024 else 0
    let body := toLe 2 l.length ++ toLe 2 h.keyEpoch ++ toLe 8 v ++ toLeI ep ++ l.flatMap fun id => toLe 8 id ++ toLe 8 (at0 id)
    let s1 := s.setHail { h with members := l, pos := 0, adoptAt := some a, adoptV := v, adoptEpoch := ep }
    (l.drop 1).foldl (fun t id => t.sendPeer id 6 body) s1

/-- The module has confirmed EXPECT − 1 candidates: it reports to the lowest id, and refuses the candidates left out. -/
def State.tryReport (s : State) : State :=
  let h := s.hail
  let c := s.confirmedPeers
  let l := s.formSet
  if h.phase ≠ .forming ∨ c.length + 1 < h.expect ∨ h.reported ∨ !l.contains s.moduleId then s
  else
    let s1 := s.setHail { h with reported := true }
    let s2 := (c.filter fun id => !l.contains id).foldl (fun t id => t.sendPeer id 8 []) s1
    match l.head? with
    | some id => if id = s.moduleId then s2.tryRoster else s2.sendPeer id 5 (s2.reportBody l)
    | none => s2

/-- CONFIRM received (R437). -/
def State.confirmed (s : State) (m : List Byte) (id : Nat) : State :=
  let p := s.peer id
  if m.length ≠ 40 + 36 then s.hailDropped
  else if !s.formingWith m ∨ !p.attested ∨ p.refused ∨ p.connected then s
  else if m.drop 44 ≠ hmac p.keyConfirm (ascii "M6 crew confirm" ++ toLe 8 id) then
    (match p.qp with
      | some i => s.setQp i { epoch := (s.qp i).epoch }
      | none => s).refuseCandidate id
  else
    let qpn := leAt m 40 4
    let s1 := s.setPeer id { p with confirmed := true, connected := true, peerQpn := qpn }
    let s2 := match p.qp with
      | some i => s1.modQp i fun q => { q with
          state := .rts, attr := BitVec.ofNat 512 (4095 * 2 ^ 64 + qpn % 2 ^ 24 * 2 ^ 160 + 5 * 2 ^ 59) }
      | none => s1
    s2.tryReport

def execHaConfirm (port cycle : Nat) (m : List Byte) (s : State) : Res := onHail port 4 cycle m s fun id t => t.confirmed m id

/-- A message that ends with the pair's HMAC: its body, or none where it is discarded (R437). -/
def State.hailBody (s : State) (m : List Byte) (id : Nat) : Option (List Byte) :=
  let p := s.peer id
  let n := m.length - 32
  if m.length ≥ 72 ∧ !p.keyConfirm.isEmpty ∧ hmac p.keyConfirm (m.take n) = m.drop n then some ((m.take n).drop 40) else none

/-- A command that receives a message under the pair's confirm key. -/
def onPair (port typ cycle : Nat) (m : List Byte) (s : State) (f : Nat → List Byte → State → State) : Res :=
  onHail port typ cycle m s fun id t =>
    match t.hailBody m id with
    | none => t.hailDropped
    | some b => f id b t

/-- REPORT received by the leader. -/
def execHaReport (port cycle : Nat) (m : List Byte) (s : State) : Res :=
  onPair port 5 cycle m s fun id b t =>
    if !t.formingWith m ∨ b.length ≠ 16 * t.hail.expect then t
    else
      let l := (chunksOf (b.length + 1) 16 b).map fun e => (leAt e 0 8, leAtI e 8)
      (t.setHail { t.hail with reports := t.hail.reports.insertAt id l }).tryRoster

/-- ROSTER received by a member: it acknowledges it, or refuses (R439, R100). -/
def execHaRoster (port cycle : Nat) (m : List Byte) (s : State) : Res :=
  onPair port 6 cycle m s fun id b t =>
    if !t.formingWith m then t
    else
      let n := leAt b 0 2
      let l := (chunksOf (b.length + 1) 16 (b.drop 20)).map fun e => (leAt e 0 8, leAt e 8 8)
      let ids := l.map (·.1)
      let h := t.hail
      if !ids.contains t.moduleId ∨ n ≠ h.expect ∨ ids.length ≠ n ∨ !t.roundsIdle then t.sendPeer id 8 []
      else
        let due := (l.find? fun (e : Nat × Nat) => decide (e.1 = t.moduleId)).map fun (e : Nat × Nat) => e.2
        (t.setHail { h with
          members := ids, pos := ids.idxOf t.moduleId, adoptAt := due, adoptV := leAt b 4 8, adoptEpoch := leAtI b 12
          keyEpoch := leAt b 2 2 }).sendPeer id 7 []

/-- ROSTER_ACK received by the leader. -/
def execHaRosterAck (port cycle : Nat) (m : List Byte) (s : State) : Res :=
  onPair port 7 cycle m s fun id _ t =>
    if !t.formingWith m then t
    else t.setHail { t.hail with
      rosterAcks := if t.hail.rosterAcks.contains id then t.hail.rosterAcks else id :: t.hail.rosterAcks }

/-- REFUSE received: the leader passes it to every member, and the formation ends with PEER_REFUSED. -/
def execHaRefuse (port cycle : Nat) (m : List Byte) (s : State) : Res :=
  onPair port 8 cycle m s fun _ _ t =>
    if !t.formingWith m then t
    else
      let h := t.hail
      let t1 := if h.members.head? = some t.moduleId then (h.members.drop 1).foldl (fun u q => u.sendPeer q 8 []) t else t
      t1.formFails 7

/-- LEAVE received: the loss of its sender (R444). -/
def execHaLeave (port cycle : Nat) (m : List Byte) (s : State) : Res :=
  onPair port 9 cycle m s fun id _ t => t.memberLost id

end Sys2Proof.Machine
end

