-- ==== Sys2Proof/Machine/MemPages.lean ====
section
/-!
DEFINITION. The HBMC and MORTAR pages' commands, the patrol scrub and the lifetime totals (13 R520, R525 to R537).
-/

namespace Sys2Proof.Machine

/-- HBMC_CTL.TEMP_MAX_CLR: MAX is set to the current reading (R530, R533). -/
def State.tempMaxClr (s : State) (stack : Nat) : State :=
  let now := (s.reg .hbmc stack 0x60).toNat % 256
  s.setReg .hbmc stack 0x60 (BitVec.ofNat 32 (now + 256 * now))

def execTempMaxClr (stack : Nat) (s : State) : Res :=
  if stack ≥ 12 then .fault .noUnit else .next (s.onPage .hbmc stack 0x40 1 fun t => t.tempMaxClr stack)

/-- MORTAR_CTL.QUEUE_MAX_CLR: QUEUE_MAX of the selected unit is set to 0 (R537). -/
def State.queueMaxClr (s : State) (stack : Nat) : State :=
  let u := 4800 + 32 * stack + (s.reg .mortar stack 0x40).toNat % 32
  { s with fabric := { s.fabric with queueMax := s.fabric.queueMax.erase u } }

def execQueueMaxClr (stack : Nat) (s : State) : Res :=
  if stack ≥ 12 then .fault .noUnit else .next (s.onPage .mortar stack 0x48 1 fun t => t.queueMaxClr stack)

/-- The scrubbers advance: in full sail or Reef-1, while the counter advances and no fill is in progress (R526). -/
def State.scrubRuns (s : State) : Bool :=
  s.inService && s.stroke.running && !s.tt.halted && decide (s.reef.level ≤ 1) && !s.ten.claiming

/-- Words of a stack in one pass (R525, R532). -/
def stackWords : Nat := 32 * 100663296

/-- A stack's progress after one more word (R526). -/
def State.scrubProgress (s : State) (k : Nat) : State :=
  let n := (s.reg .hbmc k 0x58).toNat + 1
  if n < stackWords then s.setReg .hbmc k 0x58 (BitVec.ofNat 32 n)
  else ((s.setReg .hbmc k 0x58 0).bump .hbmc k 0x5C).latchEvt .hbmc k 16

/-- The round whose sealed structures hold an address: Tamrik's areas of a round other than its sums (R520). -/
def State.sealedRound (s : State) (a : Nat) : Option Nat :=
  match s.areaOf a with
  | some r =>
    match r.owner with
    | .round b => if r.base = (s.round b).accBase ∨ r.base = (s.round b).resBase then none else some b
    | _ => none
  | none => none

/-- A new uncorrectable error found by a scrub (R527): counted once, and where it lies in a round's sealed structures
R520 applies. -/
def State.scrubUncorr (s : State) (w : Nat) (d : W32) : State :=
  let a := 32 * w
  let s1 := s.storeWord w (memRead s.mem a 32) poisonDelta
  let s2 := match s.pierOf a with
    | some p => s1.bump .pier p 0x60
    | none => s1
  let s3 := match s.place a with
    | .hbm pc _ => ((s2.bump .hbmc (pc / 32) 0x4C).captMem .hbmc (pc / 32) a 5 8 (syndromes d)).latchEvt .hbmc (pc / 32) 8
    | .ashlar x _ => s2.captMem .ashlar x a 5 8 (syndromes d)
    | _ => s2
  match s.sealedRound a with
  | some b =>
    let s4 := s3.poisonRound b
    match s.place a with
    | .hbm pc _ => s4.latchEvt .hbmc (pc / 32) 2
    | _ => s4
  | none => s3

/-- A scrub read of one word of memory (R527). -/
def State.scrubWord (s : State) (w : Nat) : State :=
  let d := s.ecc.get 0 w
  let l := memRead s.mem (32 * w) 32
  match decodeDelta d with
  | .clean => s
  | .poison => s
  | .corrected pos mag => (s.storeWord w (repairBytes l pos mag) 0).countCorrected (32 * w) 8 (syndromes d)
  | .uncorrectable => s.scrubUncorr w d

/-- PATROL_SCRUB: one word of HBM or of an Ashlar store; `delta` is the error that the array has taken (log entry 5). -/
def execPatrolScrub (word : Nat) (delta : W32) (s : State) : Res :=
  let hit (s1 : State) : State :=
    if delta = 0 then s1 else { s1 with ecc := s1.ecc.put 0 word (s1.ecc.get 0 word ^^^ delta) }
  match s.place (32 * word) with
  | .hbm pc _ => if s.scrubRuns then .next (((hit s).scrubWord word).scrubProgress (pc / 32)) else .next s
  | .ashlar _ _ => if s.scrubRuns then .next ((hit s).scrubWord word) else .next s
  | _ => .fault .noUnit

/-- Tamrik writes the lifetime totals to flash (R528). -/
def State.saveTotals (s : State) : State :=
  { s with boot := { s.boot with flashLife := (List.range 6).map fun p =>
    (p, ((s.reg .pier p 0x5C).toNat, (s.reg .pier p 0x60).toNat)) } }

/-- LIFETIME_TOTALS_WRITE: once an hour (R528). -/
def execLifetimeTotalsWrite (s : State) : Res := .next (if s.inService then s.saveTotals else s)

end Sys2Proof.Machine
end

