-- ==== Sys2Proof/Machine/Muster.lean ====
section
/-!
DEFINITION. Muster (06): its commands, admission, ingress, drop marks, the outcome table, and the state
transitions of a round (01 R45 to R60).
-/

namespace Sys2Proof.Machine

/-! ### Commands (06 R267 to R269) -/

/-- MUSTER_CMD_ARG and the address registers. -/
def State.musterArg (s : State) : Nat := (s.reg .muster 0 0x40).toNat
def State.musterAddr (s : State) : Nat := (s.reg .muster 0 0x44).toNat + 2 ^ 32 * ((s.reg .muster 0 0x48).toNat % 2 ^ 16)

/-- The module is claimed and no claim is in progress (15 R577). -/
def State.claimedNow (s : State) : Bool := s.ten.claimed && !s.ten.claiming

/-- Crew size a descriptor's CREW_ID gives. -/
def State.sizeFor (s : State) (d : Descr) : Nat := if d.crewId = 0 then 1 else max 1 s.net.hail.members.length

/-- CREW_ID names the crew this module belongs to, which is not DEGRADED (01 R34, 11 R443). -/
def State.crewOk (s : State) (d : Descr) : Bool :=
  d.crewId = 0 || (s.inCrew && decide (s.net.hail.crewId = d.crewId) && !s.net.hail.degraded)

/-- The first outcome of R34 that applies, in its order, for a header read without error. -/
def State.openOutcome (s : State) (d : Descr) (readable : Bool) : Nat :=
  let now := s.stroke.now
  if !s.claimedNow then 8
  else if !s.ten.guardC then 1
  else if !readable || !s.headerOk d then 2
  else if (d.crewId = 0 || (s.inCrew && decide (s.net.hail.crewId = d.crewId))) && decide (d.id ≤ s.rounds.highWater.get 0 d.crewId) then 3
  else if d.dCollect < now + 1 ∨ d.dClose < d.dCollect + 1 ∨ d.dRecover < d.dClose + 1025 ∨ d.dRetire < d.dRecover + 1 then 4
  else if !s.crewOk d then 5
  else if (s.rounds.blocks.filter fun e => e.2.state.live).length ≥ 16 then 6
  else if footprintOf d (s.sizeFor d) > s.freeMemory then 7
  else 0

/-- OPEN at its landing: the header is read and judged, and the descriptor copied (R33, R34). -/
def State.landOpen (s : State) (c : CmdSt) : CmdSt × State :=
  let a := s.musterAddr
  if s.musterArg ≠ 0 ∨ !s.tenantRange a 256 1 then
    ({ c with staged := s.openOutcome (parseDescr []) false }, s)
  else
    let h := s.readBytes 7 a 256
    let d := parseDescr h.1
    let inside := h.2.2.tenantRange a d.totalLen 1
    let o := h.2.2.openOutcome d (!h.2.1 && inside)
    if o ≠ 0 then ({ c with staged := o }, h.2.2)
    else
      let x := h.2.2.readBytes 7 a d.totalLen
      ({ c with staged := 0, data := x.1, bad := x.2.1 }, x.2.2)

/-- DROP's outcome at its landing (R254, R264, R269), and the slots of its list. -/
def State.landDrop (s : State) (c : CmdSt) : CmdSt × State :=
  let n := s.musterArg
  let a := s.musterAddr
  let r := s.round c.sub
  let e := c.eff + (if r.crew then 64 else 0)
  if !s.claimedNow then ({ c with staged := 0x16 }, s)
  else if n = 0 ∨ n > 65536 ∨ !s.tenantRange a (4 * n) 1 then ({ c with staged := 0x13 }, s)
  else
    let x := s.readBytes 7 a (4 * n)
    if x.2.1 then ({ c with staged := 0x13 }, x.2.2)
    else if r.state = .none ∨ r.state = .retired then ({ c with staged := 0x10 }, x.2.2)
    else if r.crew ∧ !s.isLeader then ({ c with staged := 0x12 }, x.2.2)
    else if ¬(r.state = .open ∨ r.state = .collect) ∨ e > r.d.dClose then ({ c with staged := 0x11 }, x.2.2)
    else
      let slots := (wordsOf 4 x.1).eraseDups
      let s1 := x.2.2
      if r.crew then
        ({ c with staged := 0 }, s1.nameDecision c.sub { kind := 1, reason := 0, count := slots.length, named := e, slots := slots })
      else ({ c with staged := 0 }, s1.modRound c.sub fun y => { y with dropPend := y.dropPend ++ [(e, slots)] })

/-- OUTCOME_COPY's outcome at its landing (06 R259, R269). -/
def State.copyOutcome (s : State) (c : CmdSt) : Nat :=
  let r := s.round c.sub
  if !s.claimedNow then 0x16
  else if s.musterArg ≠ 0 ∨ !s.tenantRange s.musterAddr (max 1 r.d.slots) 1 then 0x13
  else if r.state = .none ∨ r.state = .retired then 0x10
  else if !r.published ∨ ¬(r.state = .recover ∨ r.state = .release ∨ r.state = .faulted) ∨ s.stroke.now ≤ r.d.dClose + 1024 then 0x11
  else 0

/-- MUSTER_CMD_EFF of a command: its commit, or the stroke the leader names (R268). -/
def State.musterEff (s : State) (op blk : Nat) : Nat :=
  s.effStroke + (if (op = 2 ∨ op = 3) ∧ (s.round blk).crew ∧ s.isLeader then 64 else 0)

/-- A write of MUSTER_CMD lands (R36, R267). -/
def State.landMuster (s : State) (op blk : Nat) : State :=
  if s.muster.busy then s.pageError .muster 0 0x4C 3 (BitVec.ofNat 32 (op + 16 * blk))
  else
    let s1 := s.setPair .muster 0 0x58 (s.musterEff op blk)
    let c : CmdSt := { s.muster with
      busy := true, op := op, sub := blk, eff := s.effStroke, staged := 0, data := [], bad := false, ready := false,
      args := [BitVec.ofNat 32 s.musterArg, BitVec.ofNat 32 s.musterAddr, BitVec.ofNat 32 (s.musterAddr / 2 ^ 32)] }
    let x : CmdSt × State := match op with
      | 1 => s1.landOpen c
      | 2 => s1.landDrop c
      | 7 => ({ c with staged := s1.copyOutcome c }, s1)
      | _ => (c, s1)
    { x.2 with muster := x.1 }

/-- A MUSTER command row. -/
def musterCommand (op blk cycle : Nat) (s : State) : Res :=
  if blk ≥ 16 then .fault .noUnit
  else
    let s1 := s.atCycle cycle
    .next (s1.onPage .muster 0 0x4C (BitVec.ofNat 32 (op + 16 * blk)) fun s2 => s2.landMuster op blk)

def execMsOpen (cycle : Nat) (s : State) : Res := musterCommand 1 0 cycle s
def execMsDrop (blk cycle : Nat) (s : State) : Res := musterCommand 2 blk cycle s
def execMsAbort (blk cycle : Nat) (s : State) : Res := musterCommand 3 blk cycle s
def execMsRetire (blk cycle : Nat) (s : State) : Res := musterCommand 4 blk cycle s
def execMsBind (blk cycle : Nat) (s : State) : Res := musterCommand 5 blk cycle s
def execMsUnbind (cycle : Nat) (s : State) : Res := musterCommand 6 0 cycle s
def execMsOutcomeCopy (blk cycle : Nat) (s : State) : Res := musterCommand 7 blk cycle s

/-! ### Queues for SEALED use (10 R383) -/

/-- The highest FREE queue, with a ring of 2^ringLog words for a Plinth unit; none when no queue is FREE or the
pool cannot hold the ring. -/
def State.takeQueue (s : State) (ringLog : Nat) (consumer : QConsumer) : Option (Nat × State) :=
  if 2 ^ ringLog / 32 > s.poolFree then none
  else match (List.range 16320).reverse.find? fun n => decide ((s.queue n).owner = .free) with
    | some n => some (n, s.setQueue n { owner := .sealed, ringLog := ringLog, consumer := consumer })
    | none => none

/-- A queue returns to FREE and empty. -/
def State.freeQueue (s : State) (n : Nat) : State := s.setQueue n {}

/-- Takes `k` queues of one size. -/
def State.takeQueues (s : State) (ringLog k : Nat) (consumer : QConsumer) : Option (List Nat × State) :=
  (List.range k).foldlM (fun (a : List Nat × State) _ => do
    let x ← a.2.takeQueue ringLog consumer
    some (a.1 ++ [x.1], x.2)) ([], s)

/-! ### BIND and UNBIND (06 R242) -/

/-- The connected reliable-connected queue pair a QPN names. -/
def State.connectedQp (s : State) (qpn : Nat) : Option Qp :=
  let i := qpn % 2 ^ 16
  match s.net.halyard.qps.find? i with
  | some q => if q.live ∧ q.epoch = qpn / 2 ^ 16 ∧ q.epoch ≠ 0xFF ∧ (q.state = .rtr ∨ q.state = .rts) then some q else none
  | none => none

/-- RING_LOG of a landing queue for MAX_MSG. -/
def landingLog (maxMsg : Nat) : Nat :=
  let w := max (2 ^ 14) (4 * ((maxMsg + 23) / 24 + 2))
  ((List.range 23).find? fun k => decide (w ≤ 2 ^ k)).getD 22

/-- BIND at its commit: its outcome and effect. -/
def State.doBind (s : State) (arg blk : Nat) : Nat × State :=
  let r := s.round blk
  let qpn := arg % 2 ^ 24
  let i := qpn % 2 ^ 16
  if !s.claimedNow then (0x16, s)
  else if arg ≥ 2 ^ 25 then (0x13, s)
  else match s.connectedQp qpn with
    | none => (0x10, s)
    | some q =>
      if r.state = .none ∨ r.state = .retired then (0x10, s)
      else if (s.bind? i).isSome then (0x14, s)
      else if ¬(r.state = .open ∨ r.state = .collect) then (0x11, s)
      else match s.takeQueue (landingLog q.maxMsg) .unit with
        | none => (0x15, s)
        | some (n, s1) =>
          let bd : Bind := { round := some blk, role := if arg.testBit 24 then .envelope else .contribution, landing := n }
          (0, { s1 with rounds := { s1.rounds with binds := s1.rounds.binds.insertAt i bd } })

/-- UNBIND at its commit. The landing queue keeps what has landed; an empty one returns to FREE. -/
def State.doUnbind (s : State) (arg : Nat) : Nat × State :=
  let qpn := arg % 2 ^ 24
  let i := qpn % 2 ^ 16
  if !s.claimedNow then (0x16, s)
  else if arg ≥ 2 ^ 24 then (0x13, s)
  else if (s.connectedQp qpn).isNone then (0x10, s)
  else match s.bind? i with
    | none => (0x11, s)
    | some bd =>
      let s1 : State := { s with rounds := { s.rounds with binds := s.rounds.binds.erase i } }
      if (s1.queue bd.landing).items.isEmpty then (0, s1.freeQueue bd.landing)
      else (0, { s1 with rounds := { s1.rounds with ended := s1.rounds.ended ++ [(i, bd)] } })

/-! ### Admission (06 R244 to R249) -/

/-- The round was in COLLECT during a stroke. -/
def Round.collectingAt (r : Round) (stroke : Nat) : Bool :=
  (r.state = .collect || r.leftCollect.isSome) && decide (r.d.dCollect < stroke) &&
  (match r.leftCollect with
    | some l => decide (stroke ≤ l)
    | none => true)

/-- The header form of R39. -/
def Descr.formOk (d : Descr) (h : List Byte) : Bool :=
  decide (leAt h 0x10 1 = d.format) && decide (leAt h 0x11 1 = 1) && decide (leAt h 0x12 2 < 2) &&
  decide (leAt h 0x14 2 = d.words) && decide (leAt h 0x16 2 = 0) && allZero ((h.drop 0x1C).take 0x24)

/-- The eight checks in order (R245, R246): 0, or the reason code. -/
def State.judge (s : State) (b : Option Nat) (e : List Byte) (bad : Bool) (stroke : Nat) : Nat :=
  match b with
  | none => 1
  | some b =>
    let r := s.round b
    let d := r.d
    let h := padTo 4096 e
    let slot := leAt h 8 4
    let chunk := leAt h 0xC 4
    let x := r.entry slot
    if !r.collectingAt stroke then 1
    else if leAt h 0 8 ≠ r.id then 2
    else if slot ≥ d.slots ∨ x.estate = .notEnrolled ∨ x.home ≠ r.pos then 3
    else if (match x.dropStroke with
      | some n => decide (n < stroke)
      | none => false) then 4
    else if chunk ≥ d.chunks ∨ chunk ≥ x.next + 64 then 5
    else if x.has chunk then 6
    else if !d.formOk h ∨ e.length ≠ 4096 then 7
    else if bad then 8
    else 0

/-- Admission of a packet (R248). -/
def State.takeIn (s : State) (b : Nat) (e : List Byte) : State :=
  let r := s.round b
  let slot := leAt e 8 4
  let chunk := leAt e 0xC 4
  let final := (leAt e 0x12 2).testBit 0
  let r1 := (r.setEntry slot ((r.entry slot).takeIn chunk final)).addCount chunk 1
  let s1 := ((s.setRound b r1).bump64 .muster 0 0x60 1).bump64 .muster 0 (blockOff b + 0x10) 1
  if final then s1.bump .muster 0 (blockOff b + 0x1C) else s1

/-- A packet is refused with a reason (R249, R250, R270, R271). -/
def State.refuse (s : State) (qp code : Nat) (b : Option Nat) (e : List Byte) (stroke : Nat) : State :=
  let h := padTo 64 e
  let s1 := s.bump .muster 0 (0x80 + 4 * (code - 1))
  let s2 := match b with
    | some b => s1.bump .muster 0 (blockOff b + 0x18)
    | none => s1
  s2.addReport qp { round := leAt h 0 8, slot := leAt h 8 4, chunk := leAt h 0xC 4, tag := leAt h 0x18 4, reason := code, stroke := stroke }

/-- Decides one landed item (R244, R245). -/
def State.decideItem (s : State) (qp n i : Nat) (b : Option Nat) : State :=
  match (s.queue n).items[i]? with
  | none => s
  | some it =>
    if it.judged || !it.complete || it.abandoned || decide (it.kind ≠ .packet) then s
    else
      let e := it.stream
      let c := s.judge b e it.hasBad it.stroke
      let s1 := s.modItem n i fun x => { x with judged := true, decision := c }
      if c ≠ 0 then s1.refuse qp c b e it.stroke
      else match b with
        | some b => s1.takeIn b e
        | none => s1

/-- The undecided items that landed before this stroke, over the CONTRIBUTION queue pairs: landing time, queue
pair, queue, index and round. -/
def State.undecided (s : State) : List (Nat × Nat × Nat × Nat × Option Nat) :=
  let one (e : Nat × Bind) : List (Nat × Nat × Nat × Nat × Option Nat) :=
    if e.2.role ≠ BindRole.contribution then []
    else (List.range (s.queue e.2.landing).items.length).filterMap fun i =>
      match (s.queue e.2.landing).items[i]? with
      | some it => if it.judged || !it.complete || decide (it.stroke ≥ s.stroke.now) then none
        else some (it.stroke * 2048 + it.cycle, e.1, e.2.landing, i, e.2.round)
      | none => none
  (s.rounds.binds ++ s.rounds.ended).flatMap one

/-- MUSTER_DECISION: landed packets in landing order, those of one cycle in ascending queue-pair index (R244). -/
def execMusterDecision (s : State) : Res :=
  .next ((s.undecided.mergeSort fun a b => decide (a.1 < b.1 ∨ (a.1 = b.1 ∧ a.2.1 ≤ b.2.1))).foldl
    (fun t e => t.decideItem e.2.1 e.2.2.1 e.2.2.2.1 e.2.2.2.2) s)

/-- Moves the decided items of a landing queue: refused ones are passed over, admitted ones go to their ingress
queue (R260, R724). Items of a round that no longer works are passed over. -/
def State.moveItems (s : State) (bd : Bind) : State :=
  State.drainLanding ((s.queue bd.landing).items.length + 1) bd.landing (fun t it =>
    match bd.round with
    | none => some t
    | some b =>
      let r := t.round b
      let slot := leAt it.stream 8 4
      if !r.state.working then some t
      else match r.ingress[slot % max 1 r.ingress.length]? with
        | some n => t.copyItem n { it with judged := false }
        | none => none) s

/-- INGRESS_MOVE: the landing queue of one queue pair (R724). -/
def execIngressMove (qp : Nat) (s : State) : Res :=
  if qp ≥ 65536 then .fault .noUnit
  else
    let s1 := match s.bind? qp with
      | some bd => if bd.role = BindRole.contribution then s.moveItems bd else s
      | none => s
    .next ((s1.rounds.ended.filter fun e => decide (e.1 = qp)).foldl (fun (t : State) (e : Nat × Bind) =>
      if e.2.role = BindRole.contribution then t.moveItems e.2 else t.moveEnvs e.2) s1)

/-! ### Retraction and ingress rigs (06 R257 to R261, 08 R344, R345) -/

/-- A retraction can still be accepted (R258). -/
def State.retractOk (s : State) (r : Round) : Bool :=
  decide (s.stroke.now ≤ r.d.dClose + 511) && decide (r.retractions.length < 65536)

/-- A retraction takes effect (R257). -/
def State.retract (s : State) (b slot chunk : Nat) : State :=
  let r := s.round b
  let x := r.entry slot
  let r1 := r.setEntry slot { x with admitted := x.admitted - 1, retracted := true }
  let s1 := s.setRound b { r1 with
    counts := r1.counts.put 0 chunk (r1.counts.get 0 chunk - 1), retractions := r1.retractions ++ [(slot, chunk)] }
  (s1.bump .muster 0 (blockOff b + 0x34)).latchEvt .muster 0 64

/-- Adds a chunk's words and `n` to its count word: into the accumulator, or forwarded to the owner (R261, R262). -/
def State.addChunk (s : State) (b c : Nat) (ws : List Nat) (n : Nat) (bad : Bool) : State :=
  let r := s.round b
  if r.owns c then (s.addWords r.d.wordBytes (s.roundMod r) (r.accAt c) ws bad).addCountWord (r.accAt c) n false
  else s.emit (.forward (c % r.size) r.id c ws n)

/-- The payload words of a contribution, reduced (R42). -/
def State.payloadWords (s : State) (r : Round) (e : List Byte) : List Nat :=
  (wordsOf r.d.wordBytes ((e.drop 64).take 4032)).map fun v => v % s.roundMod r

/-- Retracts a chunk, or adds it poisoned where a retraction can no longer be accepted (R258). -/
def State.retractOrPoison (s : State) (b slot chunk : Nat) (ws : List Nat) : State :=
  if s.retractOk (s.round b) then s.retract b slot chunk else s.addChunk b chunk ws 1 true

/-- The chunks of a ciphertext. -/
def ctChunks (span x : Nat) : List Nat := (List.range span).map fun i => x * span + i

/-- The cap on the level of a ciphertext's sum (08 R345). -/
def State.levelCap (s : State) (r : Round) : Nat := (s.roundKey r).levelMax / max 1 r.size

/-- A GLWE chunk consumed by ingress rig `g` (08 R344, R345). -/
def State.glweChunk (s : State) (b g slot chunk : Nat) (ws : List Nat) (bad : Bool) : State :=
  let r := s.round b
  let span := max 1 (s.roundKey r).span
  let x := chunk / span
  let cs := ctChunks span x
  let mine := r.held.filter fun h => decide (h.rig = g)
  let whole := cs.all fun c => (r.entry slot).has c && !r.retractions.contains (slot, c)
  if bad ∨ mine.length ≥ 4096 ∨ (s.stroke.now > r.d.dClose ∧ !whole) then s.retractOrPoison b slot chunk ws
  else
    let held := r.held ++ [{ rig := g, slot := slot, chunk := chunk, data := ws, bad := bad }]
    let here (c : Nat) := held.find? fun h => decide (h.slot = slot ∧ h.chunk = c)
    if cs.all fun c => (here c).isSome then
      let s1 := s.setRound b { r with held := held.filter fun h => !(decide (h.slot = slot) && cs.contains h.chunk) }
      let lv := r.ctLevel.get 0 x
      if lv + 1 > s.levelCap r then cs.foldl (fun t c => t.retractOrPoison b slot c (match here c with
        | some h => h.data
        | none => [])) s1
      else (cs.foldl (fun t c => t.addChunk b c (match here c with
        | some h => h.data
        | none => []) 1 false) s1).modRound b fun y => { y with ctLevel := y.ctLevel.put 0 x (lv + 1) }
    else s.setRound b { r with held := held }

/-- Held chunks whose ciphertext can no longer be whole are retracted from stroke D_CLOSE + 1 on (08 R344). -/
def State.purgeHeld (s : State) (b g : Nat) : State :=
  let r := s.round b
  let span := max 1 (s.roundKey r).span
  if !r.d.glwe ∨ s.stroke.now ≤ r.d.dClose then s
  else
    let lost := r.held.filter fun h => decide (h.rig = g) &&
      !((ctChunks span (h.chunk / span)).all fun c => (r.entry h.slot).has c && !r.retractions.contains (h.slot, c))
    lost.foldl (fun t h => t.retractOrPoison b h.slot h.chunk h.data)
      (s.setRound b { r with held := r.held.filter fun h => !lost.contains h })

/-- One item consumed by ingress rig `g` of a round. -/
def State.ingressItem (s : State) (b g : Nat) (it : QItem) : State :=
  let r := s.round b
  let e := it.stream
  let slot := leAt e 8 4
  let chunk := leAt e 0xC 4
  let ws := s.payloadWords r e
  if r.d.glwe then s.glweChunk b g slot chunk ws it.hasBad
  else if it.hasBad then s.retractOrPoison b slot chunk ws
  else s.addChunk b chunk ws 1 false

/-- The ingress rigs of a round in a stroke that commits (R261); a faulted and paused rig consumes nothing. -/
def State.ingressWork (s : State) (b : Nat) : State :=
  let r := s.round b
  (List.range r.ingress.length).foldl (fun t g =>
    let paused := match r.ingressRigs[g]? with
      | some id => (match t.rig? id with
        | some x => !x.running
        | none => true)
      | none => true
    match r.ingress[g]? with
    | some n => if paused then t else (t.consume n fun u i => u.ingressItem b g i).purgeHeld b g
    | none => t) s

/-! ### Setup (01 R47) -/

/-- One sealed rig of a round, placed on an Ashlar of its own. -/
def State.placeSealed (s : State) (b x : Nat) : Option (Nat × State) :=
  let id := ((List.range 65536).find? fun i => (s.rig? i).isNone).getD 0
  if x ≥ 4800 ∨ (s.rigOn x).isSome ∨ (s.ashlar x).withdrawn then none
  else
    let m := ~~~(s.ashlar x).fence
    let a : RigAshlar := { useMask := m, freeMask := m, seqFirst := 0, place := some x, freeAt := positions m }
    some (id, s.setRig id { sealed := true, symAllow := 1, ashlars := [a], round := some b })

/-- Rigs on a list of Ashlars. -/
def State.placeSealedAll (s : State) (b : Nat) (l : List Nat) : Option (List Nat × State) :=
  l.foldlM (fun (a : List Nat × State) x => do
    let y ← a.2.placeSealed b x
    some (a.1 ++ [y.1], y.2)) ([], s)

/-- Tamrik registers its key over the accumulator area of a crew round (12 R475). -/
def State.tamrikKey (s : State) (r : Round) (len : Nat) : State :=
  if !r.crew then s
  else match (List.range 1048576).reverse.find? fun i => decide (i ≠ 0) && !(s.net.halyard.keys.get {} i).live with
    | none => s
    | some i =>
      let k := s.net.halyard.keys.get {} i
      let k1 : RKey := {
        live := true, used := true, gen := if k.used then (k.gen + 1) % 256 else s.net.halyard.genBase % 256, pd := 4095, remoteAcc := true,
        start := r.accBase, len := len, vaBase := r.accBase, tamrik := true }
      { s with net := { s.net with halyard := { s.net.halyard with keys := s.net.halyard.keys.put {} i k1 } } }

/-- Keys that satisfy `p` are deregistered: their generation is stale (12 R475). -/
def State.dropKeys (s : State) (p : RKey → Bool) : State :=
  { s with net := { s.net with halyard := { s.net.halyard with
    keys := s.net.halyard.keys.map fun e => if e.2.live && p e.2 then (e.1, { e.2 with live := false }) else e } } }

/-- The queues, rigs, roster and key pair of a round whose descriptor is sound. RING_LOG 14 stands for the rings
the manual gives no size. -/
def State.setupRound (s : State) (b : Nat) (ingress work : List Nat) : Option State := do
  let r := s.round b
  let q1 ← s.takeQueues 14 ingress.length .rig
  let q2 ← q1.2.takeQueue 22 .unit
  let q3 ← q2.2.takeQueue 14 .rig
  let q4 ← q3.2.takeQueue 14 .rig
  let g1 ← q4.2.placeSealedAll b ingress
  let g2 ← g1.2.placeSealedAll b work
  let k := g2.2.draw
  let priv := toLe 32 (k.1 % 2 ^ 256)
  let s1 := k.2.setRound b { r.initRoster with
    setup := true, setupAt := s.stroke.now, ingress := q1.1, envQueue := some q2.1, maskQueues := [q3.1], noiseQueue := some q4.1,
    ingressRigs := g1.1, workRigs := g2.1, keyPriv := some priv, rpk := x25519 priv x25519Base }
  some ((s1.tamrikKey r (areaBytes r.d.chunks r.size)).setReg .muster 0 (blockOff b + 0x38) (BitVec.ofNat 32 ingress.length))

/-- ROUND_SETUP_COMPLETE: Tamrik places the round's sealed rigs on Ashlars of its choice, one ingress rig to each
ingress queue; a descriptor that breaks R29, R30 or its count faults the round instead (R46). -/
def execRoundSetupComplete (b : Nat) (ingress work : List Nat) (s : State) : Res :=
  if b ≥ 16 then .fault .noUnit
  else if ingress.isEmpty ∨ ingress.length > 1024 then .fault .badEvent
  else
    let r := s.round b
    if r.state ≠ .open ∨ r.setup ∨ s.stroke.now ≤ r.openAt then .next s
    else if !r.descriptorOk then .next (s.raise b 1)
    else match s.setupRound b ingress work with
      | none => .next s
      | some t => .next t

/-! ### State transitions (01 R45 to R56) -/

/-- Enters a state: STATE_CHANGE latches (06 R272). -/
def State.enterState (s : State) (b : Nat) (f : Round → Round) : State := (s.modRound b f).latchEvt .muster 0 1

/-- Tamrik's key of the round's accumulator area is deregistered (12 R475). -/
def State.dropTamrikKey (s : State) (r : Round) : State := s.dropKeys fun k => k.tamrik && decide (k.start = r.accBase)

/-- The round faults (R46, R55, 07 R299). -/
def State.faultRound (s : State) (b reason : Nat) : State :=
  let r := s.round b
  let now := s.stroke.now
  let s1 := (s.discardEnvs b).flushFeeds b
  let s2 := s1.modRound b fun x => { x.destroyKey.zeroise with
    state := .faulted, reason := reason, reasons := [], abortNow := false, dropPend := [], held := [],
    leftCollect := if r.state = .collect then some now else x.leftCollect,
    leftRecover := if r.state = .recover then some now else x.leftRecover }
  ((s2.dropTamrikKey r).latchEvt .muster 0 1).latchEvt .muster 0 16

/-- The release checks of R68: counts against count words, the floor, every cancellation committed. -/
def State.releaseOk (s : State) (b : Nat) : Bool :=
  let r := s.round b
  r.cancelDone && r.noiseOk && r.owned.all fun c =>
    let n := r.counts.get 0 c
    decide (ofLe (memRead s.mem (r.accAt c + countWordOff) 8) = n) && decide (r.d.floor ≤ n)

/-- The round enters RELEASE: the private key is destroyed, the result area retagged OPEN (07 R303, R726). -/
def State.releaseRound (s : State) (b : Nat) : State :=
  let r := s.round b
  let s1 := s.discardEnvs b
  let s2 := s1.enterState b fun x => { x.destroyKey with state := .release, leftRecover := some s.stroke.now }
  let s3 : State := { s2 with fabric := { s2.fabric with
    areas := s2.fabric.areas.map fun a => if a.owner = .round b ∧ a.base = r.resBase then { a with tag := 1 } else a } }
  s3.dropTamrikKey r

/-- Ranges that overlap. -/
def overlaps (a n b m : Nat) : Bool := decide (a < b + m) && decide (b < a + n)

/-- The round retires: everything it holds is wiped and freed (R55, 06 R243, 07 R726). -/
def State.retireRound (s : State) (b : Nat) : State :=
  let r := s.round b
  let n := areaBytes r.d.chunks r.size
  let s1 := (r.ingressRigs ++ r.workRigs).foldl (fun t id => t.unloadRig id) s
  let s2 := (r.ingress ++ r.maskQueues ++ r.noiseQueue.toList ++ r.envQueue.toList).foldl (fun t q => t.freeQueue q) s1
  let s3 := (s2.fabric.areas.filter fun a => decide (a.owner = .round b)).foldl (fun t a => t.zeroRange a.base a.len) s2
  let s4 := (s3.dropAreas fun a => decide (a.owner = .round b)).dropKeys fun k => overlaps k.start k.len r.resBase n && !k.host
  let s5 : State := { s4 with
    fabric := { s4.fabric with rigs := s4.fabric.rigs.map fun e =>
      (e.1, { e.2 with regions := e.2.regions.map fun g => if overlaps g.base g.len r.resBase n then { g with len := 0 } else g }) }
    rounds := { s4.rounds with
      binds := s4.rounds.binds.map fun e => if e.2.round = some b then (e.1, { e.2 with round := none }) else e
      ended := s4.rounds.ended.filter fun e => decide (e.2.round ≠ some b) } }
  let s6 := ((s.rounds.ended.filter fun e => decide (e.2.round = some b)).foldl (fun t e => t.freeQueue e.2.landing) s5).setReg
    .muster 0 (blockOff b + 0xC) (BitVec.ofNat 32 r.minCount)
  (s6.zeroiseSlots fun _ k => decide (k.round = r.id) && decide (r.id ≠ 0)).enterState b fun x => {
    state := .retired, id := x.id, crew := x.crew, published := x.published, keyDestroyed := x.keyDestroyed, reason := 0,
    envAccepted := x.envAccepted, secretsNeeded := x.secretsNeeded, secretsDone := x.secretsDone,
    unreachable := x.unreachable, mismatch := x.mismatch }

/-- A retire command for the block takes effect at this commit (R45). -/
def State.retireDue (s : State) (b : Nat) : Bool :=
  s.muster.busy && s.muster.op = 4 && decide (s.muster.eff ≤ s.stroke.now) && decide (s.muster.sub = b) && s.muster.staged = 0

/-- Applies a drop list (06 R253): the round after it, and how many entries were skipped. -/
def Round.applyDrops (r : Round) (stroke : Nat) (l : List Nat) : Round × Nat :=
  l.foldl (fun a slot =>
    let e := a.1.entry slot
    if slot < a.1.d.slots ∧ e.estate = .enrolled then (a.1.setEntry slot (e.drop stroke), a.2) else (a.1, a.2 + 1)) (r, 0)

/-- The drop marks of this commit: the tenant's, and in a crew the leader's (R253, R264). -/
def State.dropMarks (s : State) (b : Nat) : State :=
  let r := s.round b
  let now := s.stroke.now
  let due := (r.dropPend.filter fun e => decide (e.1 ≤ now)).map (·.2) ++
    (r.decisions.filter fun d => decide (d.kind = 1) && d.whole && !d.applied && decide (d.named = now)).map (·.slots)
  due.foldl (fun t l =>
    let x := (t.round b).applyDrops now l
    let n := l.length - x.2
    let t1 := (t.setRound b x.1).bumpBy .muster 0 (blockOff b + 0x20) n
    if t1.muster.busy ∧ t1.muster.op = 2 ∧ t1.muster.sub = b ∧ t1.muster.eff ≤ now ∧ t1.muster.staged = 0 then
      { t1 with muster := { t1.muster with result := x.2 } }
    else t1) (s.setRound b { r with
      dropPend := r.dropPend.filter fun e => decide (e.1 > now)
      decisions := r.decisions.map fun d => if d.kind = 1 ∧ d.whole ∧ d.named = now then { d with applied := true } else d })

/-- The classification at the commit of D_CLOSE (R49, 06 R255). -/
def State.classify (s : State) (b : Nat) : State :=
  s.modRound b fun r => { r with roster := r.roster.map fun e => (e.1, e.2.classify r.d.chunks r.d.late s.stroke.now) }

/-- Every other member's counts and statuses have arrived (06 R263). -/
def State.crewComplete (s : State) (r : Round) : Bool :=
  !r.crew || s.otherPositions.all fun p => r.countsFrom.contains p && r.statusFrom.contains p

/-- The outcome table is published (06 R259): statuses, and the block's totals over the whole table. -/
def State.publish (s : State) (b : Nat) : State :=
  let s1 := s.modRound b fun r => { r with
    published := true, roster := r.roster.map fun e => (e.1, { e.2 with outcome := e.2.status r.d.chunks }) }
  let r := s1.round b
  let st := (List.range r.d.slots).map r.statusOf
  let n (k : Nat) : W32 := BitVec.ofNat 32 (st.filter (· = k)).length
  (((s1.setReg .muster 0 (blockOff b + 0x24) (n 1)).setReg .muster 0 (blockOff b + 0x28) (n 2)).setReg .muster 0
    (blockOff b + 0x2C) (n 3)).setReg .muster 0 (blockOff b + 0x30) (n 4)

/-- What Muster does at cycle 2,042 of a commit for one round. -/
def State.rosterStep (s : State) (b : Nat) : State :=
  let r := s.round b
  let now := s.stroke.now
  if !r.state.working then s
  else
    let s1 := s.dropMarks b
    let s2 := if r.state = .collect ∧ now = r.d.dClose then s1.classify b else s1
    if r.state = .close ∧ now = r.d.dClose + 1024 then
      if !s2.crewComplete (s2.round b) then s2.raise b 7
      else
        let s3 := s2.publish b
        if (s3.round b).minCount < r.d.floor ∧ !r.owned.isEmpty then (s3.latchEvt .muster 0 8).raise b 3 else s3
    else s2

/-- A rig of the round is faulted or unplaced (R46 RIG_FAULT). -/
def State.roundRigFault (s : State) (r : Round) : Bool :=
  (r.ingressRigs ++ r.workRigs).any fun id => match s.rig? id with
    | some x => !x.running
    | none => true

/-- The accumulators of the round hold poisoned data (R46 POISON). -/
def State.roundPoisoned (s : State) (r : Round) : Bool :=
  let n := areaBytes r.d.chunks r.size
  s.rangeBad r.accBase n || s.rangeBad r.resBase n

/-- The release of a round is due at this commit: alone, in the committed stroke in which its records stand; in
a crew, at the stroke the leader named (R45). -/
def State.releaseDue (s : State) (r : Round) (overran : Bool) : Bool :=
  r.state = .recover &&
  if r.crew then r.decisions.any fun d => decide (d.kind = 2 ∧ d.named ≤ s.stroke.now) else r.resultWritten && !overran

/-- The reasons that arise at this commit by the clock (R46). -/
def State.dueReasons (s : State) (r : Round) (overran : Bool) : List Nat :=
  let now := s.stroke.now
  let d := r.d
  let deadline := decide (now = d.dCollect ∨ now = d.dClose ∨ now = d.dClose + 1024 ∨ now = d.dRecover)
  let rel := s.releaseDue r overran
  (if r.state = .open ∧ now = d.dCollect ∧ !r.setup then [2] else []) ++
  (if r.state = .recover ∧ now = d.dRecover ∧ !rel then [4] else []) ++
  (if deadline ∧ s.roundRigFault r then [5] else []) ++
  (if now ≥ d.dClose + 1024 ∧ (r.state = .close ∨ r.state = .recover) ∧ s.roundPoisoned r then [6] else [])

/-- The deadline transition of a round at this commit, if one is due (R45). -/
def State.advance (s : State) (b : Nat) (overran : Bool) : State :=
  let r := s.round b
  let now := s.stroke.now
  match r.state with
  | .open => if now = r.d.dCollect then s.enterState b fun x => { x with state := .collect } else s
  | .collect => if now = r.d.dClose then s.enterState b fun x => { x with state := .close, leftCollect := some now } else s
  | .close => if now = r.d.dClose + 1024 then s.enterState b fun x => { x with state := .recover } else s
  | .recover =>
    if s.releaseDue r overran then (if s.releaseOk b then s.releaseRound b else s.faultRound b 9) else s
  | .release => if now = r.d.dRetire ∨ s.retireDue b then s.retireRound b else s
  | .faulted => if now = r.d.dRetire ∨ s.retireDue b then s.retireRound b else s
  | _ => s

/-- The FAULTED decision of a crew that takes effect at this commit (R59, R60). -/
def Round.crewFault (r : Round) (now : Nat) : Option Nat :=
  (r.decisions.find? fun d => decide (d.kind = 3 ∧ d.named ≤ now)).map (·.reason)

/-- The transition of one round at cycle 2,043 (R45, R46). -/
def State.roundStep (s : State) (b : Nat) (overran : Bool) : State :=
  let r0 := s.round b
  if !r0.state.working then s.advance b overran
  else if r0.abortNow then s.faultRound b 8
  else match r0.crewFault s.stroke.now with
    | some reason => s.faultRound b reason
    | none =>
      let s1 := (s.dueReasons r0 overran).foldl (fun t x => t.raise b x) s
      match minOf (s1.round b).reasons with
      | some x => s1.faultRound b x
      | none => s1.advance b overran

/-- ABORT and RETIRE are judged at their commit before its transitions (R269); ABORT takes effect there, or is
named by a crew's leader (R264). -/
def State.musterJudge (s : State) : State :=
  let c := s.muster
  let r := s.round c.sub
  let arg := (c.args.getD 0 0).toNat
  if !c.busy ∨ c.ready ∨ c.eff > s.stroke.now ∨ ¬(c.op = 3 ∨ c.op = 4) then s
  else
    let o :=
      if !s.claimedNow then 0x16
      else if arg ≠ 0 then 0x13
      else if r.state = .none ∨ r.state = .retired then 0x10
      else if c.op = 3 ∧ r.crew ∧ !s.isLeader then 0x12
      else if c.op = 3 then (if r.state.working then 0 else 0x11)
      else if r.state = .release ∨ r.state = .faulted then 0 else 0x11
    let s1 : State := { s with muster := { c with staged := o, ready := true } }
    if c.op = 3 ∧ o = 0 then
      if r.crew then s1.nameDecision c.sub { kind := 3, reason := 8, count := 0, named := s.stroke.now + 64 }
      else s1.modRound c.sub fun x => { x with abortNow := true }
    else if c.op = 3 ∧ o = 0x11 then s1.pageError .muster 0 0x4C 4 (BitVec.ofNat 32 (3 + 16 * c.sub))
    else s1

/-- The counters of a round block return to 0 (06 R271). -/
def State.clearBlock (s : State) (b : Nat) : State :=
  (List.range 13).foldl (fun t k => t.setReg .muster 0 (blockOff b + 0xC + 4 * k) 0) s

/-- An accepted OPEN takes effect (R33 to R35): the round enters OPEN in the lowest block that is free. -/
def State.musterOpen (s : State) : State :=
  let c := s.muster
  if !c.busy ∨ c.op ≠ 1 ∨ c.eff > s.stroke.now ∨ c.staged ≠ 0 then s
  else
    let d := parseDescr c.data
    let n := s.sizeFor d
    match (List.range 16).find? fun b => !(s.round b).state.live with
    | none => { s with muster := { c with staged := 6 } }
    | some b =>
      match s.allocRound b d n with
      | none => { s with muster := { c with staged := 7 } }
      | some (a, e, s1) =>
        let s2 := (s1.clearBlock b).enterState b fun _ => {
          state := .open, crew := decide (d.crewId ≠ 0), desc := c.data, descBad := c.bad, id := d.id, openAt := s.stroke.now,
          footprint := footprintOf d n, accBase := a, resBase := e, allocAt := s.stroke.now,
          pos := if d.crewId = 0 then 0 else s.net.hail.pos, size := n }
        let s3 : State := { s2 with
          rounds := { s2.rounds with highWater := s2.rounds.highWater.put 0 d.crewId d.id }
          muster := { c with sub := b } }
        if d.crewId ≠ 0 ∧ !s3.isLeader then s3.carry 0 0x14 d.id 32 [sha256 c.data] else s3

/-- The outcome of a MUSTER command at cycle 2,047 of its commit (R268, 00 R722); BIND and UNBIND act there. -/
def State.endMuster (s : State) : State :=
  let c := s.muster
  if !c.busy ∨ c.op = 7 ∨ c.eff > s.stroke.now then s
  else
    let arg := (c.args.getD 0 0).toNat
    let x : Nat × State := match c.op with
      | 5 => s.doBind arg c.sub
      | 6 => s.doUnbind arg
      | 1 => (c.staged, s)
      | 2 => (c.staged, s)
      | 3 => (c.staged, s)
      | 4 => (c.staged, s)
      | _ => (if s.claimedNow then 0x13 else 0x16, s)
    let res := if c.op = 2 ∧ x.1 = 0 then c.result else 0
    ({ x.2 with muster := { x.2.muster with busy := false, outcome := x.1, result := res } } : State).latchEvt .muster 0 2

/-- OUTCOME_COPY completes: the table is written, one byte per slot (06 R259). -/
def State.endCopy (s : State) : State :=
  let c := s.muster
  if !c.busy ∨ c.op ≠ 7 then s
  else
    let r := s.round c.sub
    let a := (c.args.getD 1 0).toNat + 2 ^ 32 * (c.args.getD 2 0).toNat
    let ok := c.staged = 0 && r.published && s.tenantRange a r.d.slots 1
    let s1 := if ok then s.writeBytes 7 a ((List.range r.d.slots).map fun k => BitVec.ofNat 8 (r.statusOf k)) else s
    let o := if c.staged ≠ 0 then c.staged else if ok then 0 else 0x11
    ({ s1 with muster := { c with busy := false, outcome := o, result := 0 } } : State).latchEvt .muster 0 2

/-! ### Commands that stand for one round's step of the current stroke's commit -/

/-- The roster and transition steps of one round, where it is at stroke `due` of its descriptor. -/
def roundDeadline (b : Nat) (due : Descr → Nat) (s : State) : Res :=
  if b ≥ 16 then .fault .noUnit
  else
    let r := s.round b
    if !r.state.live ∨ s.stroke.now ≠ due r.d then .next s
    else .next (((s.atCycle 2043).musterJudge.rosterStep b).roundStep b s.overran)

def execDCollect (b : Nat) (s : State) : Res := roundDeadline b (·.dCollect) s
def execDClose (b : Nat) (s : State) : Res := roundDeadline b (·.dClose) s
def execDClosePlus1024 (b : Nat) (s : State) : Res := roundDeadline b (fun d => d.dClose + 1024) s
def execDRecoverEnd (b : Nat) (s : State) : Res := roundDeadline b (·.dRecover) s
def execDRetire (b : Nat) (s : State) : Res := roundDeadline b (·.dRetire) s

/-- DECISION_APPLY: the held decisions of a round that are due at this stroke's commit (R59, R60). -/
def execDecisionApply (b : Nat) (s : State) : Res :=
  if b ≥ 16 then .fault .noUnit
  else
    let r := s.round b
    if !(r.decisions.any fun d => d.whole && !d.applied && decide (d.named ≤ s.stroke.now)) then .next s
    else .next (((s.atCycle 2043).musterJudge.rosterStep b).roundStep b s.overran)

/-- CREW_COUNT_EXCHANGE: counts to their owners, statuses, chunk sets and retractions to every member (R262, 07
R305). -/
def execCrewCountExchange (b : Nat) (s : State) : Res :=
  if b ≥ 16 then .fault .noUnit
  else
    let r := s.round b
    if !r.crew ∨ r.state ≠ .close ∨ r.exchanged ∨ s.stroke.now ≤ r.d.dClose + 511 then .next s
    else
      let home := r.homeSlots
      let st (k : Nat) := (r.entry k).status r.d.chunks
      let s1 := s.otherPositions.foldl (fun t p =>
        t.carry p 0x12 r.id 8 (((List.range r.d.chunks).filter fun c => decide (c % r.size = p)).map fun c =>
          toLe 4 c ++ toLe 4 (r.counts.get 0 c))) s
      let s2 := s1.carryAll 0x13 r.id 8 (home.map fun k => toLe 4 k ++ toLe 1 (st k) ++ toLe 3 0)
      let s3 := s2.carryAll 3 r.id 16 ((home.filter fun k => st k = 2 || st k = 3).map fun k =>
        toLe 4 k ++ toLe 4 (r.entry k).next ++ toLe 8 (r.entry k).window.toNat)
      let s4 := s3.carryAll 4 r.id 8 ((r.retractions.filter fun e => decide (e.1 % r.size = r.pos)).map fun e => toLe 4 e.1 ++ toLe 4 e.2)
      .next (s4.modRound b fun x => { x with exchanged := true })

end Sys2Proof.Machine
end

