-- ==== Sys2Proof/Machine/HalyardCmd.lean ====
section
/-!
DEFINITION. The commands of the HALYARD page (12 R464, R472 to R477, R499 to R505): each lands with its block in
HALYARD_ARGn and ends at its outcome instant (00 R722).
-/

namespace Sys2Proof.Machine

/-- HALYARD_ARG0 to HALYARD_ARG15 as one block (R501). -/
def State.halyardBlock (s : State) : List W32 := (List.range 16).map fun k => s.reg .halyard 0 (0x80 + 4 * k)

/-- The block as a number, little-endian. -/
def blockNat (l : List W32) : Nat := l.foldr (fun w n => w.toNat + 2 ^ 32 * n) 0

/-- A write of HALYARD_CMD lands (R501): while one is in progress it is ignored and counted. -/
def State.landHalyard (s : State) (op : Nat) : State :=
  if s.halyardCmd.busy then s.pageError .halyard 0 0x40 3 (BitVec.ofNat 32 op)
  else { s with halyardCmd := { s.halyardCmd with busy := true, op := op, args := s.halyardBlock } }

/-- A HALYARD command row. -/
def halyardCommand (op : Nat) (s : State) : Res := .next (s.onPage .halyard 0 0x40 (BitVec.ofNat 32 op) fun t => t.landHalyard op)

def execHyQpCreate (s : State) : Res := halyardCommand 1 s
def execHyQpModify (s : State) : Res := halyardCommand 2 s
def execHyQpDestroy (s : State) : Res := halyardCommand 3 s
def execHyQpQuery (s : State) : Res := halyardCommand 4 s
def execHyRegister (s : State) : Res := halyardCommand 5 s
def execHyDeregister (s : State) : Res := halyardCommand 6 s
def execHyPdAlloc (s : State) : Res := halyardCommand 7 s
def execHyPdFree (s : State) : Res := halyardCommand 8 s
def execHyOdpResolve (s : State) : Res := halyardCommand 9 s
def execHyOdpInvalidate (s : State) : Res := halyardCommand 10 s
def execHyGidSet (s : State) : Res := halyardCommand 11 s

/-! ### The attribute block (R503) -/

/-- Listed fields of the attribute block, as lowest bit and width. -/
def attrFields : List (Nat × Nat) :=
  [(0, 24), (32, 30), (64, 12), (80, 14), (96, 14), (112, 14), (128, 21), (160, 32), (192, 24), (224, 24), (256, 128),
   (384, 48), (432, 12), (448, 32), (480, 30)]

/-- Mask of fields. -/
def fieldMask (l : List (Nat × Nat)) : Nat := l.foldl (fun m f => m ||| (2 ^ f.2 - 1) <<< f.1) 0

/-- Fields that a transition applies (R464). -/
def toInit : List (Nat × Nat) := [(64, 12), (80, 14), (96, 14), (112, 14), (128, 21), (39, 3), (36, 1), (37, 1)]
def destFields : List (Nat × Nat) := [(160, 24), (256, 128), (384, 48), (432, 12), (184, 8)]
def toRtr : List (Nat × Nat) := destFields ++ [(42, 4), (59, 3), (224, 24), (503, 7), (491, 5)]
def toRts : List (Nat × Nat) := [(192, 24), (480, 5), (485, 3), (488, 3), (496, 7)]
/-- RTS to RTS: the timers are ACK_TIMEOUT and MIN_RNR_TIMER (DEDUCED). -/
def rtsRts : List (Nat × Nat) := [(480, 5), (491, 5), (46, 3), (49, 6), (38, 1), (55, 4)]

/-- The fields listed for a request from `q` to state code `tgt`. -/
def modifyFields (q : Qp) (tgt : Nat) : List (Nat × Nat) :=
  match tgt with
  | 1 => toInit
  | 2 => if q.ud then (448, 32) :: toRtr else toRtr
  | 3 => if q.state = .rts then rtsRts ++ (if q.ud then destFields else []) else toRts
  | _ => []

/-- The attributes after a request has applied its fields. -/
def mergeAttr (old : BitVec 512) (blk : Nat) (l : List (Nat × Nat)) : BitVec 512 :=
  let m := BitVec.ofNat 512 (fieldMask l)
  (old &&& ~~~m) ||| (BitVec.ofNat 512 blk &&& m)

/-- A field of the block breaks its range for the transition to `tgt` of `q` (R502, R503, R494); `q` holds the
attributes as the request would apply them, `from` was its state. -/
def modifyMalformed (q : Qp) (tgt blk : Nat) (wasRts : Bool) : Bool :=
  blk &&& (2 ^ 512 - 1 - fieldMask attrFields) != 0 || decide (tgt > 4) ||
  match tgt with
  | 1 => decide (q.maxMsg = 0 ∨ q.maxMsg > 1572864) || (q.ud && q.ext) || (q.spray && !q.ext)
  | 2 => decide (q.field 59 3 = 0 ∨ q.field 59 3 > 5) || decide (q.respDepth = 0 ∨ q.respDepth > 64) ||
      (!q.ud && decide (bits blk 448 32 ≠ 0))
  | 3 => (!wasRts && decide (q.initDepth = 0 ∨ q.initDepth > 64)) || (q.spray && decide (q.ackTimeout < 7))
  | _ => false

/-- A QPN names one of Tamrik's reliable-connected indices (R463). -/
def tamrikQpn (qpn : Nat) : Bool :=
  decide (qpn % 2 ^ 16 ≥ 0xFF00) && decide (qpn / 2 ^ 16 % 256 ≠ 0) && decide (qpn / 2 ^ 16 % 256 ≠ 255)

/-- The transition is one of R464. -/
def transitionOk (a : QpState) (tgt : Nat) : Bool :=
  match tgt with
  | 0 => a = .error || a = .init || a = .rtr
  | 1 => a = .reset
  | 2 => a = .init
  | 3 => a = .rtr || a = .rts
  | 4 => true
  | _ => false

/-- Queue pairs in use, by slot. -/
def State.liveQps (s : State) : List (Nat × Qp) := s.halyard.qps.filter fun e => e.2.live

/-- Queue pairs that hold attributes: not in RESET. -/
def State.usedQps (s : State) : List (Nat × Qp) := s.liveQps.filter fun e => decide (e.2.state ≠ .reset)

/-- RESP_DEPTH of the queue pairs in RTR or RTS (R488). -/
def State.respTotal (s : State) : Nat :=
  s.liveQps.foldl (fun n e => if e.2.state = .rtr ∨ e.2.state = .rts then n + e.2.respDepth else n) 0

/-- MAX_MSG is at most the path MTU that the block gives (R465). -/
def Qp.small (q : Qp) : Bool := decide (1 ≤ q.field 59 3) && decide (q.maxMsg ≤ q.pmtu)

/-- The queues of a request into INIT break R465: an SQ that has a consumer, or an RQ that may not be shared. -/
def State.queuesInUse (s : State) (i : Nat) (q : Qp) : Bool :=
  let others := s.usedQps.filter fun e => e.2.bound && decide (e.1 ≠ i)
  let sharing := others.filter fun e => decide (e.2.rq = q.rq)
  others.any (fun e => decide (e.2.sq = q.sq)) || decide ((s.queue q.sq).consumer ≠ .none) ||
  (!sharing.isEmpty && !(q.small && sharing.all fun e => e.2.small))

/-- QP_MODIFY's outcome (R502), with the attributes it would apply. -/
def State.modifyOutcome (s : State) (blk : Nat) : Nat :=
  let qpn := bits blk 0 24
  let tgt := bits blk 32 3
  let x := s.qpOf qpn
  let q0 := (x.map (·.2)).getD {}
  let q1 := { q0 with attr := mergeAttr q0.attr blk (modifyFields q0 tgt) }
  if modifyMalformed q1 tgt blk (q0.state = .rts) then 1
  else if tamrikQpn qpn ∨ (tgt = 1 ∧ q1.pd = 4095) then 5
  else if x.isNone ∨ (tgt = 1 ∧ !s.halyard.pds.contains q1.pd) then 3
  else if !transitionOk q0.state tgt then 4
  else if tgt = 2 ∧ s.respTotal + q1.respDepth > 65536 then 2
  else if tgt = 1 ∧ ([q1.sq, q1.cq, q1.rq].any fun n => decide ((s.queue n).owner ≠ .tenant)) then 5
  else if tgt = 1 ∧ s.queuesInUse ((x.map (·.1)).getD 0) { q1 with attr := mergeAttr q1.attr blk [(59, 3)] } then 6
  else 0

/-- The attributes a queue pair keeps in RESET: its TYPE. -/
def Qp.cleared (q : Qp) : Qp :=
  { live := q.live, epoch := q.epoch, attr := q.attr &&& BitVec.ofNat 512 (2 ^ 35) }

/-- QP_MODIFY's effect (R464, R478): into RTR the expected PSN, into RTS the first PSN sent. -/
def State.modifyQp (s : State) (blk : Nat) : State :=
  match s.qpOf (bits blk 0 24) with
  | none => s
  | some (i, q) =>
    let tgt := bits blk 32 3
    let q1 := { q with attr := mergeAttr q.attr blk (modifyFields q tgt) }
    match tgt with
    | 0 => (s.bindQp q false).setQp i q.cleared
    | 1 =>
      -- The path MTU of the block serves the sharing rule of R465 until RTR applies it.
      let q2 : Qp := { q1 with state := .init, attr := mergeAttr q1.attr blk [(59, 3)] }
      (s.setQp i q2).bindQp q2 true
    | 2 => s.setQp i { q1 with state := .rtr, expPsn := q1.rqPsn, nakSent := false }
    | 3 => s.setQp i (if q.state = .rts then q1 else { q1 with state := .rts, nextPsn := q1.sqPsn, una := q1.sqPsn })
    | _ => s.qpError i 0xFE

/-- The lowest index of a type that names no queue pair (R503). -/
def State.freeQp (s : State) (ud : Bool) : Option Nat :=
  if ud then ((List.range 1024).find? fun i => !(s.qp (65536 + i)).live).map (65536 + ·)
  else (List.range 0xFF00).find? fun i => !(s.qp i).live

/-- QP_CREATE (R462, R503): outcome, result and effect. -/
def State.createQp (s : State) (blk : Nat) : Nat × Nat × State :=
  if blk &&& (2 ^ 512 - 1 - fieldMask attrFields) ≠ 0 then (1, 0, s)
  else
    let ud := blk.testBit 35
    match s.freeQp ud with
    | none => (2, 0, s)
    | some i =>
      let e := (s.qp i).epoch
      let q : Qp := {
        live := true, epoch := if ud then 0xFF else if e = 0 then s.halyard.epochBase % 0xFE + 1 else e % 0xFE + 1
        attr := if ud then BitVec.ofNat 512 (2 ^ 35) else 0 }
      (0, q.qpn i, s.setQp i q)

/-- Muster holds a binding or role on the queue pair (06 R242, R243). -/
def State.musterHolds (s : State) (i : Nat) : Bool :=
  (s.rounds.binds.any fun e => decide (e.1 = i)) || s.rounds.ended.any fun e => decide (e.1 = i)

/-- A queue pair is destroyed through ERROR; its epoch stays (R462, R464). -/
def State.destroyQp (s : State) (i : Nat) : State :=
  let s1 := s.qpError i 0xFE
  let q := s1.qp i
  (s1.bindQp q false).setQp i { epoch := q.epoch }

/-- The block that QP_QUERY writes back: the attributes with QPN, STATE and TYPE. -/
def Qp.queryBlock (q : Qp) (i : Nat) : Nat :=
  (mergeAttr q.attr (q.qpn i + 2 ^ 32 * q.state.code) [(0, 24), (32, 3)]).toNat

/-- Writes a block into HALYARD_ARGn. -/
def State.writeArgs (s : State) (blk : Nat) : State :=
  (List.range 16).foldl (fun t k => t.setReg .halyard 0 (0x80 + 4 * k) (BitVec.ofNat 32 (blk / 2 ^ (32 * k)))) s

/-! ### Keys and protection domains (R472 to R475) -/

/-- `n` bytes at `a` lie wholly in OPEN regions that the tenant holds, which may adjoin; `fuel` bounds the regions. -/
def State.openCover (fuel : Nat) (s : State) (a n : Nat) : Bool :=
  match fuel with
  | 0 => false
  | f + 1 =>
    match s.fabric.areas.find? fun r => r.tenantHeld && decide (r.tag = 1 ∧ r.base ≤ a ∧ a < r.base + r.len) with
    | none => false
    | some r => decide (a + n ≤ r.base + r.len) || State.openCover f s (r.base + r.len) (a + n - (r.base + r.len))

/-- A region block breaks a range of R474 or R475. -/
def regionMalformed (blk : Nat) : Bool :=
  let host := bits blk 44 1 = 1
  let len := bits blk 128 64
  let start := bits blk 64 64
  decide (bits blk 50 14 ≠ 0) || decide (bits blk 320 192 ≠ 0) || decide (len = 0 ∨ len > 2 ^ 40) ||
  (bits blk 48 1 = 1 && bits blk 49 1 = 1) || (host && (bits blk 48 1 = 1 || bits blk 49 1 = 1)) ||
  (host && decide (start % 4096 ≠ 0)) || (!host && decide (bits blk 256 64 ≠ 0)) ||
  decide (bits blk 192 64 + len > 2 ^ 64) || decide (start + len > 2 ^ 64)

/-- REGISTER: outcome, key and effect. -/
def State.registerKey (s : State) (blk : Nat) : Nat × Nat × State :=
  let pd := bits blk 32 12
  let host := bits blk 44 1 = 1
  let start := bits blk 64 64
  let len := bits blk 128 64
  if regionMalformed blk then (1, 0, s)
  else if pd = 4095 then (5, 0, s)
  else if !s.halyard.pds.contains pd then (3, 0, s)
  else match (List.range 1048576).find? fun i => decide (i ≠ 0) && !(s.rkey i).live with
    | none => (2, 0, s)
    | some i =>
      if !host && !State.openCover (s.fabric.areas.length + 1) s start len then (5, 0, s)
      else
        let k := s.rkey i
        let k1 : RKey := {
          live := true, used := true, gen := if k.used then (k.gen + 1) % 256 else s.halyard.genBase % 256, pd := pd, host := host
          localWrite := bits blk 45 1 = 1, remoteRead := bits blk 46 1 = 1, remoteWrite := bits blk 47 1 = 1
          remoteAtomic := bits blk 48 1 = 1, remoteAcc := bits blk 49 1 = 1
          start := start, len := len, vaBase := bits blk 192 64, table := bits blk 256 64 }
        (0, 256 * i + k1.gen, s.setHalyard { s.halyard with keys := s.halyard.keys.put {} i k1 })

/-- The live key a handle names, with its generation. -/
def State.keyOf (s : State) (key : Nat) : Option (Nat × RKey) :=
  let i := key / 256
  let k := s.rkey i
  if i ≠ 0 ∧ i ≤ 1048575 ∧ k.live ∧ k.gen = key % 256 then some (i, k) else none

/-- An operation on the key is unfinished (R475). -/
def State.keyBusy (s : State) (key : Nat) : Bool :=
  (s.liveQps.any fun e =>
    (e.2.sent.any fun r => r.done.isNone && decide (r.lkey = key)) ||
    (match e.2.rx with
      | some m => decide (m.kind ≠ 0 ∧ m.key = key)
      | none => false) ||
    (match e.2.stall with
      | some x => decide (x.key = key)
      | none => false)) ||
  s.halyard.spray.any fun c => !c.full && decide (c.key = key)

/-- DEREGISTER: outcome and effect. -/
def State.deregister (s : State) (key : Nat) : Nat × State :=
  match s.keyOf key with
  | none => (3, s)
  | some (i, k) =>
    if k.tamrik then (5, s)
    else if s.keyBusy key then (6, s)
    else (0, s.setHalyard { s.halyard with
      keys := s.halyard.keys.put {} i { k with live := false }
      cache := s.halyard.cache.filter fun c => decide (c.1 ≠ key) })

/-- A queue pair or key names the domain (R472). -/
def State.pdInUse (s : State) (pd : Nat) : Bool :=
  (s.usedQps.any fun e => decide (e.2.pd = pd)) || s.halyard.keys.any fun e => e.2.live && decide (e.2.pd = pd)

/-- PD_FREE: outcome and effect. -/
def State.pdFree (s : State) (w : Nat) : Nat × State :=
  if w > 4095 then (1, s)
  else if w = 4095 then (5, s)
  else if !s.halyard.pds.contains w then (3, s)
  else if s.pdInUse w then (6, s)
  else (0, s.setHalyard { s.halyard with pds := s.halyard.pds.erase w })

/-! ### On-demand residency commands (R477) -/

/-- ODP_RESOLVE: the queue pairs stalled on the page resume. -/
def State.odpResolve (s : State) (key page : Nat) : Nat × State :=
  match s.keyOf key with
  | none => (3, s)
  | some _ => (0, s.setHalyard { s.halyard with qps := s.halyard.qps.map fun e =>
      match e.2.stall with
      | some x => if x.key = key ∧ x.page = page then (e.1, { e.2 with stall := none }) else e
      | none => e })

/-- ODP_INVALIDATE: the cached translations of the pages are dropped. -/
def State.odpInvalidate (s : State) (key page n : Nat) : Nat × State :=
  if n = 0 ∨ n > 65536 ∨ page % 4096 ≠ 0 then (1, s)
  else match s.keyOf key with
    | none => (3, s)
    | some _ => (0, s.setHalyard { s.halyard with
        cache := s.halyard.cache.filter fun c => !(decide (c.1 = key ∧ page ≤ c.2.1 ∧ c.2.1 < page + 4096 * n)) })

/-- GID_SET: outcome and effect. -/
def State.gidSet (s : State) (blk : Nat) : Nat × State :=
  let i := bits blk 4 4
  if i = 0 ∨ bits blk 3 1 ≠ 0 ∨ bits blk 10 22 ≠ 0 then (1, s)
  else
    let k := 16 * bits blk 0 3 + i
    let e : Bool × Nat := (decide (bits blk 9 1 = 1), bits blk 128 128)
    (0, s.setHalyard { s.halyard with
      gids := if bits blk 8 1 = 1 then s.halyard.gids.insertAt k e else s.halyard.gids.erase k })

/-! ### The outcome instant -/

/-- Outcome, result and effect of a HALYARD command (R502). -/
def State.halyardEffect (s : State) (op blk : Nat) : Nat × Nat × State :=
  match op with
  | 1 => s.createQp blk
  | 2 => let o := s.modifyOutcome blk; (o, 0, if o = 0 then s.modifyQp blk else s)
  | 3 =>
    if bits blk 24 8 ≠ 0 then (1, 0, s)
    else if tamrikQpn (bits blk 0 24) then (5, 0, s)
    else match s.qpOf (bits blk 0 24) with
      | none => (3, 0, s)
      | some (i, _) => if s.musterHolds i then (6, 0, s) else (0, 0, s.destroyQp i)
  | 4 =>
    if blk &&& (2 ^ 512 - 1 - fieldMask attrFields) ≠ 0 then (1, 0, s)
    else if tamrikQpn (bits blk 0 24) then (5, 0, s)
    else match s.qpOf (bits blk 0 24) with
      | none => (3, 0, s)
      | some (i, q) => (0, 0, s.writeArgs (q.queryBlock i))
  | 5 => s.registerKey blk
  | 6 => let x := s.deregister (bits blk 0 32); (x.1, 0, x.2)
  | 7 =>
    match (List.range 4095).find? fun p => !s.halyard.pds.contains p with
    | none => (2, 0, s)
    | some p => (0, p, s.setHalyard { s.halyard with pds := s.halyard.pds ++ [p] })
  | 8 => let x := s.pdFree (bits blk 0 32); (x.1, 0, x.2)
  | 9 => let x := s.odpResolve (bits blk 0 32) (bits blk 64 64); (x.1, 0, x.2)
  | 10 => let x := s.odpInvalidate (bits blk 0 32) (bits blk 64 64) (bits blk 128 32); (x.1, 0, x.2)
  | 11 => let x := s.gidSet blk; (x.1, 0, x.2)
  | _ => (1, 0, s)

/-- The outcome instant of a HALYARD command: outcome and result are set, BUSY falls, CMD_DONE latches. -/
def State.endHalyard (s : State) : State :=
  let c := s.halyardCmd
  if !c.busy then s
  else
    let x := s.halyardEffect c.op (blockNat c.args)
    ({ x.2.2 with halyardCmd := { c with busy := false, outcome := x.1, result := x.2.1 } } : State).latchEvt .halyard 0 1

/-- A write of HALYARD_ODP_POP removes the oldest fault record (R505). -/
def State.odpPop (s : State) : State := s.setHalyard { s.halyard with odp := s.halyard.odp.drop 1 }

def execHyOdpPop (s : State) : Res := .next (s.onPage .halyard 0 0x110 1 fun t => t.odpPop)

/-- 64 µs pass with no ODP_RESOLVE for the page a queue pair stalls on (R477). -/
def State.odpTimeout (s : State) (i : Nat) : State :=
  match (s.qp i).stall with
  | none => s
  | some x =>
    let s1 := ((s.modQp i fun q => { q with stall := none }).bump .halyard 0 0x184).latchEvt .halyard 0 8
    if x.resp then s1.nakError i x.psn 2
    else if (s1.qp i).sent.any fun r => r.done.isNone && decide (r.first = x.psn) then s1.endReq i x.psn 5
    else match s1.headWr (s1.qp i).sq with
      | some it => let w := wrWords it; (s1.takeWr (s1.qp i).sq).failWr i w.1 w.2 5
      | none => s1

def execHyOdpTimeout (i : Nat) (s : State) : Res :=
  if i ≥ 66560 then .fault .noUnit else .next (s.odpTimeout i)

end Sys2Proof.Machine
end

