-- ==== Sys2Proof/Machine/HalyardReq.lean ====
section
/-!
DEFINITION. Halyard as requester (12 R468 to R471, R486, R488, R494, R498): work requests, responses, timers and
rates. Addresses of packets on the wire are in the fields of `Out.rdma`; headers that no rule gives a value are left
out.
-/

namespace Sys2Proof.Machine

/-! ### Packets of a request -/

/-- What a request puts on the wire (R459, R489): 0 Send, 1 Write, 2 Read, 3 Fetch-Add, 4 Compare-Swap,
5 Accumulate-Write. -/
def reqKind (op : Nat) : Nat :=
  match op with
  | 0 => 0 | 1 => 0 | 2 => 1 | 3 => 1 | 4 => 2 | 5 => 3 | 6 => 4 | _ => 5

/-- The operation carries an immediate (R469). -/
def reqImm (op : Nat) : Bool := op = 1 || op = 3 || op = 8

/-- BTH opcode of packet `k` of `n` of a request. The reliable-connected codes are those of the InfiniBand
Architecture Specification (PRESUMED); the extensions those of R489. -/
def bthOp (op : Nat) (spray : Bool) (k n : Nat) : Nat :=
  let imm := b2n (reqImm op)
  let only := decide (n ≤ 1)
  let last := decide (k + 1 = n)
  match reqKind op with
  | 0 => if only then 4 + imm else if k = 0 then 0 else if last then 2 + imm else 1
  | 1 => if spray then 0xC8 + imm else if only then 0xA + imm else if k = 0 then 6 else if last then 8 + imm else 7
  | 2 => 0xC
  | 3 => 0x14
  | 4 => 0x13
  | _ => if spray then 0xCA + imm else if only then 0xC4 + imm else if k = 0 then 0xC0 else if last then 0xC2 + imm else 0xC1

/-- Payload bytes of a request, none for Reads and atomics. -/
def SentReq.carries (r : SentReq) : Bool := reqKind r.op = 0 || reqKind r.op = 1 || reqKind r.op = 5

/-- PSNs a request takes. -/
def SentReq.span (r : SentReq) : Nat := psnSub r.last r.first + 1

/-- Header fields of packet `k` (R490, R492): address, key, length, immediate, and where they apply FORMAT, Q,
PKT_INDEX and BASE_PSN, or the atomic operands. -/
def SentReq.fields (r : SentReq) (k : Nat) : List Nat :=
  let imm := if reqImm r.op then r.op1 % 2 ^ 32 else 0
  if r.spray then [r.raddr, r.rkey, r.len, imm, r.fmt, r.op0, k, r.first]
  else match reqKind r.op with
    | 0 => [imm]
    | 3 => [r.raddr, r.rkey, r.op0, 0]
    | 4 => [r.raddr, r.rkey, r.op1, r.op0]
    | 5 => [r.raddr, r.rkey, r.len, imm, r.fmt, r.op0]
    | _ => [r.raddr, r.rkey, r.len, imm]

/-- Sends packet `k` of a request whose payload is `data`. -/
def State.sendPacket (s : State) (i : Nat) (r : SentReq) (data : List Byte) (k : Nat) : State :=
  let q := s.qp i
  let part := if r.carries then (data.drop (k * q.pmtu)).take q.pmtu else []
  let op := if q.ud then 0x64 else bthOp r.op r.spray k r.span
  s.emit (.rdma q.dest op (psnAdd r.first k) (if q.ud then [q.qkey] else r.fields k) part)

/-- Sends the packets of a list of indices. -/
def State.sendPackets (s : State) (i : Nat) (r : SentReq) (data : List Byte) (l : List Nat) : State :=
  l.foldl (fun t k => t.sendPacket i r data k) s

/-- The payload of a request that is sent again: read once more from module memory, or as it was sent. -/
def State.resendData (s : State) (i : Nat) (r : SentReq) : List Byte :=
  if r.own ∨ !r.carries ∨ r.len = 0 then r.data
  else match s.checkKey (s.qp i) r.lkey .local r.laddr r.len 1 with
    | .ok k off => if k.host then r.data else (s.regionRead r.lkey k off r.len []).1
    | _ => r.data

/-- Resends packets of one request (R486): each is counted. A Read is asked for again from the packet on. -/
def State.resendReq (s : State) (i : Nat) (r : SentReq) (l : List Nat) : State :=
  if l.isEmpty then s
  else if reqKind r.op = 2 then
    let k := l.headD 0
    let o := k * (s.qp i).pmtu
    (s.emit (.rdma (s.qp i).dest 0xC (psnAdd r.first k) [r.raddr + o, r.rkey, r.len - o, 0] [])).bump .halyard 0 0x15C
  else (s.sendPackets i r (s.resendData i r) l).bumpBy .halyard 0 0x15C l.length

/-- Resends every packet not acknowledged from a PSN on (R486). -/
def State.resendFrom (s : State) (i psn : Nat) : State :=
  (s.qp i).sent.foldl (fun t r =>
    if r.done.isSome then t
    else
      let off := psnSub psn r.first
      let k0 := if off < 2 ^ 23 then off else 0
      if k0 ≥ r.span then t else t.resendReq i r ((List.range (r.span - k0)).map (k0 + ·))) s

/-! ### Taking a work request (R468 to R470, R488) -/

/-- Q of a MODQ Accumulate-Write is one R490 allows. -/
def accQOk (q : Nat) : Bool := q = 2 ^ 64 - 2 ^ 32 + 1 || (decide (3 ≤ q) && decide (q < 2 ^ 62) && decide (q % 2 = 1))

/-- FORMAT of an Accumulate-Write (R490). -/
def accFmtOk (f : Nat) : Bool := [1, 3, 4, 5, 6].contains f

/-- The request keeps its row of R469 and the field rules of R468. -/
def wrOk (q : Qp) (a b : Nat) : Bool :=
  let op := bits a 0 8
  let fmt := bits a 16 8
  let len := bits a 120 32
  let raddr := bits a 184 64
  let op0 := bits b 64 64
  let op1 := bits b 128 64
  let kind := reqKind op
  decide (op ≤ 8) && decide (bits a 10 6 = 0) && decide (bits b 192 56 = 0) &&
  (if kind = 5 then accFmtOk fmt else decide (fmt = 0)) &&
  (kind ≠ 0 || (decide (bits a 152 32 = 0) && decide (raddr = 0))) &&
  (if kind = 3 ∨ kind = 4 then true else if kind = 5 ∧ fmt = 4 then accQOk op0 else decide (op0 = 0)) &&
  (if kind = 4 then true else if reqImm op then decide (op1 < 2 ^ 32) else decide (op1 = 0)) &&
  (!q.ud || decide (op = 0)) &&
  (match kind with
    | 0 => decide (len ≤ if q.ud then q.pmtu else 1572864)
    | 1 => decide (len ≤ 2 ^ 31)
    | 2 => decide (len ≤ 2 ^ 31)
    | 3 => decide (len = 8 ∧ raddr % 8 = 0 ∧ bits a 56 64 % 8 = 0)
    | 4 => decide (len = 8 ∧ raddr % 8 = 0 ∧ bits a 56 64 % 8 = 0)
    | _ => q.ext && decide (16 ≤ len ∧ len ≤ 2 ^ 31 ∧ len % 16 = 0)) &&
  (!q.spray || ¬(kind = 1 ∨ kind = 5) || decide (1 ≤ len ∧ len ≤ 268435456))

/-- Requests sent and not complete, over the module (R488, HALYARD_OPS_OUTSTANDING). -/
def State.outstanding (s : State) : Nat :=
  s.liveQps.foldl (fun n e => n + (e.2.sent.filter fun r => r.done.isNone).length) 0

/-- Reads and atomics outstanding on a queue pair. -/
def Qp.deepOps (q : Qp) : Nat :=
  (q.sent.filter fun r => r.done.isNone && decide (2 ≤ reqKind r.op ∧ reqKind r.op ≤ 4)).length

/-- Halyard sends no new request: a halt or a reef state that quiesces it (R485, 11 R445). -/
def State.quiet (s : State) : Bool :=
  !s.inService || !s.ten.claimed || !s.stroke.running || s.tt.halted || decide (s.reef.level ≥ 3)

/-- The request is held (R468 FENCE, R477, R488). -/
def State.wrHeld (s : State) (q : Qp) (a : Nat) : Bool :=
  let kind := reqKind (bits a 0 8)
  q.stall.isSome || decide (s.outstanding ≥ 16384) || (a.testBit 9 && decide (q.deepOps ≠ 0)) ||
  (decide (2 ≤ kind ∧ kind ≤ 4) && decide (q.deepOps ≥ q.initDepth))

/-- The request as sent from a PSN. -/
def sentOf (q : Qp) (a b : Nat) (data : List Byte) : SentReq :=
  let op := bits a 0 8
  let len := bits a 120 32
  let n := if reqKind op = 3 ∨ reqKind op = 4 then 1 else q.packets len
  { op := op, wrId := bits b 0 64, signaled := a.testBit 8, len := len, lkey := bits a 24 32, laddr := bits a 56 64
    rkey := bits a 152 32, raddr := bits a 184 64, op0 := bits b 64 64, op1 := bits b 128 64, fmt := bits a 16 8
    first := q.nextPsn, last := psnAdd q.nextPsn (n - 1)
    spray := q.spray && decide (reqKind op = 1 ∨ reqKind op = 5), own := false, data := data }

/-- Sends a request: its packets leave and it waits for its response; a datagram's completes at once. -/
def State.startReq (s : State) (i : Nat) (r : SentReq) (data : List Byte) : State :=
  let r1 := if (s.qp i).ud then { r with done := some 0 } else r
  let s1 := s.modQp i fun q => { q with nextPsn := psnAdd r.last 1, sent := q.sent ++ [r1] }
  let ks := if reqKind r.op = 2 then [0] else List.range r.span
  (s1.sendPackets i r data ks).completions i

/-- A work request is taken and sent, or fails (R470, R476, R477, R484). -/
def State.runWr (s : State) (i a b : Nat) (pages : List (Nat × Nat)) (host : List Byte) : State :=
  let q := s.qp i
  let kind := reqKind (bits a 0 8)
  let len := bits a 120 32
  let key := bits a 24 32
  let pop := s.takeWr q.sq
  if !wrOk q a b then pop.failWr i a b 1
  else if len = 0 then pop.startReq i (sentOf q a b []) []
  else
    let right : Right := if 2 ≤ kind ∧ kind ≤ 4 then .localWrite else .local
    match s.checkKey q key right (bits a 56 64) len 1 with
    | .ok k off =>
      let s1 := if k.host then s.cachePages key pages else s
      match s1.missing key k off len with
      | some pg =>
        let x := s1.odpMiss i key pg q.nextPsn false
        if x.1 then (x.2.takeWr q.sq).failWr i a b 5 else x.2
      | none =>
        if right = .localWrite then (s1.takeWr q.sq).startReq i (sentOf q a b []) []
        else
          let d := s1.regionRead key k off len host
          if d.2.1 then (d.2.2.takeWr q.sq).failWr i a b 4
          else (d.2.2.takeWr q.sq).startReq i (sentOf q a b (if k.host then d.1 else [])) d.1
    | _ => pop.failWr i a b 3

/-- A work-request row: Halyard takes the request at the head of the SQ when its operation is the row's; a
malformed code belongs to every row. A queue pair in ERROR flushes it. -/
def wrRow (op i cycle : Nat) (pages : List (Nat × Nat)) (host : List Byte) (s : State) : Res :=
  if i ≥ 66560 then .fault .noUnit
  else
    let s1 := s.atCycle cycle
    let q := s1.qp i
    if !q.live ∨ !q.bound ∨ s1.quiet then .next s1
    else match s1.headWr q.sq with
      | none => .next s1
      | some it =>
        let w := wrWords it
        if q.state = .error then .next (State.flushSq ((s1.queue q.sq).items.length + 1) i s1)
        else if q.state ≠ .rts then .next s1
        else if it.kind ≠ .packet then .next (s1.takeWr q.sq)
        else if bits w.1 0 8 ≠ op ∧ bits w.1 0 8 ≤ 8 then .next s1
        else if it.words.length ≠ 3 ∨ it.words.any (·.bad) then .next ((s1.takeWr q.sq).failWr i w.1 w.2 1)
        else if s1.wrHeld q w.1 then .next s1
        else .next (s1.runWr i w.1 w.2 pages host)

def execWrSend (i cycle : Nat) (pages : List (Nat × Nat)) (host : List Byte) (s : State) : Res := wrRow 0 i cycle pages host s
def execWrSendImm (i cycle : Nat) (pages : List (Nat × Nat)) (host : List Byte) (s : State) : Res := wrRow 1 i cycle pages host s
def execWrWrite (i cycle : Nat) (pages : List (Nat × Nat)) (host : List Byte) (s : State) : Res := wrRow 2 i cycle pages host s
def execWrWriteImm (i cycle : Nat) (pages : List (Nat × Nat)) (host : List Byte) (s : State) : Res := wrRow 3 i cycle pages host s
def execWrRead (i cycle : Nat) (pages : List (Nat × Nat)) (host : List Byte) (s : State) : Res := wrRow 4 i cycle pages host s
def execWrFetchAdd (i cycle : Nat) (pages : List (Nat × Nat)) (host : List Byte) (s : State) : Res := wrRow 5 i cycle pages host s
def execWrCmpSwap (i cycle : Nat) (pages : List (Nat × Nat)) (host : List Byte) (s : State) : Res := wrRow 6 i cycle pages host s
def execWrAccWrite (i cycle : Nat) (pages : List (Nat × Nat)) (host : List Byte) (s : State) : Res := wrRow 7 i cycle pages host s
def execWrAccWriteImm (i cycle : Nat) (pages : List (Nat × Nat)) (host : List Byte) (s : State) : Res := wrRow 8 i cycle pages host s

/-! ### Receiving (R460, R462, R464) -/

/-- A stale or nameless packet is dropped and counted (R462). -/
def State.dropStale (s : State) : State := (s.bump .halyard 0 0x140).latchEvt .halyard 0 32

/-- The queue pair a received packet reaches: none where it is dropped. `wasHeld` marks a packet accepted before
the queue pair entered ERROR (R464). -/
def State.receive (s : State) (p : Packet) (wasHeld : Bool) : Option (Nat × Qp) × State :=
  if !s.inService ∨ !s.ten.claimed then (none, s)
  else if p.qpn = 1 then (none, s.bump .halyard 0 0x178)
  else match s.qpOf p.qpn with
    | none => (none, s.dropStale)
    | some (i, q) =>
      if q.state = .reset ∨ q.state = .init ∨ (q.state = .error ∧ !wasHeld) then (none, s.bump .halyard 0 0x174)
      else
        let s1 := if p.ce ∧ !wasHeld then s.cnp i else s
        (some (i, s1.qp i), s1)

/-! ### Responses (R470, R486) -/

/-- The request holds a PSN. -/
def SentReq.covers (r : SentReq) (psn : Nat) : Bool := decide (psnSub psn r.first < r.span)

/-- The request lies wholly at or before a PSN. -/
def SentReq.upTo (r : SentReq) (psn : Nat) : Bool := decide (psnSub psn r.last < 2 ^ 23)

/-- An acknowledgement of every PSN up to `psn`: Sends, Writes and Accumulate-Writes up to it complete (R470), and
the retry counts start again. -/
def State.ackUpTo (s : State) (i psn : Nat) : State :=
  let q := s.qp i
  if psnSub psn q.una ≥ 2 ^ 23 ∨ psnSub psn q.una ≥ psnSub q.nextPsn q.una then s
  else
    (s.setQp i { q with
      una := psnAdd psn 1, retries := 0, rnrTries := 0
      sent := q.sent.map fun r =>
        if r.done.isNone ∧ r.carries ∧ !r.spray ∧ r.upTo psn then { r with done := some 0 } else r }).completions i

/-- A response row: responses to requests already sent are taken in RTS (R464, R485). -/
def onResponse (p : Packet) (s : State) (f : State → Nat → Qp → State) : Res :=
  let r := s.receive p false
  match r.1 with
  | none => .next r.2
  | some (i, q) => if q.state = .rts then .next (f r.2 i q) else .next r.2

def execRxAck (p : Packet) (s : State) : Res := onResponse p s fun t i _ => t.ackUpTo i p.psn

/-- The request a NAK names, not complete. -/
def Qp.reqAt (q : Qp) (psn : Nat) : Option SentReq := q.sent.find? fun r => r.done.isNone && r.covers psn

/-- A NAK (R486, R470): kind 0 PSN sequence error, 1 invalid request, 2 remote access, 3 remote operational, 4 RNR. -/
def State.takeNak (s : State) (i : Nat) (kind psn : Nat) : State :=
  let s1 := if kind ≤ 4 ∧ psn ≠ (s.qp i).una then s.ackUpTo i (psnSub psn 1) else s
  match (s1.qp i).reqAt psn with
  | none => s1
  | some r =>
    match kind with
    | 0 => s1.resendFrom i psn
    | 1 => s1.endReq i r.first 6
    | 2 => s1.endReq i r.first 7
    | 3 => s1.endReq i r.first 8
    | _ =>
      let s2 := s1.bump .halyard 0 0x154
      let q := s2.qp i
      if q.rnrRetry ≠ 7 ∧ q.rnrTries ≥ q.rnrRetry then s2.endReq i r.first 0xA
      else s2.setQp i { q with rnrTries := q.rnrTries + 1, rnrFrom := some psn }

def execRxNak (p : Packet) (kind : Nat) (s : State) : Res :=
  if kind > 4 then .fault .badEvent else onResponse p s fun t i _ => t.takeNak i kind p.psn

/-- The wait of an RNR NAK is over: the requester resends (R486). -/
def execRnrTimer (i : Nat) (s : State) : Res :=
  if i ≥ 66560 then .fault .noUnit
  else match (s.qp i).rnrFrom with
    | none => .next s
    | some psn =>
      if (s.qp i).state ≠ .rts then .next s
      else .next ((s.modQp i fun q => { q with rnrFrom := none }).resendFrom i psn)

/-- A timeout (R486): the oldest packet not acknowledged and all after it are sent again, or the retries are used
up. -/
def State.ackTimeoutStep (s : State) (i : Nat) : State :=
  let q := s.qp i
  match q.sent.find? fun r => r.done.isNone with
  | none => s
  | some r =>
    if q.state ≠ .rts ∨ q.ackTimeout = 0 then s
    else if q.retries ≥ q.retryCnt then s.endReq i r.first 9
    else (s.setQp i { q with retries := q.retries + 1 }).resendFrom i q.una

def execAckTimeout (i : Nat) (s : State) : Res :=
  if i ≥ 66560 then .fault .noUnit else .next (s.ackTimeoutStep i)

/-- A Read response packet or an atomic response is placed in the local buffer (R470, R476): a response longer than
LENGTH fails the request. -/
def State.placeResponse (s : State) (i : Nat) (r : SentReq) (p : Packet) : State :=
  let data := if reqKind r.op = 2 then p.payload else (padTo 8 p.payload).take 8
  let q := s.qp i
  let at0 := if reqKind r.op = 2 then psnSub p.psn r.first * q.pmtu else 0
  if p.opcode = 0x12 ∧ reqKind r.op = 2 ∨ p.opcode ≠ 0x12 ∧ reqKind r.op ≠ 2 then s
  else if reqKind r.op = 2 ∧ at0 ≠ r.got then s
  else if at0 + data.length > r.len then s.endReq i r.first 2
  else
    let fin := at0 + data.length = r.len
    let note (t : State) : State :=
      let t1 := t.modQp i fun x => { x with
        una := psnAdd p.psn 1, retries := 0, rnrTries := 0
        sent := x.sent.map fun y => if y.first = r.first ∧ y.done.isNone then { y with got := at0 + data.length } else y }
      if fin then t1.endReq i r.first 0 else t1
    if data.isEmpty then note s
    else match s.checkKey q r.lkey .localWrite r.laddr r.len 1 with
      | .ok k off =>
        let s1 := if k.host then s.cachePages r.lkey p.pages else s
        match s1.missing r.lkey k (off + at0) data.length with
        | some pg =>
          let x := s1.odpMiss i r.lkey pg r.first false
          if x.1 then x.2.endReq i r.first 5 else x.2
        | none => note (s1.regionWrite r.lkey k (off + at0) data p.bad)
      | _ => s.endReq i r.first 3

def execRxReadResponse (p : Packet) (s : State) : Res :=
  onResponse p s fun t i q =>
    match q.reqAt p.psn with
    | none => t
    | some r =>
      let t1 := if p.psn = q.una then t else t.ackUpTo i (psnSub p.psn 1)
      if r.carries then t1 else t1.placeResponse i r p

/-! ### Spray responses (R493 to R495) -/

/-- A spray request ends at its SPRAY_ACK. -/
def State.sprayDone (s : State) (i base : Nat) : State :=
  match (s.qp i).sent.find? fun r => r.done.isNone && r.spray && decide (r.first = base) with
  | none => s
  | some r =>
    let s1 := s.modQp i fun q => { q with
      retries := 0, una := if q.una = r.first then psnAdd r.last 1 else q.una }
    s1.endReq i r.first 0

def execSprayAck (p : Packet) (s : State) : Res := onResponse p s fun t i _ => t.sprayDone i p.base

/-- Missing packets a SprayNak names (R495); the payload is the SprayNak, its integers big-endian. -/
def snakIndices (l : List Byte) : List Nat :=
  let n := ((l.drop 4).headD 0).toNat
  (List.range n).flatMap fun k =>
    let e := (l.drop (8 + 8 * k)).take 8
    (List.range (ofBe (e.drop 4))).map (ofBe (e.take 4) + ·)

def execSpraySnak (p : Packet) (s : State) : Res :=
  onResponse p s fun t i q =>
    let t1 := t.bump .halyard 0 0x16C
    match q.sent.find? fun r => r.done.isNone && r.spray && decide (r.first = ofBe ((p.payload.take 4).drop 1)) with
    | none => t1
    | some r => (t1.modQp i fun x => { x with retries := 0 }).resendReq i r ((snakIndices p.payload).filter (· < r.span))

/-! ### Rates (R498) -/

/-- Line rate of a port in Mb/s, by SPEED of ETH_CFG (11 R447). -/
def lineRate (cfg : W32) : Nat :=
  match cfg.toNat % 8 with
  | 1 => 100000 | 2 => 200000 | 3 => 400000 | 4 => 800000 | 5 => 1600000 | _ => 0

/-- Line rate of a queue pair. -/
def State.qpLine (s : State) (q : Qp) : Nat := lineRate (s.reg .eth q.port 0x40)

/-- A CNP lowers the rate at most once per 50 µs, to no less than 1 Gb/s. -/
def State.takeCnp (s : State) (i : Nat) : State :=
  let s1 := s.bump .halyard 0 0x164
  let q := s1.qp i
  let due := match q.lastCut with
    | some t => decide (t + 50 * usCycles ≤ s.cycles)
    | none => true
  let old := q.rate.getD (s.qpLine q)
  let dec := bits (s.reg .halyard 0 0xC0).toNat 10 8
  if due then s1.setQp i { q with rate := some (max 1000 (old * (256 - dec) / 256)), lastCut := some s.cycles } else s1

def execRxCnp (p : Packet) (s : State) : Res :=
  let r := s.receive p false
  match r.1 with
  | none => .next r.2
  | some (i, _) => .next (r.2.takeCnp i)

/-- 55 µs without a CNP: the rate rises, up to the line rate. -/
def State.rateUp (s : State) (i : Nat) : State :=
  let q := s.qp i
  let line := s.qpLine q
  match q.rate with
  | none => s
  | some r =>
    let n := r + line * bits (s.reg .halyard 0 0xC0).toNat 18 7 / 100
    s.setQp i { q with rate := if n ≥ line then none else some n }

def execRateIncrease (i : Nat) (s : State) : Res :=
  if i ≥ 66560 then .fault .noUnit else .next (s.rateUp i)

/-! ### Refusal reports (06 R250 to R252, R471) -/

/-- The 32 bytes of a refusal report (06 R250). -/
def Report.bytes (r : Report) (lost : Bool) : List Byte :=
  toLe 8 r.round ++ toLe 4 r.slot ++ toLe 4 r.chunk ++ toLe 4 r.tag ++
  toLe 4 (r.reason + 2 ^ 8 + 2 ^ 16 * b2n lost) ++ toLe 8 r.stroke

/-- Reports pending on a queue pair go out as one Send with Immediate, oldest first (06 R251). -/
def State.sendReports (s : State) (i : Nat) : State :=
  let l := s.rounds.reports.get [] i
  let q := s.qp i
  if l.isEmpty ∨ !q.live ∨ q.state ≠ .rts ∨ q.ud ∨ s.quiet ∨ s.outstanding ≥ 16384 then s
  else
    let now := l.take 128
    let lost := s.rounds.lost.contains i
    let data := ((List.range now.length).zip now).flatMap fun e => e.2.bytes (lost && e.1 == 0)
    let r : SentReq := {
      op := 1, wrId := 0, signaled := false, len := data.length, lkey := 0, laddr := 0, rkey := 0, raddr := 0, op0 := 0
      op1 := now.length, fmt := 0, first := q.nextPsn, last := psnAdd q.nextPsn (q.packets data.length - 1), spray := false
      own := true, data := data }
    let s1 : State := { s with rounds := { s.rounds with
      reports := s.rounds.reports.put [] i (l.drop 128), lost := s.rounds.lost.filter (· ≠ i) } }
    s1.startReq i r data

def execRefusalReportSend (i : Nat) (s : State) : Res :=
  if i ≥ 65536 then .fault .noUnit else .next (s.sendReports i)

end Sys2Proof.Machine
end

