-- ==== Sys2Proof/Machine/HalyardResp.lean ====
section
/-!
DEFINITION. Halyard as responder (12 R460, R466, R467, R476 to R485, R489 to R496): classing, landing in queues,
placement in regions, atomics, Accumulate-Write and spray contexts. A row stands for the moment at which the packet
is durable or refused (02 R76).
-/

namespace Sys2Proof.Machine

/-! ### Classing (R478, R479, R460) -/

/-- Class of a PSN against the expected one. -/
inductive PsnClass where
  | expected | duplicate | ahead
  deriving DecidableEq, Repr

def psnClass (e psn : Nat) : PsnClass :=
  if psn % psnMod = e then .expected else if psnSub psn e < 2 ^ 23 then .ahead else .duplicate

/-- A packet ahead of E: one NAK until E arrives (R478). -/
def State.seqNak (s : State) (i : Nat) : State :=
  if (s.qp i).nakSent then s else (s.nak i (s.qp i).expPsn 0).modQp i fun q => { q with nakSent := true }

/-- A duplicate Send, Write or Accumulate-Write is acknowledged again (R479). -/
def State.dupAck (s : State) (i psn : Nat) : State := (s.bump .halyard 0 0x148).ackLater i psn

/-- Position of a packet in its message, from its BTH opcode. -/
inductive Part where
  | first | middle | last | only
  deriving DecidableEq, Repr

/-- Part and immediate of an opcode counted from the family's FIRST. -/
def partOf (k : Nat) : Part × Bool :=
  match k with
  | 0 => (.first, false) | 1 => (.middle, false) | 2 => (.last, false) | 3 => (.last, true) | 4 => (.only, false)
  | _ => (.only, true)

/-- The opcode sequence and the length rule of a packet (R460). -/
def partOk (rx : Option RxMsg) (kind pmtu n : Nat) : Part → Bool
  | .first => rx.isNone && decide (n = pmtu)
  | .only => rx.isNone && decide (n ≤ pmtu)
  | .middle => (match rx with
    | some m => decide (m.kind = kind)
    | none => false) && decide (n = pmtu)
  | .last => (match rx with
    | some m => decide (m.kind = kind)
    | none => false) && decide (1 ≤ n ∧ n ≤ pmtu)

/-- The queue pair answers with RNR NAKs only: a stall as responder, a halt, or Reef-3 (R477, R485). -/
def State.refusesAll (s : State) (q : Qp) : Bool :=
  (match q.stall with
    | some x => x.resp
    | none => false) || !s.stroke.running || s.tt.halted || decide (s.reef.level ≥ 3)

/-- A reliable-connected request: the checks before its family's own. `f` runs on an expected packet, `dup` on a
duplicate one. -/
def State.request (s : State) (p : Packet) (wasHeld : Bool) (dup f : State → Nat → Qp → State) : State :=
  let r := s.receive p wasHeld
  match r.1 with
  | none => r.2
  | some (i, q) =>
    let t := (r.2.wake 5 3 4).requestSeen
    if q.ud then t.nakError i p.psn 1
    else if t.refusesAll q ∨ s.reef.level ≥ 3 then t.nak i p.psn 4
    else match psnClass q.expPsn p.psn with
      | .expected => f t i q
      | .duplicate => dup t i q
      | .ahead => t.seqNak i

/-! ### Landing of Sends (R466, R467) -/

/-- Writes data words into the producer's open packet, or drops them where a flush took it. -/
def State.pushWords (s : State) (n : Nat) (p : Producer) (bad : Bool) (l : List W256) : State :=
  l.foldl (fun t w => (t.produce n p 0 w bad).2) s

/-- Closes a message's packet with its queue pair, bytes and landing cycle. -/
def State.closeMsg (s : State) (n : Nat) (p : Producer) (qpn len : Nat) : State :=
  let q := s.queue n
  if q.flushed.contains p then s.flushedClose n p
  else
    ((s.setQueue n (q.modifyLast fun i => { i with qpn := qpn, bytes := len, cycle := s.stroke.cycle })).closeOpen n).2

/-- A message's words begin: the packet opens with its first word. -/
def State.openMsg (s : State) (n : Nat) (p : Producer) (bad : Bool) (l : List W256) : State :=
  match l with
  | [] => s
  | w :: r => ((s.produce n p 1 w bad).2).pushWords n p bad r

/-- Free words that the first packet of a Send needs (R466). -/
def Qp.sendRoom (q : Qp) : Nat := (q.maxMsg + 23) / 24 + 2

/-- An expected Send packet of `data` lands, or its message's first packet is refused. -/
def State.landSend (s : State) (i : Nat) (q : Qp) (p : Packet) : State :=
  let x := partOf (p.opcode % 0x40)
  let n := s.landingOf i
  let prod : Producer := .halyard (q.qpn i)
  let len := p.payload.length
  let qu := s.queue n
  let got := (q.rx.map (·.got)).getD 0 + len
  let done (t : State) : State :=
    let t1 := (t.advance1 i 1).ackLater i p.psn
    if x.2 then (t1.produce n prod 4 (immWord p.imm 1 (q.qpn i) t1.stroke.now got)).2 else t1
  if !partOk q.rx 0 q.pmtu len x.1 then s.nakError i p.psn 1
  else if got > q.maxMsg then s.nakError i p.psn 1
  else match x.1 with
    | .only =>
      if qu.openItem.isSome ∨ qu.level + q.sendRoom > qu.cap then s.nak i p.psn 4
      else done ((s.openMsg n prod p.bad (streamWords p.payload)).closeMsg n prod (q.qpn i) len)
    | .first =>
      if qu.openItem.isSome ∨ qu.level + q.sendRoom > qu.cap then s.nak i p.psn 4
      else
        let k := len / 24 * 24
        let m : RxMsg := { kind := 0, got := len, tail := p.payload.drop k, queue := n }
        ((s.openMsg n prod p.bad (streamWords (p.payload.take k))).modQp i fun y => { y with
          rx := some m, expPsn := psnAdd y.expPsn 1, nakSent := false }).ackLater i p.psn
    | .middle =>
      let l := ((q.rx.map (·.tail)).getD []) ++ p.payload
      let k := l.length / 24 * 24
      ((s.pushWords n prod p.bad (streamWords (l.take k))).modQp i fun y => { y with
        rx := y.rx.map fun m => { m with got := got, tail := l.drop k }, expPsn := psnAdd y.expPsn 1, nakSent := false }).ackLater
        i p.psn
    | .last =>
      let l := ((q.rx.map (·.tail)).getD []) ++ p.payload
      done (((s.pushWords n prod p.bad (streamWords l)).closeMsg n prod (q.qpn i) got).modQp i fun y => { y with rx := none })

/-! ### Writes (R480) -/

/-- A key check's answer handled as R476 says; `f` runs where it passes. -/
def State.withKey (s : State) (i : Nat) (q : Qp) (psn key : Nat) (right : Right) (va n al : Nat) (f : RKey → Nat → State) : State :=
  match s.checkKey q key right va n al with
  | .ok k off => f k off
  | .stale => (s.bump .halyard 0 0x144).latchEvt .halyard 0 32
  | .refused => s.nakError i psn 2

/-- Residency of a range as responder (R477): `f` runs where every page is present. -/
def State.withPages (s : State) (i psn key : Nat) (k : RKey) (off n : Nat) (pages : List (Nat × Nat)) (f : State → State) : State :=
  let s1 := if k.host then s.cachePages key pages else s
  match s1.missing key k off n with
  | none => f s1
  | some pg =>
    let x := s1.odpMiss i key pg psn true
    if x.1 then x.2.nakError i psn 2 else x.2.nak i psn 4

/-- A Write's data is placed and its message goes on. -/
def State.placeWrite (s : State) (i : Nat) (q : Qp) (p : Packet) (m : RxMsg) (k : RKey) (off : Nat) : State :=
  let len := p.payload.length
  let x := partOf (p.opcode % 0x40 - 6)
  let fin := x.1 = .last ∨ x.1 = .only
  if m.got + len > m.len ∨ (fin ∧ m.got + len ≠ m.len) then s.nakError i p.psn 1
  else if p.bad then s.nakError i p.psn 3
  else s.withPages i p.psn m.key k (off + m.got) len p.pages fun t =>
    let t1 := t.regionWrite m.key k (off + m.got) p.payload false
    let t2 := (t1.modQp i fun y => { y with
      rx := if fin then none else some { m with got := m.got + len }, expPsn := psnAdd y.expPsn 1, nakSent := false }).ackLater
      i p.psn
    if x.2 then t2.unitMarker q.rq (.halyard (q.qpn i)) (immWord p.imm 2 (q.qpn i) t2.stroke.now m.len) else t2

/-- An expected Write packet. -/
def State.landWrite (s : State) (i : Nat) (q : Qp) (p : Packet) : State :=
  let x := partOf (p.opcode % 0x40 - 6)
  if !partOk q.rx 1 q.pmtu p.payload.length x.1 then s.nakError i p.psn 1
  else match q.rx with
    | some m =>
      match s.checkKey q m.key .write m.va m.len 1 with
      | .ok k off => s.placeWrite i q p m k off
      | _ => s.nakError i p.psn 2
    | none => s.withKey i q p.psn p.key .write p.va p.len 1 fun k off =>
        s.placeWrite i q p { kind := 1, key := p.key, va := p.va, len := p.len } k off

/-! ### Reads and atomics (R481, R482, R479) -/

/-- Opcode of response packet `k` of `n`. -/
def respOp (k n : Nat) : Nat := if n ≤ 1 then 0x10 else if k = 0 then 0xD else if k + 1 = n then 0xF else 0xE

/-- Sends the packets of a Read response from packet `k` on, up to the first that holds an uncorrectable word, which
a NAK replaces (R484). -/
def State.readResponses (fuel : Nat) (s : State) (i : Nat) (p : Packet) (rk : RKey) (off k n : Nat) : State :=
  match fuel with
  | 0 => s
  | f + 1 =>
    if k ≥ n then s
    else
      let q := s.qp i
      let o := k * q.pmtu
      let len := min q.pmtu (p.len - o)
      let d := s.regionRead p.key rk (off + o) len ((p.host.drop o).take len)
      if d.2.1 then d.2.2.nakError i (psnAdd p.psn k) 3
      else State.readResponses f (d.2.2.emit (.rdma q.dest (respOp k n) (psnAdd p.psn k) [] d.1)) i p rk off (k + 1) n

/-- A Read request is executed, first or again: it returns committed data. -/
def State.doRead (s : State) (i : Nat) (q : Qp) (p : Packet) (fresh : Bool) : State :=
  s.withKey i q p.psn p.key .read p.va p.len 1 fun k off =>
    s.withPages i p.psn p.key k off p.len p.pages fun t =>
      let n := q.packets p.len
      let t1 := if fresh then t.advance1 i n else t
      State.readResponses (n + 1) t1 i p k off 0 n

/-- Result of an atomic: Fetch-Add or Compare-Swap. -/
def atomicValue (opcode old op0 op1 : Nat) : Nat :=
  if opcode = 0x14 then (old + op0) % 2 ^ 64 else if old = op1 % 2 ^ 64 then op0 % 2 ^ 64 else old

/-- An expected atomic executes at the bank; its response waits for cycle 2,016. A target word that is uncorrectable
answers as a poisoned Read does (DEDUCED from R484). -/
def State.doAtomic (s : State) (i : Nat) (q : Qp) (p : Packet) : State :=
  s.withKey i q p.psn p.key .atomic p.va 8 8 fun k off =>
    if p.bad then s.nakError i p.psn 3
    else
      let d := s.regionRead p.key k off 8 []
      if d.2.1 then d.2.2.nakError i p.psn 3
      else
        let old := ofLe d.1
        let t := d.2.2.regionWrite p.key k off (toLe 8 (atomicValue p.opcode old p.op0 p.op1)) false
        t.modQp i fun y => { y with
          expPsn := psnAdd y.expPsn 1, nakSent := false, atomics := ((p.psn, old) :: y.atomics).take q.respDepth
          atomicPend := y.atomicPend ++ [(p.psn, old)] }

/-- A duplicate atomic: the stored original value, or a refusal (R479). -/
def State.dupAtomic (s : State) (i : Nat) (q : Qp) (p : Packet) : State :=
  match q.atomics.find? fun e => decide (e.1 = p.psn) with
  | some e => s.emit (.rdma q.dest 0x12 p.psn [] (toLe 8 e.2))
  | none => s.nak i p.psn 1

/-! ### Accumulate-Write (R489 to R491) -/

/-- Destination bytes of `n` payload bytes: BF16 adds into twice as many (R491). -/
def accSpan (fmt n : Nat) : Nat := if fmt = 6 then 2 * n else n

/-- The feeder queue of a queue pair; one queue keeps its messages in order (log entry 30). -/
def feederOf (i : Nat) : Nat := 16320 + i % 32

/-- The first word of a packet in a feeder queue: destination, FORMAT, Q, and the notice it belongs to. -/
def feederHeader (addr fmt q i base : Nat) : W256 :=
  BitVec.ofNat 256 (addr % 2 ^ 64 + 2 ^ 64 * (fmt % 256) + 2 ^ 72 * (q % 2 ^ 64) + 2 ^ 136 * (i % 2 ^ 17) + 2 ^ 160 * (base % 2 ^ 24))

/-- MODQ payload words are reduced modulo q (R491). -/
def accReduce (fmt q : Nat) (l : List Byte) : List Byte :=
  if fmt = 4 ∧ q ≠ 0 then (chunksOf (l.length / 8 + 1) 8 l).flatMap fun c => toLe 8 (ofLe c % q) else l

/-- Words of a packet in a feeder queue: the header and one word for each 16 payload bytes. -/
def feederWords (addr fmt q i base : Nat) (l : List Byte) : List W256 :=
  feederHeader addr fmt q i base :: (chunksOf (l.length / 16 + 1) 16 (accReduce fmt q l)).map fun c => BitVec.ofNat 256 (ofLe c)

/-- The packet has room in its feeder queue and no other packet is open there. -/
def State.feederRoom (s : State) (n words : Nat) : Bool :=
  let q := s.queue n
  q.openItem.isNone && decide (q.level + words + 1 ≤ q.cap)

/-- Lands an accumulate packet in its feeder queue; a poisoned payload lands poisoned (R484). -/
def State.feed (s : State) (i addr fmt q base : Nat) (bad : Bool) (l : List Byte) : State :=
  let n := feederOf i
  let ws := feederWords addr fmt q i base l
  let t := (s.putPacket n (.halyard ((s.qp i).qpn i)) ws l.length ((s.qp i).qpn i) 0).2
  if !bad then t
  else t.setQueue n ((t.queue n).modifyLast fun it => { it with words := match it.words with
    | a :: b :: r => a :: b :: r.map fun (w : QWord) => { w with bad := true }
    | w => w })

/-- FORMAT, Q and alignment of an accumulate (R491). -/
def accOk (fmt q va len : Nat) : Bool :=
  accFmtOk fmt && (if fmt = 4 then accQOk q else true) && decide (va % (if fmt = 6 then 32 else 16) = 0) && decide (len % 16 = 0)

/-- An accumulate packet of a message lands or is refused on its own. -/
def State.placeAcc (s : State) (i : Nat) (p : Packet) (m : RxMsg) (k : RKey) (off : Nat) : State :=
  let len := p.payload.length
  let x := partOf (p.opcode - 0xC0)
  let fin := x.1 = .last ∨ x.1 = .only
  if m.got + len > m.len ∨ (fin ∧ m.got + len ≠ m.len) ∨ len % 16 ≠ 0 then s.nakError i p.psn 1
  else
    let addr := k.start + off + accSpan m.fmt m.got
    if !s.feederRoom (feederOf i) (len / 16 + 1) then s.nak i p.psn 4
    else
      let t := s.feed i addr m.fmt m.q p.psn p.bad p.payload
      let t1 := (t.modQp i fun y => { y with
        rx := if fin then none else some { m with got := m.got + len }, expPsn := psnAdd y.expPsn 1, nakSent := false }).ackLater
        i p.psn
      if x.2 then t1.setHalyard { t1.halyard with
        notices := t1.halyard.notices ++ [{ qp := i, base := p.psn, imm := p.imm, kind := 3, len := m.len, left := 1 }] }
      else t1

/-- An expected Accumulate-Write packet. -/
def State.landAcc (s : State) (i : Nat) (q : Qp) (p : Packet) : State :=
  let x := partOf (p.opcode - 0xC0)
  if !q.ext ∨ p.opcode > 0xC5 then s.nakError i p.psn 1
  else if !partOk q.rx 2 q.pmtu p.payload.length x.1 then s.nakError i p.psn 1
  else match q.rx with
    | some m =>
      match s.checkKey q m.key .acc m.va (accSpan m.fmt m.len) 1 with
      | .ok k off => s.placeAcc i p m k off
      | _ => s.nakError i p.psn 2
    | none => s.withKey i q p.psn p.key .acc p.va (accSpan p.fmt p.len) 1 fun k off =>
        if !accOk p.fmt p.q p.va p.len then s.nakError i p.psn 1
        else s.placeAcc i p { kind := 2, key := p.key, va := p.va, len := p.len, fmt := p.fmt, q := p.q } k off

/-! ### Spray contexts (R492 to R496) -/

/-- Contexts of a queue pair. -/
def State.sprayOf (s : State) (i : Nat) : List SprayCtx := s.halyard.spray.filter fun c => decide (c.qp = i)

/-- Changes a context. -/
def State.modSpray (s : State) (i base : Nat) (f : SprayCtx → SprayCtx) : State :=
  s.setHalyard { s.halyard with spray := s.halyard.spray.map fun c => if c.qp = i ∧ c.base = base then f c else c }

/-- E passes every message whose context has opened, in PSN order (R493; DEDUCED); `fuel` bounds the messages. -/
def State.sprayAdvance (fuel i : Nat) (s : State) : State :=
  match fuel with
  | 0 => s
  | f + 1 =>
    let e := (s.qp i).expPsn
    match (s.sprayOf i).find? fun c => decide (c.base = e) with
    | some c => State.sprayAdvance f i (s.advance1 i c.pkts)
    | none => match (s.qp i).sprayed.find? fun x => decide (x.1 = e) with
      | some x => State.sprayAdvance f i (s.advance1 i x.2)
      | none => s

/-- The PSN belongs to a message already complete (R493). -/
def State.sprayDup (s : State) (i : Nat) (q : Qp) (p : Packet) : Bool :=
  q.sprayed.any (fun x => decide (x.1 = p.base)) ||
  (decide (psnSub p.psn q.expPsn ≥ 2 ^ 23) && (s.sprayOf i).all fun c => decide (psnSub p.psn c.base ≥ 2 ^ 23))

/-- The fields of a spray packet agree with each other, and with its context. -/
def sprayOk (q : Qp) (p : Packet) (c : Option SprayCtx) : Bool :=
  let n := q.packets p.len
  decide (1 ≤ p.len ∧ p.len ≤ 268435456) && decide (p.idx < n) && decide (p.psn = psnAdd p.base p.idx) &&
  decide (p.payload.length = if p.idx + 1 = n then p.len - p.idx * q.pmtu else q.pmtu) &&
  (match c with
    | some x => decide (x.len = p.len ∧ x.acc = decide (p.opcode ≥ 0xCA))
    | none => true)

/-- A context opens at a message's first arrival; its notice waits for every packet. -/
def State.sprayOpen (s : State) (i : Nat) (q : Qp) (p : Packet) : State :=
  let n := q.packets p.len
  let acc := decide (p.opcode ≥ 0xCA)
  let imm := if p.opcode % 2 = 1 then some p.imm else none
  let h := s.halyard
  s.setHalyard { h with
    spray := h.spray ++ [{ qp := i, base := p.base, len := p.len, pkts := n, got := [], acc := acc, imm := imm, key := p.key }]
    notices := match imm with
      | some v => h.notices ++ [{ qp := i, base := p.base, imm := v, kind := if acc then 5 else 4, len := p.len, left := n }]
      | none => h.notices }

/-- The packet's bit is set; the context is full when every bit is. -/
def State.sprayTake (s : State) (i : Nat) (p : Packet) : State :=
  let s1 := s.modSpray i p.base fun c =>
    let g := p.idx :: c.got
    { c with got := g, full := decide (g.length ≥ c.pkts) }
  State.sprayAdvance (s1.halyard.spray.length + (s1.qp i).sprayed.length + 1) i s1

/-- A packet is placed in a context, opened when the message has none yet and only if the packet lands. -/
def State.sprayPlace (s : State) (i : Nat) (q : Qp) (p : Packet) (fresh : Bool) : State :=
  let acc := decide (p.opcode ≥ 0xCA)
  let span := if acc then accSpan p.fmt p.len else p.len
  s.withKey i q p.psn p.key (if acc then .acc else .write) p.va span 1 fun k off =>
    let opened (t : State) : State := if fresh then t.sprayOpen i q p else t
    if acc then
      if !accOk p.fmt p.q p.va p.len ∨ p.payload.length % 16 ≠ 0 then s.nakError i p.psn 1
      else if !s.feederRoom (feederOf i) (p.payload.length / 16 + 1) then s.nak i p.psn 4
      else ((opened s).feed i (k.start + off + accSpan p.fmt (p.idx * q.pmtu)) p.fmt p.q p.base p.bad p.payload).sprayTake i p
    else if p.bad then s.nakError i p.psn 3
    else s.withPages i p.psn p.key k (off + p.idx * q.pmtu) p.payload.length p.pages fun t =>
      let t1 := (opened (t.regionWrite p.key k (off + p.idx * q.pmtu) p.payload false)).sprayTake i p
      (t1.noticeStep i p.base).deliverNotices

/-- A spray packet (R493, R496). -/
def State.landSpray (s : State) (i : Nat) (q : Qp) (p : Packet) : State :=
  let c := (s.sprayOf i).find? fun x => decide (x.base = p.base)
  if !q.ext ∨ !q.spray ∨ p.opcode < 0xC8 ∨ p.opcode > 0xCB then s.nakError i p.psn 1
  else if !sprayOk q p c then s.nakError i p.psn 1
  else match c with
    | some x => if x.got.contains p.idx then s.bump .halyard 0 0x148 else s.sprayPlace i q p false
    | none =>
      if s.sprayDup i q p then (s.bump .halyard 0 0x148).modQp i fun y => { y with sprayAgain := y.sprayAgain ++ [p.base] }
      else if s.halyard.spray.length ≥ 1024 ∨ (s.sprayOf i).length ≥ 64 then s.nak i p.psn 4
      else s.sprayPlace i q p true

/-- A context that is full ends with its SPRAY_ACK at cycle 2,016 (R493, 02 R74). -/
def State.endSprays (s : State) : State :=
  s.halyard.spray.foldl (fun t c =>
    if !c.full then t
    else
      let t1 := (t.emit (.rdma (t.qp c.qp).dest 0xCC c.base [c.base] [])).setHalyard { t.halyard with
        spray := t.halyard.spray.filter fun x => !(decide (x.qp = c.qp ∧ x.base = c.base)) }
      t1.modQp c.qp fun q => { q with sprayed := if (t1.sprayOf c.qp).isEmpty then [] else (c.base, c.pkts) :: q.sprayed }) s

/-- Gaps of a bitmap as ranges of (first, count), in ascending order. -/
def gaps (n : Nat) (got : List Nat) : List (Nat × Nat) :=
  (List.range n).foldl (fun (l : List (Nat × Nat)) k =>
    if got.contains k then l
    else match l.getLast? with
      | some (a, c) => if a + c = k then l.dropLast ++ [(a, c + 1)] else l ++ [(k, 1)]
      | none => [(k, 1)]) []

/-- SprayNak (R495), its integers big-endian: beyond 64 gaps the last range runs to the message's end. -/
def snakBytes (base n : Nat) (g : List (Nat × Nat)) : List Byte :=
  let l := if g.length ≤ 64 then g else g.take 63 ++ (match g[63]? with
    | some e => [(e.1, n - e.1)]
    | none => [])
  0 :: toBe 3 base ++ [BitVec.ofNat 8 l.length, 0, 0, 0] ++ l.flatMap fun e => toBe 4 e.1 ++ toBe 4 e.2

/-- 256 µs passed after the latest packet of an open context (R494): SPRAY_SNAK, and after the eighth the context is
abandoned. -/
def State.snakTimer (s : State) (i base : Nat) : State :=
  match (s.sprayOf i).find? fun c => decide (c.base = base) && !c.full with
  | none => s
  | some c =>
    if c.snaks ≥ 8 then
      ((s.bump .halyard 0 0x170).latchEvt .halyard 0 16).nakError i base 3
    else
      ((s.emit (.rdma (s.qp i).dest 0xCD base [base] (snakBytes base c.pkts (gaps c.pkts c.got)))).bump .halyard 0 0x168).modSpray
        i base fun x => { x with snaks := x.snaks + 1 }

def execSpraySnakTimer (i base cycle : Nat) (s : State) : Res :=
  if i ≥ 66560 then .fault .noUnit else .next ((s.atCycle cycle).snakTimer i base)

/-! ### Datagrams (R466) -/

/-- A UD Send lands with its prefix, or is dropped: no response is ever sent for one. -/
def State.landUd (s : State) (i : Nat) (q : Qp) (p : Packet) : State :=
  let n := s.landingOf i
  let qu := s.queue n
  let data := padTo 40 (p.grh.take 40) ++ p.payload
  let prod : Producer := .halyard (q.qpn i)
  if p.qkey ≠ q.qkey ∨ p.payload.length > q.pmtu ∨ p.payload.length > q.maxMsg then s
  else if qu.openItem.isSome ∨ qu.level + max q.sendRoom ((data.length + 23) / 24 + 2) > qu.cap then s
  else
    let t := (s.openMsg n prod p.bad (streamWords data)).closeMsg n prod (q.qpn i) data.length
    if p.opcode = 0x65 then (t.produce n prod 4 (immWord p.imm 1 (q.qpn i) t.stroke.now data.length)).2 else t

/-- A received datagram (R464, R485). -/
def State.datagram (s : State) (p : Packet) (wasHeld : Bool) : State :=
  let r := s.receive p wasHeld
  match r.1 with
  | none => r.2
  | some (i, q) =>
    if !q.ud then r.2.nakError i p.psn 1
    else if s.tt.halted ∨ !s.stroke.running then r.2.bump .halyard 0 0x174
    else if s.reef.level ≥ 3 then r.2.wake 5 3 4
    else r.2.landUd i q p

/-! ### The rows -/

/-- A request packet by its opcode (R460): one outside the subset is refused. -/
def State.takePacket (s : State) (p : Packet) (wasHeld : Bool) : State :=
  let op := p.opcode
  let dup := fun (t : State) (i : Nat) (_ : Qp) => t.dupAck i p.psn
  if op ≤ 5 then s.request p wasHeld dup fun t i q => t.landSend i q p
  else if op ≤ 0xB then s.request p wasHeld dup fun t i q => t.landWrite i q p
  else if op = 0xC then
    s.request p wasHeld (fun t i q => t.doRead i q p false) fun t i q =>
      if q.rx.isSome then t.nakError i p.psn 1 else t.doRead i q p true
  else if op = 0x13 ∨ op = 0x14 then
    s.request p wasHeld (fun t i q => t.dupAtomic i q p) fun t i q =>
      if q.rx.isSome then t.nakError i p.psn 1 else t.doAtomic i q p
  else if op = 0x64 ∨ op = 0x65 then s.datagram p wasHeld
  else if 0xC0 ≤ op ∧ op ≤ 0xC5 then s.request p wasHeld dup fun t i q => t.landAcc i q p
  else
    let r := s.receive p wasHeld
    match r.1 with
    | none => r.2
    | some (i, q) =>
      let t := (r.2.wake 5 3 4).requestSeen
      if 0xC8 ≤ op ∧ op ≤ 0xCB ∧ !q.ud then
        (if t.refusesAll q ∨ s.reef.level ≥ 3 then t.nak i p.psn 4 else t.landSpray i q p)
      else t.nakError i p.psn 1

/-- A packet durable from cycle 2,016 on lands at cycle 0 of the next stroke (02 R77). -/
def packetRow (p : Packet) (ok : Nat → Bool) (cycle : Nat) (s : State) : Res :=
  if !ok p.opcode then .fault .badEvent
  else
    let s1 := s.atCycle cycle
    .next (if s1.holding then s1.setHalyard { s1.halyard with held := s1.halyard.held ++ [p] } else s1.takePacket p false)

/-- An opcode of no supported family: its packet is refused (R460). -/
def strayOp (o : Nat) : Bool :=
  !(decide (o ≤ 0xC) || [0x13, 0x14, 0x64, 0x65].contains o || decide (0xC0 ≤ o ∧ o ≤ 0xC5) || decide (0xC8 ≤ o ∧ o ≤ 0xCD) ||
    decide (0xD ≤ o ∧ o ≤ 0x12) || decide (o = 0x81))

def execRxSendPacket (p : Packet) (cycle : Nat) (s : State) : Res :=
  packetRow p (fun o => decide (o ≤ 5) || strayOp o) cycle s
def execRxWritePacket (p : Packet) (cycle : Nat) (s : State) : Res := packetRow p (fun o => decide (6 ≤ o ∧ o ≤ 0xB)) cycle s
def execRxReadRequest (p : Packet) (cycle : Nat) (s : State) : Res := packetRow p (fun o => decide (o = 0xC)) cycle s
def execRxAtomic (p : Packet) (cycle : Nat) (s : State) : Res := packetRow p (fun o => decide (o = 0x13 ∨ o = 0x14)) cycle s
def execRxAccWritePacket (p : Packet) (cycle : Nat) (s : State) : Res := packetRow p (fun o => decide (0xC0 ≤ o ∧ o ≤ 0xC5)) cycle s
def execRxSprayPacket (p : Packet) (cycle : Nat) (s : State) : Res := packetRow p (fun o => decide (0xC8 ≤ o ∧ o ≤ 0xCB)) cycle s
def execRxUdSend (p : Packet) (cycle : Nat) (s : State) : Res := packetRow p (fun o => decide (o = 0x64 ∨ o = 0x65)) cycle s

/-- The packets held from cycle 2,016 land at cycle 0, in order; the open packet of a queue pair that has entered
ERROR is closed after them (R464). -/
def State.applyHeldPackets (s : State) : State :=
  let l := s.halyard.held
  let s1 := l.foldl (fun t p => t.takePacket p true) (s.setHalyard { s.halyard with held := [] })
  l.foldl (fun t p =>
    match qpSlot p.qpn with
    | some (i, _) =>
      if (t.qp i).state = .error then
        (t.modQp i fun q => { q with rx := none }).producerStops (t.landingOf i) (.halyard ((t.qp i).qpn i))
      else t
    | none => t) s1

/-- Acknowledgements and atomic responses of a stroke are released (02 R74, 12 R482, R483). -/
def State.releaseAcks (s : State) : State :=
  let s1 := s.liveQps.foldl (fun t e =>
    let q := e.2
    let t1 := match q.ackPend with
      | some psn => t.emit (.ack q.dest psn)
      | none => t
    let t2 := q.atomicPend.foldl (fun u a => u.emit (.rdma q.dest 0x12 a.1 [] (toLe 8 a.2))) t1
    let t3 := q.sprayAgain.foldl (fun u b => u.emit (.rdma q.dest 0xCC b [b] [])) t2
    if q.ackPend.isSome ∨ !q.atomicPend.isEmpty ∨ !q.sprayAgain.isEmpty then
      t3.modQp e.1 fun x => { x with ackPend := none, atomicPend := [], sprayAgain := [] }
    else t3) s
  s1.endSprays

end Sys2Proof.Machine
end

