-- ==== Sys2Proof/Machine/Session.lean ====
section
/-!
DEFINITION. The modes of SYNC_STATE (02 R92, R105, R106, R723), the restart of the stroke generator (02 R101, 19 R688), and the
opening and end of a debug session (19 R679).
-/

namespace Sys2Proof.Machine

/-- STROKE_CTL.SYNC_MODE (R105). -/
def State.syncMode (s : State) : Nat := (s.reg .stroke 0 0x4C).toNat % 4

/-- SYNC_MODE follows the pins. -/
def State.pinMode (s : State) : Bool := decide (s.syncMode = 1 ∨ s.syncMode = 3)

/-- Absolute cycle, stretched strokes counted. -/
def State.time (s : State) : Nat := s.cycles + s.stroke.extra

/-- SYNC_STATE changes, with the events and the count of the change (R108, R111, R723). `held` says that HALTED was shown until
now. -/
def State.setSync (s : State) (x : SyncState) (held : Bool := false) : State :=
  let s1 : State := { s with stroke := { s.stroke with sync := x, fallback := s.stroke.fallback && decide (x = .lockedPtp) } }
  if s.stroke.sync = x && !held then s1
  else match x with
    | .freeRun => (s1.bump .stroke 0 0x64).latchEvt .stroke 0 8
    | .acquiring => s1
    | .lockedPin => s1.latchEvt .stroke 0 16
    | .lockedPtp => s1.latchEvt .stroke 0 16

/-- SYNC_STATE as the mode gives it at a write of the mode, at the exit from bare poles and at a resume (R92, R723). -/
def State.syncFromMode (s : State) (held : Bool) : State :=
  let s1 : State := { s with stroke := { s.stroke with edgeRun := 0, edgeSince := s.time, fallback := false, stretchPending := false } }
  match s.syncMode with
  | 0 => s1.setSync .freeRun held
  | 2 => s1.setSync (if s.stroke.ptpLocked then .lockedPtp else .freeRun) held
  | _ => s1.setSync .acquiring held

/-- The module keeps time by PTP: mode 2, or a fallback (R98, R101). -/
def State.ptpMode (s : State) : Bool := decide (s.syncMode = 2) || s.stroke.fallback

/-- Cycle 0 of a stroke: the writes and packets held from cycle 2,016 (R77, 10 R390). -/
def State.strokeStart (s : State) : State := s.applyHeld.applyHeldPackets

/-- STROKE_EPOCH is derived again for the held counter (R101): the PTP time at which the next stroke begins is the
environment's, and stands as a free value (log entry 1). -/
def State.newEpoch (s : State) : State :=
  if s.ptpMode && s.stroke.epochSet then
    let d := s.draw
    { d.2 with stroke := { d.2.stroke with epoch := (d.1 : Int) - 1024 * s.stroke.now } }
  else s

/-- The generator runs again from cycle 0 of the held stroke (19 R688). A module that halted in a crew leaves it first (R687);
STROKE_EPOCH is derived again at RESUME and at the first STEP after a halt (R101). -/
def State.restart (s : State) (derive : Bool) : State :=
  let s1 : State := { s with tt := { s.tt with halted := false, stepping := false, trial := none, leaveCrew := false } }
  let s2 := (if s.tt.leaveCrew then s1.dissolve else s1).syncFromMode true
  (if derive then s2.newEpoch else s2).strokeStart

/-- RESUME (19 R688). -/
def State.resume (s : State) : State := if s.tt.halted then s.restart true else s

/-- STEP: one stroke runs, and the module halts again after its commit (19 R688). A halt whose cause is STEP is no new halt. -/
def State.stepOnce (s : State) : State :=
  if !s.tt.halted then s
  else
    let t := s.restart (decide (s.tt.haltCause ≠ 4))
    { t with tt := { t.tt with stepping := true, haltAt := some (s.stroke.now, 4, 0) } }

/-- Comparators and watch windows disarmed (R679). -/
def State.disarm (s : State) : State :=
  (List.range 8).foldl (fun (t : State) w => t.setReg .telltale 0 (0x20C + 16 * w) (t.reg .telltale 0 (0x20C + 16 * w) &&& 0xFFFFFFFE))
    ((List.range 16).foldl (fun (t : State) b => t.setReg .telltale 0 (0x100 + 16 * b) (t.reg .telltale 0 (0x100 + 16 * b) &&& 0xFFFFFFFE)) s)

/-- What an ended session leaves where the generator does not run again; a halt asked for and not yet made is dropped. -/
def State.dropSession (s : State) : State :=
  let s1 : State := { s with tt := { s.tt with
    session := false, halted := false, stepping := false, leaveCrew := false, haltAt := none, force := false, trial := none } }
  if s.tt.session then s1.disarm.latchEvt .telltale 0 8 else s1

/-- A session ends (R679). -/
def State.endSession (s : State) : State := if s.tt.session then s.resume.dropSession else s

/-- A session opens (R679): DEBUG_ENABLED holds until all memory is next wiped. -/
def State.openSession (s : State) : State :=
  (({ s with tt := { s.tt with session := true, debugEnabled := true } } : State).bump .telltale 0 0x94).latchEvt .telltale 0 8

end Sys2Proof.Machine
end

