-- ==== Sys2Proof/Machine/Reset.lean ====
section
/-!
DEFINITION. Resets and start-up (00 R17, 16 R620, R621, R628 to R632), the end of a tenancy (15 R584, R585), the
tamper line (14 R558 to R561) and the stop at a fatal fault (18 R660, R661).
-/

namespace Sys2Proof.Machine

/-! ### Registers and state across a reset -/

/-- A register after a WARM or TENANT reset: its ROS fields keep their value (00 R14, R17). -/
def rosValue (a : Nat) (v : W32) : W32 :=
  match pageOf a with
  | none => regReset a
  | some (p, _) =>
    match findReg p (a % 0x1000) with
    | none => regReset a
    | some d => let m := d.maskOf [.ros]; (v &&& m) ||| (regReset a &&& ~~~m)

/-- The register file after a WARM reset. -/
def warmRegs (m : NMap W32) : NMap W32 :=
  (m.map fun e => (e.1, rosValue e.1 e.2)).filter fun e => decide (e.2 ≠ regReset e.1)

/-- ETH_CFG and HAIL_UDP_PORT are restored from flash (11 R423). -/
def State.restoreSettings (s : State) : State :=
  (List.range 8).foldl (fun t p => t.setReg .eth p 0x40 (s.port p).flashCfg)
    (s.setReg .hail 0 0x44 (BitVec.ofNat 32 s.net.flashUdp))

/-- An Ashlar's permanent record (18 R654, R655). -/
def Ashlar.kept (a : Ashlar) : Ashlar := { fence := a.fence, strike := a.strike, storeWithdrawn := a.storeWithdrawn }

/-- The fabric with nothing but its fence map. -/
def Fabric.kept (f : Fabric) : Fabric := {
  ashlars := (f.ashlars.map fun e => (e.1, e.2.kept)).filter fun e => decide (e.2 ≠ {})
  vaults := (f.vaults.map fun e => (e.1, ({ fenced := e.2.fenced } : Vault))).filter fun e => decide (e.2 ≠ {})
  retired := f.retired }

/-- The fabric as the fence map of flash restores it (18 R663). -/
def FenceMap.fabric (m : FenceMap) : Fabric := {
  ashlars := m.ashlars.map fun e => (e.1, { fence := e.2.1, strike := e.2.2.1, storeWithdrawn := e.2.2.2 })
  vaults := m.vaults.map fun c => (c, { fenced := true })
  retired := m.retired }

/-- Halyard across a reset other than POR: epochs and generations (12 R462, R473). -/
def Halyard.kept (h : Halyard) : Halyard := {
  qps := (h.qps.map fun e => (e.1, ({ epoch := e.2.epoch } : Qp))).filter fun e => decide (e.2 ≠ {})
  keys := (h.keys.map fun e => (e.1, ({ gen := e.2.gen, used := e.2.used } : RKey))).filter fun e => decide (e.2 ≠ {})
  epochBase := h.epochBase, genBase := h.genBase }

/-- A port across a reset other than POR: a trained PHY stays trained (11 R423). -/
def Port.kept (p : Port) : Port := { phyUp := p.phyUp, linkUp := p.linkUp, fecLock := p.fecLock, flashCfg := p.flashCfg }

/-- The start-up items that a reset sets to their start (16 R616, R630); the rest is flash. -/
def Boot.restart (b : Boot) (stage : BootStage) (cause : Nat) (warmKeep : Bool) : Boot :=
  { b with
    stage := stage, lastReset := cause, warmKeep := warmKeep, infoA := .unchecked, infoB := .unchecked, fallback := false
    fwVersion := 0, fwState := .none, fwSlotB := false, stagedVer := 0, staged := {}, heartbeat := 0 }

/-- Everything volatile of the module wiped, the permanent and ROS state kept: what a WARM reset leaves (00 R17, 16
R621, R632; log entry 40). -/
def State.wiped (s : State) : State :=
  { regs := warmRegs s.regs, free := s.free, out := s.out, pending := s.pending
    stroke := { now := s.stroke.now, cycle := s.stroke.cycle, running := s.stroke.running, extra := s.stroke.extra }
    fabric := s.fabric.kept
    net := {
      ports := (s.net.ports.map fun e => (e.1, e.2.kept)).filter fun e => decide (e.2 ≠ {})
      mac := s.net.mac, flashUdp := s.net.flashUdp, halyard := s.net.halyard.kept }
    pcie := { s.pcie with bar2Base := 0 }
    boot := s.boot
    keep := { s.keep with slots := [], msg := [] }
    reef := {
      brakePin := s.reef.brakePin, cap := s.reef.brakePin || s.reef.capPower || s.reef.capThermal, capPin := s.reef.brakePin
      capPower := s.reef.capPower, capThermal := s.reef.capThermal }
    power := s.power
    tt := { ir := s.tt.ir, boundary := s.tt.boundary, trst := s.tt.trst } }

/-- A WARM reset for a cause; `keepFirst` runs stage KEEP (R632). A fatal fault keeps the generator stopped. -/
def State.warmReset (s : State) (cause : Nat) (keepFirst : Bool) : State :=
  let t := s.wiped
  { t with
    boot := s.boot.restart (if keepFirst then .keep else .fill) cause keepFirst
    stroke := { t.stroke with running := decide (s.boot.fatal = 0 ∧ s.keep.lc ≠ LifeCycle.tamperLock) } }.restoreSettings

/-- A POR for a cause (00 R17, 16 R620). With `unpowered` the input power had been absent: the alarm latches and
their count are clear (14 R558, R567). -/
def State.por (s : State) (cause : Nat) (unpowered : Bool) : State :=
  let k := s.keep
  let t : State := {
    free := s.free, out := s.out, pending := s.pending
    fabric := s.boot.flashMap.fabric
    net := {
      ports := (s.net.ports.map fun e => (e.1, ({ flashCfg := e.2.flashCfg } : Port))).filter fun e => decide (e.2 ≠ {})
      mac := s.net.mac, flashUdp := s.net.flashUdp }
    pcie := { perst := s.pcie.perst }
    boot := { s.boot.restart .keep cause false with fatal := 0 }
    keep := {
      fuses := k.fuses, rootA := k.rootA, rootB := k.rootB, activeB := k.activeB, commit := k.commit, lc := k.lc, record := k.record
      latched := if unpowered then 0 else k.latched, nowAlarm := k.nowAlarm
      certCa := k.certCa, certFactory := k.certFactory, certReturn := k.certReturn, certOwner := k.certOwner }
    reef := { brakePin := s.reef.brakePin, cap := s.reef.brakePin, capPin := s.reef.brakePin }
    power := { s.power with on := true, overs := 0, tripNear := [], tripped := false }
    tt := { trst := s.tt.trst } }
  let t1 := (List.range 6).foldl (fun (u : State) p =>
    let l := s.boot.flashLife.get (0, 0) p
    (u.setReg .pier p 0x5C (BitVec.ofNat 32 l.1)).setReg .pier p 0x60 (BitVec.ofNat 32 l.2)) t.restoreSettings
  if unpowered then t1 else t1.setReg .keep 0 0x78 (s.reg .keep 0 0x78)

/-- INITIALIZING of GLOBAL_STS (16 R615). -/
def State.initializing (s : State) : Bool := decide (s.boot.stage = .keep ∨ s.boot.stage = .memtest ∨ s.boot.stage = .fill)

/-- A write of GLOBAL_RESET (16 R616, 18 R661). -/
def State.writeReset (s : State) (v : W32) : State :=
  let shut := s.initializing || s.ten.scrubbing || decide (s.keep.lc = .tamperLock)
  if v = 0x504F5200 ∧ !shut then s.por 2 false
  else if v = 0x5741524D ∧ !shut ∧ s.boot.fatal = 0 ∧ s.boot.stage ≠ .failed then s.warmReset 3 false
  else s.pageError .global 0 0x50 4 v

def execWarmReset (s : State) : Res := .next (s.onPage .global 0 0x50 0x5741524D fun t => t.writeReset 0x5741524D)
def execPorReset (s : State) : Res := .next (s.onPage .global 0 0x50 0x504F5200 fun t => t.writeReset 0x504F5200)

/-- BOSUN_WATCHDOG: the heartbeat has not changed for 1 s (R620). -/
def execBosunWatchdog (s : State) : Res :=
  .next (if (s.boot.stage = .tamrik ∨ s.boot.stage = .ready) ∧ s.boot.fatal = 0 ∧ !s.lcHold ∧ !s.ten.scrubbing ∧ s.power.on
    then s.warmReset 4 false else s)

/-- HEARTBEAT_ADVANCE (R622). -/
def execHeartbeatAdvance (s : State) : Res :=
  .next (if s.boot.stage = .tamrik ∨ s.boot.stage = .ready then { s with boot := { s.boot with heartbeat := s.boot.heartbeat + 1 } } else s)

/-! ### Fatal faults (18 R660, R661) -/

/-- The Keystone's round and crew keys, stored shares and reconstructed secrets are zeroised (14 R559, step 1). -/
def State.zeroiseKeystone (s : State) : State :=
  let s1 : State := { s with rounds := { s.rounds with blocks := s.rounds.blocks.map fun e => (e.1, e.2.destroyKey.zeroise) } }
  s1.setHail { s1.hail with
    peers := s1.hail.peers.map fun e => (e.1, { e.2 with keyTx := [], keyRx := [], keyConfirm := [], ephPriv := [] }) }

/-- The stop at a fatal fault with its code. -/
def State.fatalStop (s : State) (code : Nat) : State :=
  let s1 := (s.zeroiseSlots fun i _ => decide (i < 56)).zeroiseKeystone
  let s2 : State := { s1 with
    stroke := { s1.stroke with running := false }
    boot := { s1.boot with fatal := code, stage := .failed }
    pcie := { s1.pcie with aerStatus := s1.pcie.aerStatus ||| 0x400000 } }
  ((List.range 8).foldl (fun (t : State) p => t.linkFalls p) s2.dropSession).latchEvt .global 0 8

/-- FATAL: a fault of R660 other than NO_FIRMWARE, which start-up finds. -/
def execFatal (code : Nat) (s : State) : Res :=
  if code ≠ 1 ∧ code ≠ 3 then .fault .badEvent
  else if s.boot.fatal ≠ 0 ∨ !s.power.on ∨ s.lcHold then .next s
  else .next (s.fatalStop code)

/-! ### Start-up (R628 to R632) -/

/-- A core whose store or lane fails at start-up is fenced (18 R653). -/
def State.fenceAtStart (s : State) (l : List (Nat × Nat)) : State :=
  l.foldl (fun (t : State) (e : Nat × Nat) => t.fenceAt e.1 e.2) s

/-- MEMTEST_DONE: stages KEEP and MEMTEST after a POR. `cores`, `stores` and `blocks` are what the tests find:
core positions by Ashlar, Ashlar stores, and HBM blocks (pseudo-channel × 2^20 + block). -/
def execMemtestDone (cores : List (Nat × Nat)) (stores blocks : List Nat) (s : State) : Res :=
  if (cores.any fun (e : Nat × Nat) => decide (e.1 ≥ 4800 ∨ e.2 ≥ 64)) ∨ (stores.any fun a => decide (a ≥ 4800)) ∨
      (blocks.any fun b => decide (b / 2 ^ 20 ≥ 384)) then .fault .noUnit
  else if s.boot.warmKeep ∨ (s.boot.stage ≠ .keep ∧ s.boot.stage ≠ .memtest) ∨ !s.power.on then .next s
  else
    let s1 := if s.boot.stage = .keep then s.keepStage false else s
    let s2 := stores.foldl (fun (t : State) a =>
      let x := t.ashlar a
      if x.storeWithdrawn then t else (t.setAshlar a { x with storeWithdrawn := true }).latchEvt .ashlar a 4) (s1.fenceAtStart cores)
    let ret := blocks.foldl (fun l b => if l.contains b then l else l ++ [b]) s2.fabric.retired
    if ret.length > 4096 then .next (s2.fatalStop 3)
    else .next { s2 with
      fabric := { s2.fabric with retired := ret }
      boot := { s2.boot with stage := .fill } }

/-- INIT_DONE: the FILL stage ends; after a key update stage KEEP has run before it. -/
def execInitDone (s : State) : Res :=
  let s1 : State :=
    if s.boot.stage = .keep ∧ s.boot.warmKeep then
      let t := s.keepStage true
      { t with boot := { t.boot with stage := .fill, warmKeep := false }, stroke := { t.stroke with running := decide (t.keep.lc ≠ LifeCycle.tamperLock) } }
    else s
  if s1.boot.stage ≠ .fill ∨ !s1.power.on then .next s
  else
    let hold := s1.lcHold
    .next (({ s1 with
      boot := { s1.boot with stage := if hold then .lcHold else .fwLoad }
      stroke := { s1.stroke with running := s1.stroke.running && decide (s1.keep.lc ≠ LifeCycle.tamperLock) } } : State).latchEvt .global 0 1)

/-- What GLOBAL_BOOT_INFO shows of a slot. -/
def FwSlot.info (f : FwSlot) : SlotState := if f.holds = .unchecked then .corrupt else f.holds

/-- The boot ROM tries a slot: its field is set, and whether it is accepted. -/
def Boot.tries (b : Boot) (slotB : Bool) : Bool × Boot :=
  if slotB then (decide (b.slotB.holds = .valid), { b with infoB := b.slotB.info })
  else (decide (b.slotA.holds = .valid), { b with infoA := b.slotA.info })

/-- A slot boots. -/
def Boot.booted (b : Boot) (slotB fallback : Bool) : Boot :=
  { b with
    bootedB := slotB, fallback := fallback, fwVersion := (if slotB then b.slotB else b.slotA).version, stage := .tamrik, fatal := 0
    recordB := slotB, recordSeq := if fallback then b.recordSeq + 1 else b.recordSeq }

/-- Stage FW_LOAD (R630). -/
def State.fwLoad (s : State) : State :=
  let x := s.boot.tries s.boot.recordB
  let run (b : Boot) : State := { s with boot := b, stroke := { s.stroke with running := true } }
  if x.1 then run (x.2.booted s.boot.recordB false)
  else
    let y := x.2.tries (!s.boot.recordB)
    if y.1 then (run (y.2.booted (!s.boot.recordB) true)).latchEvt .global 0 32
    else ({ s with boot := y.2 } : State).fatalStop 2

/-- A slot found corrupt at its reading. -/
def FwSlot.spoil (f : FwSlot) (bad : Bool) : FwSlot := if bad && decide (f.holds = .valid) then { f with holds := .corrupt } else f

/-- FW_LOAD_DONE: `badA` and `badB` say that a line of the slot is found corrupt at this reading. -/
def execFwLoadDone (badA badB : Bool) (s : State) : Res :=
  if s.boot.stage ≠ .fwLoad ∨ !s.power.on then .next s
  else .next ({ s with boot := { s.boot with slotA := s.boot.slotA.spoil badA, slotB := s.boot.slotB.spoil badB } } : State).fwLoad

/-- The page types and indices behind a vector that is not a summary vector. -/
def vectorPages (v : Nat) : List (Page × Nat) :=
  Page.all.flatMap fun p => ((List.range (min p.count 96)).map fun i => (p, i)).filter fun e => decide (e.1.vector e.2 = v)

/-- The condition of a vector: that of its pages, or a queue's unacknowledged notices with ARMED set (R606, R607). -/
def State.vectorHolds (s : State) (v : Nat) : Bool :=
  (match (vectorPages v).head? with
    | some (p, i) => s.vectorCond p i
    | none => false) ||
  s.spill.queues.any fun e => e.2.noticeEn && e.2.armed && decide (e.2.vector = v ∧ e.2.notices ≠ 0)

/-- The vectors held or pending whose condition no longer holds are dropped, and the others sent (R606, R607). -/
def State.releaseVectors (s : State) : State :=
  (List.range 68).foldl (fun (t : State) v =>
    if v ≠ 0 ∧ t.vectorHolds v ∧ !t.pcie.pba.contains v then t.sendVector v else t)
    (s.pcie.pba.foldl (fun (t : State) v =>
      if t.vectorHolds v then t.sendVector v else { t with pcie := { t.pcie with pba := t.pcie.pba.filter (· ≠ v) } }) s)

/-- An event of GLOBAL that R607 sends whatever EVT_ENABLE holds. -/
def State.latchSpecial (s : State) (mask : Nat) : State :=
  (s.setReg .global 0 0x14 (s.reg .global 0 0x14 ||| BitVec.ofNat 32 mask)).sendVector 0 true

/-- Entry to READY: the Keep's derivations are complete and every page comes into service. -/
def State.enterReady (s : State) : State :=
  let lc := s.keep.lc
  let s1 : State := { s with
    boot := { s.boot with stage := .ready }
    keep := { s.keep with keysReady := decide (lc = .factory ∨ lc = .opened ∨ lc = .sealed ∨ lc = .returned) } }
  s1.latchSpecial 2

/-- READY: stage TAMRIK ends. -/
def execReady (s : State) : Res :=
  if s.boot.stage ≠ .tamrik ∨ !s.power.on then .next s else .next s.enterReady.releaseVectors

/-- SLOT_CHECK: Tamrik checks the slot that was not tried (R630). -/
def execSlotCheck (s : State) : Res :=
  let b := s.boot
  if b.stage ≠ .ready then .next s
  else .next { s with boot := { b with
    infoA := if b.infoA = .unchecked then b.slotA.info else b.infoA
    infoB := if b.infoB = .unchecked then b.slotB.info else b.infoB } }

/-! ### The end of a tenancy (15 R584, R585) -/

/-- Step 1 of R584, at the commit: rounds fault and retire, the crew dissolves, rigs unload, keys are zeroised, and
the scrub begins. -/
def State.endTenancy (s : State) : State :=
  let s1 := s.rounds.blocks.foldl (fun (t : State) e => if e.2.state.working then t.faultRound e.1 8 else t) s
  let s2 := s1.rounds.blocks.foldl (fun (t : State) e => if e.2.state.live then t.retireRound e.1 else t) s1
  let s3 := s2.fabric.rigs.foldl (fun (t : State) e => t.unloadRig e.1) s2.dissolveCrew
  let s4 := s3.zeroiseSlots fun i _ => decide (i < 56)
  { s4 with
    cipher := {}, weights := {}
    ten := { s4.ten with scrubbing := true, guardC := false, guardW := false } }

/-- Telltale is held outside the WARM reset of an unlock (19 R684): its page and its controller stay, and a session that was open
has ended (R679). -/
def State.keepTelltale (s before : State) : State :=
  let t : State := { s with
    regs := (before.regs.filter fun e => decide (0x5000 ≤ e.1 ∧ e.1 < 0x6000)).foldl (fun m e => NMap.put m (regReset e.1) e.1 e.2)
      (s.regs.dropWhere fun a => decide (0x5000 ≤ a ∧ a < 0x6000))
    tt := { s.tt with
      session := before.tt.session, unlockResult := before.tt.unlockResult, haltCause := before.tt.haltCause, hit := before.tt.hit
      resStatus := before.tt.resStatus, resAddr := before.tt.resAddr, resData := before.tt.resData } }
  t.dropSession

/-- SCRUB_DONE: steps 2 to 5 of R584, at whose end RELEASE ends. -/
def execScrubDone (s : State) : Res :=
  if !s.ten.scrubbing ∨ s.lcHold ∨ s.boot.fatal ≠ 0 ∨ !s.power.on then .next s
  else
    let s1 := s.saveTotals
    let s2 := (s1.warmReset 7 false).fwLoad
    if s2.boot.stage = .failed then .next s2
    else
      let s3 := (s2.setReg .global 0 0x14 1).enterReady.setReg .global 0 0x44 1000
      let s3 := if s.bosun.busy ∧ s.bosun.op = 2 then s3.latchEvt .bosun 0 1 else s3
      let s4 := if s.tt.unlockPending then (s3.keepTelltale s).openSession else s3
      .next (s4.latchSpecial 4).releaseVectors

/-! ### The tamper line (14 R558 to R561) -/

/-- The sensor is armed in the life-cycle state (R558). -/
def State.sensorArmed (s : State) (i : Nat) : Bool :=
  match s.keep.lc with
  | .sealed => true
  | .opened => if i = 1 ∨ i = 2 then (s.reg .keep 0 0x70).toNat.testBit (i - 1) else true
  | _ => false

/-- Step 1 of R559: every secret is zeroised and every operation in progress aborted. -/
def State.tamperZero (s : State) : State :=
  let s1 := s.zeroiseSlots fun _ _ => true
  let s2 : State := { s1 with keep := { s1.keep with drbgOk := false, keysReady := false, wellothKey := none } }
  let s3 := s2.zeroiseKeystone
  if s3.keepCmd.busy then s3.finishKeep 0x10 else s3

/-- Steps 2 and 3 of R559 with the end of the tenancy: SEALED_KILL burned, TAMPER_LOCK entered, all memory filled. -/
def State.tamperLock (s : State) : State :=
  let t := s.wiped
  let t1 : State := { t with
    boot := { s.boot with stage := .lcHold, fwVersion := 0 }
    stroke := { t.stroke with running := false }
    keep := { t.keep with lc := .tamperLock, fuses := { t.keep.fuses with sealedKill := true } }
    keepCmd := s.keepCmd }
  (List.range 8).foldl (fun (u : State) p => u.linkFalls p)
    ((t1.setReg .keep 0 0x14 (s.reg .keep 0 0x14)).setReg .keep 0 0x18 (s.reg .keep 0 0x18))

/-- TAMPER_ALARM: a filtered alarm of sensor `sensor`; `held` says that it is still in alarm afterwards. With the rails down the
sensors stay armed in the life-cycle state held: after a thermal trip (20 R715), and in the first 3 ms after a loss of the input
(R721), later than which there is no alarm. -/
def execTamperAlarm (sensor : Nat) (held : Bool) (s : State) : Res :=
  if sensor ≥ 7 then .fault .noUnit
  else
    let s1 := (s.setKeep { s.keep with
      latched := putBit s.keep.latched sensor true, nowAlarm := putBit s.keep.nowAlarm sensor held }).bump .keep 0 0x78
    let s2 := s1.latchEvt .keep 0 4
    if s.boot.stage = .keep ∧ s.power.on then .next s2.endSession
    else match s.keep.lc with
      | .scrapped => .next s2
      | .tamperLock => .next s2
      | .opened => .next (if s.sensorArmed sensor then s2.tamperZero.tamperLock else s2)
      | .sealed => .next s2.tamperZero.tamperLock
      | _ => .next s2.tamperZero.endSession

end Sys2Proof.Machine
end

