-- ==== Sys2Proof/Machine/Bosun.lean ====
section
/-!
DEFINITION. The BOSUN page's commands (16 R622 to R630), the claim (15 R576 to R578) and WEIGHTS_IO (15 R581 to
R583).
-/

namespace Sys2Proof.Machine

/-! ### Landing and end of a command -/

/-- The argument block of the command in progress. -/
def State.bosunArgs (s : State) : List Byte := s.bosun.args.flatMap fun w => toLe 4 w.toNat

/-- A write of BOSUN_CMD lands (R622): while one is in progress it is ignored and counted. -/
def State.landBosun (s : State) (op : Nat) : State :=
  if s.bosun.busy then s.pageError .bosun 0 0x40 3 (BitVec.ofNat 32 op)
  else { s with bosun := { s.bosun with
    busy := true, op := op, eff := s.effStroke, ready := false, bad := false
    args := (List.range 64).map fun i => s.reg .bosun 0 (0x100 + 4 * i) } }

/-- A command ends: outcome and result set, BUSY falls, CMD_DONE latches (00 R722). -/
def State.finishBosun (s : State) (o result : Nat) : State :=
  ({ s with bosun := { s.bosun with busy := false, ready := false, outcome := o, result := result } } : State).latchEvt .bosun 0 1

/-- Every argument byte outside the listed (offset, length) ranges is zero (R623). -/
def unusedZero (l : List Byte) (used : List (Nat × Nat)) : Bool :=
  (List.range l.length).all fun i => decide (l.getD i 0 = 0) || used.any fun (e : Nat × Nat) => decide (e.1 ≤ i ∧ i < e.1 + e.2)

/-- A command that the state of the module turns away, with its outcome (R624, R630, 18 R661). -/
def State.bosunGate (s : State) (op kind : Nat) : Option Nat :=
  if op = 0 ∨ op > 13 then some 1
  else if s.boot.stage = .failed then
    if op = 13 ∨ (s.boot.fatal = 2 ∧ (op = 11 ∨ op = 12)) then none else some 1
  else if s.claimedNow ∨ op = 1 ∨ op = 2 ∨ op = 11 ∨ op = 12 ∨ op = 13 then none
  else if op = 3 then (if kind = 1 then none else some 3)
  else some 0x10

/-- A BOSUN command row. -/
def bosunCommand (op : Nat) (s : State) : Res := .next (s.onPage .bosun 0 0x40 (BitVec.ofNat 32 op) fun t => t.landBosun op)

def execBoClaim (cycle : Nat) (s : State) : Res := bosunCommand 1 (s.atCycle cycle)
def execBoRelease (cycle : Nat) (s : State) : Res := bosunCommand 2 (s.atCycle cycle)
def execBoAttest (s : State) : Res := bosunCommand 3 s
def execBoRegionAlloc (s : State) : Res := bosunCommand 4 s
def execBoRegionFree (s : State) : Res := bosunCommand 5 s
def execBoRigLoad (s : State) : Res := bosunCommand 6 s
def execBoRigUnload (cycle : Nat) (s : State) : Res := bosunCommand 7 (s.atCycle cycle)
def execBoFnLoad (s : State) : Res := bosunCommand 8 s
def execBoFnUnload (cycle : Nat) (s : State) : Res := bosunCommand 9 (s.atCycle cycle)
def execBoHostCopy (s : State) : Res := bosunCommand 10 s
def execBoFwStage (s : State) : Res := bosunCommand 11 s
def execBoFwActivate (s : State) : Res := bosunCommand 12 s
def execBoFenceMapRead (s : State) : Res := bosunCommand 13 s

/-! ### Claim (15 R576 to R578) -/

/-- The claim block keeps R576. -/
def claimForm (b : List Byte) : Bool :=
  decide (leAt b 0 4 = 0x4D36434C) && decide (leAt b 4 2 = 1) && decide (leAt b 6 2 < 8) && unusedZero b [(0, 0x68)]

def State.claimOutcome (s : State) : Nat :=
  if !claimForm s.bosunArgs then 1
  else if s.ten.scrubbing then 5
  else if s.ten.claimed then 2
  else if s.keep.lc = .opened ∨ s.keep.lc = .sealed then 0
  else 4

/-- A register returns to 0 at claim (R577). -/
def claimZero (a : Nat) : Bool :=
  match pageOf a with
  | none => false
  | some (p, _) => (findReg p (a % 0x1000)).any (·.claim0) || (decide (p = .pcie) && decide (a % 0x1000 = 0x48 ∨ a % 0x1000 = 0x4C))

/-- A queue whose ring the claim's fill has emptied, its counters 0 (10 R415; log entry 41). -/
def Queue.refilled (q : Queue) : Queue :=
  { q with
    items := [], rd := 0, intakeMark := 0, rigMark := 0, hostMark := 0, relPend := none, handed := 0, handedItems := 0, inPlace := 0
    notices := 0, packets := 0, dropped := 0, abandoned := 0, overruns := 0 }

/-- The epoch of a queue-pair index advanced by `d` (12 R462). -/
def epochAfter (e d : Nat) : Nat := if e = 0 then 0 else (e - 1 + d) % 254 + 1

/-- Every epoch and every generation advanced by the drawn amounts (R577, step 3). -/
def Halyard.advance (h : Halyard) (d g : Nat) : Halyard :=
  { h with
    qps := h.qps.map fun e => (e.1, { e.2 with epoch := epochAfter e.2.epoch d })
    keys := h.keys.map fun e => (e.1, if e.2.used then { e.2 with gen := (e.2.gen + g) % 256 } else e.2)
    epochBase := h.epochBase + d, genBase := h.genBase + g }

/-- Registers and counters that return to 0 at claim (R577, step 2); REEF_POWER.MAX starts again (17 R650). -/
def State.claimReset (s0 : State) : State :=
  let s := s0.setReg .reef 0 0x6C (s0.reg .reef 0 0x6C &&& 0xFFFF)
  { s with
    regs := s.regs.filter fun e => !claimZero e.1
    stroke := { s.stroke with lastOverrun := 0 }
    rounds := {}
    spill := { s.spill with queues := s.spill.queues.map fun e => (e.1, e.2.refilled) }
    pcie := { s.pcie with bar2Base := 0 }
    fabric := { s.fabric with
      areas := [], queueMax := [], moduli := []
      ashlars := (s.fabric.ashlars.map fun e => (e.1, { e.2 with markerMax := 0 })).filter fun e => decide (e.2 ≠ {}) }
    net := { s.net with
      ports := (s.net.ports.map fun e => (e.1, { e.2 with nbrMultiple := false })).filter fun e => decide (e.2 ≠ {})
      hail := { s.net.hail with psk := [], pskWritten := [], epochs := [], everSeen := [] } } }

/-- Steps 1 to 4 of an accepted claim, at the commit of its landing stroke. -/
def State.claimCommit (s : State) : State :=
  let b := s.bosunArgs
  let g := leAt b 6 2
  let x := s.draw
  let y := x.2.draw
  let s1 := (y.2.claimReset).zeroRange 0 0x12000000000
  { s1 with
    bosun := { s1.bosun with ready := true }
    net := { s1.net with halyard := s1.net.halyard.advance (x.1 % 253 + 1) (y.1 % 255 + 1) }
    ten := { s1.ten with
      claiming := true, guardC := g.testBit 0, guardW := g.testBit 1, moduleMode := g.testBit 2
      claimDigest := sha256 (b.take 128), rigKey := (b.drop 8).take 32 } }

/-- HBM address of a retired block under an interleave mode (13 R509, 18 R662). -/
def blockAddr (moduleMode : Bool) (r : Nat) : Nat :=
  let pc := r / 2 ^ 20
  let k := r % 2 ^ 20
  if moduleMode then 4096 * (k * 384 + pc) else pc / 64 * 0x3000000000 + 4096 * (k * 64 + pc % 64)

/-- The pages that a claim withholds (18 R657). -/
def State.withheldPages (s : State) : List Nat :=
  (s.fabric.retired.map fun r => blockAddr s.ten.moduleMode r / 0x200000 * 0x200000).eraseDups

/-- Free ranges that [lo, hi) has beside the listed ones: their starts. -/
def gapStarts (lo hi : Nat) (l : List (Nat × Nat)) : List Nat :=
  ((lo :: l.map fun (e : Nat × Nat) => e.1 + e.2).filter fun a =>
    decide (lo ≤ a ∧ a < hi) && l.all fun (e : Nat × Nat) => !decide (e.1 ≤ a ∧ a < e.1 + e.2)).eraseDups

/-- Tamrik's 16 GiB keep R626: whole pages that hold no retired block, leaving one free range in each Pier, or one
under MODULE interleave. -/
def State.reserveOk (s : State) (l : List (Nat × Nat × Bool)) : Bool :=
  let r := l.map fun e => (e.1, e.2.1)
  decide (r.foldl (fun n (e : Nat × Nat) => n + e.2) 0 = 2 ^ 34) &&
  r.all (fun e => decide (e.1 % 0x200000 = 0 ∧ e.2 % 0x200000 = 0 ∧ 0 < e.2 ∧ e.1 + e.2 ≤ 0x12000000000)) &&
  allPairs (fun (a b : Nat × Nat) => decide (a.1 + a.2 ≤ b.1) || decide (b.1 + b.2 ≤ a.1)) r &&
  s.withheldPages.all (fun w => r.all fun e => !overlaps w 0x200000 e.1 e.2) &&
  (if s.ten.moduleMode then decide ((gapStarts 0 0x12000000000 r).length ≤ 1)
    else (List.range 6).all fun p => decide ((gapStarts (p * 0x3000000000) ((p + 1) * 0x3000000000) r).length ≤ 1))

/-- CLAIM_COMPLETE: the fill has ended. `reserve` is where Tamrik places its 16 GiB (R626): base, length, and whether it
holds rings. -/
def execClaimComplete (reserve : List (Nat × Nat × Bool)) (s : State) : Res :=
  if !s.ten.claiming then .next s
  else if !s.reserveOk reserve then .fault .badEvent
  else
    let areas : List Area :=
      (reserve.map fun e => { base := e.1, len := e.2.1, tag := if e.2.2 then 4 else 5, owner := .tamrik }) ++
      s.withheldPages.map fun w => { base := w, len := 0x200000, tag := 0, owner := .withheld }
    let s1 : State := { s with
      ten := { s.ten with claiming := false, claimed := true }
      fabric := { s.fabric with areas := s.fabric.areas ++ areas } }
    .next ((s1.latchEvt .global 0 16).finishBosun 0 0)

/-! ### RELEASE, RIG_UNLOAD, FN_UNLOAD -/

def State.releaseOutcome (s : State) : Nat :=
  if !allZero s.bosunArgs then 1 else if s.ten.claiming then 5 else if !s.ten.claimed then 3 else 0

/-- RIG_UNLOAD at its commit: outcome and effect. -/
def State.rigUnload (s : State) : Nat × State :=
  let b := s.bosunArgs
  let id := leAt b 0 4
  if id ≥ 1024 ∨ !unusedZero b [(0, 4)] then (1, s)
  else match s.rig? id with
    | none => (0x17, s)
    | some r => if r.sealed then (0x17, s) else (0, s.unloadRig id)

/-- A function's queues are bound to it, or released from it (10 R393). -/
def State.bindFn (s : State) (req done : Nat) (bind : Bool) : State :=
  let q := s.queue req
  let s1 := s.setQueue req { q with
    rigBinds := if bind then q.rigBinds + 1 else q.rigBinds - 1
    consumer := if bind then .unit else if q.hostCons then .host else .none }
  let d := s1.queue done
  s1.setQueue done { d with rigBinds := if bind then d.rigBinds + 1 else d.rigBinds - 1 }

/-- The rigs and the area of a function go (08 R321). -/
def State.dropFn (s : State) (f : Nat) : State :=
  let s1 := s.fabric.rigs.foldl (fun (t : State) e => if e.2.func = f then t.unloadRig e.1 else t) s
  let s2 := s1.fabric.areas.foldl (fun (t : State) a => if a.owner = .func f then t.zeroRange a.base a.len else t) s1
  s2.dropAreas fun a => decide (a.owner = .func f)

/-- Requests of a function are queued or unfinished. -/
def State.fnBusy (s : State) (f : Nat) : Bool :=
  if f = 1 then !(s.queue s.cipher.reqQueue).items.isEmpty || !s.cipher.completions.isEmpty
  else !(s.queue s.weights.reqQueue).items.isEmpty || !s.weights.completions.isEmpty

/-- FN_UNLOAD at its commit: outcome and effect. -/
def State.fnUnload (s : State) : Nat × State :=
  let b := s.bosunArgs
  let f := leAt b 0 4
  if (f ≠ 1 ∧ f ≠ 2) ∨ !unusedZero b [(0, 4)] then (1, s)
  else if (f = 1 && !s.cipher.loaded) || (f = 2 && !s.weights.loaded) then (0x17, s)
  else if s.fnBusy f then (0x15, s)
  else if f = 1 then (0, { (s.bindFn s.cipher.reqQueue s.cipher.doneQueue false).dropFn 1 with cipher := {} })
  else (0, { (s.bindFn s.weights.reqQueue s.weights.doneQueue false).dropFn 2 with weights := {} })

/-! ### ATTEST (15 R573, R574) -/

def attestForm (b : List Byte) : Bool :=
  let w := leAt b 0 4
  decide (w % 256 = 1 ∨ w % 256 = 2) && decide (w / 2 ^ 12 % 16 = 0) && decide (w / 2 ^ 17 = 0) && decide (leAt b 8 8 % 64 = 0) &&
  unusedZero b [(0, 4), (8, 8), (0x20, 32)]

/-- A ROUND statement's outcome at the commit of the current stroke (R574). -/
def State.attestRound (s : State) (blk : Nat) : Nat :=
  let r := s.round blk
  if r.state = .none then 6
  else if r.state.working && r.setup && decide (r.setupAt < s.stroke.now) then 0
  else 7

/-- ATTEST at the commit at which its statement is built. -/
def State.attestCommit (s : State) : State :=
  let b := s.bosunArgs
  let w := leAt b 0 4
  let blk := w / 256 % 16
  let o := if w % 256 = 2 then s.attestRound blk else 0
  if o ≠ 0 then s.finishBosun o 0
  else if !s.pcie.bme then s.finishBosun 0x18 0
  else
    let st := s.statement (w % 256) blk 0 ((b.drop 0x20).take 32) s.stroke.now
    let c := s.certChain
    let msg := if w.testBit 16 then st ++ toLe 2 c.length ++ c else st
    (s.emit (.hostWrite (leAt b 8 8) msg)).finishBosun 0 msg.length

/-! ### Regions (R626) -/

def allocForm (s : State) (b : List Byte) : Bool :=
  let w := leAt b 0 4
  let place := w / 16 % 4
  let unit := if place = 2 then 0x10000 else 0x200000
  let n := leAt b 8 8
  decide (w % 16 = 1 ∨ w % 16 = 2) && decide (place ≤ 2) && decide (w / 2 ^ 6 % 4 = 0 ∧ w / 2 ^ 11 % 32 = 0 ∧ w / 2 ^ 29 = 0) &&
  decide (w / 2 ^ 8 % 8 < 6) && decide (w / 2 ^ 16 % 2 ^ 13 < 4800) && decide (place = 1 ∨ w / 2 ^ 8 % 8 = 0) &&
  decide (place = 2 ∨ w / 2 ^ 16 % 2 ^ 13 = 0) && decide (0 < n ∧ n % unit = 0) && !(decide (place = 1) && s.ten.moduleMode) &&
  unusedZero b [(0, 4), (8, 8)]

/-- REGION_ALLOC: outcome, address and effect. -/
def State.regionAlloc (s : State) : Nat × Nat × State :=
  let b := s.bosunArgs
  let w := leAt b 0 4
  let n := leAt b 8 8
  let p := w / 2 ^ 8 % 8
  let a := w / 2 ^ 16 % 2 ^ 13
  if !allocForm s b then (1, 0, s)
  else if w % 16 = 2 ∧ !s.ten.guardW then (0x12, 0, s)
  else
    let found := match w / 16 % 4 with
      | 0 => if n ≤ s.freeMemory then s.lowestFree 0 0x12000000000 n else none
      | 1 => if n ≤ s.freeMemory then s.lowestFree (p * 0x3000000000) ((p + 1) * 0x3000000000) n else none
      | _ => if (s.ashlar a).storeWithdrawn then none else s.lowestFree (storeLo a) (storeHi a) n
    match found with
    | none => (0x13, 0, s)
    | some x => (0, x, s.addArea { base := x, len := n, tag := w % 16, owner := .tenant })

/-- Something names the range (R626): a placed rig's region map, a Halyard key, a key set, or a command of another page
in progress. -/
def State.rangeNamed (s : State) (a n : Nat) : Bool :=
  (s.fabric.rigs.any fun e => e.2.regions.any fun g => overlaps a n g.base g.len) ||
  (s.net.halyard.keys.any fun e => e.2.live && !e.2.host && overlaps a n e.2.start e.2.len) ||
  (s.cipher.keySets.any fun e => overlaps a n e.2.addr e.2.len) ||
  (s.muster.busy && decide (s.muster.op = 1 ∨ s.muster.op = 2 ∨ s.muster.op = 7) &&
    overlaps a n ((s.muster.args.getD 1 0).toNat + 2 ^ 32 * (s.muster.args.getD 2 0).toNat) 1) ||
  (s.keepCmd.busy && decide (1 ≤ s.keepCmd.op ∧ s.keepCmd.op ≤ 4) &&
    overlaps a n ((s.keepCmd.args.getD 0 0).toNat + 2 ^ 32 * ((s.keepCmd.args.getD 1 0).toNat % 2 ^ 16)) 1)

/-- REGION_FREE: outcome and effect. -/
def State.regionFree (s : State) : Nat × State :=
  let b := s.bosunArgs
  let a := leAt b 8 8
  if a % 32 ≠ 0 ∨ !unusedZero b [(8, 8)] then (1, s)
  else match s.fabric.areas.find? fun r => decide (r.base = a ∧ r.owner = .tenant) with
    | none => (0x17, s)
    | some r =>
      if s.rangeNamed r.base r.len then (0x15, s)
      else (0, (s.zeroRange r.base r.len).dropAreas fun x => decide (x.base = a ∧ x.owner = .tenant))

/-! ### RIG_LOAD (03 R131 to R135, R627) -/

/-- The signature rule of R132 for a tenant rig. -/
def State.rigSigned (s : State) (i : RigImage) : Bool :=
  match i.signKind with
  | 0 => !s.ten.guardC && !s.ten.guardW
  | 1 => !allZero s.ten.rigKey && decide (i.signerId = sha256 s.ten.rigKey) && ed25519Verify s.ten.rigKey i.measured i.signature
  | _ => false

/-- A mapped range may stand for a declared region (R133, R627). -/
def State.bindsRegion (s : State) (g : RigRegion) : Bool :=
  decide (g.base % 32 = 0 ∧ g.minLen ≤ g.len ∧ 0 < g.len) && s.tenantRange g.base g.len g.tag

/-- A queue may be bound in a role (R133, 10 R393): the tenant's, no other rig has it in that role, and no other consumer
where the role consumes. -/
def State.bindsQueue (s : State) (q : RigQueue) : Bool :=
  decide ((s.queue q.queue).owner = .tenant) && decide (q.queue < 16320) &&
  (s.fabric.rigs.all fun e => e.2.queues.all fun x => !decide (x.queue = q.queue ∧ x.role = q.role)) &&
  (decide (q.role = 2) || decide ((s.queue q.queue).consumer = .none))

/-- R355: the last region and the last queue of a rig with VAULT_USE. -/
def Rig.vaultDeclared (r : Rig) : Bool :=
  match r.regions.getLast?, r.queues.getLast? with
  | some g, some q => decide (g.access % 4 = 3 ∧ g.minLen ≤ 1048576 ∧ g.tag = (if r.sealed then 3 else 1) ∧ q.role = 2)
  | _, _ => false

/-- The rig with the maps of its load block. -/
def Rig.mapped (r : Rig) (l : List Byte) : Rig :=
  { r with
    regions := ((List.range r.regions.length).zip r.regions).map fun e =>
      { e.2 with base := leAt l (0x10 + 16 * e.1) 8, len := leAt l (0x18 + 16 * e.1) 8 }
    queues := ((List.range r.queues.length).zip r.queues).map fun e => { e.2 with queue := leAt l (0x410 + 4 * e.1) 4 } }

/-- The load block keeps R627 for a rig. -/
def loadBlockOk (l : List Byte) (r : Rig) : Bool :=
  decide (leAt l 0 4 = 0x4D364C42) && decide (leAt l 4 2 = 1) && decide (leAt l 6 2 = 0) &&
  allZero ((l.drop (0x10 + 16 * r.regions.length)).take (0x400 - 16 * r.regions.length)) &&
  (List.range r.queues.length).all (fun i => decide (leAt l (0x410 + 4 * i) 4 < 2 ^ 14)) &&
  allZero ((l.drop (0x410 + 4 * r.queues.length)).take (0x100 - 4 * r.queues.length))

/-- The bindings of a rig; the entries of R355 are not looked at. -/
def State.rigBinds (s : State) (r : Rig) : Bool :=
  let n := b2n r.vaultUse
  (!r.vaultUse || r.vaultDeclared) &&
  (r.regions.take (r.regions.length - n)).all s.bindsRegion && (r.queues.take (r.queues.length - n)).all s.bindsQueue &&
  allPairs (fun (a b : RigQueue) => !decide (a.queue = b.queue ∧ a.role = b.role)) (r.queues.take (r.queues.length - n))

/-- The checks of R133 after MALFORMED, and the placement: outcome, result and effect. -/
def State.placeTenant (s : State) (i : RigImage) (l : List Byte) : Nat × Nat × State :=
  let r := i.rig.mapped l
  if i.kind = 2 ∨ r.regions.any (fun g => decide (g.tag = 3)) then (2, 0, s)
  else if !s.rigSigned i then (3, 0, s)
  else if i.endCycle > 1919 ∨ i.mortarFinish > 2039 then (4, 0, s)
  else match (List.range 1024).find? fun k => (s.rig? k).isNone with
    | none => (5, 0, s)
    | some id =>
      if !s.rigBinds r then (6, 0, s)
      else match s.placeRig id r with
        | none => (7, 0, s)
        | some t => (0, id + 2 ^ 32 * r.version.toNat, t.bindQueues r true)

/-- RIG_LOAD: the load block and the image are read from OPEN regions of the tenant. -/
def State.rigLoad (s : State) : Nat × Nat × State :=
  let b := s.bosunArgs
  let a := leAt b 8 8
  if a % 32 ≠ 0 ∨ !unusedZero b [(8, 8)] ∨ !s.tenantRange a 0x510 1 then (1, 0, s)
  else
    let l := s.readBytes 9 a 0x510
    let img := leAt l.1 8 8
    if l.2.1 ∨ img % 32 ≠ 0 ∨ !l.2.2.tenantRange img 64 1 then (1, 0, l.2.2)
    else
      let h := l.2.2.readBytes 9 img 64
      let n := leAt h.1 8 8
      if h.2.1 ∨ n < 64 ∨ !h.2.2.tenantRange img n 1 then (1, 0, h.2.2)
      else
        let x := h.2.2.readBytes 9 img n
        match parseImage x.1 with
        | none => (1, 0, x.2.2)
        | some i => if x.2.1 ∨ !loadBlockOk l.1 i.rig then (1, 0, x.2.2) else x.2.2.placeTenant i l.1

/-! ### FN_LOAD (08 R321, 15 R581) -/

/-- One sealed rig of a function on an Ashlar: CIPHER's binds the Vault of its Course. -/
def State.placeFn (s : State) (f x : Nat) : State :=
  let id := ((List.range 65536).find? fun i => (s.rig? i).isNone).getD 0
  let m := ~~~(s.ashlar x).fence
  let a : RigAshlar := { useMask := m, freeMask := m, seqFirst := 0, place := some x, freeAt := positions m }
  let s1 := s.setRig id { sealed := true, func := f, symAllow := 1, ashlars := [a], vaultUse := decide (f = 1) }
  if f = 1 then s1.setQueue (16384 + courseOf x) { owner := .tenant, ringLog := 9, consumer := .unit } else s1

/-- Ashlars on which a function's rigs may stand: free, one to each Course, the Vault free for CIPHER. -/
def State.fnPlaces (s : State) (f courses : Nat) (l : List Nat) : Bool :=
  decide (l.length = courses) && l.all (fun x => decide (x < 4800) && s.ashlarFree none x && (decide (f ≠ 1) || s.vaultFree none (courseOf x))) &&
  allPairs (fun x y => decide (courseOf x ≠ courseOf y)) l

def fnForm (b : List Byte) : Bool :=
  let w := leAt b 0 4
  decide (w % 256 = 1 ∨ w % 256 = 2) && decide (1 ≤ w / 256 % 256 ∧ w / 256 % 256 ≤ 96) && decide (w / 2 ^ 16 = 0) &&
  decide (w % 256 = 1 ∨ leAt b 4 4 = 0) && decide (leAt b 8 2 < 2 ^ 14 ∧ leAt b 10 2 < 2 ^ 14) && unusedZero b [(0, 12)]

/-- FN_LOAD: outcome and effect. `places` is the placement of the function's rigs, none where the procedure finds none; it
answers nothing for a placement that cannot be. -/
def State.fnLoad (s : State) (places : List Nat) : Option (Nat × State) :=
  let b := s.bosunArgs
  let f := leAt b 0 1
  let n := leAt b 1 1
  let req := leAt b 8 2
  let done := leAt b 10 2
  let len := 0x200000 * leAt b 4 4
  if !fnForm b then some (1, s)
  else if (s.queue req).owner ≠ .tenant ∨ (s.queue done).owner ≠ .tenant ∨ req ≥ 16320 ∨ done ≥ 16320 then some (0x17, s)
  else if f = 2 ∧ !s.ten.guardW then some (0x12, s)
  else if (f = 1 && s.cipher.loaded) || (f = 2 && s.weights.loaded) || decide ((s.queue req).consumer ≠ .none) then some (0x15, s)
  else
    let area := if len = 0 then some (0, s) else if len > s.freeMemory then none else s.allocHigh len 3 (.func f)
    match area with
    | none => some (0x13, s)
    | some (a, s1) =>
      if places.isEmpty then some (0x16, s)
      else if !s.fnPlaces f n places then none
      else
        let d := (places.foldl (fun (t : State) x => t.placeFn f x) (s1.bindFn req done true)).draw
        let v := BitVec.ofNat 32 d.1
        some (0, if f = 1 then
            d.2.setCipher { loaded := true, courses := n, areaBase := a, areaLen := len, reqQueue := req, doneQueue := done, version := v }
          else { d.2 with weights := { loaded := true, version := v, reqQueue := req, doneQueue := done } })

/-! ### HOST_COPY (R623, R625) -/

def copyForm (b : List Byte) : Bool :=
  let n := leAt b 0x18 8
  decide (leAt b 0 4 < 2) && decide (leAt b 8 8 % 64 = 0 ∧ leAt b 0x10 8 % 32 = 0 ∧ n % 32 = 0 ∧ 32 ≤ n ∧ n ≤ 2 ^ 32) &&
  unusedZero b [(0, 4), (8, 24)]

/-- Writes module words to host memory, a bad word as a poisoned TLP: whether any was bad. -/
def State.copyOut (s : State) (w addr n : Nat) : Bool × State :=
  match n with
  | 0 => (false, s)
  | n + 1 =>
    let r := s.readWord 6 w
    let s1 := r.2.2.emit (if r.2.1 then .hostPoison addr r.1 else .hostWrite addr r.1)
    let q := s1.copyOut (w + 1) (addr + 32) n
    (r.2.1 || q.1, q.2)

/-- HOST_COPY: outcome and effect; nothing for data of a length that is not asked for. -/
def State.hostCopy (s : State) (x : Completion) : Option (Nat × State) :=
  let b := s.bosunArgs
  let h := leAt b 8 8
  let a := leAt b 0x10 8
  let n := leAt b 0x18 8
  if !copyForm b then some (1, s)
  else if !s.tenantRange a n 1 then some (0x14, s)
  else if !s.pcie.bme then some (0x18, s)
  else if leAt b 0 4 = 1 then
    let c := s.copyOut (a / 32) h (n / 32)
    some (if c.1 then 0x19 else 0, c.2)
  else if x.fail then some (0x18, s.emit (.hostRead h n))
  else if x.data.length ≠ n then none
  else some (0, (s.emit (.hostRead h n)).writeBytes 6 a x.data)

/-! ### Firmware (R629, R630) -/

/-- A slot of the flash. -/
def Boot.setSlot (b : Boot) (slotB : Bool) (f : FwSlot) : Boot := if slotB then { b with slotB := f } else { b with slotA := f }
def Boot.setInfo (b : Boot) (slotB : Bool) (i : SlotState) : Boot := if slotB then { b with infoB := i } else { b with infoA := i }

/-- The slot an image makes. -/
def imageSlot (i : FwImage) : FwSlot := {
  holds := .valid, version := BitVec.ofNat 32 i.version, measurement := sha256 i.body, updateKey := i.key, rigs := i.rigs }

/-- The image's signature verifies under a key whose hash is WELLOTH_KEY_HASH. -/
def State.imageSigned (s : State) (i : FwImage) : Bool :=
  decide (sha256 i.key = s.keep.fuses.wellothHash) && ed25519Verify i.key i.body i.sig

/-- Programming starts in the slot that is not running; a write-protected slot keeps what it holds (20 R709). -/
def State.startProgram (s : State) (i : FwImage) : State :=
  let slotB := !s.boot.bootedB
  let old := if slotB then s.boot.slotB else s.boot.slotA
  let b := if s.power.flashWp then s.boot else s.boot.setSlot slotB { old with holds := .corrupt }
  { s with boot := { b with
    fwState := .programming, fwSlotB := slotB, staged := if s.power.flashWp then { imageSlot i with holds := .corrupt } else imageSlot i } }

/-- FW_STAGE: outcome and effect. -/
def State.fwStage (s : State) (x : Completion) : Nat × State :=
  let b := s.bosunArgs
  let h := leAt b 8 8
  let n := leAt b 0x10 8
  if h % 64 ≠ 0 ∨ n = 0 ∨ n % 32 ≠ 0 ∨ n > 28 * 2 ^ 20 ∨ !unusedZero b [(8, 16)] then (1, s)
  else if s.boot.fwState = .programming then (0x15, s)
  else
    let s1 := s.emit (.hostRead h n)
    if !s.pcie.bme then (0x18, s)
    else if x.fail then (0x18, s1)
    else match x.image with
      | none => (0x1A, s1)
      | some i => if s.imageSigned i then (0, s1.startProgram i) else (0x1A, s1)

/-- FW_PROGRAM_DONE: `ok` says that every line verifies. -/
def execFwProgramDone (ok : Bool) (s : State) : Res :=
  let b := s.boot
  if b.fwState ≠ .programming then .next s
  else
    let good := ok && decide (b.staged.holds = .valid)
    let b1 := if good then b.setSlot b.fwSlotB b.staged else b
    .next (({ s with boot := { b1.setInfo b.fwSlotB (if good then .valid else .corrupt) with
      fwState := if good then .staged else .failedFlash
      stagedVer := if good then b.staged.version else b.stagedVer } } : State).latchEvt .bosun 0 2)

/-- FW_ACTIVATE's outcome. -/
def State.activateOutcome (s : State) : Nat :=
  if !allZero s.bosunArgs then 1
  else if s.ten.claimed ∨ s.ten.claiming then 0x11
  else if s.boot.fwState ≠ .staged then 0x17
  else 0

/-- FW_ACTIVATE: the boot record names the staged slot, and a WARM reset follows. -/
def State.activate (s : State) : State :=
  ({ s with boot := { s.boot with recordB := s.boot.fwSlotB, recordSeq := s.boot.recordSeq + 1 } } : State).warmReset 5 false

/-! ### The outcome instant -/

/-- FENCE_MAP_READ: outcome, bytes written and effect. -/
def State.fenceRead (s : State) : Nat × Nat × State :=
  let b := s.bosunArgs
  let h := leAt b 8 8
  if h % 64 ≠ 0 ∨ !unusedZero b [(8, 8)] then (1, 0, s)
  else if !s.pcie.bme then (0x18, 0, s)
  else (0, s.fenceImage.length, s.emit (.hostWrite h s.fenceImage))

/-- The command in progress reaches its outcome, where it is not tied to a commit; nothing for an event that cannot be. -/
def State.completeBosun (s : State) (y : Completion) : Option State :=
  let c := s.bosun
  let x : Completion := { y with fail := y.fail || c.bad }
  -- After a fatal fault no commit comes, and a command that waits for one ends here (18 R661).
  if !c.busy ∨ ((c.op = 1 ∨ c.op = 2 ∨ c.op = 7 ∨ c.op = 9) ∧ (s.boot.stage ≠ .failed ∨ c.ready)) then some s
  else
    let fin (y : Nat × Nat × State) : State := y.2.2.finishBosun y.1 (if y.1 = 0 then y.2.1 else 0)
    match s.bosunGate c.op (leAt s.bosunArgs 0 1) with
    | some o => some (s.finishBosun o 0)
    | none =>
      match c.op with
      | 3 => some (if attestForm s.bosunArgs then { s with bosun := { c with ready := true } } else s.finishBosun 1 0)
      | 4 => some (fin s.regionAlloc)
      | 5 => let y := s.regionFree; some (fin (y.1, 0, y.2))
      | 6 => some (fin s.rigLoad)
      | 8 => (s.fnLoad x.places).map fun y => fin (y.1, 0, y.2)
      | 10 => (s.hostCopy x).map fun y => fin (y.1, 0, y.2)
      | 11 => let y := s.fwStage x; some (fin (y.1, 0, y.2))
      | 12 => let o := s.activateOutcome; some (if o = 0 then s.activate else s.finishBosun o 0)
      | _ => some (fin s.fenceRead)

/-- The commands that act at a commit, at cycle 2,047 of the current stroke's (R577, R584, R623, 15 R572). -/
def State.endBosun (s : State) : State :=
  let c := s.bosun
  if !c.busy then s
  else if c.op = 3 then (if c.ready then s.attestCommit else s)
  else if c.ready ∨ c.eff > s.stroke.now then s
  else match c.op with
    | 1 => let o := s.claimOutcome; if o = 0 then s.claimCommit else s.finishBosun o 0
    | 2 =>
      let o := s.releaseOutcome
      if o = 0 then ({ s with bosun := { c with ready := true } } : State).endTenancy else s.finishBosun o 0
    | 7 => match s.bosunGate 7 0 with
      | some o => s.finishBosun o 0
      | none => let y := s.rigUnload; y.2.finishBosun y.1 0
    | 9 => match s.bosunGate 9 0 with
      | some o => s.finishBosun o 0
      | none => let y := s.fnUnload; y.2.finishBosun y.1 0
    | _ => s

/-! ### WEIGHTS_IO (15 R581 to R583) -/

/-- A request waits at the head of the function's queue. -/
def State.weightsHead (s : State) : Option QItem := (s.queue s.weights.reqQueue).items.find? (·.deliverable)

/-- A request of WEIGHTS_IO is taken and ends with a status. -/
def State.weightsDone (s : State) (cookie status base len : Nat) : State :=
  { s with weights := { s.weights with completions := s.weights.completions ++ [{ cookie := cookie, status := status, base := base, len := len }] } }

/-- EXPORT's work: the record of R582 is written to the destination. -/
def State.exportWeights (s : State) (slot src len dst label cookie : Nat) : State :=
  if !s.ten.guardW then s.weightsDone cookie 11 0 0
  else if src % 32 ≠ 0 ∨ dst % 32 ≠ 0 ∨ len % 32 ≠ 0 ∨ len < 32 ∨ len > 2 ^ 36 then s.weightsDone cookie 1 0 0
  else if !s.tenantRange src len 2 ∨ !s.tenantRange dst (80 + len) 1 then s.weightsDone cookie 8 0 0
  else
    let k := s.keyRequest slot 1 0 0
    match k.1 with
    | none => k.2.weightsDone cookie 9 0 0
    | some key =>
      if key.typ ≠ 2 then k.2.keyDenied.weightsDone cookie 9 0 0
      else
        let n := k.2.drawBytes 12
        let x := n.2.readBytes 1 src len
        let base := ((s.areaOf src).map (·.base)).getD 0
        let h := toLe 4 0x4D365745 ++ toLe 2 1 ++ toLe 2 0 ++ toLe 8 len ++ toLe 8 (src - base) ++ toLe 8 label ++ n.1 ++ List.replicate 20 0
        (x.2.2.writeBytes 1 dst (h ++ gcmSeal key.key n.1 h x.1) x.2.1).weightsDone cookie 0 dst (80 + len)

/-- The header of a weights record keeps R582. -/
def recordOk (h : List Byte) : Bool :=
  let n := leAt h 8 8
  decide (leAt h 0 4 = 0x4D365745 ∧ leAt h 4 2 = 1 ∧ leAt h 6 2 = 0 ∧ n % 32 = 0 ∧ 32 ≤ n ∧ n ≤ 2 ^ 36) && allZero (h.drop 0x2C)

/-- IMPORT's work: the plaintext is written as it is decrypted; whether the tag verifies stands in the status. -/
def State.importWeights (s : State) (slot src dst cookie : Nat) : State :=
  if !s.ten.guardW then s.weightsDone cookie 11 0 0
  else if src % 32 ≠ 0 ∨ dst % 32 ≠ 0 then s.weightsDone cookie 1 0 0
  else if !s.tenantRange src 64 1 then s.weightsDone cookie 8 0 0
  else
    let h := s.readBytes 1 src 64
    let len := leAt h.1 8 8
    if h.2.1 ∨ !recordOk h.1 then h.2.2.weightsDone cookie 1 0 0
    else if !h.2.2.tenantRange src (80 + len) 1 ∨ !h.2.2.tenantRange dst len 2 then h.2.2.weightsDone cookie 8 0 0
    else
      let k := h.2.2.keyRequest slot 1 1 0
      match k.1 with
      | none => k.2.weightsDone cookie 9 0 0
      | some key =>
        if key.typ ≠ 2 then k.2.keyDenied.weightsDone cookie 9 0 0
        else
          let x := k.2.readBytes 1 (src + 64) (len + 16)
          let nonce := (h.1.drop 0x20).take 12
          let ks := aesKeys key.key
          let j0 := ofBe nonce * 2 ^ 32 + 1
          let body := x.1.take len
          let good := !x.2.1 && decide (gcmTag ks j0 h.1 body = x.1.drop len)
          (x.2.2.writeBytes 1 dst (xorBytes body (gctr ks ((len + 15) / 16) (j0 + 1)))).weightsDone cookie (if good then 0 else 10) dst len

/-- A WEIGHTS_IO row: the function takes the request at the head of its queue, while strokes run and one of its rigs does. The layout of a request is not in the
manual: its fields are the row's operands (log entry 42). -/
def weightsRow (work : State → State) (s : State) : Res :=
  if !s.weights.loaded ∨ !s.enginesStart ∨ !(s.fabric.rigs.any fun e => decide (e.2.func = 2) && e.2.running) then .next s
  else match s.weightsHead with
    | none => .next s
    | some _ => .next (work (s.dropHead s.weights.reqQueue))

def execBoExport (slot src len dst label cookie : Nat) (s : State) : Res :=
  weightsRow (fun t => t.exportWeights slot src len dst label cookie) s
def execBoImport (slot src dst cookie : Nat) (s : State) : Res := weightsRow (fun t => t.importWeights slot src dst cookie) s

/-- WEIGHTS_IO_COMPLETION: the oldest request completes; AUTH_FAILED fills its destination with zero first (R583). -/
def execWeightsIoCompletion (s : State) : Res :=
  match s.weights.completions with
  | [] => .next s
  | d :: rest =>
    let s1 : State := { s with weights := { s.weights with completions := rest } }
    let s2 := if d.status = 10 then s1.zeroRange d.base d.len else s1
    .next (s2.unitItem s2.weights.doneQueue .cipher [BitVec.ofNat 256 (d.cookie % 2 ^ 64 + 2 ^ 64 * d.status)] 0 0 0)

end Sys2Proof.Machine
end

