-- ==== Sys2Proof/Machine/ModTable.lean ====
section
/-!
DEFINITION. The modulus table (09 R361, R362, R379, R380).
-/

namespace Sys2Proof.Machine

/-- An entry is named by a round in a state other than RETIRED, or by a registered key set (R362). -/
def State.modulusNamed (s : State) (i : Nat) : Bool :=
  (s.rounds.blocks.any fun e => e.2.state.live && decide (e.2.d.format ≥ 3) && decide (e.2.d.modIndex = i)) ||
  s.cipher.keySets.any fun e => decide (e.2.param = 0x10) && decide (e.2.modIndex = i)

/-! ### The modulus table -/

/-- The entry is named by a round, a key set or an unfinished Vault request (R362). -/
def State.mtInUse (s : State) (i : Nat) : Bool :=
  s.modulusNamed i ||
  (List.range 96).any fun c =>
    (s.queue (16384 + c)).items.any fun it => it.deliverable && (match it.words[1]? with
      | some w => decide ((vaultReq w.w).modsel = i)
      | none => false)

/-- A write of VAULT_MT_CMD on a VAULT page lands (R379, 00 R722): the registers are those of the one table. -/
def State.landMt (s : State) (c cmd : Nat) : State :=
  if s.mtCmd.busy then s.pageError .vault c 0x8C 3 (BitVec.ofNat 32 cmd)
  else { s with mtCmd := { s.mtCmd with
    busy := true, op := cmd, sub := c, args := [s.reg .vault 0 0x80, s.reg .vault 0 0x84, s.reg .vault 0 0x88] } }

/-- Outcome of a table command (R362). -/
def State.mtOutcome (s : State) (cmd sel q : Nat) : Nat :=
  if cmd = 0 ∨ cmd > 3 ∨ sel > 15 then 4
  else if cmd = 1 ∧ (q % 2 = 0 ∨ q < 3 ∨ q ≥ 2 ^ 62) then 2
  else if cmd = 1 ∧ !isPrime q then 1
  else if cmd ≠ 3 ∧ s.mtInUse sel then 3
  else 0

/-- Result fields of the entry last read or written (R380). -/
def mtResult (q : Nat) : Nat := if q = 0 then 0 else vOf q + 2 ^ 6 * maxSize q false + 2 ^ 11 * maxSize q true

/-- The outcome of a table command: at cycle 2,047 of the commit of the stroke in which it completes. -/
def State.endMt (s : State) : State :=
  let c := s.mtCmd
  let sel := (c.args.getD 0 0).toNat
  let q := (c.args.getD 1 0).toNat + 2 ^ 32 * (c.args.getD 2 0).toNat
  let o := s.mtOutcome c.op sel q
  let cur := s.fabric.moduli.get 0 sel
  let s1 :=
    if o ≠ 0 then s
    else match c.op with
      | 1 => { s with fabric := { s.fabric with moduli := s.fabric.moduli.put 0 sel q } }
      | 2 => { s with fabric := { s.fabric with moduli := s.fabric.moduli.erase sel } }
      | _ => ((s.setReg .vault 0 0x84 (BitVec.ofNat 32 cur)).setReg .vault 0 0x88 (BitVec.ofNat 32 (cur / 2 ^ 32))).setPair
          .vault 0 0x94 (if cur = 0 then 0 else rootOf cur)
  let res := if o ≠ 0 then c.result else if c.op = 1 then mtResult q else if c.op = 2 then 0 else mtResult cur
  ({ s1 with mtCmd := { c with busy := false, outcome := o, result := res } } : State).latchEvt .vault c.sub 8

/-- A modulus-table command on a VAULT page. -/
def mtCommand (c cmd : Nat) (s : State) : Res :=
  if c ≥ 96 then .fault .noUnit else .next (s.onPage .vault c 0x8C (BitVec.ofNat 32 cmd) fun s1 => s1.landMt c cmd)

def execMtWrite (c : Nat) (s : State) : Res := mtCommand c 1 s
def execMtClear (c : Nat) (s : State) : Res := mtCommand c 2 s
def execMtRead (c : Nat) (s : State) : Res := mtCommand c 3 s

end Sys2Proof.Machine
end

