-- ==== Sys2Proof/Machine/RegView.lean ====
section
/-!
DEFINITION. What a read of a register returns (00 R14, 16 R598): the registers that show live state, page by page, and
EVT_LEVEL. Every other register shows its stored value.
-/

namespace Sys2Proof.Machine

/-- A stroke has lock (02 R106). -/
def State.locked (s : State) : Bool := decide (s.stroke.sync = .lockedPin ∨ s.stroke.sync = .lockedPtp)

/-- SYNC_STATE (02 R106, R723). -/
def State.syncCode (s : State) : Nat :=
  if s.tt.halted then 4
  else match s.stroke.sync with
    | .freeRun => 0
    | .acquiring => 1
    | .lockedPin => 2
    | .lockedPtp => 3

/-- STROKE_OVERRUN_CAUSE (02 R109). -/
def OverrunCause.code : OverrunCause → Nat
  | .none => 0
  | .marker a => a + 2 ^ 22
  | .ashlarMortar a => a + 2 * 2 ^ 22
  | .hbmMortar pc => pc * 2 ^ 13 + 3 * 2 ^ 22

/-- STROKE (02 R102 to R110). -/
def State.viewStroke (s : State) (off : Nat) : Option Nat :=
  let k := s.stroke
  let epoch := (k.epoch % (2 ^ 64 : Int)).toNat
  match off with
  | 0x40 => some k.now
  | 0x44 => some (k.now / 2 ^ 32)
  | 0x48 => some k.cycle
  | 0x50 => some (s.syncCode + 8 * b2n (k.lastEdge.any fun t => decide (s.cycles + k.extra ≤ t + 4 * 2048)) + 16 * b2n k.ptpLocked +
      32 * b2n k.stretchPending)
  | 0x6C => some k.lastOverrun
  | 0x70 => some (k.lastOverrun / 2 ^ 32)
  | 0x74 => some k.cause.code
  | 0x80 => some epoch
  | 0x84 => some (epoch / 2 ^ 32)
  | _ => none

/-- ASHLAR (03 R152 to R158, 05 R226 to R230). -/
def State.viewAshlar (s : State) (a off : Nat) : Option Nat :=
  let x := s.ashlar a
  let on := s.rigOn a
  let place := (on.bind fun e => e.2.1.ashlars[e.2.2]?).map (·.sym)
  let d := on.map (·.2.1.drain)
  if 0x60 ≤ off ∧ off < 0x90 then
    some ((List.range 8).foldl (fun v k => v + 16 ^ k * s.tagAt (ashlarBase a + ((off - 0x60) / 4 * 8 + k) * 0x10000)) 0)
  else match off with
    | 0x44 => some (b2n on.isSome + 2 * b2n (on.any fun e => e.2.1.sealed) + 4 * b2n (on.any fun e => e.2.1.faulted) +
        8 * b2n x.withdrawn + 16 * place.getD 0 + 2 ^ 8 * ((on.map (·.1)).getD 0 % 2 ^ 10) + 2 ^ 18 * x.enabled)
    | 0x48 => some x.fence.toNat
    | 0x4C => some (x.fence.toNat / 2 ^ 32)
    | 0x50 => some (x.markerLast + 2 ^ 16 * x.markerMax)
    | 0x98 => some (match d with
        | some d => (match d.phase with | .idle => 0 | .pending => 1 | .copying => 2 | .finished => 3) + 16 * d.result + 2 ^ 16 * d.busyCount
        | none => if x.noRigResult = 0 then 0 else 3 + 16 * x.noRigResult)
    | 0x9C => some ((d.map (·.captured)).getD 0)
    | 0xA0 => some ((d.map (·.captured)).getD 0 / 2 ^ 32)
    | _ => none

/-- Sides of the Course links that exist (03 R112, R160). -/
def coursePresent (c : Nat) : List Nat :=
  (List.range 4).filter fun d => match d with
    | 0 => c % 16 / 4 ≠ 0
    | 1 => c % 4 ≠ 3
    | 2 => c % 16 / 4 ≠ 3
    | _ => c % 4 ≠ 0

/-- Sides of the Pier links that exist (03 R161). -/
def pierPresent (p : Nat) : List Nat :=
  (List.range 4).filter fun d => match d with
    | 0 => p / 3 ≠ 0
    | 1 => p % 3 ≠ 2
    | 2 => p / 3 = 0
    | _ => p % 3 ≠ 0

/-- A set of small numbers as a mask. -/
def maskOf (l : List Nat) : Nat := l.foldl (fun v i => v + 2 ^ i) 0

/-- The Course links of a Course in service. -/
def State.courseUp (s : State) (c : Nat) : List Nat := (coursePresent c).filter fun d => !s.courseLinkDown c d

/-- The Pier links of a Pier all four of whose lanes are in service. -/
def State.pierUp (s : State) (p : Nat) : List Nat :=
  (pierPresent p).filter fun d => !(List.range 4).any fun l => s.fabric.downLinks.contains (1000 + 16 * p + 4 * d + l)

/-- Both Plinth-link lanes of a Pier are in service. -/
def State.plinthUp (s : State) (p : Nat) : Bool :=
  !(s.fabric.downLinks.contains (2000 + 2 * p)) && !(s.fabric.downLinks.contains (2000 + 2 * p + 1))

/-- The Course faces a Pier link on side `d` (03 R117). -/
def pierLane (c d : Nat) : Bool := (pierPresent (c / 16)).contains d && !(coursePresent c).contains d

/-- Ashlars from `lo` on that satisfy a test. -/
def countAshlars (lo n : Nat) (f : Nat → Bool) : Nat := ((List.range n).filter fun i => f (lo + i)).length

/-- Ashlars that hold a rig. -/
def State.placedAshlars (s : State) : List Nat := s.fabric.rigs.flatMap fun e => e.2.placedOn

/-- COURSE (03 R160). -/
def State.viewCourse (s : State) (c off : Nat) : Option Nat :=
  match off with
  | 0x40 => some ((s.placedAshlars.filter fun a => decide (courseOf a = c)).length +
      2 ^ 8 * countAshlars (50 * c) 50 (fun a => (s.ashlar a).withdrawn) +
      2 ^ 16 * ((List.range 50).foldl (fun n i => n + (s.ashlar (50 * c + i)).fenceCount) 0) + 2 ^ 28 * b2n (s.vaultRig c).isSome)
  | 0x44 => some (maskOf (coursePresent c) + 2 ^ 4 * maskOf (s.courseUp c) + 2 ^ 8 * maskOf ((List.range 4).filter (pierLane c)) +
      2 ^ 12 * b2n (decide (c % 16 = 5 ∨ c % 16 = 6)))
  | _ => none

/-- PIER (03 R161). -/
def State.viewPier (s : State) (p off : Nat) : Option Nat :=
  match off with
  | 0x40 => some (s.pierEnabled p)
  | 0x44 => some ((s.fabric.ashlars.filter fun e => decide (pierOfAshlar e.1 = p) && e.2.withdrawn).length +
      2 ^ 10 * (s.placedAshlars.filter fun a => decide (pierOfAshlar a = p)).length)
  | 0x48 => some (maskOf (pierPresent p) + 2 ^ 4 * maskOf (s.pierUp p) + 2 ^ 8 * b2n (s.plinthUp p))
  | _ => none

/-- MUSTER (06 R266 to R271). -/
def State.viewMuster (s : State) (off : Nat) : Option Nat :=
  if 0x400 ≤ off ∧ off < 0x800 then
    let r := s.round ((off - 0x400) / 0x40)
    match off % 0x40 with
    | 0x00 => some (r.state.code + 8 * b2n r.crew + 16 * b2n r.published + 2 ^ 8 * (if r.state = .faulted then r.reason else 0))
    | 0x04 => some r.id
    | 0x08 => some (r.id / 2 ^ 32)
    | 0x0C => if r.state.live then some r.minCount else none
    | _ => none
  else match off with
    | 0x50 => some (b2n s.muster.busy + 2 ^ 8 * s.muster.outcome + 2 ^ 16 * s.muster.sub)
    | 0x54 => some s.muster.result
    | 0x6C => some s.rounds.binds.length
    | _ => none

/-- KEYSTONE (07 R309 to R312). -/
def State.viewKeystone (s : State) (off : Nat) : Option Nat :=
  let r := s.round ((s.reg .keystone 0 0x40).toNat % 16)
  let area := r.state.live && decide (r.allocAt < s.stroke.now)
  if 0xA0 ≤ off ∧ off < 0xC0 then some (if r.keyPriv.isSome then leAt r.rpk (off - 0xA0) 4 else 0)
  else match off with
    | 0x44 => some (b2n r.keyPriv.isSome + 2 * b2n r.planBuilt + 4 * b2n r.reconDone + 8 * b2n r.cancelDone +
        16 * b2n (r.state.live && r.noiseOk) + 32 * b2n r.resultWritten + 64 * b2n r.keyDestroyed)
    | 0x48 => some r.envAccepted
    | 0x4C => some r.secretsNeeded
    | 0x50 => some r.secretsDone
    | 0x54 => some r.unreachable
    | 0x58 => some (if r.state.live then s.termsPending r else 0)
    | 0x5C => some r.mismatch
    | 0x60 => some (if area then r.resBase else 0)
    | 0x64 => some (if area then r.resBase / 2 ^ 32 else 0)
    | 0x68 => some (if area then r.owned.length else 0)
    | _ => none

/-- VAULT (09 R376 to R380). -/
def State.viewVault (s : State) (c off : Nat) : Option Nat :=
  let v := s.fabric.vaults.get {} c
  match off with
  | 0x40 =>
    let r := s.vaultRig c
    some (b2n r.isSome + 2 * b2n (r.any fun e => e.2.sealed) + 4 * b2n v.fenced + 8 * b2n v.completion.isSome +
      2 ^ 8 * ((r.map (·.1)).getD 0 % 2 ^ 10) + 2 ^ 18 * ((s.queue (16384 + c)).items.filter (·.deliverable)).length)
  | 0x80 => some ((s.reg .vault 0 0x80).toNat % 16)
  | 0x84 => some (s.reg .vault 0 0x84).toNat
  | 0x88 => some (s.reg .vault 0 0x88).toNat
  | 0x90 => some (b2n s.mtCmd.busy + 2 ^ 4 * s.mtCmd.outcome + 2 ^ 8 * s.mtCmd.result)
  | 0x94 => some (s.reg .vault 0 0x94).toNat
  | 0x98 => some (s.reg .vault 0 0x98).toNat
  | 0x9C => some (maskOf ((List.range 16).filter fun i => decide (s.fabric.moduli.get 0 i ≠ 0)))
  | _ => none

def Zone.code : Zone → Nat
  | .low => 0 | .mid => 1 | .high => 2
def QOwner.code : QOwner → Nat
  | .free => 0 | .tenant => 1 | .sealed => 2 | .system => 3
def QConsumer.code : QConsumer → Nat
  | .none => 0 | .rig => 1 | .host => 2 | .unit => 3

/-- A queue is full (10 R399). -/
def Queue.full (q : Queue) : Bool := decide (q.level = q.cap) && decide (q.cap ≠ 0)

/-- SPILL (10 R410 to R417). -/
def State.viewSpill (s : State) (k off : Nat) : Option Nat :=
  let q := s.queue (s.selQueue k)
  let sums (f : Queue → Bool) (n : Nat) : Nat := maskOf ((List.range 32).filter fun j => f (s.queue (1024 * k + 32 * n + j)))
  if 0x100 ≤ off ∧ off < 0x180 then some (sums (fun x => decide (x.notices ≠ 0)) ((off - 0x100) / 4))
  else if 0x180 ≤ off ∧ off < 0x200 then some (sums (fun x => decide (x.evt ≠ 0)) ((off - 0x180) / 4))
  else match off with
    | 0x48 => some q.highWm
    | 0x4C => some q.lowWm
    | 0x50 => some (q.owner.code + 2 ^ 2 * q.consumer.code + 2 ^ 4 * b2n (decide (q.level = 0)) + 2 ^ 5 * b2n q.full +
        2 ^ 6 * b2n q.openItem.isSome + 2 ^ 7 * q.zone.code + 2 ^ 9 * (q.zoneOf q.level).code + 2 ^ 11 * b2n q.armed)
    | 0x54 => some q.level
    | 0x58 => some q.evt.toNat
    | 0x5C => some q.notices
    | 0x60 => some q.packets
    | 0x64 => some q.dropped
    | 0x68 => some q.abandoned
    | 0x6C => some q.overruns
    | 0x74 => some (b2n (s.spillCmdOf k).busy + 2 ^ 4 * (s.spillCmdOf k).outcome)
    | 0x80 => some s.poolFree
    | _ => none

/-- Seconds of an LLDP neighbour's TTL that remain (11 R451). -/
def State.ttlLeft (s : State) (n : LldpNbr) : Nat := n.ttl - (s.cycles - n.since) / (2 * 10 ^ 9)

/-- ETH (11 R446 to R451). -/
def State.viewEth (s : State) (p off : Nat) : Option Nat :=
  let x := s.port p
  let cfg := (s.reg .eth p 0x40).toNat
  let mac := s.net.mac + p
  if 0xA0 ≤ off ∧ off < 0xC0 then some ((x.nbr.map fun n => leAt n.record (off - 0xA0) 4).getD 0)
  else match off with
    | 0x44 => some (b2n x.phyUp + 2 * b2n x.linkUp + 4 * b2n x.fecLock + 8 * b2n x.lpiTx + 16 * b2n x.lpiRx + 2 ^ 8 * x.rxPaused +
        2 ^ 16 * x.txPausing + 2 ^ 24 * (if x.phyUp then lanesOf (cfg % 8) (bits cfg 3 2) else 0))
    | 0x48 => some mac
    | 0x4C => some (mac / 2 ^ 32 % 2 ^ 16)
    | 0xC0 => some ((x.nbr.map s.ttlLeft).getD 0 + 2 ^ 16 * b2n x.nbrMultiple)
    | _ => none

/-- HAIL (11 R453 to R457). -/
def State.viewHail (s : State) (off : Nat) : Option Nat :=
  let h := s.hail
  let inC := decide (h.phase = .crew)
  let member := if inC then h.members[(s.reg .hail 0 0xA0).toNat % 256]? else none
  match off with
  | 0x70 => some (s.hailState + 16 * b2n (inC && decide (h.pos = 0)) + 32 * b2n h.degraded + 2 ^ 8 * (if inC then h.pos else 0) +
      2 ^ 16 * (if inC then h.members.length else 0) + 2 ^ 25 * h.formResult)
  | 0x74 => some s.moduleId
  | 0x78 => some (s.moduleId / 2 ^ 32)
  | 0x7C => some h.keyEpoch
  | 0x80 => some h.seen.length
  | 0xA4 => some (member.getD 0)
  | 0xA8 => some (member.getD 0 / 2 ^ 32)
  | 0xAC => some ((member.map fun id => b2n (h.seen.contains id && (s.peer id).connected) + 2 * b2n (s.peer id).lost).getD 0)
  | _ => none

/-- HALYARD (12 R500 to R506). -/
def State.viewHalyard (s : State) (off : Nat) : Option Nat :=
  let f := s.halyard.odp.headD (0, 0)
  match off with
  | 0x44 => some (b2n s.halyardCmd.busy + 2 ^ 4 * s.halyardCmd.outcome)
  | 0x48 => some s.halyardCmd.result
  | 0x100 => some s.halyard.odp.length
  | 0x104 => some f.1
  | 0x108 => some f.2
  | 0x10C => some (f.2 / 2 ^ 32)
  | 0x188 => some s.outstanding
  | 0x18C => some (s.halyard.qps.filter fun e => e.2.live && decide (e.2.state ≠ .reset)).length
  | _ => none

/-- The memory fill of a start-up, a claim or a scrub is complete (13 R524). -/
def State.fillDone (s : State) : Bool := !s.initializing && !s.ten.claiming && !s.ten.scrubbing

/-- HBMC (13 R529 to R533). -/
def State.viewHbmc (s : State) (off : Nat) : Option Nat :=
  match off with
  | 0x44 => some (b2n s.ten.moduleMode + 2 * b2n (decide (s.reef.level ≥ 1) || s.reef.cap) + 4 * b2n (decide (s.reef.level ≥ 2)) +
      8 * b2n s.fillDone + 16 * b2n (!s.scrubRuns))
  | _ => none

/-- MORTAR (13 R536, R537). -/
def State.viewMortar (s : State) (k off : Nat) : Option Nat :=
  let u := 4800 + 32 * k + (s.reg .mortar k 0x40).toNat % 32
  match off with
  | 0x44 => some (s.mortarNow u + 2 ^ 8 * s.fabric.queueMax.get 0 u + 2 ^ 16 * s.provWords u)
  | _ => none

/-- KEEP_SLOT_ATTR of the internal slots: their bindings are not in the manual, and stand as free values (log entry 1). -/
def State.internalAttr (s : State) (slot : Nat) : Nat :=
  match s.keep.internal slot with
  | some (t, d) => 1 + 2 ^ 8 * t + 2 ^ 16 * (match d with | some b => 2 ^ b | none => 0) +
      2 ^ 21 * (Config.slotAttr slot % 2 ^ 11)
  | none => 0

/-- KEEP (14 R562 to R568). -/
def State.viewKeep (s : State) (off : Nat) : Option Nat :=
  let k := s.keep
  let sel := (s.reg .keep 0 0x5C).toNat % 64
  let key := if sel < 56 then k.slots.find? sel else none
  if 0x80 ≤ off ∧ off < 0xA0 then
    some (if k.keysReady ∨ (k.lc = .tamperLock ∧ s.boot.stage ≠ .keep) then leAt k.deviceHash (off - 0x80) 4 else 0)
  else if 0xA0 ≤ off ∧ off < 0xC0 then some (if k.keysReady then leAt k.importPub (off - 0xA0) 4 else 0)
  else match off with
    | 0x40 => some (k.lc.code + 2 ^ 8 * k.fuses.counter + 2 ^ 17 * b2n k.fuses.ownerRoot.isSome + 2 ^ 18 * b2n k.fuses.sealedKill)
    | 0x44 => some (b2n k.drbgOk + 2 * b2n k.keysReady +
        4 * b2n (!s.ten.claimed && !s.ten.claiming && decide (k.fuses.counter < 256 ∧ k.lc ≠ LifeCycle.blank ∧ k.lc ≠ LifeCycle.scrapped)) +
        8 * k.updateResult + 2 ^ 8 * (k.slots.filter fun e => decide (e.1 < 56)).length)
    | 0x4C => some (b2n s.keepCmd.busy + 2 ^ 8 * s.keepCmd.outcome)
    | 0x60 => some (if sel < 56 then (key.map fun x =>
        1 + 2 ^ 8 * x.typ + 2 ^ 16 * x.dest + 2 ^ 21 * x.usage + 2 ^ 28 * x.lcBind).getD 0 else s.internalAttr sel)
    | 0x64 => some ((key.map (·.round)).getD 0)
    | 0x68 => some ((key.map (·.round)).getD 0 / 2 ^ 32)
    | 0x70 => if k.lc = .sealed then some 3 else none
    | 0x74 => some (k.latched + 2 ^ 8 * k.nowAlarm + 2 ^ 15 * b2n (decide (k.lc = LifeCycle.tamperLock)))
    | _ => none

/-- GLOBAL (16 R614 to R616). -/
def State.viewGlobal (s : State) (off : Nat) : Option Nat :=
  let b := s.boot
  let sum (p : Page) (n : Nat) : Nat := maskOf ((List.range 32).filter fun j => s.pageCond p (32 * n + j))
  if 0x100 ≤ off ∧ off < 0x358 then some (sum .ashlar ((off - 0x100) / 4))
  else if 0x80 ≤ off ∧ off < 0x8C then some (sum .course ((off - 0x80) / 4))
  else if 0x90 ≤ off ∧ off < 0x9C then some (sum .vault ((off - 0x90) / 4))
  else if 0x60 ≤ off ∧ off < 0x6C then
    some (maskOf ((List.range 32).filter fun j => match (vectorPages (32 * ((off - 0x60) / 4) + j)).head? with
      | some (p, i) => s.vectorCond p i
      | none => false))
  else match off with
    | 0x40 => some (b2n s.initializing + 2 * b2n (decide (b.stage = .ready)) + 4 * b2n s.ten.scrubbing + 8 * b2n s.ten.claimed +
        16 * b2n (decide (b.fatal ≠ 0)) + 2 ^ 8 * b.stage.code + 2 ^ 16 * b2n s.ten.guardC + 2 ^ 17 * b2n s.ten.guardW)
    | 0x48 => some b.fwVersion.toNat
    | 0x4C => some (b2n b.bootedB + 2 * b2n b.fallback + 4 * b.infoA.code + 16 * b.infoB.code + 2 ^ 8 * b.lastReset)
    | 0x54 => some b.fatal
    | _ => none

/-- PCIE (16 R618). -/
def State.viewPcie (s : State) (off : Nat) : Option Nat :=
  let p := s.pcie
  match off with
  | 0x40 => some (p.gen + 2 ^ 4 * p.width + 2 ^ 8 * b2n p.flit + 2 ^ 9 * b2n p.bme + 2 ^ 10 * b2n (p.msixEn && !p.funcMask))
  | _ => none

def FwState.code : FwState → Nat
  | .none => 0 | .programming => 1 | .staged => 2 | .failedFlash => 3

/-- BOSUN (16 R622). -/
def State.viewBosun (s : State) (off : Nat) : Option Nat :=
  match off with
  | 0x44 => some (b2n s.bosun.busy + 2 ^ 8 * s.bosun.outcome)
  | 0x48 => some s.bosun.result
  | 0x4C => some (s.bosun.result / 2 ^ 32)
  | 0x50 => some s.boot.heartbeat.toNat
  | 0x54 => some (s.boot.fwState.code + 8 * b2n s.boot.fwSlotB)
  | 0x58 => some s.boot.stagedVer.toNat
  | _ => none

/-- REEF (17 R649). -/
def State.viewReef (s : State) (off : Nat) : Option Nat :=
  let r := s.reef
  match off with
  | 0x48 => some (r.level + 2 ^ 3 * r.target + 2 ^ 6 * b2n r.exiting + 2 ^ 7 * b2n r.brakePin + 2 ^ 8 * b2n r.cap + 2 ^ 9 * r.blocker)
  | _ => none

/-- A guard mode is in force. -/
def State.guarded (s : State) : Bool := s.ten.guardC || s.ten.guardW

/-- The debug port answers IDCODE and BYPASS only (19 R678, R680). -/
def State.ttShut (s : State) : Bool :=
  !s.power.on ||
  (match s.keep.lc with
    | .scrapped => true
    | .tamperLock => true
    | .blank => false
    | _ => decide (s.boot.stage ≠ .ready)) ||
  s.ten.scrubbing || s.tt.unlockPending || decide (s.reef.level = 4) || decide (s.boot.fatal ≠ 0)

/-- TT_STS.ACCESS (19 R678, R681, R696). -/
def State.ttAccess (s : State) : Nat :=
  if s.ttShut ∨ !s.tt.session then 0
  else if s.guarded ∧ (s.keep.lc = .opened ∨ s.keep.lc = .sealed) then 2
  else 1

/-- TELLTALE (19 R695 to R697). -/
def State.viewTelltale (s : State) (off : Nat) : Option Nat :=
  let t := s.tt
  match off with
  | 0x44 => some (s.ttAccess + 2 ^ 2 * b2n t.session + 2 ^ 3 * b2n t.unlockPending + 2 ^ 4 * b2n t.halted + 2 ^ 5 * b2n t.stepping +
      2 ^ 6 * b2n t.trial.isSome + 2 ^ 8 * t.unlockResult + 2 ^ 12 * t.haltCause + 2 ^ 15 * t.hit)
  | 0x58 => some ((t.trial.map fun x => x.cycle + 2 ^ 11 * x.state + 2 ^ 13 * (x.stalled.map (·.1)).getD 0 + 2 ^ 22 * (x.stalled.map (·.2)).getD 0).getD 0)
  | 0x6C => some (b2n s.ttMem.busy + 2 * s.ttMem.result)
  | _ => none

/-! ### EVT_LEVEL -/

/-- The stack's reading has reached 95 °C (13 R535); readings are two's complement. -/
def State.hbmHot (s : State) (k : Nat) : Bool :=
  let n := (s.reg .hbmc k 0x60).toNat % 256
  decide (95 ≤ n ∧ n < 128)

/-- The current condition of each event, by the event tables of R111, R159 to R161, R272, R313, R381, R418, R452, R458, R507, R535, R539,
R569, R617, R619, R622, R651 and R698. -/
def State.evtLevel (s : State) (p : Page) (i : Nat) : Nat :=
  let k := s.stroke
  let h := s.hail
  match p with
  | .global => b2n (!s.initializing) + 2 * b2n (decide (s.boot.stage = .ready)) + 8 * b2n (decide (s.boot.fatal ≠ 0)) + 16 * b2n s.ten.claimed
  | .keep => b2n (!s.keepCmd.busy) + 4 * b2n (decide (s.keep.nowAlarm ≠ 0))
  | .bosun => b2n (!s.bosun.busy)
  | .reef => 2 * b2n s.reef.cap
  | .stroke => b2n k.lastOverran + 4 * b2n (decide (k.overrunRun ≥ 8)) + 8 * b2n (decide (s.syncCode = 0)) +
      16 * b2n (decide (s.syncCode = 2 ∨ s.syncCode = 3)) + 2 ^ 8 * b2n k.fallback
  | .telltale => b2n s.tt.halted + 8 * b2n s.tt.session
  | .hail => b2n (!h.seen.isEmpty) + 2 * b2n (decide (h.phase = .crew)) + 8 * b2n h.degraded
  | .muster => 2 * b2n (!s.muster.busy) + 16 * b2n (s.rounds.blocks.any fun e => decide (e.2.state = .faulted))
  | .keystone => 4 * b2n (decide ((s.round ((s.reg .keystone 0 0x40).toNat % 16)).unreachable ≠ 0))
  | .pcie => 0
  | .eth =>
    let x := s.port i
    b2n (!x.linkUp) + 2 * b2n x.linkUp + 16 * b2n (decide (x.storm ≠ 0)) + 32 * b2n ((s.reg .eth i 0x58).toNat.testBit 0 && !k.ptpLocked)
  | .halyard => b2n (!s.halyardCmd.busy) + 4 * b2n (!s.halyard.odp.isEmpty)
  | .spill =>
    let qs := s.spill.queues.filter fun e => decide (e.1 < 16384 ∧ e.1 / 1024 = i)
    b2n (qs.any fun e => decide (e.2.notices ≠ 0)) + 2 * b2n (qs.any fun e => decide (e.2.zoneOf e.2.level = .high)) +
      4 * b2n (qs.any fun e => decide (e.2.ringLog ≠ 0 ∧ e.2.zoneOf e.2.level = .low)) + 8 * b2n (qs.any fun e => e.2.full) +
      64 * b2n (!(s.spillCmdOf i).busy)
  | .pier => b2n (decide (s.pierUp i ≠ pierPresent i)) + 4 * b2n (!s.plinthUp i)
  | .course => b2n (decide (s.courseUp i ≠ coursePresent i))
  | .vault => 2 * b2n (s.fabric.vaults.get {} i).fenced + 8 * b2n (!s.mtCmd.busy)
  | .hbmc => 64 * b2n (s.hbmHot i)
  | .mortar => b2n (s.fabric.lateStacks.contains i)
  | .ashlar => b2n ((s.rigOn i).any fun e => e.2.1.faulted) + 4 * b2n (s.ashlar i).withdrawn

/-! ### A read -/

/-- The registers that show live state. -/
def State.viewLive (s : State) (p : Page) (i off : Nat) : Option Nat :=
  if off = 0x10 then some (b2n (s.serves p) + 2 * ((s.reg p i 0x38).toNat % 2))
  else if off = 0x20 then some (s.evtLevel p i)
  else match p with
    | .global => s.viewGlobal off
    | .keep => s.viewKeep off
    | .bosun => s.viewBosun off
    | .reef => s.viewReef off
    | .stroke => s.viewStroke off
    | .telltale => s.viewTelltale off
    | .hail => s.viewHail off
    | .muster => s.viewMuster off
    | .keystone => s.viewKeystone off
    | .pcie => s.viewPcie off
    | .eth => s.viewEth i off
    | .halyard => s.viewHalyard off
    | .spill => s.viewSpill i off
    | .pier => s.viewPier i off
    | .course => s.viewCourse i off
    | .vault => s.viewVault i off
    | .hbmc => s.viewHbmc off
    | .mortar => s.viewMortar i off
    | .ashlar => s.viewAshlar i off

/-- The current value of a register: write-only fields read 0 (00 R14). -/
def State.view (s : State) (p : Page) (i off : Nat) : W32 :=
  match findReg p off with
  | none => 0
  | some d => (match s.viewLive p i off with
      | some v => BitVec.ofNat 32 v
      | none => s.reg p i off) &&& ~~~(d.maskOf [.wo])

/-- A read of one register: a companion returns what was latched, and a low half latches it (16 R598). -/
def State.readReg (s : State) (p : Page) (i off : Nat) : W32 × State :=
  match findReg p off with
  | none => (0, s)
  | some d =>
    let a := regAddr p i off
    if d.companion then (s.hiLatch.get 0 a, s)
    else (s.view p i off, if d.latches then { s with hiLatch := s.hiLatch.put 0 (a + 4) (s.view p i (off + 4)) } else s)

end Sys2Proof.Machine
end

