-- ==== Sys2Proof/Machine/CoreQueue.lean ====
section
/-!
DEFINITION. Queue operations of a core (04 R199 to R205, 10 R388 to R395).
-/

namespace Sys2Proof.Machine

/-- The words that the rig may still take from a queue in this stroke: the next word a DEQ returns and the
queue after it, none where nothing handed remains (R200, R201, 10 R395). -/
def Queue.deq (q : Queue) : Option (QWord × Queue) :=
  match q.nextWord q.rd with
  | some (w, p) => if p ≤ q.handed then some (w, { q with rd := p }) else none
  | none => none

/-- The predicate value DEQ's tag test gives (R200). -/
def tagTest (subop tag : Nat) : Bool := if subop = 255 then decide (tag ≠ 0) else decide (tag = subop)

/-- DEQ's registers and predicate from a word and its tag: payload [127:0] in DST, [247:128] and the tag in
DST + 1 (R200). -/
def Core.takeWord (c : Core) (w : Slot) (v tag : Nat) : Core :=
  let c1 := c.writeLanes w fun i => bits v (32 * i) 32
  let c2 := c1.writeLanes { w with dst := w.dst + 1 } fun i => bits (v % 2 ^ 248 + tag * 2 ^ 248) (128 + 32 * i) 32
  c2.setPred w.pdst (((List.range 4).filter (c.laneOn w)).map fun i => (i, tagTest w.subop tag))

/-- DEQ: the next word handed to the rig; an uncorrectable or poisoned word shows tag 0xFF (R200, 13
R519). -/
def execSlDeq (u : Issue) (w : Slot) (s : State) : Res :=
  runSlot s u .deq w fun s1 r k c =>
    if !c.wholeOn w then s1.setCore k c.next
    else match r.queue? w.qreg with
      | none => s1.setCore k c.next
      | some b =>
        match (s1.queue b.queue).deq with
        | none => s1.setCore k (c.takeWord w 0 0).next
        | some (d, q) =>
          (s1.setQueue b.queue q).setCore k
            (c.takeWord w d.w.toNat (if d.bad then 255 else wordTag d.w)).next

/-- The payload ENQ builds from A and A + 1 (R200, R202). -/
def Core.enqWord (c : Core) (w : Slot) : W256 :=
  BitVec.ofNat 256 ((c.g128 w.srca + 2 ^ 128 * c.g128 (w.srca + 1)) % 2 ^ 248)

/-- Counts the words put to a logical queue in this stroke (R202). -/
def Rig.put (r : Rig) (q : Nat) : Rig :=
  { r with queues := r.queues.modify q fun x => { x with putCount := x.putCount + 1 } }

/-- ENQ's end: P[PDST] in the lanes that pass, and a refused word counts in the Ashlar page's ERR_COUNT
(R202). -/
def State.enqEnd (s : State) (r : Rig) (ord k : Nat) (c : Core) (w : Slot) (ok : Bool) : State :=
  let c1 := (c.setPred w.pdst (((List.range 4).filter (c.laneOn w)).map fun i => (i, ok))).next
  let s1 := s.setCore k c1
  if ok then s1
  else match (r.ashlars[ord]?).bind (·.place) with
    | some a => s1.pageError .ashlar a 0 8 0 1
    | none => s1

/-- ENQ of one SUBOP. An open or marker waits while another producer's packet is open, and a word that comes
in the held cycles waits for cycle 0 (R202, R203, 10 R389, R390). -/
def State.enq (s : State) (u : Issue) (op : Nat) (r : Rig) (k : Nat) (c : Core) (w : Slot) : State :=
  if !c.wholeOn w then s.setCore k c.next
  else match r.queues[w.qreg]? with
    | none => s.setCore k c.next
    | some b =>
      let p := Producer.core k
      let q := s.queue b.queue
      if op ≠ 0 ∧ op ≠ 2 ∧ q.otherOpen p ∧ !q.ownOpen p then s.setCore k { c with stalled := true }
      else if b.putCount ≥ b.perStroke then s.enqEnd r u.ord k c w false
      else
        let a := s.produce b.queue p op (c.enqWord w)
        let ok := decide (a.1 = .accepted)
        let s1 := if ok then a.2.setRig u.rig (r.put w.qreg) else a.2
        s1.enqEnd r u.ord k c w ok

/-- ENQ with SUBOP 0, a data word in the core's open packet (R202). -/
def execSlEnqData (u : Issue) (w : Slot) (s : State) : Res :=
  if w.subop ≠ 0 then .fault .invalidSlot else runSlot s u .enq w fun s1 r k c => s1.enq u 0 r k c w

/-- ENQ with SUBOP 1, opens a packet and writes a data word (R202). -/
def execSlEnqOpen (u : Issue) (w : Slot) (s : State) : Res :=
  if w.subop ≠ 1 then .fault .invalidSlot else runSlot s u .enq w fun s1 r k c => s1.enq u 1 r k c w

/-- ENQ with SUBOP 2, writes a data word and closes the packet (R202). -/
def execSlEnqClose (u : Issue) (w : Slot) (s : State) : Res :=
  if w.subop ≠ 2 then .fault .invalidSlot else runSlot s u .enq w fun s1 r k c => s1.enq u 2 r k c w

/-- ENQ with SUBOP 3, a one-word packet (R202). -/
def execSlEnqSingle (u : Issue) (w : Slot) (s : State) : Res :=
  if w.subop ≠ 3 then .fault .invalidSlot else runSlot s u .enq w fun s1 r k c => s1.enq u 3 r k c w

/-- ENQ with SUBOP 4, a marker word (R202). -/
def execSlEnqMarker (u : Issue) (w : Slot) (s : State) : Res :=
  if w.subop ≠ 4 then .fault .invalidSlot else runSlot s u .enq w fun s1 r k c => s1.enq u 4 r k c w

/-- Runs a change of the queue that a consume slot names, under the whole-core predicate. -/
def State.consumeOp (s : State) (r : Rig) (k : Nat) (c : Core) (w : Slot) (f : Queue → Queue) : State :=
  if !c.wholeOn w then s.setCore k c.next
  else match r.queue? w.qreg with
    | none => s.setCore k c.next
    | some b => (s.setQueue b.queue (f (s.queue b.queue))).setCore k c.next

/-- QMARK with SUBOP 0: the rig mark becomes the read position (R199, R205). -/
def execSlQmarkSet (u : Issue) (w : Slot) (s : State) : Res :=
  if w.subop ≠ 0 then .fault .invalidSlot
  else runSlot s u .qmark w fun s1 r k c => s1.consumeOp r k c w fun q => { q with rigMark := q.rd }

/-- QMARK with SUBOP 1: the read position returns to the rig mark (R199). -/
def execSlQmarkRewind (u : Issue) (w : Slot) (s : State) : Res :=
  if w.subop ≠ 1 then .fault .invalidSlot
  else runSlot s u .qmark w fun s1 r k c => s1.consumeOp r k c w fun q => { q with rd := q.rigMark }

/-- QREL: the release point of this stroke is the rig mark (R199, R205). -/
def execSlQrel (u : Issue) (w : Slot) (s : State) : Res :=
  runSlot s u .qrel w fun s1 r k c => s1.consumeOp r k c w fun q => { q with qrel := true, relPoint := q.rigMark }

end Sys2Proof.Machine
end

