-- ==== Sys2Proof/Machine/Reef.lean ====
section
/-!
DEFINITION. Reef states (17): the conditions, the target at each commit, entry and exit, and LTR.
-/

namespace Sys2Proof.Machine

/-- Exit latency of a state in ns (R633). -/
def exitLatency (k : Nat) : Nat := [0, 2000, 120000, 6000000, 450000000].getD k 0

/-- The condition of Reef-1 (R637). -/
def State.reef1Ok (s : State) : Bool :=
  decide (s.boot.stage = .ready) && !s.ten.scrubbing && !s.tt.halted && decide (s.keep.lc ≠ LifeCycle.tamperLock)

/-- No round is in OPEN, COLLECT, CLOSE or RECOVER. -/
def State.roundsQuiet (s : State) : Bool := s.rounds.blocks.all fun e => !e.2.state.working

/-- A request queue of a unit holds no request. -/
def State.drained (s : State) (n : Nat) : Bool := !(s.queue n).items.any (·.deliverable)

/-- No command is busy, and no unit has a request unfinished (R637). -/
def State.workDone (s : State) : Bool :=
  !s.bosun.busy && !s.muster.busy && !s.halyardCmd.busy && !s.keepCmd.busy &&
  (!s.cipher.loaded || (s.cipher.completions.isEmpty && s.drained s.cipher.reqQueue)) &&
  (!s.weights.loaded || (s.weights.completions.isEmpty && s.drained s.weights.reqQueue)) &&
  (s.fabric.vaults.all fun e => e.2.completion.isNone && s.drained (16384 + e.1)) &&
  (s.fabric.dma.all fun e => e.2.isEmpty) &&
  (s.fabric.rigs.all fun e =>
    (e.2.vaultCourse.all fun c => s.drained (16384 + c)) &&
    (e.2.queues.all fun q => decide (q.role ≠ 3) || s.drained q.queue) &&
    decide (e.2.drain.phase = .idle ∨ e.2.drain.phase = .finished)) &&
  s.fabric.bed.isEmpty && s.fabric.adds.isEmpty

/-- Every RC queue pair is quiesced, and no doorbell is BUSY (R637). -/
def State.qpsQuiet (s : State) : Bool :=
  (s.halyard.qps.all fun e => decide (e.1 ≥ 65536 ∨ e.2.state = .reset ∨ e.2.state = .error) || e.2.sent.isEmpty) &&
  s.halyard.spray.isEmpty && s.halyard.odp.isEmpty && s.spill.queues.all fun e => !e.2.dbBusy

/-- Nothing is loaded, allocated or queued that bare poles would lose (R637). -/
def State.unloaded (s : State) : Bool :=
  s.fabric.rigs.isEmpty && !s.cipher.loaded && !s.weights.loaded &&
  (s.fabric.areas.all fun a => decide (a.base < 0x20000000000 ∨ 0x20960000000 ≤ a.base)) &&
  (s.halyard.qps.all fun e => decide (e.2.state = .reset)) &&
  s.spill.queues.all fun e => decide (e.2.owner ≠ .tenant) || (decide (e.2.level = 0) && e.2.openItem.isNone)

/-- REEF_STS.BLOCKER (R649): one bit for each group of conditions that does not hold. -/
def State.blockers (s : State) : Nat :=
  b2n (!s.reef1Ok) + 2 * b2n (!s.roundsQuiet) + 4 * b2n (!s.workDone) + 8 * b2n (!s.qpsQuiet) + 16 * b2n (!s.unloaded) +
  32 * b2n (decide (s.net.hail.phase ≠ .idle))

/-- The conditions of Reef-2, Reef-3 and bare poles, each with those of the states before it (R637). -/
def State.reef2Ok (s : State) : Bool := s.reef1Ok && s.roundsQuiet && s.workDone
def State.reef3Ok (s : State) : Bool := s.reef2Ok && s.qpsQuiet && decide (s.net.hail.phase ≠ .forming)
def State.reef4Ok (s : State) : Bool := s.reef3Ok && s.unloaded && decide (s.net.hail.phase ≠ .crew)

/-- The state's conditions have held for its dwell (R637): a count above the dwell. -/
def State.dwelt (s : State) (k : Nat) : Bool :=
  match k with
  | 0 => true
  | 1 => s.reef1Ok
  | 2 => decide (s.reef.held2 > 1024)
  | 3 => decide (s.reef.held3 > 65536)
  | _ => decide (s.reef.held4 > 976563)

/-- The deepest state that meets R636. -/
def State.reefTarget (s : State) : Nat :=
  let tol := (s.reg .reef 0 0x40).toNat
  let deepest := (s.reg .reef 0 0x44).toNat % 8
  ([4, 3, 2, 1].find? fun k => decide (exitLatency k ≤ tol ∧ k ≤ deepest) && s.dwelt k).getD 0

/-- The dwells counted at a commit (R637). -/
def State.countDwells (s : State) : State :=
  let r := s.reef
  { s with reef := { r with
    held2 := if s.reef2Ok then r.held2 + 1 else 0, held3 := if s.reef3Ok then r.held3 + 1 else 0
    held4 := if s.reef4Ok then r.held4 + 1 else 0, blocker := s.blockers } }

/-- STATE changes (R649, R651). -/
def State.setLevel (s : State) (k : Nat) : State :=
  if s.reef.level = k then s else ({ s with reef := { s.reef with level := k } } : State).latchEvt .reef 0 1

/-- Ports in Low Power Idle in Reef-3 (11 R427). -/
def State.portsIdle (s : State) (on : Bool) : State :=
  (List.range 8).foldl (fun (t : State) p =>
    let cfg := (t.reg .eth p 0x40).toNat
    t.setPort p { t.port p with lpiTx := on && (t.port p).linkUp && cfg.testBit 8 && Config.lpiDefined (bits cfg 3 2) }) s

/-- The module enters a deeper state from cycle 0 of the next stroke (R633, R636, R650): bare poles stops the generator and
powers the ports down. -/
def State.enterReef (s : State) (k : Nat) : State :=
  let s1 := (s.setLevel k).bump .reef 0 (0x50 + 4 * (k - 1))
  if k = 3 then s1.portsIdle true
  else if k = 4 then
    let s2 := (List.range 8).foldl (fun (t : State) p => t.linkFalls p) s1
    { s2 with stroke := { s2.stroke with running := false } }
  else s1

/-- The choice of a state at a commit (R636). -/
def State.reefStep (s : State) : State :=
  let s1 := s.countDwells
  let t := s1.reefTarget
  let s2 : State := { s1 with reef := { s1.reef with target := t } }
  if s2.reef.exiting then s2
  else if t > s2.reef.level then s2.enterReef t
  else if t < s2.reef.level then s2.startExit 9
  else s2

/-- A change of REEF_LATENCY_TOL or MAX_STATE that rules the current state out starts an exit (R638, R639). -/
def State.reefLimit (s : State) : State :=
  if exitLatency s.reef.level > (s.reg .reef 0 0x40).toNat ∨ s.reef.level > (s.reg .reef 0 0x44).toNat % 8 then s.startExit 1 else s

/-! ### Latency tolerance reporting (R644) -/

/-- The largest value an LTR message can carry that does not exceed `v` ns: ten bits times a power of 32. -/
def ltrValue (v : Nat) : Nat :=
  match (List.range 6).find? fun k => decide (v / 32 ^ k < 1024) with
  | some k => v / 32 ^ k * 32 ^ k
  | none => v

/-- The module reports REEF_LTR_ACTIVE (R644). -/
def State.ltrActive (s : State) : Bool :=
  (s.halyard.qps.any fun e => decide (e.2.state = .rts) &&
    s.halyard.keys.any fun k => k.2.live && k.2.host && decide (k.2.pd = e.2.pd)) ||
  (s.spill.queues.any fun e => e.2.dbBusy) ||
  (s.bosun.busy && decide (s.bosun.op = 3 ∨ s.bosun.op = 10 ∨ s.bosun.op = 13))

/-- An LTR message when the value has changed. -/
def State.sendLtr (s : State) : State :=
  let v := ltrValue (s.reg .reef 0 (if s.ltrActive then 0x60 else 0x64)).toNat
  if !s.pcie.ltrEn || decide (s.reef.ltrSent = v) then s
  else ({ s with reef := { s.reef with ltrSent := v } } : State).emit (.ltr v)

end Sys2Proof.Machine
end

