-- ==== Sys2Proof/Machine/Stroke.lean ====
section
/-!
DEFINITION. The stroke (02): intake (R73, 10 R395), the commit with its outcome, charges and fabric state (R74 to R89), the
counter (R90 to R92) and adoption (R100, R101).
-/

namespace Sys2Proof.Machine

/-- The level of STROKE_SYNC_OUT (R92 to R94): high in the first half of the stroke, advanced by STROKE_OUT_ADV. -/
def State.syncOut (s : State) : Bool :=
  s.generating && (s.reg .stroke 0 0x4C).toNat.testBit 2 && decide ((s.stroke.cycle + (s.reg .stroke 0 0x5C).toNat % 1024) % 2048 < 1024)

/-! ### Intake (R73, R79, 10 R395, 05 R220, R221, R235) -/

/-- Intake of the consume queues of one rig; the rig runs in this stroke. -/
def State.intakeRig (s : State) (id : Nat) (r : Rig) : State :=
  if !r.running then s
  else
    let s1 := s.setRig id { r with active := true, queues := r.queues.map fun b => { b with putCount := 0 } }
    r.queues.foldl (fun (t : State) b =>
      if b.role = 1 then
        let q := (t.queue b.queue).intake t.stroke.now (min b.allowance b.perStroke)
        let t1 := t.setQueue b.queue q
        if q.handedItems > 0 then t1.breakDwells else t1
      else t) s1

/-- The add format of a feeder packet's FMT code (12 R489, 05 R214). -/
def feederFmt (fmt q : Nat) : AddFmt :=
  match fmt with
  | 3 => .u64
  | 4 => .modq q
  | 5 => .f32
  | 6 => .f32
  | _ => .u32

/-- The 32 destination bytes of a BF16 payload word: each element widened exactly (05 R214). -/
def widen (v : Nat) : Nat :=
  (List.range 8).foldl (fun t i => t + 2 ^ (32 * i) * f32.round 0 (bf16.decode (bits v (16 * i) 16))) 0

/-- The adds of one packet of a feeder queue: its first data word names the destination, each later one carries 16 payload
bytes. -/
def QItem.feederAdds (i : QItem) (n : Nat) : List MAdd :=
  match i.words with
  | _ :: h :: data =>
    let v := h.w.toNat
    let fmt := bits v 64 8
    let step := if fmt = 6 then 32 else 16
    ((List.range data.length).zip data).map fun e =>
      let x := e.2.w.toNat % 2 ^ 128
      { addr := bits v 0 64 + step * e.1, bytes := step, fmt := feederFmt fmt (bits v 72 64)
        data := BitVec.ofNat 256 (if fmt = 6 then widen x else x), poison := e.2.bad || h.bad, src := .feeder n }
  | _ => []

/-- The items of a queue handed at the last intake. -/
def Queue.handedList (q : Queue) : List QItem :=
  (q.items.foldl (fun (a : Nat × List QItem) i =>
    (a.1 + i.words.length,
      if q.intakeMark ≤ a.1 ∧ a.1 + i.words.length ≤ q.handed ∧ i.deliverable then a.2 ++ [i] else a.2)) (0, [])).2

/-- Intake of one Mortar feeder: at most one packet from its third consecutive charge on. -/
def State.intakeFeeder (s : State) (n : Nat) : State :=
  let q0 := s.queue n
  let q := q0.intake s.stroke.now (if q0.feedCharges ≥ 3 then 1 else q0.feedAllow)
  let s1 := s.setQueue n q
  let s2 := if q.handedItems > 0 then s1.breakDwells else s1
  (q.handedList.flatMap fun i => i.feederAdds n).foldl (fun (t : State) m => t.queueAdd m) s2

/-- The feeder queues that hold anything. -/
def State.feeders (s : State) : List Nat := (s.spill.queues.filter fun e => e.2.feeder).map (·.1)

/-- Intake at cycle 0 of a stroke, once in each; none takes place while the fabric clock is gated. -/
def State.intake (s : State) : State :=
  if !s.generating ∨ s.gated ∨ s.stroke.intakeAt = some s.stroke.now then s
  else
    let s1 : State := { s with stroke := { s.stroke with intakeAt := some s.stroke.now } }
    let s2 := s1.fabric.rigs.foldl (fun (t : State) e => t.intakeRig e.1 e.2) s1
    s2.feeders.foldl (fun (t : State) n => t.intakeFeeder n) s2

def execIntake (s : State) : Res := .next ((s.atCycle 0).intake)

/-! ### Markers at cycle 1,984 (R83, 03 R156) -/

/-- The cycle at which a rig's Ashlar reached its marker, 0x7FF where it did not. A sealed rig of Tamrik's own reaches it at a
cycle that the manual does not give (log entry 1). -/
def State.markerOf (s : State) (id ord : Nat) (r : Rig) (a : RigAshlar) (x : Nat) : Nat × State :=
  if s.stroke.strokeFaults.contains (id, x) then (0x7FF, s)
  else if r.ownWork then
    let d := s.draw
    (d.1 % 1920, d.2)
  else if !(s.notEnded id ord a).isEmpty then (0x7FF, s)
  else ((positions a.useMask).foldl (fun m p => max m (s.core (coreKey id ord p)).endCycle) 0, s)

/-- Stores the marker of an Ashlar. -/
def State.setMarker (s : State) (x m : Nat) : State :=
  let a := s.ashlar x
  s.setAshlar x { a with markerLast := m, markerMax := max m a.markerMax }

/-- ASHLAR_MARKER of every Ashlar: cycle 0 where no rig runs. -/
def State.markers (s : State) : State :=
  let s1 : State := { s with fabric := { s.fabric with
    ashlars := (s.fabric.ashlars.map fun e => (e.1, { e.2 with markerLast := 0 })).filter fun e => decide (e.2 ≠ {}) } }
  s1.fabric.rigs.foldl (fun (t : State) e =>
    if !e.2.active then t
    else ((List.range e.2.ashlars.length).zip e.2.ashlars).foldl (fun (u : State) (f : Nat × RigAshlar) =>
      match f.2.place with
      | some x =>
        let m := u.markerOf e.1 f.1 e.2 f.2 x
        m.2.setMarker x m.1
      | none => u) t) s1

/-! ### An overrun (R84 to R89, R109) -/

/-- The first cause found in the stroke (R109). -/
def State.overrunCause (s : State) : OverrunCause :=
  match minOf (s.lateAshlars.map (·.1)) with
  | some a => .marker a
  | none =>
    match minOf (s.fabric.adds.map fun m => s.mortarUnit m.addr) with
    | some u => if u < 4800 then .ashlarMortar u else .hbmMortar (u - 4800)
    | none => .none

/-- The stacks that held an entry at cycle 2,040: counted, captured and latched (13 R534, R538, R539). -/
def State.noteLate (s : State) : State :=
  let l := (List.range 12).filter fun k => s.fabric.adds.any fun m => decide (mortarStack (s.mortarUnit m.addr) = some k)
  let s1 : State := { s with fabric := { s.fabric with lateStacks := l } }
  l.foldl (fun (t : State) k =>
    let a := ((s.fabric.adds.find? fun m => decide (mortarStack (s.mortarUnit m.addr) = some k)).map (·.addr)).getD 0
    ((t.captMem .mortar k a 7 2 0).bump .mortar k 0x54).latchEvt .mortar k 1) s1

/-- The rigs the overrun is charged to (R85). -/
def State.chargedRigs (s : State) : List Nat :=
  (s.fabric.rigs.filter fun e =>
    !(s.lateOf e.1 e.2).isEmpty || s.fabric.adds.any fun m => decide (m.src = .rig e.1)).map (·.1)

/-- The feeders the overrun is charged to (R85, 05 R221). -/
def State.chargedFeeders (s : State) : List Nat :=
  s.feeders.filter fun n => s.fabric.adds.any fun m => decide (m.src = .feeder n)

/-- A rig is faulted at this commit; `permanent` where it is not re-placed. -/
def State.faultRig (s : State) (id : Nat) (permanent : Bool) : State :=
  match s.rig? id with
  | none => s
  | some r =>
    if r.faulted then s
    else (r.placedOn).foldl (fun (t : State) a => t.latchEvt .ashlar a 1)
      (s.setRig id { r with faulted := true, permanent := r.permanent || permanent })

/-- A rig faulted under R88 or R89 (R108, R111). -/
def State.faultCharged (s : State) (id : Nat) : State :=
  if (s.rig? id).all (·.faulted) then s else ((s.faultRig id true).bump .stroke 0 0x78).latchEvt .stroke 0 2

/-- The charge of one rig: three in a row fault it (R88). -/
def State.chargeRig (s : State) (id : Nat) : State :=
  match s.rig? id with
  | none => s
  | some r =>
    let n := r.charges + 1
    let s1 := r.placedOn.foldl (fun (t : State) a => t.bump .ashlar a 0x54) (s.setRig id { r with charges := n })
    if n ≥ 3 then s1.faultCharged id else s1

/-- The charges of an overrun, and the faults they cause (R85, R88, R89). -/
def State.charge (s : State) : State :=
  let rigs := s.chargedRigs
  let feeds := s.chargedFeeders
  let k := s.stroke
  let all := k.chargedInRun ++ rigs.filter fun i => !k.chargedInRun.contains i
  let s1 : State := { s with stroke := { k with
    overrunRun := k.overrunRun + 1, chargedInRun := all, lastOverran := true, lastOverrun := k.now, cause := s.overrunCause } }
  let s2 := (s1.bump .stroke 0 0x68).latchEvt .stroke 0 1
  let s3 := feeds.foldl (fun (t : State) n => t.setQueue n { t.queue n with feedCharges := (t.queue n).feedCharges + 1 }) s2
  let s4 := rigs.foldl (fun (t : State) i => t.chargeRig i) s3
  let s5 := if s4.stroke.overrunRun = 8 then s4.latchEvt .stroke 0 4 else s4
  if s5.stroke.overrunRun ≥ 8 then all.foldl (fun (t : State) i => t.faultCharged i) s5 else s5

/-- The rigs that an event of this stroke faults: a fence, a tag violation, an uncorrectable load, a failed Vault (03 R137, R145,
13 R519, 09 R372, 18 R659). -/
def State.faultStruck (s : State) : State :=
  s.fabric.rigs.foldl (fun (t : State) e =>
    if e.2.vaultBroken || (s.stroke.strokeFaults.any fun f => decide (f.1 = e.1)) then t.faultRig e.1 false else t) s

/-! ### The fabric commit at cycle 2,041 (R74, R86, R87) -/

/-- A core at the start of the next stroke (04 R163): the shadow is kept or takes the working value (05 R207). -/
def Core.restart (c : Core) (commit : Bool) : Core :=
  let v := if commit then c.acc else c.shadow
  let b := if commit then c.accBad else c.shadowBad
  { acc := v, accBad := b, shadow := v, shadowBad := b, storeEvents := c.storeEvents }

/-- Every core of the rigs that ran. -/
def State.restartCores (s : State) (commit : Bool) : State :=
  { s with cores := (s.cores.map fun e =>
      if (s.rig? (e.1 / (8192 * 64))).any (·.active) then (e.1, e.2.restart commit) else e).filter fun e => decide (e.2 ≠ {}) }

/-- Changes every queue that one of the running rigs consumes, by `f` of the rig's binding. -/
def State.rigQueues (s : State) (f : Queue → Queue) : State :=
  s.fabric.rigs.foldl (fun (t : State) e =>
    if !e.2.active then t
    else e.2.queues.foldl (fun (u : State) b => if b.role = 1 then u.setQueue b.queue (f (u.queue b.queue)) else u) t) s

/-- The words that a rig's stroke releases (04 R205). -/
def Queue.rigRelease (q : Queue) : Queue :=
  let p := if q.qrel then q.relPoint else q.rd
  { (q.release p) with rd := q.rd - p, qrel := false, handed := 0 }

/-- A rig's queue after an overrun (R86). -/
def Queue.rewind (q : Queue) : Queue := { q with rd := q.intakeMark, qrel := false, handed := 0 }

/-- RELEASE of the host or of a Plinth unit, where it is due (10 R396). -/
def Queue.hostRelease (q : Queue) (now : Nat) : Queue :=
  match q.relPend with
  | some p => if q.relFrom ≤ now then { (q.release p) with relPend := none } else q
  | none => q

/-- A rig's items of this stroke, closed and still to complete. -/
def QItem.rigClosed (i : QItem) : Bool := i.src.isCore && i.closed && !i.complete

/-- The rig items of a queue complete, and each raises its notice (04 R203, 10 R391, R401). -/
def State.completeItems (s : State) (n : Nat) : State :=
  let q := s.queue n
  let k := (q.items.filter (·.rigClosed)).length
  let s1 := s.setQueue n { q with items := q.items.map fun i => if i.rigClosed then { i with complete := true, stroke := s.stroke.now } else i }
  (List.range k).foldl (fun (t : State) _ => t.itemDone n) s1

/-- An item of a rig after an overrun: a tag 0x04 length word with cause OVERRUN, which consumers skip (04 R204). -/
def QItem.overran (i : QItem) (now : Nat) : QItem :=
  if i.abandoned then { i with closed := true, complete := true }
  else { i with
    closed := true, complete := true, abandoned := true, cause := 2, stroke := now
    words := match i.words with
      | _ :: r => { w := ctrlWord 4 r.length 0 1 2 now 0 0 } :: r
      | [] => [] }

/-- The rig items of a queue are abandoned (04 R204, 10 R392); a close that a flush left to come is counted with them. -/
def State.abandonItems (s : State) (n : Nat) : State :=
  let q := s.queue n
  let hit (i : QItem) : Bool := i.src.isCore && !i.complete
  let late := q.items.filter fun i => hit i && !(i.closed && i.abandoned)
  let gone := q.flushed.filter (·.isCore)
  let s1 := s.setQueue n { q with
    items := q.items.map fun i => if hit i then i.overran s.stroke.now else i
    flushed := q.flushed.filter fun p => !p.isCore
    abandoned := min (q.abandoned + late.length + gone.length) 0xFFFFFFFF }
  if q.items.any fun i => hit i && !i.abandoned then s1.queueEvt n 5 else s1

/-- The queues that hold anything of a rig's. -/
def State.rigItemQueues (s : State) : List Nat :=
  (s.spill.queues.filter fun e => (e.2.items.any fun i => i.src.isCore && !i.complete) || e.2.flushed.any (·.isCore)).map (·.1)

/-- The intake allowances after a committed stroke (05 R221, R235). -/
def allowance (now most : Nat) (pressed : Bool) : Nat := if pressed then max 1 (now / 2) else min most (2 * now)

/-- The allowances of every rig that ran and of every feeder. -/
def State.allowances (s : State) : State :=
  let s1 := s.fabric.rigs.foldl (fun (t : State) e =>
    if e.2.active then t.modRig e.1 fun r => { r with
      charges := 0, queues := r.queues.map fun b => { b with allowance := allowance b.allowance b.perStroke (s.srcPressed (.rig e.1)) } }
    else t.modRig e.1 fun r => { r with charges := 0 }) s
  s.feeders.foldl (fun (t : State) n =>
    let q := t.queue n
    t.setQueue n { q with feedCharges := 0, feedAllow := allowance q.feedAllow feederMax (s.srcPressed (.feeder n)) }) s1

/-- The largest number of entries an HBM unit held at cycle 1,920 (13 R537). -/
def State.noteQueueMax (s : State) : State :=
  let units := (s.fabric.fed.map (·.2) ++ s.fabric.held1920.map (·.1) ++ s.fabric.adds.map fun m => s.mortarUnit m.addr).filter
    fun u => decide (u ≥ 4800)
  { s with fabric := { s.fabric with
    queueMax := units.foldl (fun (m : NMap Nat) u => m.modify 0 u fun x => max x (s.heldAt1920 u)) s.fabric.queueMax } }

/-- A feeder's packets of this stroke have committed: the messages they belong to are nearer their notice (12 R491, R493), and
the words are freed. -/
def State.releaseFeeder (s : State) (n : Nat) : State :=
  let q := s.queue n
  let s1 := q.handedList.foldl (fun (t : State) i =>
    match i.words with
    | _ :: h :: _ => t.noticeStep (bits h.w.toNat 136 17) (bits h.w.toNat 160 24)
    | _ => t) s
  s1.setQueue n { (q.release q.handed) with rd := 0, handed := 0, handedItems := 0 }

/-- What a running stroke leaves behind either way: the counts of the stroke return to their start. -/
def State.clearStroke (s : State) : State :=
  { s with
    stroke := { s.stroke with strokeFaults := [] }
    fabric := { s.fabric with
      fed := [], held1920 := []
      rigs := s.fabric.rigs.map fun e => (e.1, { e.2 with active := false }) } }

/-- The work of a round in a stroke that commits: its ingress rigs and feeds (06 R261, 07 R296 to R298). -/
def State.roundWork (s : State) : State :=
  s.rounds.blocks.foldl (fun (t : State) e => ((t.ingressWork e.1).maskWork e.1).noteCancel e.1) s

/-- COMMITTED at cycle 2,041. -/
def State.commitFabric (s : State) : State :=
  let s1 := s.fabric.rigs.foldl (fun (t : State) e => t.drainCapture e.1) s
  let s2 := (s1.allowances.restartCores true).commitBeds
  let s3 := s2.rigItemQueues.foldl (fun (t : State) n => t.completeItems n) s2
  let s4 := (s3.rigQueues Queue.rigRelease)
  let s5 := s4.feeders.foldl (fun (t : State) n => t.releaseFeeder n) s4
  let s6 := s5.spill.queues.foldl (fun (t : State) e => t.setQueue e.1 ((t.queue e.1).hostRelease t.stroke.now)) s5
  let s7 := s6.roundWork.deliverNotices
  { s7 with stroke := { s7.stroke with overrunRun := 0, chargedInRun := [], lastOverran := false } }

/-- OVERRUN at cycle 2,041. -/
def State.discardFabric (s : State) : State :=
  let s1 := (s.restartCores false).discardBeds
  let s2 := s1.rigItemQueues.foldl (fun (t : State) n => t.abandonItems n) s1
  let s3 := s2.rigQueues Queue.rewind
  let s4 := s3.feeders.foldl (fun (t : State) n => t.setQueue n { t.queue n with handed := 0 }) s3
  { s4 with fabric := { s4.fabric with adds := [] } }

/-- A gated stroke: no fabric commit and no overrun, so that a run of consecutive overruns ends (R88, R89, R92, 17 R645). -/
def State.gatedStroke (s : State) : State :=
  { s with
    stroke := { s.stroke with lastOverran := false, overrunRun := 0, chargedInRun := [] }
    fabric := { s.fabric with lateStacks := [], rigs := s.fabric.rigs.map fun e => (e.1, { e.2 with charges := 0 }) } }

/-- Cycles 1,984 to 2,041: the outcome and the fabric state. -/
def State.fabricStep (s : State) : State :=
  if s.gated then s.gatedStroke
  else
    let s1 := s.noteQueueMax.noteLate
    if s.overran then (s1.charge.faultStruck.discardFabric).clearStroke
    else s1.commitFabric.faultStruck.clearStroke

/-! ### The rest of the commit -/

/-- Muster's judgements, the rosters and the round states: cycles 2,042 and 2,043 (R74). A round that an OPEN brings in at the commit of
its own D_COLLECT meets SETUP_LATE there (01 R46). -/
def State.roundsStep (s : State) (ov : Bool) : State :=
  let s1 := ((s.rounds.blocks.map (·.1)).foldl (fun (t : State) b => t.rosterStep b) s.musterJudge).musterOpen
  (s1.rounds.blocks.map (·.1)).foldl (fun (t : State) b => t.roundStep b ov) s1

/-- A stretched stroke (R97): the commit is lengthened until the phase error is gone. -/
def State.stretch (s : State) : State :=
  if !s.stroke.stretchPending then s
  else { s with stroke := { s.stroke with
    stretchPending := false, extra := s.stroke.extra + (s.reg .stroke 0 0x54).toNat % 2048 } }

/-- EVT_ALARM at the commit of the alarm stroke (R110). -/
def State.alarmStep (s : State) : State :=
  if s.stroke.alarmOn && decide (s.getPair .stroke 0 0x88 = s.stroke.now ∧ s.stroke.now ≠ 0) then
    (({ s with stroke := { s.stroke with alarmOn := false } } : State).latchEvt .stroke 0 128).wake 7 2 3
  else s

/-- The module adopts V at the commit of its ADOPT_AT, or refuses to join while a round is live (R100, R101, 11 R439). -/
def State.adoption (s : State) : State :=
  let h := s.hail
  if h.phase ≠ .forming ∨ h.adoptAt ≠ some s.stroke.now then s
  else if !s.roundsIdle then
    ((if h.pos = 0 then h.members.drop 1 else h.members.take 1).foldl (fun (t : State) id => t.sendPeer id 8 []) s).formFails 7
  else
    let s1 : State := (s.setHail { h with phase := .crew, formResult := 1, adoptAt := none, candidates := [], reports := [] })
    let s2 : State := { s1 with stroke := { s1.stroke with nextStroke := some h.adoptV, epoch := h.adoptEpoch } }
    (s2.latchEvt .hail 0 2).latchEvt .stroke 0 64

def execAdoption (s : State) : Res := .next (if s.generating then s.adoption else s)

/-- The landing queues of ended bindings are freed once they are empty (06 R242). -/
def State.freeEnded (s : State) : State :=
  let done := s.rounds.ended.filter fun e => (s.queue e.2.landing).items.isEmpty
  done.foldl (fun (t : State) e => t.freeQueue e.2.landing)
    { s with rounds := { s.rounds with ended := s.rounds.ended.filter fun e => !done.contains e } }

/-- The counter advances, or takes the adopted value; it stops at its largest (R90, R91). -/
def State.advanceCounter (s : State) : State :=
  let n := match s.stroke.nextStroke with
    | some v => max v (s.stroke.now + 1)
    | none => s.stroke.now + 1
  { s with stroke := { s.stroke with now := min n (2 ^ 64 - 1), cycle := 0, nextStroke := none } }

/-- The module halts after the commit of stroke `last` (19 R686). -/
def State.haltNow (s : State) (last cause hit : Nat) : State :=
  let s1 : State := { s with tt := { s.tt with
    halted := true, stepping := false, haltCause := cause, hit := hit, haltAt := none, force := false
    leaveCrew := decide (s.net.hail.phase = .crew) } }
  (s1.setPair .telltale 0 0x48 last).latchEvt .telltale 0 1

/-- A halt is due after this commit. -/
def State.haltDue (s : State) : Option (Nat × Nat) :=
  match s.tt.haltAt with
  | some (n, c, h) => if n ≤ s.stroke.now then some (c, h) else none
  | none => none

/-- A halt with FORCE dissolves the crew at its commit (19 R687). -/
def State.forcedLeave (s : State) : State := if s.haltDue.isSome && s.tt.force then s.dissolveCrew else s

/-- An accepted unlock in SEALED starts the wipe at its commit (19 R684). -/
def State.unlockStep (s : State) : State :=
  match s.tt.unlockAt with
  | some n => if n ≤ s.stroke.now then ({ s with tt := { s.tt with unlockAt := none } } : State).endTenancy else s
  | none => s

/-- Commands whose effect is tied to the commit: cycles 2,044 and 2,047 (00 R722, 10 R405). -/
def State.commandStep (s : State) : State :=
  let s1 := s.hostFlushes.endMuster.endFlushes.endBosun.unlockStep
  (if s1.mtCmd.busy && s1.mtCmd.ready then s1.endMt else s1).alarmStep.adoption.freeEnded

/-- The counter's advance and what follows from it. -/
def State.nextStrokeStep (s : State) : State :=
  let last := s.stroke.now
  let h := s.haltDue
  let s1 := s.stretch.reefStep.sendLtr.advanceCounter
  match h with
  | some (c, w) => s1.haltNow last c w
  | none => s1.strokeStart

/-- The commit of a stroke (R74). -/
def State.commit (s : State) : State :=
  let s1 := ((s.atCycle 1984).bpStroke.markers.forcedLeave.atCycle 2016).releaseAcks
  let ov := !s1.gated && s1.overran
  let s2 := (s1.atCycle 2041).fabricStep
  let s3 := (((s2.atCycle 2043).roundsStep ov).atCycle 2047).commandStep
  s3.nextStrokeStep

def execStrokeCommit (s : State) : Res := .next (if s.generating then s.commit else s)

end Sys2Proof.Machine
end

