-- ==== Sys2Proof/Machine/Sync.lean ====
section
/-!
DEFINITION. Alignment (02 R96 to R99, R105 to R107, R723): the STROKE_SYNC pins, PTP, and the modes of SYNC_STATE.
-/

namespace Sys2Proof.Machine

/-- The error of an edge from the expected cycle 0, after compensation (R107): −1,024 to 1,023. -/
def State.phaseOf (s : State) (cycle : Nat) : Int :=
  let e := (cycle + 2048 - (s.reg .stroke 0 0x58).toNat % 1024) % 2048
  if e < 1024 then e else (e : Int) - 2048

/-- No reliable-connected queue pair is connected (R97). -/
def State.noneConnected (s : State) : Bool :=
  s.halyard.qps.all fun e => decide (e.1 ≥ 65536 ∨ (e.2.state ≠ .rtr ∧ e.2.state ≠ .rts))

/-- An edge is ignored (R96). -/
def State.ignoreEdge (s : State) : State := (s.bump .stroke 0 0x60).latchEvt .stroke 0 32

/-- An accepted edge with its phase error (R96, R97). -/
def State.acceptEdge (s : State) (e : Int) : State :=
  let t := s.time
  let spaced := s.stroke.lastEdge.any fun l => decide (l + 2040 ≤ t ∧ t ≤ l + 2056)
  let run := if spaced then s.stroke.edgeRun + 1 else 1
  let s1 := ({ s with stroke := { s.stroke with lastEdge := some t, edgeSince := t, edgeRun := run } } : State).setReg .stroke 0 0x54
    (BitVec.ofNat 32 (e % 65536).toNat)
  if !s.pinMode then s1
  else
    let s2 := if s1.stroke.sync = .freeRun then s1.setSync .acquiring else s1
    let near := decide (-40 ≤ e ∧ e ≤ 40)
    if s2.stroke.sync = .lockedPin ∨ run < 16 then s2
    else if near then ({ s2 with stroke := { s2.stroke with stretchPending := false } } : State).setSync .lockedPin
    else { s2 with stroke := { s2.stroke with
      stretchPending := (s2.reg .stroke 0 0x4C).toNat.testBit 3 && s2.roundsIdle && s2.noneConnected } }

/-- A rising edge of STROKE_SYNC_IN. -/
def State.syncEdge (s : State) (cycle : Nat) : State :=
  let e := s.phaseOf cycle
  if !s.generating then s
  else if s.stroke.lastEdge.any fun l => decide (s.time < l + 1844) then s.ignoreEdge
  else if s.stroke.sync = .lockedPin ∧ (e < -64 ∨ 64 < e) then s.ignoreEdge
  else s.acceptEdge e

def execStrokeSyncInEdge (cycle : Nat) (s : State) : Res :=
  if cycle ≥ 2048 then .fault .badEvent else .next ((s.atCycle cycle).syncEdge cycle)

/-- No usable edge for 4 strokes: FREE_RUN, or PTP fallback (R96, R723). -/
def State.edgesLost (s : State) : State :=
  if !s.generating ∨ !s.pinMode ∨ s.time < s.stroke.edgeSince + 4 * 2048 ∨ s.stroke.fallback ∨ s.stroke.sync = .freeRun then s
  else
    let s1 : State := { s with stroke := { s.stroke with edgeRun := 0, stretchPending := false } }
    if s.syncMode = 3 ∧ s.stroke.ptpLocked then
      let s2 := ((s1.setSync .lockedPtp).bump .stroke 0 0x64).latchEvt .stroke 0 256
      { s2 with stroke := { s2.stroke with fallback := true } }
    else s1.setSync .freeRun

def execFreeRun (cycle : Nat) (s : State) : Res :=
  if cycle ≥ 2048 then .fault .badEvent else .next ((s.atCycle cycle).edgesLost)

/-! ### PTP (11 R428, R429, R449) -/

/-- The servo locks: SYNC_STATE follows in mode 2, and a module outside a crew sets STROKE_EPOCH at its first lock (R98). -/
def State.ptpLock (s : State) (start : Int) : State :=
  let k := s.stroke
  let first := !k.epochSet && !s.inCrew
  let s1 : State := { s with stroke := { k with
    ptpLocked := true, epochSet := true, epoch := if first then start - 1024 * k.now else k.epoch } }
  if s.syncMode = 2 then s1.setSync .lockedPtp else s1

/-- PTP_LOCKED clears (11 R429); in mode 2 and in a fallback SYNC_STATE becomes FREE_RUN (R723). -/
def State.ptpDrop (s : State) : State :=
  let s1 : State := { s with stroke := { s.stroke with ptpLocked := false, ptpGood := 0, ptpBad := 0 } }
  if s.stroke.sync = .lockedPtp then s1.setSync .freeRun else s1

/-- The same on the port that runs PTP, whose page latches the event. -/
def State.ptpLose (s : State) (port : Nat) : State := (s.latchEvt .eth port 32).ptpDrop

/-- A Sync message on the port whose PTP_EN is 1. -/
def State.ptpSync (s : State) (port : Nat) (offset start : Int) : State :=
  let k := s.stroke
  if !(s.reg .eth port 0x58).toNat.testBit 0 ∨ s.ten.scrubbing ∨ !s.power.on ∨ s.reef.level = 4 ∨ !(s.port port).linkUp then s
  else
    let good := if -50 ≤ offset ∧ offset ≤ 50 then k.ptpGood + 1 else 0
    let bad := if offset < -200 ∨ 200 < offset then k.ptpBad + 1 else 0
    let s1 := ({ s with stroke := { k with ptpGood := good, ptpBad := bad } } : State).setReg .eth port 0x5C
      (BitVec.ofNat 32 ((clampI (-(2 ^ 31)) (2 ^ 31 - 1) offset) % 2 ^ 32).toNat)
    if !k.ptpLocked ∧ good ≥ 16 then s1.ptpLock start
    else if k.ptpLocked ∧ bad ≥ 4 then s1.ptpLose port
    else s1

def execPtpSync (port : Nat) (offset start : Int) (s : State) : Res :=
  if port ≥ 8 then .fault .noUnit else .next (s.ptpSync port offset start)

/-- 3 s without Sync (11 R429); the servo holds during a scrub. Where PTP_EN has been cleared no page latches the event. -/
def execPtpSyncTimeout (s : State) : Res :=
  .next (if !s.stroke.ptpLocked || s.ten.scrubbing then s
    else match (List.range 8).find? fun p => (s.reg .eth p 0x58).toNat.testBit 0 with
      | some p => s.ptpLose p
      | none => s.ptpDrop)

end Sys2Proof.Machine
end

