-- ==== Sys2Proof/Machine/RegWrite.lean ====
section
/-!
DEFINITION. Writes of registers over BAR0 (00 R14 to R16, 16 R598, R606, R609 to R612): the page header, BLOCK resets, and every
block register by its access code or its own behaviour.
-/

namespace Sys2Proof.Machine

/-! ### The page header (16 R606, R609 to R611) -/

/-- PAGE_LOCK is set. -/
def State.pageLocked (s : State) (p : Page) (i : Nat) : Bool := (s.reg p i 0x38).toNat.testBit 0

/-- The vector of a page is sent again after a write of its event registers that leaves the condition at 1 (R606). -/
def State.resendVector (s : State) (p : Page) (i : Nat) : State :=
  if s.vectorCond p i then s.sendVector (p.vector i) else s

/-- A write of EVT_LATCH, EVT_ENABLE or EVT_FORCE. A forced READY or SCRUB_DONE has the effect of the event itself (R607, R610). -/
def State.writeEvt (s : State) (p : Page) (i off : Nat) (v : W32) : State :=
  let m := BitVec.ofNat 32 (2 ^ p.evtBits - 1)
  match off with
  | 0x14 => (s.setReg p i 0x14 (s.reg p i 0x14 &&& ~~~v)).resendVector p i
  | 0x18 => (s.setReg p i 0x18 (v &&& m)).resendVector p i
  | _ =>
    let s1 := s.setReg p i 0x14 (s.reg p i 0x14 ||| (v &&& m))
    if p = .global ∧ s.vectorsHeld ∧ v &&& 6 ≠ 0 then s1.sendVector 0 true else s1.resendVector p i

/-- A register of a page after a BLOCK reset (00 R17): ERR_CAPT, ERR_COUNT and PAGE_LOCK stay, and of the others the ROS fields and,
while PAGE_LOCK is set, the RWL fields. -/
def blockValue (locked : Bool) (a : Nat) (v : W32) : W32 :=
  let off := a % 0x1000
  if 0x24 ≤ off ∧ off < 0x3C then v
  else match pageOf a with
    | none => regReset a
    | some (p, _) =>
      match findReg p off with
      | none => regReset a
      | some d => let m := d.maskOf (if locked then [.ros, .rwl] else [.ros]); (v &&& m) ||| (regReset a &&& ~~~m)

/-- The registers of a page return to their reset values (00 R17). -/
def State.blockRegsReset (s : State) (p : Page) (i : Nat) : State :=
  let lo := p.base + i * 0x1000
  let here (a : Nat) : Bool := decide (lo ≤ a ∧ a < lo + 0x1000)
  { s with
    regs := (s.regs.map fun e => if here e.1 then (e.1, blockValue (s.pageLocked p i) e.1 e.2) else e).filter fun e =>
      decide (e.2 ≠ regReset e.1)
    hiLatch := s.hiLatch.dropWhere here }

/-- PAGE_CTL.SOFT_RESET (R611): a port retrains and takes ETH_CFG from flash (11 R447), the PCIE page's BAR2 base returns to 0,
a debug session ends. Elsewhere the write is ignored and counted. -/
def State.softReset (s : State) (p : Page) (i : Nat) (v : W32) : State :=
  match p with
  | .eth =>
    let t := (s.linkFalls i).blockRegsReset .eth i
    (t.setPort i { t.port i with nbr := none, nbrMultiple := false }).setReg .eth i 0x40 (t.port i).flashCfg
  | .pcie => let t := s.blockRegsReset .pcie 0; { t with pcie := { t.pcie with bar2Base := 0 } }
  | .telltale => s.endSession.blockRegsReset .telltale 0
  | _ => s.pageError p i 0x0C 4 v

/-- PAGE_CTL.ERR_CLR (R611, R612): ERR_COUNT is 0 and the capture is free. -/
def State.errClr (s : State) (p : Page) (i : Nat) : State :=
  let t := s.setReg p i 0x34 0
  { t with captHeld := t.captHeld.filter (· ≠ p.base + i * 0x1000) }

/-- A write of PAGE_CTL: ignored and counted on the pages of 03 R151. -/
def State.writePageCtl (s : State) (p : Page) (i : Nat) (v : W32) : State :=
  if p.pageCtlIgnored then s.pageError p i 0x0C 4 v
  else
    let s1 := if v.toNat.testBit 1 then s.softReset p i v else s
    if v.toNat.testBit 2 then s1.errClr p i else s1

/-- A write of a header register. -/
def State.writeHeader (s : State) (p : Page) (i off : Nat) (v : W32) : State :=
  match off with
  | 0x0C => s.writePageCtl p i v
  | 0x14 => s.writeEvt p i 0x14 v
  | 0x18 => s.writeEvt p i 0x18 v
  | 0x1C => s.writeEvt p i 0x1C v
  | 0x38 => if v.toNat.testBit 0 then s.setReg p i 0x38 1 else s
  | _ => s

/-! ### Registers with a behaviour of their own -/

/-- PWR_BRAKE_N or BRAKE_FORCE asserts the cap (17 R645). -/
def State.capOn (s : State) : State :=
  if s.reef.cap then s
  else (({ s with reef := { s.reef with cap := true } } : State).bump .reef 0 0x68).latchEvt .reef 0 2

/-- The cap ends when no cause remains (17 R646, 20 R705). -/
def State.capOff (s : State) : State :=
  if !s.reef.cap || s.reef.capPin || s.reef.capPower || s.reef.capThermal then s
  else ({ s with reef := { s.reef with cap := false } } : State).latchEvt .reef 0 4

/-- A write of REEF_CTL (17 R638, R645, R648). A release of BRAKE_FORCE ends the cap only through R646. -/
def State.writeReefCtl (s : State) (v : W32) : State :=
  if v.toNat % 8 > 4 then s.pageError .reef 0 0x44 4 v
  else
    let s1 := (s.setReg .reef 0 0x44 (v &&& 0xF)).reefLimit
    if v.toNat.testBit 3 then ({ s1 with reef := { s1.reef with capPin := true } } : State).capOn else s1

/-- A write of STROKE_CTL: SYNC_STATE follows a change of the mode (02 R105, R723). -/
def State.writeStrokeCtl (s : State) (v : W32) : State :=
  let t := s.setReg .stroke 0 0x4C v
  if t.syncMode = s.syncMode ∨ s.tt.halted then t else t.syncFromMode false

/-- A write of half of STROKE_ALARM: a value of 0, or at or below the counter, disables the alarm (02 R110). -/
def State.writeAlarm (s : State) (off : Nat) (v : W32) : State :=
  let t := s.setReg .stroke 0 off v
  let a := t.getPair .stroke 0 0x88
  { t with stroke := { t.stroke with alarmOn := decide (a ≠ 0 ∧ s.stroke.now < a) } }

/-- A write of HAIL_UDP_PORT, which goes to flash (11 R423, R454). -/
def State.writeUdpPort (s : State) (v : W32) : State :=
  if v.toNat % 2 ^ 16 = 0 then s.pageError .hail 0 0x44 4 v
  else
    let t := s.setReg .hail 0 0x44 (v &&& 0xFFFF)
    { t with net := { t.net with flashUdp := v.toNat % 2 ^ 16 } }

/-- A write of HAIL_CREW_ID or HAIL_PSK, refused while the module is FORMING or in a crew (11 R454). -/
def State.writeCrew (s : State) (off : Nat) (v : W32) : State :=
  if s.hail.phase ≠ .idle then s.pageError .hail 0 off 4 v
  else if off < 0x50 then s.setReg .hail 0 off v
  else
    let k := (off - 0x50) / 4
    let old := padTo 32 s.hail.psk
    s.setHail { s.hail with
      psk := old.take (4 * k) ++ toLe 4 v.toNat ++ old.drop (4 * k + 4)
      pskWritten := if s.hail.pskWritten.contains k then s.hail.pskWritten else k :: s.hail.pskWritten }

/-- A write of PCIE_CTL (16 R618): MAX_GEN is RWL; RETRAIN retrains the link. -/
def State.writePcieCtl (s : State) (v : W32) : State :=
  let n := v.toNat
  if n % 8 = 0 ∨ n % 8 = 7 then s.pageError .pcie 0 0x44 4 v
  else
    let s1 := if s.pageLocked .pcie 0 then s.pageError .pcie 0 0x44 2 v else s.setReg .pcie 0 0x44 (v &&& 7)
    if n.testBit 3 ∧ s1.pcie.linkUp then { s1 with pcie := { s1.pcie with training := true } } else s1

/-- A write of PCIE_BAR2_BASE_HI applies the staged base (16 R618). -/
def State.writeBar2Base (s : State) (v : W32) : State :=
  let base := (s.reg .pcie 0 0x48).toNat / 2 ^ 21 * 2 ^ 21 + 2 ^ 32 * (v.toNat % 2 ^ 16)
  if base + 2 ^ 36 > 2 ^ 48 then s.pageError .pcie 0 0x4C 4 v
  else
    let t := s.setReg .pcie 0 0x4C (v &&& 0xFFFF)
    { t with pcie := { t.pcie with bar2Base := base } }

/-- A write of SPILL_Q_EVT clears events of the selected queue (10 R414). -/
def State.writeQueueEvt (s : State) (k : Nat) (v : W32) : State :=
  let n := s.selQueue k
  s.setQueue n { s.queue n with evt := (s.queue n).evt &&& ~~~(v.setWidth 6) }

/-- A write of a block register (00 R14): its own behaviour, or its access codes. A write to a register with locked RWL fields is
counted. -/
def State.writeBlock (s0 : State) (p : Page) (i off : Nat) (v : W32) (d : RDesc) : State :=
  let n := v.toNat
  let locked := s0.pageLocked p i
  let s := if locked && decide (d.maskOf [.rwl] ≠ 0) && decide (p ≠ .pcie) then s0.pageError p i off 2 v else s0
  let new := d.written locked (s.reg p i off) v
  let store := s.setReg p i off new
  match p with
  | .global => if off = 0x50 then s.writeReset v else store
  | .keep =>
    if off = 0x48 then s.landKeep (n % 16) (n / 16 % 64)
    else if off = 0x70 then (if s.keep.lc = .opened then store else s0)
    else if 0x400 ≤ off ∧ s.keepCmd.busy ∧ s.keepCmd.op = 6 then s.pageError .keep 0 off 3 v
    else if 0x400 ≤ off then s.setKeep { s.keep with msg := s.keep.msg.put 0 ((off - 0x400) / 4) v }
    else store
  | .bosun => if off = 0x40 then s.landBosun (n % 16) else store
  | .reef => if off = 0x40 then store.reefLimit else if off = 0x44 then s.writeReefCtl v else store
  | .stroke => if off = 0x4C then s.writeStrokeCtl new else if off = 0x88 ∨ off = 0x8C then s.writeAlarm off v else store
  | .telltale => s.pageError .telltale 0 off 6 v
  | .hail =>
    if off = 0x40 then s.writeHailCtl v
    else if off = 0x44 then s.writeUdpPort v
    else if 0x48 ≤ off ∧ off < 0x70 then s.writeCrew off v
    else store
  | .muster => if off = 0x4C then s.landMuster (n % 16) (n / 16 % 16) else store
  | .keystone => store
  | .pcie => if off = 0x44 then s.writePcieCtl v else if off = 0x4C then s.writeBar2Base v else store
  | .eth =>
    if off = 0x40 then s.writeEthCfg i v
    else if off = 0x50 ∨ off = 0x54 then s.writePfc i (decide (off = 0x50)) v
    else if off = 0x58 then s.writePtpCtl i v
    else store
  | .halyard =>
    if off = 0x40 then s.landHalyard (n % 16)
    else if off = 0xC0 then (if n / 2 ^ 10 % 2 ^ 8 = 0 then s.pageError .halyard 0 0xC0 4 v else store)
    else if off = 0x110 then (if n.testBit 0 then s.odpPop else s)
    else store
  | .spill =>
    if off = 0x40 then s.spillSel i v
    else if off = 0x48 ∨ off = 0x4C then s.watermark i (decide (off = 0x48)) v
    else if off = 0x58 then s.writeQueueEvt i v
    else if off = 0x70 then s.landSpill i (n % 8)
    else store
  | .vault =>
    if off = 0x8C then s.landMt i (n % 4)
    else if 0x80 ≤ off ∧ off < 0x8C then s.setReg .vault 0 off (d.written locked (s.reg .vault 0 off) v)
    else store
  | .hbmc => if off = 0x40 then (if n.testBit 0 then s.tempMaxClr i else s) else store
  | .mortar => if off = 0x48 then (if n.testBit 0 then s.queueMaxClr i else s) else store
  | .ashlar =>
    if off = 0x40 then (if n.testBit 0 then s.markerMaxClr i else s)
    else if off = 0x90 then (if n.testBit 0 then s.drainReq i (n / 2 % 64) else store)
    else store
  | .pier => store
  | .course => store

/-- A naturally aligned 32-bit write of a page offset (00 R14 to R16): an offset that names no register ignores it. -/
def State.writeReg (s : State) (p : Page) (i off : Nat) (v : W32) : State :=
  match findReg p off with
  | none => s
  | some d => if off < 0x40 then s.writeHeader p i off v else s.writeBlock p i off v d

/-- A write of a register of a page by the host. -/
def State.hostWrite (s : State) (p : Page) (i off : Nat) (v : W32) : State := s.onPage p i off v fun t => t.writeReg p i off v

/-- A write that is not a naturally aligned 32-bit access is discarded and counted on the page (00 R15). -/
def State.narrowWrite (s : State) (p : Page) (i off : Nat) (v : W32) : State :=
  if !s.serves p then s else (if quietPage p then s else s.wake 2 2 4).pageError p i off 1 v

/-- A write of `len` bytes at a BAR0 address (16 R598); `v` is its data where it is 4 bytes long. -/
def State.bar0Write (s : State) (a len : Nat) (v : W32) : State :=
  match pageOf a with
  | none => s.bump .pcie 0 0x50
  | some (p, i) =>
    if len = 4 ∧ a % 4 = 0 then s.pageWrite p i (a % 0x1000) v fun t => t.writeReg p i (a % 0x1000) v
    else s.narrowWrite p i (a % 0x1000) v

/-- Reads the registers that hold the bytes at a page offset, in ascending order (00 R15). -/
def State.readRegs (s : State) (p : Page) (i off : Nat) : Nat → List Byte × State
  | 0 => ([], s)
  | n + 1 =>
    let r := s.readReg p i off
    let q := r.2.readRegs p i (off + 4) n
    (toLe 4 r.1.toNat ++ q.1, q.2)

/-- A read of `len` bytes at a BAR0 address within one page (16 R598, R599): in Reef-2 and Reef-3 a page that is not quiet starts an
exit (17 R639). -/
def State.bar0Read (s : State) (a len : Nat) : List Byte × State :=
  match pageOf a with
  | none => (List.replicate len 0, s.bump .pcie 0 0x50)
  | some (p, i) =>
    if !s.serves p then (List.replicate len 0xFF, s)
    else
      let s1 := if quietPage p then s else s.wake 2 2 3
      let off := a % 0x1000 / 4 * 4
      let r := s1.readRegs p i off ((a % 4 + len + 3) / 4)
      ((r.1.drop (a % 4)).take len, r.2)

/-! ### The rows that write one register -/

/-- A row's write of a page that exists. -/
def pageRow (p : Page) (i off : Nat) (v : W32) (s : State) : Res :=
  if i ≥ p.count then .fault .noUnit else .next (s.hostWrite p i off v)

/-- EVT_LATCH_WRITE: `off` names EVT_LATCH, EVT_ENABLE or EVT_FORCE. -/
def execEvtLatchWrite (page : Page) (i off : Nat) (v : W32) (s : State) : Res :=
  if off = 0x14 ∨ off = 0x18 ∨ off = 0x1C then pageRow page i off v s else .fault .badEvent

def execSoftReset (page : Page) (i : Nat) (s : State) : Res := pageRow page i 0x0C 2 s
def execErrClr (page : Page) (i : Nat) (s : State) : Res := pageRow page i 0x0C 4 s
def execPageLock (page : Page) (i : Nat) (s : State) : Res := pageRow page i 0x38 1 s
def execSyncModeWrite (v : W32) (s : State) : Res := .next (s.hostWrite .stroke 0 0x4C v)
def execMaxStateWrite (v : W32) (s : State) : Res := .next (s.hostWrite .reef 0 0x44 v)
def execReefLatencyTol (v : W32) (s : State) : Res := .next (s.hostWrite .reef 0 0x40 v)
def execBar2BaseWrite (v : W32) (s : State) : Res := .next (s.hostWrite .pcie 0 0x4C v)

/-- RETRAIN: a write of PCIE_CTL with RETRAIN set. -/
def execRetrain (v : W32) (s : State) : Res :=
  if v.toNat.testBit 3 then .next (s.hostWrite .pcie 0 0x44 v) else .fault .badEvent

end Sys2Proof.Machine
end

