-- ==== Sys2Proof/Machine/Brake.lean ====
section
/-!
DEFINITION. The power brake (17 R645, R646) and the end of an exit from a reef state (17 R635, R642, R643).
-/

namespace Sys2Proof.Machine

/-- PWR_BRAKE_ASSERT: PWR_BRAKE_N has been low for 100 ns. -/
def execPwrBrakeAssert (s : State) : Res :=
  .next ({ s with reef := { s.reef with brakePin := true, capPin := true } } : State).capOn

/-- PWR_BRAKE_RELEASE: PWR_BRAKE_N has been high for 1 ms without a break; BRAKE_FORCE holds the cap on (R646). -/
def execPwrBrakeRelease (s : State) : Res :=
  let s1 : State := { s with reef := { s.reef with brakePin := false } }
  .next (if (s1.reg .reef 0 0x44).toNat.testBit 3 then s1
    else ({ s1 with reef := { s1.reef with capPin := false } } : State).capOff)

/-- The exit from bare poles (R642, R643): all SRAM is zero, the firmware slot is read again and verified, and the generator runs
from the held counter. -/
def State.leaveBarePoles (s : State) (badA badB : Bool) : State :=
  let s1 : State := { s.zeroRange 0x20000000000 (2 ^ 64) with
    cores := []
    stroke := { s.stroke with running := true }
    boot := { s.boot with slotA := s.boot.slotA.spoil badA, slotB := s.boot.slotB.spoil badB } }
  let s2 := s1.fwLoad
  if s2.boot.stage = .failed then s2
  else ({ s2 with boot := { s2.boot with stage := .ready } } : State).syncFromMode false |>.newEpoch

/-- Register writes and doorbell rings that bare poles held are applied in order (R640). -/
def State.applyRetained (s : State) : State :=
  let s1 : State := { s with reef := { s.reef with heldWrites := [], heldRings := [] } }
  let s2 := s.reef.heldWrites.foldl (fun (t : State) (e : Nat × W32) => match pageOf e.1 with
    | some (p, i) => if t.serves p then t.writeReg p i (e.1 % 0x1000) e.2 else t
    | none => t) s1
  s.reef.heldRings.foldl (fun (t : State) (e : Nat × W32 × Option (List Byte)) => t.ring e.1 e.2.1 e.2.2) s2

/-- REEF_EXIT_DONE: the module reaches the target of R636, above the state it leaves. -/
def execReefExitDone (badA badB : Bool) (s : State) : Res :=
  if !s.reef.exiting ∨ !s.power.on then .next s
  else
    let from' := s.reef.level
    let to' := min s.reefTarget (from' - 1)
    let s1 : State := { s with reef := { s.reef with exiting := false, target := s.reefTarget } }
    let s2 := s1.setLevel to'
    let s3 := if to' = 0 then s2 else s2.bump .reef 0 (0x50 + 4 * (to' - 1))
    .next (if from' = 3 then s3.portsIdle false
      else if from' = 4 then
        let s4 := s3.leaveBarePoles badA badB
        if s4.boot.fatal ≠ 0 then s4 else s4.applyRetained
      else s3)

end Sys2Proof.Machine
end

