-- ==== Sys2Proof/Machine/Hardware.lean ====
section
/-!
DEFINITION. Module hardware (20): the power limiter, the temperatures and the thermal trip, the SMBus devices, and the start and
stop of the 42 V input.
-/

namespace Sys2Proof.Machine

/-! ### The power limiter (R705, 17 R650) -/

/-- POWER_LIMIT: a reading of the input power, its 1 ms average, the input voltage and the input current. -/
def execPowerLimit (watts average volts amps : Nat) (rested : Bool) (s : State) : Res :=
  if !s.power.on then .next s
  else
    let now := min average 0xFFFF
    let top := max now ((s.reg .reef 0 0x6C).toNat / 2 ^ 16)
    let overs := if now > 2600 then s.power.overs + 1 else 0
    let s1 : State := { s.setReg .reef 0 0x6C (BitVec.ofNat 32 (now + 2 ^ 16 * top)) with
      power := { s.power with inputV := volts % 2 ^ 16, inputI := amps % 2 ^ 16, overs := overs } }
    let calls := decide (watts ≥ 3100 ∨ overs ≥ 10)
    .next (
      if calls then ({ s1 with reef := { s1.reef with capPower := true } } : State).capOn
      else if s1.reef.capPower && rested then ({ s1 with reef := { s1.reef with capPower := false } } : State).capOff
      else s1)

/-! ### Temperatures (R714, R715, 13 R533, R535) -/

/-- An 8-bit two's complement reading, saturating (R718). -/
def temp8 (v : Int) : Nat := ((max (-128) (min 127 v)) % 256).toNat

/-- The value of an 8-bit two's complement reading. -/
def ofTemp8 (n : Nat) : Int := if n % 256 < 128 then ((n % 256 : Nat) : Int) else ((n % 256 : Nat) : Int) - 256

/-- HBMC_TEMP.NOW of a stack. -/
def State.hbmTemp (s : State) (k : Nat) : Int := ofTemp8 (s.reg .hbmc k 0x60).toNat

/-- Thresholds of the warning, the cap and the trip (R714). -/
def tempLimits : TempSensor → Option (Int × Int × Int)
  | .pier _ => some (100, 105, 115)
  | .plinth => some (100, 105, 115)
  | .hbm _ => some (95, 100, 110)
  | .coolantIn => none
  | .coolantOut => none

/-- The module has the sensor. -/
def tempFits : TempSensor → Bool
  | .pier n => decide (n < 6)
  | .hbm k => decide (k < 12)
  | _ => true

/-- The last reading of a sensor. -/
def State.tempOf (s : State) : TempSensor → Int
  | .pier n => s.power.pierTj.getD n 0
  | .plinth => s.power.plinthTj
  | .hbm k => s.hbmTemp k
  | .coolantIn => s.power.coolantIn
  | .coolantOut => s.power.coolantOut

/-- The junctions that R714 watches. -/
def junctions : List TempSensor :=
  .plinth :: ((List.range 6).map .pier ++ (List.range 12).map .hbm)

/-- A junction is at or above the threshold that `f` picks. -/
def State.anyHot (s : State) (f : Int × Int × Int → Int) : Bool :=
  junctions.any fun x => (tempLimits x).any fun l => decide (f l ≤ s.tempOf x)

/-- A reading is stored: HBMC_TEMP with its highest value, and the event at 95 °C (13 R533, R535). -/
def State.takeTemp (s : State) (x : TempSensor) (v : Int) : State :=
  match x with
  | .pier n => { s with power := { s.power with pierTj := s.power.pierTj.set n v } }
  | .plinth => { s with power := { s.power with plinthTj := v } }
  | .coolantIn => { s with power := { s.power with coolantIn := v } }
  | .coolantOut => { s with power := { s.power with coolantOut := v } }
  | .hbm k =>
    let old := (s.reg .hbmc k 0x60).toNat
    let top := max (ofTemp8 (temp8 v)) (ofTemp8 (old / 2 ^ 8))
    let t := s.setReg .hbmc k 0x60 (BitVec.ofNat 32 (temp8 v + 2 ^ 8 * temp8 top))
    if ofTemp8 old < 95 ∧ 95 ≤ v then t.latchEvt .hbmc k 64 else t

/-- The cap that the thermal rules call for (R705, R714). -/
def State.thermalCap (s : State) (rested : Bool) : State :=
  if s.anyHot fun l => l.2.1 then ({ s with reef := { s.reef with capThermal := true } } : State).capOn
  else if s.reef.capThermal && rested && !(s.anyHot fun l => l.2.1 - 4) then
    ({ s with reef := { s.reef with capThermal := false } } : State).capOff
  else s

/-- TRIP_LAST of a sensor (R718). -/
def tempCode : TempSensor → Nat
  | .pier n => 1 + 16 * n
  | .plinth => 1 + 16 * 6
  | .hbm k => 2 + 16 * k
  | _ => 0

/-- The rails other than the always-on domain fall: volatile state is lost, no commit follows, the ports and the link are down. The
Keep's domain keeps KEEP_TAMPER_CFG, since the sensors stay armed (R715, R721). -/
def State.railsOff (s : State) : State :=
  let t := s.por s.boot.lastReset false
  ({ t with
    power := { t.power with on := false, tripped := s.power.tripped }
    stroke := { t.stroke with running := false } } : State).setReg .keep 0 0x70 (s.reg .keep 0 0x70)

/-- The thermal trip (R715, R719). -/
def State.trip (s : State) (x : TempSensor) : State :=
  let t := s.tamperZero.railsOff
  { t with power := { t.power with
      tripped := true, tripCount := min 0xFFFF (t.power.tripCount + 1), tripLast := tempCode x } }

/-- A reading is at or above its trip threshold. -/
def tempTrips (x : TempSensor) (v : Int) : Bool := (tempLimits x).any fun l => decide (l.2.2 ≤ v)

/-- THERMAL_READING: the second reading in a row of a sensor at its trip threshold trips the module. -/
def execThermalReading (sensor : TempSensor) (value : Int) (rested : Bool) (s : State) : Res :=
  if !tempFits sensor then .fault .noUnit
  else if !s.power.on then .next s
  else
    let s1 := (s.takeTemp sensor value).thermalCap rested
    if tempTrips sensor value then
      if s.power.tripNear.contains sensor then .next (s1.trip sensor)
      else .next { s1 with power := { s1.power with tripNear := sensor :: s1.power.tripNear } }
    else .next { s1 with power := { s1.power with tripNear := s1.power.tripNear.filter (· ≠ sensor) } }

/-- THERMAL_TRIP: the second reading in a row of a sensor at or above its trip threshold. -/
def execThermalTrip (sensor : TempSensor) (value : Int) (s : State) : Res :=
  if !tempFits sensor then .fault .noUnit
  else if !s.power.on then .next s
  else if tempTrips sensor value && s.power.tripNear.contains sensor then .next (((s.takeTemp sensor value).thermalCap false).trip sensor)
  else .fault .badEvent

/-! ### SMBus (R716 to R719) -/

/-- STATUS of the management endpoint (R718). -/
def State.smbStatus (s : State) : Nat :=
  b2n s.power.on + 2 * b2n (s.anyHot fun l => l.1) + 4 * b2n s.reef.capThermal + 8 * b2n s.reef.capPower + 16 * b2n s.reef.brakePin +
  32 * b2n s.power.tripped + 64 * b2n (decide (s.boot.fatal ≠ 0)) + 128 * b2n (decide (s.boot.stage = .ready))

/-- SMB_ALERT_N is low (R714, R719). -/
def State.smbAlert (s : State) : Bool := decide (s.smbStatus &&& 0x6E ≠ 0) || decide (s.power.coolantIn > 40)

/-- THERM_TRIP_N is low (R715). -/
def State.thermTrip (s : State) : Bool := s.power.tripped

/-- A field of the management endpoint, and whether it is a word (R718); a code outside the table reads 0. -/
def State.smbField (s : State) (c : Nat) : Nat × Bool :=
  if c = 0 then (s.smbStatus, false)
  else if c = 1 then (s.power.inputV, true)
  else if c = 2 then (s.power.inputI, true)
  else if c = 3 then ((s.reg .reef 0 0x6C).toNat % 2 ^ 16, true)
  else if c = 4 then (temp8 s.power.coolantIn, false)
  else if c = 5 then (temp8 s.power.coolantOut, false)
  else if c = 6 then (temp8 s.power.plinthTj, false)
  else if c < 0x0D then (temp8 (s.power.pierTj.getD (c - 7) 0), false)
  else if c < 0x19 then (temp8 (s.hbmTemp (c - 0x0D)), false)
  else if c = 0x19 then (s.power.tripCount, true)
  else if c = 0x1A then (s.power.tripLast, false)
  else (0, false)

/-- One byte into the SMBus packet error code: CRC-8 with polynomial x^8 + x^2 + x + 1. -/
def crc8Byte (c : Nat) (b : Byte) : Nat :=
  (List.range 8).foldl (fun (x : Nat) _ => if x ≥ 128 then ((2 * x) % 256) ^^^ 7 else 2 * x) (c ^^^ b.toNat)

/-- The packet error code of a message. -/
def pec (l : List Byte) : Byte := BitVec.ofNat 8 (l.foldl crc8Byte 0)

/-- A byte of the FRU store: the area written at manufacture, then the trip log (R717). -/
def State.fruByte (s : State) (a : Nat) : Byte :=
  if a % 2048 < 1984 then Config.fru (a % 2048) else Config.tripLog s.power.tripCount s.power.tripLast (a % 2048 - 1984)

/-- SMBUS_READ: the data of a read and its PEC; both devices are silent once the input is out of range (R716, R721). The bytes of an
FRU read that the PEC covers are not in the manual, so its PEC is a free value (log entry 1). -/
def execSmbusRead (access : SmbAccess) (s : State) : Res :=
  if !s.power.inputOk then .next s
  else match access with
    | .fru offset len =>
      let d := s.draw
      .next (d.2.emit (.smbus ((List.range len).map (fun j => s.fruByte (offset + j)) ++ [BitVec.ofNat 8 d.1])))
    | .endpoint command =>
      let f := s.smbField command
      let data := toLe (if f.2 then 2 else 1) f.1
      .next (s.emit (.smbus (data ++ [pec ([0x94, BitVec.ofNat 8 command, 0x95] ++ data)])))
    | .alert => .next (if s.smbAlert then s.emit (.smbus [0x94, pec [0x19, 0x94]]) else s)

/-! ### Start and stop (R703, R715, R720, R721) -/

/-- INPUT_IN_RANGE: a POR of cause 1, unless a thermal trip holds the module off: its input must have been out of range for at
least 1 s. -/
def execInputInRange (absent flashWp : Bool) (s : State) : Res :=
  let s1 : State := { s with power := { s.power with inputOk := true, flashWp := flashWp } }
  .next (if s1.power.tripped && !absent then s1 else s1.por 1 true)

/-- INPUT_OUT_OF_RANGE: the fabric stops, the Keep zeroises, the rails fall. A key update that is cut off stands in flash as far as
it had come (14 R557). -/
def execInputOutOfRange (progress : Nat) (s : State) : Res :=
  if !s.power.inputOk then .next s
  else
    let s1 := if s.keepCmd.busy ∧ s.keepCmd.op = 6 then s.updateProgress progress else s
    let t := s1.tamperZero.railsOff
    .next { t with power := { t.power with inputOk := false } }

end Sys2Proof.Machine
end

