-- ==== Sys2Proof/Machine/HostIf.lean ====
section
/-!
DEFINITION. The host link (16 R591 to R608): register accesses, BAR2, BAR4, configuration space, MSI-X, link resets and errors.
-/

namespace Sys2Proof.Machine

/-! ### Vectors (R606) -/

/-- A pending vector whose block has gone: its message goes if its condition still holds, and its pending bit clears. -/
def State.sendPendingOne (s : State) (v : Nat) : State :=
  if !s.pcie.pba.contains v then s
  else if s.vectorHolds v then s.sendVector v
  else { s with pcie := { s.pcie with pba := s.pcie.pba.filter (· ≠ v) } }

/-- Every pending vector, after an enable. -/
def State.sendPending (s : State) : State := s.pcie.pba.foldl (fun (t : State) v => t.sendPendingOne v) s

/-- A write of an MSI-X table entry: an unmasked entry sends what was pending. -/
def State.writeMsix (s : State) (v : Nat) (e : MsixEntry) : State :=
  let t : State := { s with pcie := { s.pcie with msix := s.pcie.msix.put {} v e } }
  if e.masked then t else t.sendPendingOne v

def execMsixUnmask (v addr : Nat) (data : W32) (masked : Bool) (s : State) : Res :=
  if v ≥ 2048 then .fault .noUnit else if addr ≥ 2 ^ 64 then .fault .badEvent
  else .next (s.writeMsix v { addr := addr, data := data, masked := masked })

/-- MSIX_SEND: a vector whose condition holds is sent, or its pending bit is set. -/
def execMsixSend (v : Nat) (s : State) : Res :=
  if v ≥ 2048 then .fault .noUnit else .next (if s.vectorHolds v then s.sendVector v else s)

/-- One dword of the MSI-X table, as the PCIe specification lays it out (R601). -/
def State.msixDword (s : State) (off : Nat) : W32 :=
  let e := s.pcie.msix.get {} (off / 16)
  match off / 4 % 4 with
  | 0 => BitVec.ofNat 32 e.addr
  | 1 => BitVec.ofNat 32 (e.addr / 2 ^ 32)
  | 2 => e.data
  | _ => BitVec.ofNat 32 (b2n e.masked)

/-- A write of one dword of the MSI-X table; the address is dword-aligned. -/
def State.writeMsixDword (s : State) (off : Nat) (w : W32) : State :=
  let v := off / 16
  let e := s.pcie.msix.get {} v
  match off / 4 % 4 with
  | 0 => s.writeMsix v { e with addr := e.addr / 2 ^ 32 * 2 ^ 32 + w.toNat / 4 * 4 }
  | 1 => s.writeMsix v { e with addr := e.addr % 2 ^ 32 + 2 ^ 32 * w.toNat }
  | 2 => s.writeMsix v { e with data := w }
  | _ => s.writeMsix v { e with masked := w.toNat.testBit 0 }

/-! ### BAR4 (R601, 10 R406 to R408) -/

/-- WIN_PROD_STS (10 R408). -/
def Queue.prodSts (q : Queue) : Nat :=
  q.last + 8 * b2n (q.ownOpen .host) + 16 * b2n (q.ownOpen .host && (match q.openItem with | some i => i.abandoned | none => false))

/-- WIN_CONS_STS. -/
def Queue.consSts (q : Queue) : Nat := visibleWords q.items q.rd % 2 ^ 23 + 2 ^ 23 * b2n q.relPend.isSome

/-- DB_STS (R602). -/
def Queue.doorSts (q : Queue) : Nat := b2n q.dbBusy + 2 * q.dbLast

/-- A write of 4 bytes to the window of a queue, at cycle `s.stroke.cycle`. -/
def State.writeWindow (s : State) (n off : Nat) (v : W32) : State :=
  let q := s.queue n
  if off < 0x20 then
    if q.hostProd then s.setQueue n { q with staged := stageBytes q.staged off (toLe 4 v.toNat) } else s.inactiveWin n off
  else match off with
    | 0x20 =>
      if q.hostProd && decide (v.toNat % 8 > 4) then s.setQueue n { q with last := 3 } else s.prodOp n (v.toNat % 8)
    | 0x28 => s.consOp n (v.toNat % 4)
    | 0x30 => s.noticeAck n v
    | _ => s

/-- A write over BAR4 of `len` bytes; one that is not an aligned dword is discarded, and counted on the queue's page (00 R15). -/
def State.bar4Write (s : State) (a len : Nat) (v : W32) : State :=
  let dword := decide (len = 4 ∧ a % 4 = 0)
  if 0x400000 ≤ a ∧ a < 0x408000 then (if dword then s.writeMsixDword (a - 0x400000) v else s)
  else if !s.inService then s
  else if a < 0x400000 then
    let s1 := s.wake 3 2 4
    if dword then s1.writeWindow (a / 0x100) (a % 0x100) v else s1.pageError .spill (a / 0x40000) (a % 0x100) 1 v
  else if 0x410000 ≤ a ∧ a < 0x450000 then
    let n := (a - 0x410000) / 16
    let s1 := s.wake 3 2 4
    if !dword then s1.pageError .spill (n / 1024) (a % 16) 1 v
    else if a % 16 = 0 then s1.setQueue n { s1.queue n with dbAddrLo := v }
    else s1
  else s

/-- A read over BAR4 of `len` bytes (R599, R601). -/
def State.bar4Read (s : State) (a len : Nat) : List Byte × State :=
  let part (l : List Byte) : List Byte := (padTo (a % 4 + len) l).drop (a % 4) |>.take len
  if 0x400000 ≤ a ∧ a < 0x408000 then
    (part ((List.range ((a % 4 + len + 3) / 4)).flatMap fun k => toLe 4 (s.msixDword (a - 0x400000 - a % 4 + 4 * k)).toNat), s)
  else if 0x408000 ≤ a ∧ a < 0x408100 then
    ((List.range len).map fun k => BitVec.ofNat 8 ((List.range 8).foldl (fun x j =>
      x + (if s.pcie.pba.contains (8 * (a - 0x408000 + k) + j) then 2 ^ j else 0)) 0), s)
  else if a < 0x400000 then
    if !s.inService then (List.replicate len 0xFF, s)
    else
      let n := a / 0x100
      let off := a % 0x100
      let s1 := s.wake 3 2 4
      let q := s1.queue n
      if off < 0x20 then
        if !q.hostCons then (List.replicate len 0, s1.inactiveWin n off)
        else
          let q1 := if off = 0 then q.winTake else q
          (((toLe 32 q1.latch.toNat).drop off).take len, s1.setQueue n q1)
      else if off / 4 = 9 then
        if q.hostProd then (part (toLe 4 q.prodSts), s1) else (List.replicate len 0, s1.inactiveWin n 0x24)
      else if off / 4 = 11 then
        if q.hostCons then (part (toLe 4 q.consSts), s1) else (List.replicate len 0, s1.inactiveWin n 0x2C)
      else (List.replicate len 0, s1)
  else if 0x410000 ≤ a ∧ a < 0x450000 then
    if !s.inService then (List.replicate len 0xFF, s)
    else
      let s1 := s.wake 3 2 4
      let q := s1.queue ((a - 0x410000) / 16)
      (part (match a / 4 % 4 with
        | 0 => toLe 4 q.dbAddrLo.toNat
        | 2 => toLe 4 q.doorSts
        | _ => []), s1)
  else (List.replicate len 0, s)

/-- REGISTER_WRITE: a write over BAR0 or BAR4. A write of DB_ADDR_HI is the row DOORBELL_RING, which carries what the fetch
returns, and is left alone here. -/
def execRegisterWrite (bar a len cycle : Nat) (v : W32) (s : State) : Res :=
  if len = 0 ∨ (bar = 0 ∧ 0x4000000 < a + len) ∨ (bar = 4 ∧ 0x1000000 < a + len) ∨ (bar ≠ 0 ∧ bar ≠ 4) then .fault .badEvent
  else
    let s1 := s.atCycle cycle
    if !s1.power.on then .next s1
    else if s1.pcie.d3hot then .next (s1.logAer 20)
    else .next (if bar = 0 then s1.bar0Write a len v else s1.bar4Write a len v)

/-- REGISTER_READ: a read over BAR0 or BAR4, answered with its completion. -/
def execRegisterRead (bar a len cycle : Nat) (s : State) : Res :=
  if len = 0 ∨ (bar = 0 ∧ 0x4000000 < a + len) ∨ (bar = 4 ∧ 0x1000000 < a + len) ∨ (bar ≠ 0 ∧ bar ≠ 4) then .fault .badEvent
  else
    let s1 := s.atCycle cycle
    if !s1.power.on then .next s1
    else if s1.pcie.d3hot then .next ((s1.logAer 20).emit .unsupported)
    else
      let r := if bar = 0 then s1.bar0Read a len else s1.bar4Read a len
      .next (r.2.emit (.completion r.1 false))

/-! ### BAR2 (R600, 15 R580, 17 R640) -/

/-- The pieces of `n` bytes at `a`, none across a 32-byte word; `fuel` bounds their number. -/
def wordPieces (fuel a n : Nat) : List (Nat × Nat) :=
  match fuel with
  | 0 => []
  | f + 1 =>
    if n = 0 then []
    else
      let k := min n (32 - a % 32)
      (a, k) :: wordPieces f (a + k) (n - k)

/-- The host may reach a word: it lies in an OPEN region that the tenant holds, and no guard mode is in force. -/
def State.bar2Open (s : State) (a : Nat) : Bool := !s.guarded && s.tenantRange (a / 32 * 32) 32 1

/-- A request that meets refused words is counted once. -/
def State.bar2Refused (s : State) (offset : Nat) : State :=
  ((s.pageError .pcie 0 0 5 (BitVec.ofNat 32 offset)).bump .pcie 0 0x54).latchEvt .pcie 0 16

/-- A write of bytes: refused words discard theirs. -/
def State.bar2Write (s : State) (offset : Nat) (l : List Byte) : State :=
  let a := s.pcie.bar2Base + offset
  let ps := wordPieces (l.length / 32 + 2) a l.length
  let t := ps.foldl (fun (u : State) (e : Nat × Nat) =>
    if s.bar2Open e.1 then u.writeBytes 6 e.1 ((l.drop (e.1 - a)).take e.2) else u) s
  if ps.all fun (e : Nat × Nat) => s.bar2Open e.1 then t else t.bar2Refused offset

/-- A read of bytes: refused words read as 0xFF; a bad word makes a poisoned completion of 0xFF (13 R519). -/
def State.bar2Read (s : State) (offset n : Nat) : State :=
  let a := s.pcie.bar2Base + offset
  let ps := wordPieces (n / 32 + 2) a n
  let r := ps.foldl (fun (x : List Byte × Bool × State) (e : Nat × Nat) =>
    if s.bar2Open e.1 then
      let y := x.2.2.readBytes 6 e.1 e.2
      (x.1 ++ y.1, x.2.1 || y.2.1, y.2.2)
    else (x.1 ++ List.replicate e.2 0xFF, x.2.1, x.2.2)) ([], false, s)
  let t := if ps.all fun (e : Nat × Nat) => s.bar2Open e.1 then r.2.2 else r.2.2.bar2Refused offset
  if r.2.1 then (t.bump .pcie 0 0x58).emit (.completion (List.replicate n 0xFF) true) else t.emit (.completion r.1 false)

/-- BAR2_ACCESS. -/
def execBar2Access (offset cycle len : Nat) (data : Option (List Byte)) (s : State) : Res :=
  let n := (data.map (·.length)).getD len
  if n = 0 ∨ n > 4096 ∨ offset + n > 2 ^ 36 then .fault .badEvent
  else
    let s1 := s.atCycle cycle
    let dark (t : State) : State := if data.isSome then t else t.emit (.completion (List.replicate n 0xFF) false)
    if !s1.power.on then .next s1
    else if s1.pcie.d3hot then .next (if data.isSome then s1.logAer 20 else (s1.logAer 20).emit .unsupported)
    else if !s1.inService then .next (dark s1)
    else if s1.reef.level = 4 then .next (dark ((s1.startExit 3).bump .pcie 0 0x54))
    else
      let s2 := s1.wake 3 2 3
      .next (match data with
        | some l => s2.bar2Write offset l
        | none => s2.bar2Read offset n)

/-! ### Configuration space (R593, R594, R606) -/

/-- A configuration write takes effect. -/
def State.configWrite (s : State) (w : ConfigWr) : State :=
  let c := s.pcie
  match w with
  | .busMaster on => ({ s with pcie := { c with bme := on } } : State).sendPending
  | .msix on mask => ({ s with pcie := { c with msixEn := on, funcMask := mask } } : State).sendPending
  | .power d3 => { s with pcie := { c with d3hot := d3 } }
  | .ltr on =>
    ({ s with pcie := { c with ltrEn := on }, reef := { s.reef with ltrSent := if on then s.reef.ltrSent else 0 } } : State).sendLtr
  | .aerMask v => { s with pcie := { c with aerMask := v } }
  | .aerSeverity v => { s with pcie := { c with aerSeverity := v } }
  | .aerCorrMask v => { s with pcie := { c with aerCorrMask := v } }
  | .aerStatus v => { s with pcie := { c with aerStatus := c.aerStatus &&& ~~~v } }
  | .aerCorr v => { s with pcie := { c with aerCorr := c.aerCorr &&& ~~~v } }
  | .deviceControl mps mrrs => { s with pcie := { c with mps := mps, mrrs := mrrs } }
  | .completionTimeout us => { s with pcie := { c with cplTimeout := us } }
  | .ecrc on => { s with pcie := { c with ecrcEn := on } }
  | .bar n addr =>
    if n = 0 then { s with pcie := { c with bar0 := addr } }
    else if n = 2 then { s with pcie := { c with bar2 := addr } }
    else { s with pcie := { c with bar4 := addr } }

/-- The operands name a value that the capability has. -/
def configOk : ConfigWr → Bool
  | .deviceControl mps mrrs => decide (mps < 6 ∧ mrrs < 6)
  | .bar n addr =>
    decide ((n = 0 ∧ addr % 2 ^ 26 = 0) ∨ (n = 2 ∧ addr % 2 ^ 36 = 0) ∨ (n = 4 ∧ addr % 2 ^ 24 = 0)) && decide (addr < 2 ^ 64)
  | _ => true

def execConfigWrite (w : ConfigWr) (s : State) : Res :=
  if !configOk w then .fault .badEvent else .next (if s.power.on && s.pcie.linkUp then s.configWrite w else s)

/-! ### Host reads that fail (R595) -/

/-- A doorbell's fetch has failed: held from cycle 2,016 as its words would be. -/
def State.doorFail (s : State) (n : Nat) : State :=
  if !(s.queue n).dbBusy then s
  else if s.holding then { s with spill := { s.spill with held := s.spill.held ++ [.doorEnd n none] } }
  else s.doorEnd n none

/-- A host read of the reader fails. Halyard's is the request at the head of the queue pair's SQ, where it reads host memory. -/
def State.readerFails (s : State) (who : HostReader) : State :=
  match who with
  | .doorbell n => s.doorFail n
  | .bosun => if s.bosun.busy then { s with bosun := { s.bosun with bad := true } } else s
  | .halyard i =>
    match s.headWr (s.qp i).sq with
    | none => s
    | some it =>
      let w := wrWords it
      let k := s.rkey (bits w.1 24 32 / 256)
      if k.live && k.host then
        match wrRow (bits w.1 0 8) i s.stroke.cycle [] [] s with
        | .next t => t
        | _ => s
      else s

/-- The reader exists. -/
def readerOk : HostReader → Bool
  | .doorbell n => decide (n < 16384)
  | .halyard i => decide (i < 66560)
  | .bosun => true

/-- COMPLETION_TIMEOUT. -/
def execCompletionTimeout (who : HostReader) (s : State) : Res :=
  if !readerOk who then .fault .noUnit
  else if !s.power.on then .next s
  else .next ((((s.logAer 14).bump .pcie 0 0x60).latchEvt .pcie 0 4).readerFails who)

/-! ### Link errors (R608) -/

/-- A correctable error: counted, with its AER bit. -/
def State.corrErr (s : State) (bit : Nat) : State :=
  let t := s.bump .pcie 0 0x68
  { t with pcie := { t.pcie with aerCorr := t.pcie.aerCorr ||| BitVec.ofNat 32 (2 ^ bit) } }

/-- A poisoned TLP is received. -/
def State.poisonRx (s : State) : State := ((s.logAer 12).bump .pcie 0 0x5C).latchEvt .pcie 0 8

def State.tlpErr (s : State) (e : TlpErr) : State :=
  match e with
  | .receiver => s.corrErr 0
  | .badTlp => s.corrErr 6
  | .badDllp => s.corrErr 7
  | .rollover => s.corrErr 8
  | .replayTimeout => s.corrErr 12
  | .poisonedWrite => s.poisonRx
  | .poisonedCompletion who => s.poisonRx.readerFails who
  | .unsupported posted => if posted then s.logAer 20 else (s.logAer 20).emit .unsupported
  | .unexpectedCompletion => s.logAer 16
  | .ecrc => s.logAer 19
  | .malformed => s.logAer 18
  | .overflow => s.logAer 17
  | .flowControl => s.logAer 13
  | .dataLink => s.logAer 4

def execTlpError (e : TlpErr) (s : State) : Res :=
  let ok := match e with | .poisonedCompletion who => readerOk who | _ => true
  if !ok then .fault .noUnit else .next (if s.power.on then s.tlpErr e else s)

/-! ### Link resets and training (R596) -/

/-- A link-level reset: configuration space returns to its defaults, every MSI-X entry is masked, and the module's host requests
fail. -/
def State.linkReset (s : State) (pin : Bool) : State :=
  let c := s.pcie
  let s1 : State := { s with
    pcie := {
      perst := pin || c.perst, gen := c.gen, width := c.width, flit := c.flit, bar2Base := c.bar2Base, pba := c.pba
      msix := (c.msix.map fun e => (e.1, { e.2 with masked := true })).filter fun e => decide (e.2 ≠ {}) }
    reef := { s.reef with ltrSent := 0 } }
  let s2 := if c.linkUp then (s1.bump .pcie 0 0x64).latchEvt .pcie 0 1 else s1
  let doors := (s2.spill.queues.filter fun e => e.2.dbBusy).map (·.1)
  (doors.foldl (fun (t : State) n => t.doorFail n) s2).readerFails .bosun

def execPerst (pin : Bool) (s : State) : Res := .next (if s.power.on then s.linkReset pin else { s with pcie := { s.pcie with perst := pin || s.pcie.perst } })

/-- PCIE_LINK_UP: training ends, PERST_N being high. -/
def execPcieLinkUp (gen width : Nat) (flit : Bool) (s : State) : Res :=
  if gen = 0 ∨ gen > (s.reg .pcie 0 0x44).toNat % 8 ∨ !([1, 2, 4, 8].contains width) then .fault .badEvent
  else if !s.power.on then .next s
  else
    let c := s.pcie
    let t : State := { s with pcie := { c with
      perst := false, linkUp := true, training := false, gen := gen, width := width, flit := flit } }
    .next (if c.gen ≠ gen ∨ c.width ≠ width then t.latchEvt .pcie 0 2 else t)

end Sys2Proof.Machine
end

