-- ==== Sys2Proof/Machine/CoreCrypto.lean ====
section
/-!
DEFINITION. Crypto assists and look-up of a core (04 R191).
-/

namespace Sys2Proof.Machine

/-- SBOX8 (R191). -/
def execSlSbox8 (u : Issue) (w : Slot) (s : State) : Res :=
  coreSlot s u .sbox8 w fun _ c => c.writeLanes w fun i =>
    mapBytes (if w.subop = 0 then sbox else invSbox) (c.opA w i)

/-- MIXCOL (R191). -/
def execSlMixcol (u : Issue) (w : Slot) (s : State) : Res :=
  coreSlot s u .mixcol w fun _ c => c.writeLanes w fun i => mixColumn (w.subop = 1) (c.opA w i)

/-- A 32-bit value rotated left. -/
def rotl32 (v n : Nat) : Nat := (v * 2 ^ (n % 32)) % 2 ^ 32 + v / 2 ^ (32 - n % 32)

/-- ROTL32 (R191). -/
def execSlRotl32 (u : Issue) (w : Slot) (s : State) : Res :=
  coreSlot s u .rotl32 w fun _ c => c.writeLanes w fun i => rotl32 (c.opA w i) (c.opB w i)

/-- Carry-less product of two 32-bit values. -/
def clmul (a b : Nat) : Nat :=
  (List.range 32).foldl (fun t i => if b.testBit i then t ^^^ (a * 2 ^ i) else t) 0

/-- CLMUL32 (R191): bits [31:0], or bits [62:32] with bit 31 zero. -/
def execSlClmul32 (u : Issue) (w : Slot) (s : State) : Res :=
  coreSlot s u .clmul32 w fun _ c => c.writeLanes w fun i =>
    let p := clmul (c.opA w i) (c.opB w i)
    if w.subop = 0 then bits p 0 32 else bits p 32 31

/-- Byte k of the result of LUT16 (R191). -/
def lutByte (c : Core) (w : Slot) (k : Nat) : Nat :=
  let x := bits (c.g128 w.srca) (8 * k) 8
  bits (c.g128 w.srcb) (8 * (if w.subop = 0 then x % 16 else x / 16)) 8

/-- LUT16 (R191): reads all 16 bytes of B. -/
def execSlLut16 (u : Issue) (w : Slot) (s : State) : Res :=
  coreSlot s u .lut16 w fun _ c => c.writeLanes w fun i =>
    (List.range 4).foldl (fun t j => t + 2 ^ (8 * j) * lutByte c w (4 * i + j)) 0

end Sys2Proof.Machine
end

