-- ==== Sys2Proof/Machine/CoreInt.lean ====
section
/-!
DEFINITION. Integer and control operations of a core (04 R182 to R185).
-/

namespace Sys2Proof.Machine

/-- A lane as a mathematical integer in U32 or S32. -/
def laneInt (fmt v : Nat) : Int := if fmt = 2 then s32 v else v

/-- ADD or SUB of 32-bit lanes: wraps, or clamps with SAT (R185). -/
def addSat (w : Slot) (x : Int) : Nat :=
  if w.sat then
    (if w.fmt = 2 then wrapI 32 (clampI (-(2 ^ 31)) (2 ^ 31 - 1) x) else wrapI 32 (clampI 0 (2 ^ 32 - 1) x))
  else wrapI 32 x

/-- An operation on 32-bit lanes, or on 64-bit elements when FMT is U64. -/
def intOp (c : Core) (w : Slot) (f32' : Nat → Nat → Nat) (f64 : Nat → Nat → Nat) : Core :=
  if w.fmt = 3 then c.writePairs w fun e => f64 (c.opA64 w e) (c.opB64 w e)
  else c.writeLanes w fun i => f32' (c.opA w i) (c.opB w i)

/-- NOP (R184). -/
def execSlNop (u : Issue) (w : Slot) (s : State) : Res := coreSlot s u .nop w fun _ c => c

/-- ADD (R184, R185). -/
def execSlAdd (u : Issue) (w : Slot) (s : State) : Res :=
  coreSlot s u .add w fun _ c =>
    intOp c w (fun a b => addSat w (laneInt w.fmt a + laneInt w.fmt b)) (fun a b => (a + b) % 2 ^ 64)

/-- SUB (R184, R185). -/
def execSlSub (u : Issue) (w : Slot) (s : State) : Res :=
  coreSlot s u .sub w fun _ c =>
    intOp c w (fun a b => addSat w (laneInt w.fmt a - laneInt w.fmt b)) (fun a b => (a + 2 ^ 64 - b) % 2 ^ 64)

/-- MUL: the low 32 bits of the product (R184). -/
def execSlMul (u : Issue) (w : Slot) (s : State) : Res :=
  coreSlot s u .mul w fun _ c => c.writeLanes w fun i => (c.opA w i * c.opB w i) % 2 ^ 32

/-- MULHI: bits [63:32] of the unsigned or signed product (R184). -/
def execSlMulhi (u : Issue) (w : Slot) (s : State) : Res :=
  coreSlot s u .mulhi w fun _ c => c.writeLanes w fun i =>
    bits (wrapI 64 (laneInt w.fmt (c.opA w i) * laneInt w.fmt (c.opB w i))) 32 32

/-- MAD: the low 32 bits of A × B + C (R184). -/
def execSlMad (u : Issue) (w : Slot) (s : State) : Res :=
  coreSlot s u .mad w fun _ c => c.writeLanes w fun i => (c.opA w i * c.opB w i + c.opC w i) % 2 ^ 32

/-- AND (R184). -/
def execSlAnd (u : Issue) (w : Slot) (s : State) : Res :=
  coreSlot s u .and w fun _ c => c.writeLanes w fun i => c.opA w i &&& c.opB w i

/-- OR (R184). -/
def execSlOr (u : Issue) (w : Slot) (s : State) : Res :=
  coreSlot s u .or w fun _ c => c.writeLanes w fun i => c.opA w i ||| c.opB w i

/-- XOR (R184). -/
def execSlXor (u : Issue) (w : Slot) (s : State) : Res :=
  coreSlot s u .xor w fun _ c => c.writeLanes w fun i => c.opA w i ^^^ c.opB w i

/-- ANDN: A AND NOT B (R184). -/
def execSlAndn (u : Issue) (w : Slot) (s : State) : Res :=
  coreSlot s u .andn w fun _ c => c.writeLanes w fun i => c.opA w i &&& (c.opB w i ^^^ (2 ^ 32 - 1))

/-- SHL: A shifted left by B mod 32, or mod 64 (R184). -/
def execSlShl (u : Issue) (w : Slot) (s : State) : Res :=
  coreSlot s u .shl w fun _ c =>
    intOp c w (fun a b => (a * 2 ^ (b % 32)) % 2 ^ 32) (fun a b => (a * 2 ^ (b % 64)) % 2 ^ 64)

/-- SHR: logical for U32 and U64, arithmetic for S32 (R184). -/
def execSlShr (u : Issue) (w : Slot) (s : State) : Res :=
  coreSlot s u .shr w fun _ c =>
    intOp c w (fun a b => wrapI 32 (laneInt w.fmt a / (2 ^ (b % 32) : Nat))) (fun a b => a / 2 ^ (b % 64))

/-- MIN (R184). -/
def execSlMin (u : Issue) (w : Slot) (s : State) : Res :=
  coreSlot s u .min w fun _ c =>
    intOp c w (fun a b => if laneInt w.fmt a ≤ laneInt w.fmt b then a else b) (fun a b => min a b)

/-- MAX (R184). -/
def execSlMax (u : Issue) (w : Slot) (s : State) : Res :=
  coreSlot s u .max w fun _ c =>
    intOp c w (fun a b => if laneInt w.fmt a ≤ laneInt w.fmt b then b else a) (fun a b => max a b)

/-- The condition of CMP in lane i (R184, R185). -/
def cmpLane (c : Core) (w : Slot) (i : Nat) : Bool :=
  match w.fmt with
  | 3 => cmpInt w.subop (c.opA64 w (i / 2)) (c.opB64 w (i / 2))
  | 5 => cmpF32 w.subop (c.opA w i) (c.opB w i)
  | f => cmpInt w.subop (laneInt f (c.opA w i)) (laneInt f (c.opB w i))

/-- Lane i passes R170 for the format of the slot. -/
def Core.lanePass (c : Core) (w : Slot) (i : Nat) : Bool :=
  if w.fmt = 3 ∨ w.fmt = 4 then c.pairOn w (i / 2) else c.laneOn w i

/-- Writes P[PDST] in every lane that passes (R171). -/
def Core.writePred (c : Core) (w : Slot) (f : Nat → Bool) : Core :=
  c.setPred w.pdst (((List.range 4).filter (c.lanePass w)).map fun i => (i, f i))

/-- CMP (R184, R185, R171). -/
def execSlCmp (u : Issue) (w : Slot) (s : State) : Res :=
  coreSlot s u .cmp w fun _ c => c.writePred w (cmpLane c w)

/-- SEL: A in lanes where P[SUBOP[1:0]] is 1, otherwise B (R184). -/
def execSlSel (u : Issue) (w : Slot) (s : State) : Res :=
  coreSlot s u .sel w fun _ c => c.writeLanes w fun i => if c.pred (w.subop % 4) i then c.opA w i else c.opB w i

/-- MOV: B (R184). -/
def execSlMov (u : Issue) (w : Slot) (s : State) : Res :=
  coreSlot s u .mov w fun _ c => c.writeLanes w fun i => c.opB w i

/-- SPEC: loop index, lane number or template coordinate (R184, R185). -/
def execSlSpec (u : Issue) (w : Slot) (s : State) : Res :=
  coreSlot s u .spec w fun _ c => c.writeLanes w fun i =>
    match w.subop with
    | 0 => c.loopIdx 0
    | 1 => c.loopIdx 1
    | 2 => i
    | 3 => u.pos
    | _ => u.ord

/-- PLOG: predicate logic on P[SRCA[1:0]] and P[SRCB[1:0]] (R184). -/
def execSlPlog (u : Issue) (w : Slot) (s : State) : Res :=
  coreSlot s u .plog w fun _ c => c.writePred w fun i =>
    let x := c.pred (w.srca % 4) i
    let y := c.pred (w.srcb % 4) i
    match w.subop with
    | 0 => x && y
    | 1 => x || y
    | 2 => x != y
    | 3 => x && !y
    | _ => !x

/-- Count of a LOOP (R182). -/
def loopCount (c : Core) (w : Slot) : Nat :=
  if w.subop.testBit 0 then min (c.lane w.srca 0) 65536 else w.imm32.toNat

/-- LOOP: repeats the slots after it up to E = ADDR16[8:0]; a count of 0 skips the body (R182). -/
def execSlLoop (u : Issue) (w : Slot) (s : State) : Res :=
  runSlot s u .loop w fun s1 _ k c =>
    let e := w.addr16 % 512
    if loopCount c w = 0 then s1.setCore k ({ c with pc := e } : Core).next
    else s1.setCore k { c with
      loops := { start := c.pc + 1, stop := e, idx := 0, count := loopCount c w } :: c.loops, pc := c.pc + 1, stalled := false }

/-- END: the core's work for the stroke is finished and its loads in flight are discarded; every store,
send, push and enqueue has been accepted when its slot completes in this model (R165). -/
def execSlEnd (u : Issue) (w : Slot) (s : State) : Res :=
  runSlot s u .endSlot w fun s1 _ k c =>
    s1.setCore k { c with ended := true, endCycle := u.cycle, stalled := false }

end Sys2Proof.Machine
end

