-- ==== Sys2Proof/Machine/CoreFloat.lean ====
section
/-!
DEFINITION. Float, dot-product and conversion operations of a core (04 R187 to R190).
-/

namespace Sys2Proof.Machine

/-- Element j of width `w` bits of a lane value. -/
def elem (v w j : Nat) : Nat := bits v (w * j) w

/-- A float operation on every element of a lane (R169, R187). -/
def fltOp (s : State) (u : Issue) (op : Op) (w : Slot) (f : FFmt → Nat → Nat → Nat → Nat) : Res :=
  coreSlot s u op w fun _ c => c.writeLanes w fun i =>
    if w.fmt = 6 then
      f bf16 (elem (c.opA w i) 16 0) (elem (c.opB w i) 16 0) (elem (c.opC w i) 16 0) +
      2 ^ 16 * f bf16 (elem (c.opA w i) 16 1) (elem (c.opB w i) 16 1) (elem (c.opC w i) 16 1)
    else f f32 (c.opA w i) (c.opB w i) (c.opC w i)

/-- FADD (R187). -/
def execSlFadd (u : Issue) (w : Slot) (s : State) : Res := fltOp s u .fadd w fun f a b _ => f.add w.rnd a b

/-- FSUB (R187). -/
def execSlFsub (u : Issue) (w : Slot) (s : State) : Res := fltOp s u .fsub w fun f a b _ => f.sub w.rnd a b

/-- FMUL (R187). -/
def execSlFmul (u : Issue) (w : Slot) (s : State) : Res := fltOp s u .fmul w fun f a b _ => f.mul w.rnd a b

/-- FMA: A × B + C rounded once (R187). -/
def execSlFma (u : Issue) (w : Slot) (s : State) : Res := fltOp s u .fma w fun f a b c => f.fma w.rnd a b c

/-- FMIN (R187, R188). -/
def execSlFmin (u : Issue) (w : Slot) (s : State) : Res := fltOp s u .fmin w fun f a b _ => f.minMax false a b

/-- FMAX (R187, R188). -/
def execSlFmax (u : Issue) (w : Slot) (s : State) : Res := fltOp s u .fmax w fun f a b _ => f.minMax true a b

/-- FSGN (R187, R188). -/
def execSlFsgn (u : Issue) (w : Slot) (s : State) : Res := fltOp s u .fsgn w fun f a b _ => f.sgn w.subop a b

/-- Writes the accumulator entries of the lanes that pass (R170). -/
def Core.accLanes (c : Core) (w : Slot) (f : Nat → Nat) : Core :=
  c.setAcc w.acc (((List.range 4).filter (c.laneOn w)).map fun i => (i, f i))

/-- The sum of a lane's float products and the F32 in accumulator bits [31:0], rounded once (R189). -/
def dotFloat (rnd accv : Nat) (prods : List FVal) : Nat :=
  f32.round rnd (exactSum rnd (f32.decode (accv % 2 ^ 32) :: prods))

/-- DOT2 (R187, R189). -/
def execSlDot2 (u : Issue) (w : Slot) (s : State) : Res :=
  coreSlot s u .dot2 w fun _ c => c.accLanes w fun i =>
    dotFloat w.rnd (c.accLane w.acc i) ((List.range 2).map fun j =>
      exactMul (bf16.decode (elem (c.opA w i) 16 j)) (bf16.decode (elem (c.opB w i) 16 j)))

/-- The other format of the family (R189). -/
def otherFmt (f : Nat) : Nat :=
  match f with
  | 7 => 8 | 8 => 7 | 9 => 10 | _ => 9

/-- An 8-bit integer element. -/
def int8 (f v : Nat) : Int := if f = 9 then s8 v else v

/-- DOT4 (R187, R189): floats round once to F32; S8 and U8 add to the whole 64-bit accumulator. -/
def execSlDot4 (u : Issue) (w : Slot) (s : State) : Res :=
  coreSlot s u .dot4 w fun _ c => c.accLanes w fun i =>
    let fb := if w.subop.testBit 0 then otherFmt w.fmt else w.fmt
    if w.fmt = 7 ∨ w.fmt = 8 then
      dotFloat w.rnd (c.accLane w.acc i) ((List.range 4).map fun j =>
        exactMul ((fmtFloat w.fmt).decode (elem (c.opA w i) 8 j)) ((fmtFloat fb).decode (elem (c.opB w i) 8 j)))
    else
      wrapI 64 ((c.accLane w.acc i : Int) + (List.range 4).foldl (fun t j =>
        t + int8 w.fmt (elem (c.opA w i) 8 j) * int8 fb (elem (c.opB w i) 8 j)) (0 : Int))

/-- CVT (R190): the element position is on the side that holds more than one element per lane. -/
def execSlCvt (u : Issue) (w : Slot) (s : State) : Res :=
  coreSlot s u .cvt w fun _ c => c.writeLanes w fun i =>
    let src := w.subop % 16
    let e := w.subop / 16 % 4
    let ws := fmtWidth src
    let wd := fmtWidth w.fmt
    if wd < ws then setBits (c.lane w.dst i) (wd * e) wd (cvtElem src w.fmt w.rnd w.sat (c.opA w i))
    else if ws < wd then cvtElem src w.fmt w.rnd w.sat (elem (c.opA w i) ws e)
    else cvtElem src w.fmt w.rnd w.sat (c.opA w i)

end Sys2Proof.Machine
end

