-- ==== Sys2Proof/Machine/CoreMove.lean ====
section
/-!
DEFINITION. Neighbour, store and accumulator operations of a core and its pushes (04 R192 to R198, 05 R209
to R214).
-/

namespace Sys2Proof.Machine

/-- The slot cannot issue yet: the core keeps its position (04 R162, R196). -/
def State.stall (s : State) (k : Nat) (c : Core) : State := s.setCore k { c with stalled := true }

/-- The slot is done with the core's registers as `c`. -/
def State.slotDone (s : State) (k : Nat) (c : Core) : State := s.setCore k c.next

/-- SEND: into the neighbour's receive buffer of the link that points back; a full buffer of 8 registers
stalls issue (R196). Directions are template directions, which Tamrik maps with the positions (R136). -/
def execSlSend (u : Issue) (w : Slot) (s : State) : Res :=
  runSlot s u .send w fun s1 _ k c =>
    if !c.wholeOn w then s1.slotDone k c
    else match neighbour u.pos w.subop with
      | none => s1.slotDone k c
      | some p =>
        let nk := coreKey u.rig u.ord p
        let n := s1.core nk
        let back := (w.subop + 2) % 4
        let buf := n.rx.get [] back
        if buf.length ≥ 8 then s1.stall k c
        else
          let s2 := s1.slotDone k c
          s2.setCore nk { (s2.core nk) with rx := n.rx.put [] back (buf ++ [BitVec.ofNat 128 (c.g128 w.srca)]) }

/-- RECV: the oldest register of a link's receive buffer; an empty buffer stalls issue (R196). -/
def execSlRecv (u : Issue) (w : Slot) (s : State) : Res :=
  runSlot s u .recv w fun s1 _ k c =>
    if !c.wholeOn w then s1.slotDone k c
    else match c.rx.get [] w.subop with
      | [] => s1.stall k c
      | v :: r =>
        let c1 := { c with rx := c.rx.put [] w.subop r }
        s1.slotDone k (c1.writeLanes w fun i => bits v.toNat (32 * i) 32)

/-- Core-store word and half of a slot (R192). -/
def coreWord (c : Core) (w : Slot) : Nat := (w.addr16 % 256 + c.indexTerm w) % 256
def coreHalf (w : Slot) : Nat := w.addr16 / 256 % 2

/-- Index of a core-store word in memory, by physical core. -/
def coreWordIdx (k word : Nat) : Nat := coreStoreBase k / 32 + word

/-- An uncorrectable word of a core store (13 R519, 04 R194, 18 R655): the first event at a position sets its
STRIKE bit and faults the rig for re-placement; a second fences the core. -/
def State.coreStoreEvent (s : State) (rig ord pos : Nat) : State :=
  match s.rig? rig with
  | none => s
  | some r =>
    let ra := nth r.ashlars ord { useMask := 0, freeMask := 0, seqFirst := 0, place := none }
    match ra.place with
    | none => s
    | some a =>
      let x := s.ashlar a
      let pp := ra.physPos pos
      if x.strike.toNat.testBit pp then s.fenceCore rig ord pos
      else
        ((s.setAshlar a { x with strike := x.strike ||| BitVec.ofNat 64 (2 ^ pp) }).setRig rig { r with
          ashlars := r.ashlars.modify ord (fun y => { y with broken := true }),
          replaceFrom := some s.stroke.now }).strokeFault rig a

/-- LDC: loads a core-store half (R192). -/
def execSlLdc (u : Issue) (w : Slot) (s : State) : Res :=
  runSlot s u .ldc w fun s1 r k c =>
    let d := s1.readWord 1 (coreWordIdx (r.storeKey u) (coreWord c w))
    if d.2.1 then d.2.2.coreStoreEvent u.rig u.ord u.pos
    else
      let v := ofLe ((d.1.drop (16 * coreHalf w)).take 16)
      d.2.2.slotDone k (c.writeLanes w fun i => bits v (32 * i) 32)

/-- The bytes a 16-byte store writes: four per lane that passes (R170). -/
def laneBytes (c : Core) (w : Slot) (reg : Nat) : List (Option Byte) :=
  (List.range 4).flatMap fun i =>
    if c.laneOn w i then (toLe 4 (c.lane reg i)).map some else List.replicate 4 none

/-- Stores the bytes given into a 32-byte word: all of them as a fresh word, otherwise by read, merge and
write (13 R518); none leaves the word. -/
def State.maskedStore (s0 : State) (req word : Nat) (l : List (Option Byte)) : State :=
  let s := s0.watched (32 * word) 32 2 req
  if l.all (·.isNone) then s0
  else if l.all (·.isSome) then s.writeWord word (l.map fun b => b.getD 0) false
  else
    let s0 := s.touchBed word
    let r := s0.readWord req word
    r.2.2.storeWord word ((l.zip r.1).map fun e => e.1.getD e.2) (if r.2.1 then poisonDelta else 0)

/-- A 16-byte half of a word as masked bytes of the whole word. -/
def halfMask (half : Nat) (l : List (Option Byte)) : List (Option Byte) :=
  if half = 0 then l ++ List.replicate 16 none else List.replicate 16 none ++ l

/-- STC: stores A to a core-store half by read-modify-write (R192). -/
def execSlStc (u : Issue) (w : Slot) (s : State) : Res :=
  runSlot s u .stc w fun s1 r k c =>
    (s1.maskedStore 1 (coreWordIdx (r.storeKey u) (coreWord c w)) (halfMask (coreHalf w) (laneBytes c w w.srca))).slotDone k c

/-- STC2: stores A and A+1 to a core-store word (R192). -/
def execSlStc2 (u : Issue) (w : Slot) (s : State) : Res :=
  runSlot s u .stc2 w fun s1 r k c =>
    (s1.maskedStore 1 (coreWordIdx (r.storeKey u) (coreWord c w)) (laneBytes c w w.srca ++ laneBytes c w (w.srca + 1))).slotDone k c

/-- Region unit offset (R192): the register-offset bit is SUBOP[0], or SUBOP[2] for TPUSH. -/
def unitOffset (c : Core) (w : Slot) (regOff : Bool) : Nat :=
  (w.imm32.toNat + c.indexTerm w + (if regOff then c.lane w.srcb 0 else 0)) % 2 ^ 32

/-- LDW: 16 bytes of a bound region; an access the binding does not grant is a tag violation (R193, R194, 03
R145), an uncorrectable word a load fault (13 R519). The read returns the committed value (05 R217). -/
def execSlLdw (u : Issue) (w : Slot) (s : State) : Res :=
  runSlot s u .ldw w fun s1 r k c =>
    match r.regionAddr w.qreg accRead (16 * unitOffset c w (w.subop.testBit 0)) 16 with
    | none => (s1.tagViolation u.rig u.ord).slotDone k c
    | some a =>
      let d := s1.readBytes 1 a 16
      if d.2.1 then (d.2.2.loadFault u.rig u.ord a (s1.badKind (a / 32))).slotDone k c
      else d.2.2.slotDone k (c.writeLanes w fun i => ofLe ((d.1.drop (4 * i)).take 4))

/-- STW: stores 16 bytes to a bound region by read-modify-write (R192, R197). -/
def execSlStw (u : Issue) (w : Slot) (s : State) : Res :=
  runSlot s u .stw w fun s1 r k c =>
    match r.regionAddr w.qreg accWrite (16 * unitOffset c w (w.subop.testBit 0)) 16 with
    | none => (s1.tagViolation u.rig u.ord).slotDone k c
    | some a => (s1.maskedStore 1 (a / 32) (halfMask (a / 16 % 2) (laneBytes c w w.srca))).slotDone k c

/-- STW2: stores 32 bytes; bit 0 of the unit offset is ignored (R192). -/
def execSlStw2 (u : Issue) (w : Slot) (s : State) : Res :=
  runSlot s u .stw2 w fun s1 r k c =>
    match r.regionAddr w.qreg accWrite (32 * (unitOffset c w (w.subop.testBit 0) / 2)) 32 with
    | none => (s1.tagViolation u.rig u.ord).slotDone k c
    | some a => (s1.maskedStore 1 (a / 32) (laneBytes c w w.srca ++ laneBytes c w (w.srca + 1))).slotDone k c

/-- ACCCLR (R192): a poisoned accumulator that is set to 0 in every lane holds no poison any more. -/
def execSlAccclr (u : Issue) (w : Slot) (s : State) : Res :=
  coreSlot s u .accclr w fun _ c =>
    let c1 := c.accLanes w fun _ => 0
    if (List.range 4).all (c.laneOn w) then { c1 with accBad := c1.accBad.put false w.acc false } else c1

/-- Writes the even lanes' accumulators of the elements that pass (R195). -/
def Core.accPairs (c : Core) (w : Slot) (f : Nat → Nat) : Core :=
  c.setAcc w.acc (((List.range 2).filter (c.pairOn w)).map fun e => (2 * e, f e))

/-- ACCADD: acc + A in the slot's format (R195). -/
def execSlAccadd (u : Issue) (w : Slot) (s : State) : Res :=
  coreSlot s u .accadd w fun r c =>
    match w.fmt with
    | 3 => c.accPairs w fun e => (c.accLane w.acc (2 * e) + c.opA64 w e) % 2 ^ 64
    | 4 => c.accPairs w fun e => (c.accLane w.acc (2 * e) + c.opA64 w e) % (r.modulus w.modsel).getD 1
    | 5 => c.accLanes w fun i => f32.add w.rnd (c.accLane w.acc i % 2 ^ 32) (c.opA w i)
    | f => c.accLanes w fun i => wrapI 64 ((c.accLane w.acc i : Int) + (if f = 2 then s32 (c.opA w i) else c.opA w i))

/-- ACCMAC: acc + A × B in the slot's format (R195). -/
def execSlAccmac (u : Issue) (w : Slot) (s : State) : Res :=
  coreSlot s u .accmac w fun r c =>
    match w.fmt with
    | 4 => c.accPairs w fun e => (c.accLane w.acc (2 * e) + c.opA64 w e * c.opB64 w e) % (r.modulus w.modsel).getD 1
    | 5 => c.accLanes w fun i => f32.fma w.rnd (c.opA w i) (c.opB w i) (c.accLane w.acc i % 2 ^ 32)
    | f => c.accLanes w fun i => wrapI 64 ((c.accLane w.acc i : Int) +
        (if f = 2 then s32 (c.opA w i) * s32 (c.opB w i) else (c.opA w i : Int) * c.opB w i))

/-- ACCRD (R192). -/
def execSlAccrd (u : Issue) (w : Slot) (s : State) : Res :=
  coreSlot s u .accrd w fun _ c => c.writeLanes w fun i => bits (c.accLane w.acc i) (32 * (w.subop % 2)) 32

/-- ACCWR (R192). -/
def execSlAccwr (u : Issue) (w : Slot) (s : State) : Res :=
  coreSlot s u .accwr w fun _ c => c.accLanes w fun i =>
    setBits (c.accLane w.acc i) (32 * (w.subop % 2)) 32 (c.lane w.srca i)

/-- The value a push carries, of 16 or 32 bytes; lanes that fail R170 contribute zero (R198, 05 R210). -/
def pushData (c : Core) (w : Slot) : Nat :=
  let fromAcc := w.subop.testBit 1
  match w.fmt with
  | 3 | 4 => (List.range 2).foldl (fun t e => if c.pairOn w e then
      t + 2 ^ (64 * e) * (if fromAcc then c.accLane w.acc (2 * e) else c.opA64 w e) else t) 0
  | 6 =>
    if fromAcc then (List.range 4).foldl (fun t i => if c.laneOn w i then
      t + 2 ^ (32 * i) * (c.accLane w.acc i % 2 ^ 32) else t) 0
    else (List.range 4).foldl (fun t i => if c.laneOn w i then
      t + 2 ^ (64 * i) * (f32.round 0 (bf16.decode (bits (c.opA w i) 0 16)) +
        2 ^ 32 * f32.round 0 (bf16.decode (bits (c.opA w i) 16 16))) else t) 0
  | _ => (List.range 4).foldl (fun t i => if c.laneOn w i then
      t + 2 ^ (32 * i) * (if fromAcc then c.accLane w.acc i % 2 ^ 32 else c.opA w i) else t) 0

/-- TPUSH: the value leaves for the Mortar unit of its destination, through the adder tree, which stalls the core while it takes
another group, or directly (R198, 05 R209 to R214). -/
def execSlTpush (u : Issue) (w : Slot) (s : State) : Res :=
  runSlot s u .tpush w fun s1 r k c =>
    let wide := decide (w.fmt = 6) && !w.subop.testBit 1
    let off := unitOffset c w (w.subop.testBit 2)
    let n := if wide then 32 else 16
    match r.regionAddr w.qreg accMortar (if wide then 32 * (off / 2) else 16 * off) n with
    | none => (s1.tagViolation u.rig u.ord).slotDone k c
    | some a =>
      let f := match w.fmt with
        | 3 => AddFmt.u64
        | 4 => AddFmt.modq ((r.modulus w.modsel).getD 1)
        | 5 | 6 => AddFmt.f32
        | _ => AddFmt.u32
      let m : MAdd := {
        addr := a, bytes := n, fmt := f, data := BitVec.ofNat 256 (pushData c w),
        poison := w.subop.testBit 1 && c.accBad.get false w.acc, src := .rig u.rig,
        entered := u.cycle + (if w.subop.testBit 0 then 0 else 24)
        tree := if w.subop.testBit 0 then none else some (u.ord, w.fmt, w.qreg, w.modsel) }
      if w.subop.testBit 0 then (s1.queueAdd m).slotDone k c
      else match s1.treePush u.pos m with
        | some s2 => s2.slotDone k c
        | none => s1.stall k c

end Sys2Proof.Machine
end

