-- ==== Sys2Proof/Machine/Trial.lean ====
section
/-!
DEFINITION. The isolated cycle-step of Telltale (19 R689, R690): a trial of a rig's next stroke on one Ashlar, with the issue rules
and latencies of 04 R162 and its operation tables.
-/

namespace Sys2Proof.Machine

/-- Latency of an operation (04 R184 to R199). For LDW from the own store, and for the store of a value that a later LDW reads, it
is the worst case of 02 R81. -/
def opLatency (op : Op) (fmt : Nat) : Nat :=
  match op with
  | .mul => 3 | .mulhi => 3 | .mad => 3
  | .cmp => if fmt = 3 ∨ fmt = 5 then 2 else 1
  | .add => if fmt = 3 then 2 else 1
  | .sub => if fmt = 3 then 2 else 1
  | .shl => if fmt = 3 then 2 else 1
  | .shr => if fmt = 3 then 2 else 1
  | .min => if fmt = 3 then 2 else 1
  | .max => if fmt = 3 then 2 else 1
  | .maddq => 2 | .msubq => 2 | .mmulq => 6 | .mmadq => 6 | .mmulm => 6 | .mmadm => 6 | .mtom => 6 | .mredq => 4 | .mwide => 6
  | .mlift => 2
  | .fadd => 4 | .fsub => 4 | .fmul => 4 | .fma => 4 | .dot2 => 5 | .dot4 => 5 | .cvt => 2
  | .sbox8 => 2 | .mixcol => 2 | .clmul32 => 3 | .lut16 => 2
  | .ldc => 3 | .ldw => 10
  | .accadd => if fmt = 4 then 2 else if fmt = 5 then 4 else 1
  | .accmac => if fmt = 4 then 6 else 4
  | _ => 1

/-- Resources of a core: G0 to G31 are 0 to 31, A0 to A7 32 to 39, P0 to P3 40 to 43. -/
def slotReads (op : Op) (r : OpRow) (w : Slot) : List Nat :=
  (if op = .plog then [40 + w.srca % 4, 40 + w.srcb % 4]
   else
    (if r.a then [w.srca] ++ (if r.evenA then [w.srca + 1] else []) else []) ++ (if r.b && !w.bimm then [w.srcb] else [])) ++
  (if r.c then [w.srcc] else []) ++ (if r.acc && op ≠ .accclr then [32 + w.acc] else []) ++
  (if op = .sel then [40 + w.subop % 4] else []) ++ (if w.psel = 0 then [] else [40 + w.psel])

/-- Resources that a slot writes. -/
def slotWrites (op : Op) (r : OpRow) (w : Slot) : List Nat :=
  (if r.dst then [w.dst] else []) ++ (if r.pdst && w.pdst ≠ 0 then [40 + w.pdst] else []) ++
  (if r.acc && op ≠ .accrd && op ≠ .tpush then [32 + w.acc] else [])

/-- Runs one slot of the operations that a trial performs. -/
def runTrialOp (op : Op) (u : Issue) (w : Slot) (s : State) : Res :=
  match op with
  | .nop => execSlNop u w s
  | .add => execSlAdd u w s
  | .sub => execSlSub u w s
  | .mul => execSlMul u w s
  | .mulhi => execSlMulhi u w s
  | .mad => execSlMad u w s
  | .and => execSlAnd u w s
  | .or => execSlOr u w s
  | .xor => execSlXor u w s
  | .andn => execSlAndn u w s
  | .shl => execSlShl u w s
  | .shr => execSlShr u w s
  | .min => execSlMin u w s
  | .max => execSlMax u w s
  | .cmp => execSlCmp u w s
  | .sel => execSlSel u w s
  | .mov => execSlMov u w s
  | .spec => execSlSpec u w s
  | .plog => execSlPlog u w s
  | .loop => execSlLoop u w s
  | .maddq => execSlMaddq u w s
  | .msubq => execSlMsubq u w s
  | .mmulq => execSlMmulq u w s
  | .mmadq => execSlMmadq u w s
  | .mmulm => execSlMmulm u w s
  | .mmadm => execSlMmadm u w s
  | .mtom => execSlMtom u w s
  | .mredq => execSlMredq u w s
  | .mwide => execSlMwide u w s
  | .mlift => execSlMlift u w s
  | .fadd => execSlFadd u w s
  | .fsub => execSlFsub u w s
  | .fmul => execSlFmul u w s
  | .fma => execSlFma u w s
  | .fmin => execSlFmin u w s
  | .fmax => execSlFmax u w s
  | .fsgn => execSlFsgn u w s
  | .dot2 => execSlDot2 u w s
  | .dot4 => execSlDot4 u w s
  | .cvt => execSlCvt u w s
  | .sbox8 => execSlSbox8 u w s
  | .mixcol => execSlMixcol u w s
  | .rotl32 => execSlRotl32 u w s
  | .clmul32 => execSlClmul32 u w s
  | .lut16 => execSlLut16 u w s
  | .send => execSlSend u w s
  | .recv => execSlRecv u w s
  | .ldc => execSlLdc u w s
  | .stc => execSlStc u w s
  | .stc2 => execSlStc2 u w s
  | .ldw => execSlLdw u w s
  | .stw => execSlStw u w s
  | .stw2 => execSlStw2 u w s
  | .accclr => execSlAccclr u w s
  | .accadd => execSlAccadd u w s
  | .accmac => execSlAccmac u w s
  | .accrd => execSlAccrd u w s
  | .accwr => execSlAccwr u w s
  | .tpush => execSlTpush u w s
  | .endSlot => execSlEnd u w s
  | .deq => .next s
  | .enq => .next s
  | .qmark => .next s
  | .qrel => .next s

/-- The address that a region access of a slot names, if the rig has bound it: none otherwise. -/
def slotAddr (r : Rig) (c : Core) (op : Op) (w : Slot) : Option Nat :=
  let off := unitOffset c w (w.subop.testBit 0)
  match op with
  | .ldw => r.regionAddr w.qreg accRead (16 * off) 16
  | .stw => r.regionAddr w.qreg accWrite (16 * off) 16
  | .stw2 => r.regionAddr w.qreg accWrite (32 * (off / 2)) 32
  | .tpush =>
    let wide := decide (w.fmt = 6) && !w.subop.testBit 1
    let o := unitOffset c w (w.subop.testBit 2)
    r.regionAddr w.qreg accMortar (if wide then 32 * (o / 2) else 16 * o) (if wide then 32 else 16)
  | _ => none

/-- The slot stalls a trial: a queue operation, or an access outside the Ashlar's own store (R689). -/
def trialStalls (a : Nat) (r : Rig) (c : Core) (op : Op) (w : Slot) : Bool :=
  match op with
  | .deq => true | .enq => true | .qmark => true | .qrel => true
  | .ldw | .stw | .stw2 | .tpush =>
    (match slotAddr r c op w with
      | some x => !decide (ashlarBase a ≤ x ∧ x < ashlarBase a + 0x600000)
      | none => true)
  | _ => false

/-- The word that a store of the slot writes, by byte address over 32. -/
def slotStores (r : Rig) (u : Issue) (c : Core) (op : Op) (w : Slot) : Option Nat :=
  match op with
  | .stc => some (coreWordIdx (r.storeKey u) (coreWord c w))
  | .stc2 => some (coreWordIdx (r.storeKey u) (coreWord c w))
  | .stw => (slotAddr r c op w).map (· / 32)
  | .stw2 => (slotAddr r c op w).map (· / 32)
  | _ => none

/-- The machine as the trial's slots see it: the rig alone, its cores at their trial state, and the trial buffer over memory. -/
def State.trialView (s : State) (t : Trial) (r : Rig) : State :=
  let s1 : State := { s with
    tt := { s.tt with halted := false }
    fabric := { s.fabric with
      adds := t.adds
      rigs := s.fabric.rigs.insertAt t.rig { r with
        active := true, faulted := false, ashlars := r.ashlars.map fun x => { x with broken := false } } }
    cores := t.cores.foldl (fun (m : NMap Core) e => NMap.put m {} (coreKey t.rig t.ord e.1) e.2) s.cores }
  t.buffer.foldl (fun (u : State) e => u.writeWord e.1 (toLe 32 e.2.1.toNat) e.2.2) s1

/-- The slot of a core, decoded. -/
def trialSlot (r : Rig) (t : Trial) (pos pc : Nat) : Option (Op × Slot) :=
  let a := nth r.ashlars t.ord { useMask := 0, freeMask := 0, seqFirst := 0, place := none }
  let k := a.seqFirst + ((positions a.useMask).filter fun p => decide (p < pos)).length
  (r.seqs[k * r.seqLen + pc]?).bind fun v => decodeSlot v.toNat

/-- Results of the slot are ready `opLatency` cycles on, in issue order; a core issues one slot per cycle, with the intervals of
SEND and STC. -/
def Trial.issued (t : Trial) (pos : Nat) (op : Op) (r : OpRow) (w : Slot) : Trial :=
  let at0 := t.cycle + opLatency op w.fmt
  { t with
    ready := (slotWrites op r w).foldl (fun (m : NMap Nat) x => NMap.put m 0 (64 * pos + x) (max at0 (NMap.get m 0 (64 * pos + x)))) t.ready
    next := t.next.put 0 pos (t.cycle + (if op = .stc then 2 else 1))
    sendAt := if op = .send then t.sendAt.put 0 (4 * pos + w.subop % 4) (t.cycle + 2) else t.sendAt
    arrive :=
      if op = .send then (match neighbour pos w.subop with
        | some p => let k := 4 * p + (w.subop + 2) % 4; t.arrive.put [] k (t.arrive.get [] k ++ [t.cycle + 4])
        | none => t.arrive)
      else if op = .recv then t.arrive.put [] (4 * pos + w.subop % 4) ((t.arrive.get [] (4 * pos + w.subop % 4)).drop 1)
      else t.arrive }

/-- The slot may issue in this cycle: its operands are ready, and a register to receive has arrived. -/
def Trial.mayIssue (t : Trial) (pos : Nat) (op : Op) (r : OpRow) (w : Slot) : Bool :=
  decide (t.next.get 0 pos ≤ t.cycle) && ((slotReads op r w).all fun x => decide (t.ready.get 0 (64 * pos + x) ≤ t.cycle)) &&
  (op ≠ .send || decide (t.sendAt.get 0 (4 * pos + w.subop % 4) ≤ t.cycle)) &&
  (op ≠ .recv || (match (t.arrive.get [] (4 * pos + w.subop % 4)).head? with
    | some x => decide (x ≤ t.cycle)
    | none => false))

/-- One core in one cycle of the trial. -/
def State.trialCore (s : State) (r : Rig) (t : Trial) (pos : Nat) : Trial :=
  let c := t.cores.get {} pos
  if c.ended then t
  else match trialSlot r t pos c.pc with
    | none => t
    | some (op, w) =>
      match opRow op with
      | none => t
      | some row =>
        if !t.mayIssue pos op row w then t
        else if trialStalls t.ashlar r c op w then (if t.stalled.isSome then t else { t with stalled := some (c.pc, pos) })
        else
          let u : Issue := { rig := t.rig, ord := t.ord, pos := pos, cycle := t.cycle }
          match runTrialOp op u w (s.trialView t r) with
          | .next z =>
            let cores := (positions (nth r.ashlars t.ord { useMask := 0, freeMask := 0, seqFirst := 0, place := none }).useMask).foldl
              (fun (m : NMap Core) p => NMap.put m {} p (z.core (coreKey t.rig t.ord p))) t.cores
            let buf := match slotStores r u c op w with
              | some x => t.buffer.insertAt x (BitVec.ofNat 256 (ofLe (memRead z.mem (32 * x) 32)), decide (z.ecc.get 0 x ≠ 0))
              | none => t.buffer
            let t1 : Trial := { t with cores := cores, buffer := buf, adds := z.fabric.adds }
            if (z.core (coreKey t.rig t.ord pos)).stalled then t1 else t1.issued pos op row w
          | _ => t

/-- The Ashlar's Mortar unit serves one add that has reached it: the trial's later reads see its word (R689). -/
def State.trialAdd (s : State) (r : Rig) (t : Trial) : Trial :=
  match takeAdd (fun m => decide (m.entered ≤ t.cycle)) t.adds with
  | none => t
  | some (m, rest) =>
    let w := m.addr / 32
    let v := (s.trialView t r).readWord 2 w
    let o := 8 * (m.addr % 32)
    let old := ofLe v.1
    let new := setBits old o (8 * m.bytes) (m.fmt.apply m.bytes (bits old o (8 * m.bytes)) m.data.toNat)
    { t with adds := rest, buffer := t.buffer.insertAt w (BitVec.ofNat 256 new, v.2.1 || m.poison) }

/-- Every core of the Ashlar has executed END. -/
def Trial.done (t : Trial) (ps : List Nat) : Bool := ps.all fun p => (t.cores.get {} p).ended

/-- One cycle of a trial: it ends with END on every core, or at cycle 1,919. -/
def State.trialCycle (s : State) (r : Rig) (t : Trial) : Trial :=
  let ps := positions (nth r.ashlars t.ord { useMask := 0, freeMask := 0, seqFirst := 0, place := none }).useMask
  if t.state = 3 then t
  else
    let t1 := s.trialAdd r (ps.foldl (fun (x : Trial) p => s.trialCore r x p) t)
    let fin := t1.done ps || decide (t1.cycle ≥ 1919)
    { t1 with cycle := if fin then t1.cycle else t1.cycle + 1, state := if fin then 3 else if t1.stalled.isSome then 2 else 1 }

/-- `n` further cycles. -/
def State.trialRun (s : State) (r : Rig) (t : Trial) : Nat → Trial
  | 0 => t
  | n + 1 => s.trialRun r (s.trialCycle r t) n

/-- A new trial: every core from its committed shadows, with empty registers (04 R163). -/
def State.trialStart (s : State) (a id ord : Nat) (r : Rig) : Trial :=
  let ps := positions (nth r.ashlars ord { useMask := 0, freeMask := 0, seqFirst := 0, place := none }).useMask
  { ashlar := a, rig := id, ord := ord
    cores := ps.foldl (fun (m : NMap Core) p =>
      let c := s.core (coreKey id ord p)
      NMap.put m {} p { acc := c.shadow, accBad := c.shadowBad, shadow := c.shadow, shadowBad := c.shadowBad }) [] }

/-- TT_ISO_STEP: `n` further cycles of the trial of the Ashlar of TT_ISO_SEL, while the module is halted and the Ashlar holds a rig;
`mismatch` is a position at which a residue mismatch is found, which fences the core (18 R653). -/
def State.isoStep (s : State) (n : Nat) (mismatch : Option Nat) : State :=
  let a := (s.reg .telltale 0 0x50).toNat % 2 ^ 13
  match s.rigOn a with
  | none => s
  | some (id, r, ord) =>
    if !s.tt.halted then s
    else
      let t0 := match s.tt.trial with
        | some t => if t.ashlar = a then t else s.trialStart a id ord r
        | none => s.trialStart a id ord r
      let s1 : State := { s with tt := { s.tt with trial := some (s.trialRun r t0 n) } }
      match mismatch with
      | some p => s1.fenceCore id ord p
      | none => s1

/-! ### Reads of the isolated Ashlar (R690) -/

/-- A word of a core's state at an offset of its block. -/
def coreStateWord (c : Core) (off : Nat) : Nat :=
  if off < 0x200 then bits (c.g128 (off / 16)) (8 * (off % 16)) 32
  else if off < 0x300 then bits (c.acc.get 0 ((off - 0x200) / 32)).toNat (8 * (off % 32)) 32
  else if off = 0x300 then
    (List.range 16).foldl (fun v i => v + (if c.pred (i / 4) (i % 4) then 2 ^ i else 0)) 0
  else if off = 0x304 then c.pc
  else if off = 0x308 then ((c.loops[0]?).map (·.idx)).getD 0
  else if off = 0x30C then ((c.loops[1]?).map (·.idx)).getD 0
  else 0

/-- A word of the core store of a position, with the trial buffer over it. -/
def State.trialStore (s : State) (r : Rig) (t : Trial) (pos off : Nat) : Nat :=
  let k := r.storeKey { rig := t.rig, ord := t.ord, pos := pos }
  ofLe (memRead (s.trialView t r).mem (coreStoreBase k + off) 4)

end Sys2Proof.Machine
end

