-- ==== Sys2Proof/Machine/Telltale.lean ====
section
/-!
DEFINITION. Telltale (19): the TAP and its boundary register, the debug transport and its address space, sessions and unlock
tokens, halt and step, the isolated cycle-step, comparators and watch windows, and direct memory access.
-/

namespace Sys2Proof.Machine

/-! ### The TAP (R671 to R675) -/

/-- A request is forbidden: it is counted in TT_DENIED. -/
def State.ttDeny (s : State) : State := s.bump .telltale 0 0x90

/-- An instruction is selected; where it is not allowed it acts as BYPASS and is counted (R672). -/
def State.tapSelect (s : State) (code : Nat) (allowed : Bool) : State :=
  if allowed then { s with tt := { s.tt with ir := code } } else ({ s with tt := { s.tt with ir := 0xFF } } : State).ttDeny

/-- The TAP answers: the package has power, and TRST_N is high. -/
def State.tapLive (s : State) : Bool := s.power.on && !s.tt.trst

/-- EXTEST, CLAMP and HIGHZ are allowed: FULL access while unclaimed (R675). -/
def State.pinsAllowed (s : State) : Bool := decide (s.ttAccess ≠ 0) && !s.ten.claimed

/-- Level of a sideband output as the module's own functions drive it, by boundary cell; none for one that this state does not
fix (R674, 02 R93, 20 R708). -/
def State.ownLevel (s : State) (cell : Nat) : Option Bool :=
  if cell = 3 then some (!s.smbAlert)
  else if cell = 5 then (if s.tt.halted || !s.stroke.running then some false else none)
  else if cell = 9 then some (!s.thermTrip)
  else none

/-- Boundary cells of the sideband outputs. -/
def outputCells : List Nat := [1, 2, 3, 5, 9, 10]

/-- What drives a sideband output: the boundary register under EXTEST and CLAMP, nothing under HIGHZ, the module otherwise (R675). -/
def State.drivenLevel (s : State) (cell : Nat) : Option Bool :=
  if s.tapLive && s.pinsAllowed && decide (s.tt.ir = 0x00 ∨ s.tt.ir = 0x03) then some (s.tt.boundary.testBit cell)
  else if s.tapLive && s.pinsAllowed && decide (s.tt.ir = 0x04) then none
  else s.ownLevel cell

/-- The boundary cells as captured: levels that the state does not fix are free values (log entry 1). -/
def State.sampled (s : State) : Nat × State :=
  let d := s.draw
  (maskOf ((List.range 12).filter fun k => (s.ownLevel k).getD (d.1.testBit k)), d.2)

/-- The boundary register is selected: its capture is shifted out, and what is shifted in is loaded. -/
def State.boundaryScan (s : State) (code cells : Nat) (allowed : Bool) : State :=
  let t := s.tapSelect code allowed
  if !allowed then t
  else
    let x := t.sampled
    ({ x.2 with tt := { x.2.tt with boundary := cells % 2 ^ 12 } } : State).emit (.debug 0 (BitVec.ofNat 32 x.1))

/-- A TAP row. -/
def tapRow (s : State) (f : State → State) : Res := .next (if s.tapLive then f s else s)

def execTapExtest (cells : Nat) (s : State) : Res := tapRow s fun t => t.boundaryScan 0x00 cells t.pinsAllowed
def execTapSamplePreload (cells : Nat) (s : State) : Res := tapRow s fun t => t.boundaryScan 0x01 cells (decide (t.ttAccess ≠ 0))
def execTapIdcode (s : State) : Res := tapRow s fun t => (t.tapSelect 0x02 true).emit (.debug 0 0x16601A6D)
def execTapClamp (s : State) : Res := tapRow s fun t => t.tapSelect 0x03 t.pinsAllowed
def execTapHighz (s : State) : Res := tapRow s fun t => t.tapSelect 0x04 t.pinsAllowed
def execTapBypass (s : State) : Res := tapRow s fun t => t.tapSelect 0xFF true

/-- TRST_N takes a level: low resets the TAP to IDCODE and ends any session. -/
def execTapTrst (low : Bool) (s : State) : Res :=
  let s1 : State := { s with tt := { s.tt with trst := low } }
  .next (if low then ({ s1 with tt := { s1.tt with ir := 2 } } : State).endSession else s1)

/-! ### Unlock tokens (R682 to R684) -/

/-- The token of TT_TOKEN0 to TT_TOKEN31. -/
def State.tokenBytes (s : State) : List Byte := (List.range 32).flatMap fun k => toLe 4 (s.tt.token.get 0 k).toNat

/-- The signer that R678 requires. -/
def State.tokenSigner (s : State) : Option Nat :=
  match s.keep.lc with
  | .factory => some 2
  | .returned => some 2
  | .sealed => some 1
  | _ => none

/-- UNLOCK_RESULT of a token: the first check that fails (R683). -/
def State.unlockCheck (s : State) (t : List Byte) : Nat :=
  let signer := leAt t 6 1
  let key := if signer = 1 then s.keep.active.debugKey else s.keep.wellothKey.getD zero32
  if leAt t 0 4 ≠ 0x4D365554 ∨ leAt t 4 2 ≠ 1 ∨ (signer ≠ 1 ∧ signer ≠ 2) ∨ leAt t 7 1 ≠ 0 ∨ leAt t 0x2C 4 ≠ 0 ∨ leAt t 0x38 8 ≠ 0 then 1
  else if s.tokenSigner ≠ some signer then 2
  else if (t.drop 8).take 32 ≠ s.keep.deviceHash then 3
  else if leAt t 0x28 4 ≠ s.keep.fuses.counter then 4
  else if s.stroke.now > leAt t 0x30 8 then 5
  else if key = zero32 then 6
  else if !ed25519Verify key (t.take 64) (t.drop 64) then 7
  else 8

/-- TT_CTL.UNLOCK: in SEALED an accepted token starts the wipe at the commit of its stroke, and at once while the module is
halted. -/
def State.unlock (s : State) : State :=
  let r := s.unlockCheck s.tokenBytes
  let s1 : State := { s with tt := { s.tt with unlockResult := r, token := [] } }
  if r ≠ 8 then s1.latchEvt .telltale 0 16
  else if s.keep.lc ≠ LifeCycle.sealed then { s1 with tt := { s1.tt with unlocked := true } }
  else
    let s2 : State := { s1 with tt := { s1.tt with unlockPending := true } }
    if s.tt.halted then s2.endTenancy else { s2 with tt := { s2.tt with unlockAt := some s.effStroke } }

/-! ### TT_CTL (R679, R686 to R689, R696) -/

/-- The answer to a debug request: STATUS, the data read, and the state after it. -/
abbrev DbgAnswer := Nat × W32 × State

def dbgOk (s : State) : DbgAnswer := (0, 0, s)
def dbgDenied (s : State) : DbgAnswer := (2, 0, s.ttDeny)
def dbgError (s : State) : DbgAnswer := (3, 0, s)

/-- TT_CTL.SESSION_OPEN (R678): an OWNER token's session opens by itself at the end of the wipe. -/
def State.ttOpen (s : State) : DbgAnswer :=
  if s.tt.session then dbgOk s
  else match s.keep.lc with
    | .blank => dbgOk s.openSession
    | .opened => dbgOk s.openSession
    | .factory | .returned =>
      if s.tt.unlocked then dbgOk ({ s with tt := { s.tt with unlocked := false } } : State).openSession else dbgDenied s
    | _ => dbgDenied s

/-- TT_CTL.HALT (R686, R687): an earlier halt that is due stands. -/
def State.ttHalt (s : State) (force : Bool) : DbgAnswer :=
  let busy := s.inCrew && s.rounds.blocks.any fun e => e.2.crew && e.2.state.working
  if s.tt.halted then dbgOk s
  else if busy && !force then dbgDenied s
  else
    let eff := s.effStroke
    let keep := s.tt.haltAt.any fun h => decide (h.1 ≤ eff)
    let s1 : State := { s with tt := { s.tt with
      haltAt := if keep then s.tt.haltAt else some (eff, 1, 0), force := s.tt.force || (busy && force) } }
    dbgOk (s1.wake 7 2 3)

/-- One operation of TT_CTL, by its bit. -/
def State.ttOp (s : State) (bit : Nat) (force : Bool) : DbgAnswer :=
  match bit with
  | 0 => s.ttOpen
  | 1 => dbgOk s.endSession
  | 2 => s.ttHalt force
  | 3 => dbgOk s.resume
  | 4 => dbgOk s.stepOnce
  | 6 => dbgOk s.unlock
  | 7 => dbgOk { s with tt := { s.tt with trial := none } }
  | _ => dbgOk s

/-- A write of TT_CTL: its operations in ascending bit order. Without a session only SESSION_OPEN, SESSION_CLOSE and UNLOCK are
within access. -/
def State.ttCtl (s : State) (v : Nat) : DbgAnswer :=
  ((List.range 8).filter fun b => v.testBit b).foldl (fun (x : DbgAnswer) b =>
    let y := if x.2.2.tt.session || decide (b = 0 ∨ b = 1 ∨ b = 5 ∨ b = 6) then x.2.2.ttOp b (v.testBit 5) else dbgDenied x.2.2
    (max x.1 y.1, 0, y.2.2)) (dbgOk s)

/-! ### Comparators, watch windows and memory access (R681, R691 to R694, R697) -/

/-- The Ashlar holds a sealed rig. -/
def State.holdsSealed (s : State) (a : Nat) : Bool := (s.rigOn a).any fun e => e.2.1.sealed

/-- The range from `a` to `stop` lies wholly in OPEN regions (R681). -/
def State.openTagged (s : State) : Nat → Nat → Nat → Bool
  | 0, _, _ => false
  | fuel + 1, a, stop =>
    if stop ≤ a then true
    else match s.areaOf a with
      | some r => decide (r.tag = 1) && s.openTagged fuel (r.base + r.len) stop
      | none => false

/-- The comparator `b` may stand armed under the guard view. -/
def State.bpAllowed (s : State) (b : Nat) : Bool :=
  let c := (s.reg .telltale 0 (0x100 + 16 * b)).toNat
  let lo := (s.reg .telltale 0 (0x104 + 16 * b)).toNat
  !s.guarded || !c.testBit 0 ||
    (match bits c 1 2 with
      | 1 => decide ((s.queue (lo % 2 ^ 14)).owner = .tenant)
      | 2 => !s.holdsSealed (lo % 2 ^ 13)
      | _ => true)

/-- The watch window `w` may stand armed under the guard view. -/
def State.wwAllowed (s : State) (w : Nat) : Bool :=
  !s.guarded || !(s.reg .telltale 0 (0x20C + 16 * w)).toNat.testBit 0 ||
    s.openTagged (s.fabric.areas.length + 1) (s.wwBase w) (s.wwBase w + s.wwLen w)

/-- A write of a comparator's register: its count clears at a write of ARM. -/
def State.writeBp (s : State) (off : Nat) (v : W32) : State :=
  let b := (off - 0x100) / 16
  let t := s.setReg .telltale 0 off (if off % 16 = 0 then v &&& 0x3FF else v)
  if off % 16 = 12 then s
  else if !t.bpAllowed b then s.ttDeny
  else if off % 16 = 0 ∧ v.toNat.testBit 0 then t.setReg .telltale 0 (off + 12) 0
  else t

/-- A write of a watch window's register: the first match's requester clears at a write of ARM. -/
def State.writeWw (s : State) (off : Nat) (v : W32) : State :=
  let w := (off - 0x200) / 16
  let old := s.reg .telltale 0 off
  let new := match off % 16 with
    | 0 => v &&& 0xFFFFFFE0
    | 4 => v &&& 0xFFFF
    | 8 => v
    | _ => if v.toNat.testBit 0 then v &&& 0x1F else (v &&& 0x1F) ||| (old &&& 0x1E0)
  let t := s.setReg .telltale 0 off new
  if off % 16 = 8 ∧ (v.toNat % 32 ≠ 0 ∨ v = 0) then s.pageError .telltale 0 off 4 v
  else if !t.wwAllowed w then s.ttDeny
  else t

/-- A write of TT_MEM_CTL lands (00 R722): the address and the data are read now. -/
def State.landTtMem (s : State) (op : Nat) : State :=
  if s.ttMem.busy then s.pageError .telltale 0 0x68 3 (BitVec.ofNat 32 op)
  else if op = 0 then s
  else if op = 3 then s.pageError .telltale 0 0x68 4 3
  else { s with ttMem := { s.ttMem with
      busy := true, op := op
      args := s.reg .telltale 0 0x60 :: s.reg .telltale 0 0x64 :: (List.range 8).map fun k => s.reg .telltale 0 (0x70 + 4 * k) } }

/-- TT_MEM_DATA takes 32 bytes. -/
def State.ttData (s : State) (l : List Byte) : State :=
  (List.range 8).foldl (fun (t : State) k => t.setReg .telltale 0 (0x70 + 4 * k) (BitVec.ofNat 32 (leAt l (4 * k) 4))) s

/-- The access of TT_MEM_CTL at its outcome: the debug column of 03 R144 under a guard mode. The data of a poisoned word are a free
value (log entry 1). -/
def State.endTtMem (s : State) : State :=
  let c := s.ttMem
  let a := (c.args.getD 0 0).toNat / 32 * 32 + 2 ^ 32 * ((c.args.getD 1 0).toNat % 2 ^ 16)
  let tag := s.tagAt a
  let held := match s.place a with
    | .hbm _ _ => true
    | .ashlar _ _ => true
    | _ => false
  let fin (res : Nat) (t : State) : State := { t with ttMem := { c with busy := false, result := res } }
  if !c.busy then s
  else if !held ∨ tag = 0 then fin 3 s
  else if s.guarded ∧ tag ≠ 1 then fin 1 (if c.op = 1 then s.ttData [] else s)
  else if c.op = 2 then fin 0 (s.writeBytes 6 a ((c.args.drop 2).flatMap fun w => toLe 4 w.toNat))
  else
    let r := s.readBytes 6 a 32
    if r.2.1 then let d := r.2.2.drawBytes 32; fin 2 (d.2.ttData d.1) else fin 0 (r.2.2.ttData r.1)

/-! ### The debug address space (R676, R677) -/

/-- TT_ISO_STEP of `n` cycles: an Ashlar with a sealed rig is DENIED under a guard mode (R681). -/
def State.ttIso (s : State) (n : Nat) (v : W32) (mismatch : Option Nat) : DbgAnswer :=
  if s.guarded && s.holdsSealed ((s.reg .telltale 0 0x50).toNat % 2 ^ 13) then dbgDenied s
  else if n = 0 ∨ n > 1856 then dbgOk (s.pageError .telltale 0 0x54 4 v)
  else dbgOk (s.isoStep n mismatch)

/-- A write of a register of the TELLTALE page over the TAP. -/
def State.ttWrite (s : State) (off : Nat) (v : W32) (mismatch : Option Nat) : DbgAnswer :=
  let n := v.toNat
  if off = 0x40 then s.ttCtl (n % 256)
  else if 0x400 ≤ off ∧ off < 0x480 then dbgOk { s with tt := { s.tt with token := s.tt.token.put 0 ((off - 0x400) / 4) v } }
  else if !s.tt.session then dbgDenied s
  else if off < 0x40 then dbgOk (s.writeHeader .telltale 0 off v)
  else if off = 0x50 then dbgOk (s.setReg .telltale 0 0x50 (v &&& 0x1FFF))
  else if off = 0x54 then s.ttIso (n % 2 ^ 11) v mismatch
  else if off = 0x60 then dbgOk (s.setReg .telltale 0 0x60 (v &&& 0xFFFFFFE0))
  else if off = 0x64 then dbgOk (s.setReg .telltale 0 0x64 (v &&& 0xFFFF))
  else if off = 0x68 then dbgOk (s.landTtMem (n % 4))
  else if 0x70 ≤ off ∧ off < 0x90 then dbgOk (s.setReg .telltale 0 off v)
  else if 0x100 ≤ off ∧ off < 0x200 then dbgOk (s.writeBp off v)
  else if 0x200 ≤ off ∧ off < 0x280 then dbgOk (s.writeWw off v)
  else dbgOk s

/-- What a debug address reaches (R677). -/
inductive DbgPlace where
  | page (off : Nat)
  | core (pos off : Nat)
  | store (pos off : Nat)
  | bar0 (off : Nat)
  | unmapped
  deriving DecidableEq, Repr

def dbgPlace (a : Nat) : DbgPlace :=
  if a < 0x1000 then .page a
  else if 0x10000 ≤ a ∧ a < 0x20000 then .core ((a - 0x10000) / 0x400) (a % 0x400)
  else if 0x100000 ≤ a ∧ a < 0x180000 then .store ((a - 0x100000) / 0x2000) (a % 0x2000)
  else if 0x4000000 ≤ a ∧ a < 0x8000000 then .bar0 (a - 0x4000000)
  else .unmapped

/-- A READ request. -/
def State.dbgRead (s : State) (a : Nat) : DbgAnswer :=
  match dbgPlace a with
  | .page off => let r := s.readReg .telltale 0 off; (0, r.1, r.2)
  | .core pos off =>
    if !s.tt.session then dbgDenied s
    else match s.tt.trial with
      | some t => (0, BitVec.ofNat 32 (coreStateWord (t.cores.get {} pos) off), s)
      | none => dbgError s
  | .store pos off =>
    if !s.tt.session then dbgDenied s
    else match s.tt.trial with
      | some t => (match s.rigOn t.ashlar with
        | some (_, r, _) => (0, BitVec.ofNat 32 (s.trialStore r t pos off), s)
        | none => dbgError s)
      | none => dbgError s
  | .bar0 off =>
    if !s.tt.session then dbgDenied s
    else let r := s.bar0Read off 4; (0, BitVec.ofNat 32 (ofLe r.1), r.2)
  | .unmapped => dbgError s

/-- A WRITE request. -/
def State.dbgWrite (s : State) (a : Nat) (v : W32) (mismatch : Option Nat) : DbgAnswer :=
  match dbgPlace a with
  | .page off => s.ttWrite off v mismatch
  | .core _ _ => if s.tt.session then dbgError s else dbgDenied s
  | .store _ _ => if s.tt.session then dbgError s else dbgDenied s
  | .bar0 off => if s.tt.session then dbgOk (s.bar0Write off 4 v) else dbgDenied s
  | .unmapped => dbgError s

/-- A request of the DBG data register (R676): DENIED while the port is shut (R680), ERROR for a malformed one. Its result stands
in the result register and is shifted out. -/
def State.dbgRequest (s : State) (a reserved : Nat) (f : State → DbgAnswer) : State :=
  let s1 := s.tapSelect 0x10 true
  let x :=
    if s1.ttShut then dbgDenied s1
    else if reserved ≠ 0 ∨ a % 4 ≠ 0 ∨ a ≥ 2 ^ 32 ∨ dbgPlace a = .unmapped then dbgError s1
    else f s1
  ({ x.2.2 with tt := { x.2.2.tt with resStatus := x.1, resAddr := a, resData := x.2.1 } } : State).emit (.debug x.1 x.2.1)

def execTtDbgRead (addr reserved : Nat) (s : State) : Res := tapRow s fun t => t.dbgRequest addr reserved fun u => u.dbgRead addr
def execTtDbgNop (addr reserved : Nat) (s : State) : Res := tapRow s fun t => t.dbgRequest addr reserved dbgOk
def execTtDbgWrite (addr reserved cycle : Nat) (v : W32) (s : State) : Res :=
  tapRow s fun t => (t.atCycle cycle).dbgRequest addr reserved fun u => u.dbgWrite addr v none

/-- A row that writes one register of the page over the TAP. -/
def ttRow (off : Nat) (v : W32) (mismatch : Option Nat) (s : State) : Res :=
  tapRow s fun t => t.dbgRequest off 0 fun u => u.dbgWrite off v mismatch

def execTtSessionOpen (s : State) : Res := ttRow 0x40 0x01 none s
def execTtSessionClose (s : State) : Res := ttRow 0x40 0x02 none s
def execTtHalt (force : Bool) (cycle : Nat) (s : State) : Res :=
  tapRow s fun t => (t.atCycle cycle).dbgRequest 0x40 0 fun u => u.dbgWrite 0x40 (if force then 0x24 else 0x04) none
def execTtResume (s : State) : Res := ttRow 0x40 0x08 none s
def execTtStep (s : State) : Res := ttRow 0x40 0x10 none s
def execTtUnlock (s : State) : Res := ttRow 0x40 0x40 none s
def execTtIsoClr (s : State) : Res := ttRow 0x40 0x80 none s
def execTtIsoStep (cycles : Nat) (mismatch : Option Nat) (s : State) : Res :=
  if cycles ≥ 2 ^ 11 ∨ mismatch.any fun p => decide (p ≥ 64) then .fault .badEvent else ttRow 0x54 (BitVec.ofNat 32 cycles) mismatch s
def execTtMemRead (s : State) : Res := ttRow 0x68 1 none s
def execTtMemWrite (s : State) : Res := ttRow 0x68 2 none s

end Sys2Proof.Machine
end

