-- ==== Sys2Proof/Machine/Complete.lean ====
section
/-!
DEFINITION. The outcome instant of a command that is not tied to a commit (00 R722).
-/

namespace Sys2Proof.Machine

/-- The KEEP command in progress ends (14 R564); an accepted key update forces a WARM reset that runs stage KEEP (R556, 16 R620). -/
def State.endKeep (s : State) (flashFails : Bool) : State :=
  let x := s.keepEffect flashFails
  let t := x.2.finishKeep x.1
  if s.keepCmd.op = 6 ∧ x.1 = 0 then t.warmReset 6 true else t

/-- COMMAND_COMPLETION: the command of a command register reaches its outcome: results are set, BUSY falls and CMD_DONE latches. The
dwells of the reef states start again (17 R637). A VAULT_MT command ends at the commit of the stroke in which it completes (09
R362), a flush at its own. -/
def execCommandCompletion (page : CmdPage) (x : Completion) (s : State) : Res :=
  if !s.power.on then .next s
  else match page with
    | .muster => .next (if s.muster.busy then s.endCopy.breakDwells else s)
    | .bosun => (match s.completeBosun x with
      | some t => .next (if s.bosun.busy then t.breakDwells else t)
      | none => .fault .badEvent)
    | .halyard => .next (if s.halyardCmd.busy then s.endHalyard.breakDwells else s)
    | .keep => .next (if s.keepCmd.busy then (s.endKeep x.fail).breakDwells else s)
    | .spill k =>
      if k ≥ 16 then .fault .noUnit
      else
        let c := s.spillCmdOf k
        .next (if c.busy ∧ c.op ≠ 2 then s.endSpill k else s)
    | .vaultMt => .next (if s.mtCmd.busy then { s with mtCmd := { s.mtCmd with ready := true } } else s)
    | .ttMem => .next s.endTtMem

end Sys2Proof.Machine
end

