-- ==== Sys2Proof/Machine/Links.lean ====
section
/-!
DEFINITION. Links going out of service (18 R658 to R660, 03 R160, R161).
-/

namespace Sys2Proof.Machine

/-- The side of the neighbour that a link from side `d` ends on. -/
def opposite (d : Nat) : Nat := (d + 2) % 4

/-- The Course at the other end of a Course link (03 R112). -/
def courseAcross (c d : Nat) : Nat :=
  match d with
  | 0 => c - 4 | 1 => c + 1 | 2 => c + 4 | _ => c - 1

/-- The Pier at the other end of a Pier link. -/
def pierAcross (p d : Nat) : Nat :=
  match d with
  | 0 => p - 3 | 1 => p + 1 | 2 => p + 3 | _ => p - 1

/-- Takes link codes of `Fabric.downLinks` out of service. -/
def State.dropLinks (s : State) (l : List Nat) : State :=
  { s with fabric := { s.fabric with downLinks := s.fabric.downLinks ++ l.filter fun x => !s.fabric.downLinks.contains x } }

/-- The ordinals of a rig with a route, region or Mortar target on a path across one of the links, each an end of the link as a
path names it. -/
def State.acrossLink (s : State) (r : Rig) (links : List (Bool × Nat × Nat)) : List Nat :=
  ((List.range r.ashlars.length).zip r.ashlars).filterMap fun (e : Nat × RigAshlar) =>
    match e.2.place with
    | none => none
    | some a => if (s.destsOf r e.1).any fun d => ((s.path a d).getD []).any fun x => links.contains x then some e.1 else none

/-- A link is down: the rigs whose paths cross it lose this stroke and await re-placement (R659). `before` is the state in which
the link was still in use. -/
def State.strikeRigs (s before : State) (links : List (Bool × Nat × Nat)) : State :=
  before.fabric.rigs.foldl (fun (t : State) e =>
    let hit := before.acrossLink e.2 links
    if hit.isEmpty ∨ e.2.faulted then t
    else
      let t1 := t.modRig e.1 fun r => { r with
        ashlars := hit.foldl (fun (l : List RigAshlar) o => l.modify o fun x => { x with broken := true }) r.ashlars
        replaceFrom := some s.stroke.now }
      hit.foldl (fun (u : State) o => match (e.2.ashlars[o]?).bind (·.place) with
        | some a => u.strokeFault e.1 a
        | none => u) t1) s

/-- A Course link goes down: both ends. -/
def State.courseDown (s : State) (c d : Nat) : State :=
  let c2 := courseAcross c d
  let s1 := s.dropLinks [4 * c + d, 4 * c2 + opposite d]
  if s.courseLinkDown c d then s
  else ((s1.strikeRigs s [(false, c, d), (false, c2, opposite d)]).latchEvt .course c 1).latchEvt .course c2 1

/-- Lanes of a Pier link go down: LINK_DOWN latches when UP clears, and rigs lose their paths when no lane is left (R658). -/
def State.pierDown (s : State) (p d : Nat) (lanes : List Nat) : State :=
  let p2 := pierAcross p d
  let s1 := s.dropLinks (lanes.flatMap fun l => [1000 + 16 * p + 4 * d + l, 1000 + 16 * p2 + 4 * opposite d + l])
  let s2 := if (s.pierUp p).contains d && !(s1.pierUp p).contains d then (s1.latchEvt .pier p 1).latchEvt .pier p2 1 else s1
  if s1.pierLinkDown p d && !s.pierLinkDown p d then s2.strikeRigs s [(true, p, d), (true, p2, opposite d)] else s2

/-- A Plinth-link lane of a Pier goes down: with both down the fault is fatal (R660). -/
def State.plinthDown (s : State) (p l : Nat) : State :=
  let s1 := s.dropLinks [2000 + 2 * p + l]
  let s2 := if s.plinthUp p then s1.latchEvt .pier p 4 else s1
  if s1.fabric.downLinks.contains (2000 + 2 * p) && s1.fabric.downLinks.contains (2000 + 2 * p + 1) && decide (s.boot.fatal = 0)
  then s2.fatalStop 3 else s2

/-- LINK_DOWN: a link, or a lane of one, that the module has. -/
def execLinkDown (link : Link) (s : State) : Res :=
  let lanes (p d : Nat) (l : List Nat) : Res :=
    if p < 6 ∧ (pierPresent p).contains d ∧ (l.all fun x => decide (x < 4)) then .next (if s.power.on then s.pierDown p d l else s)
    else .fault .noUnit
  match link with
  | .course c d => if c < 96 ∧ (coursePresent c).contains d then .next (if s.power.on then s.courseDown c d else s) else .fault .noUnit
  | .pier p d => lanes p d [0, 1, 2, 3]
  | .pierLane p d l => lanes p d [l]
  | .plinth p => if p < 6 then .next (if s.power.on then (s.plinthDown p 0).plinthDown p 1 else s) else .fault .noUnit
  | .plinthLane p l => if p < 6 ∧ l < 2 then .next (if s.power.on then s.plinthDown p l else s) else .fault .noUnit

end Sys2Proof.Machine
end

