-- ==== Sys2Proof/Machine/Dispatch.lean ====
section
/-! DEFINITION. The dispatch of commands: one arm per constructor of `Instr`, each one call of its meaning. -/

namespace Sys2Proof.Machine

def exec (i : Instr) (s : State) : Host.Outcome State Fault Refusal :=
  match i with
  | .strokeCommit => Sys2Proof.Machine.execStrokeCommit s
  | .intake => Sys2Proof.Machine.execIntake s
  | .bedWriteBack word => Sys2Proof.Machine.execBedWriteBack word s
  | .strokeSyncInEdge cycle => Sys2Proof.Machine.execStrokeSyncInEdge cycle s
  | .freeRun cycle => Sys2Proof.Machine.execFreeRun cycle s
  | .adoption => Sys2Proof.Machine.execAdoption s
  | .ptpSync port offset start => Sys2Proof.Machine.execPtpSync port offset start s
  | .ptpSyncTimeout => Sys2Proof.Machine.execPtpSyncTimeout s
  | .slNop u w => Sys2Proof.Machine.execSlNop u w s
  | .slAdd u w => Sys2Proof.Machine.execSlAdd u w s
  | .slSub u w => Sys2Proof.Machine.execSlSub u w s
  | .slMul u w => Sys2Proof.Machine.execSlMul u w s
  | .slMulhi u w => Sys2Proof.Machine.execSlMulhi u w s
  | .slMad u w => Sys2Proof.Machine.execSlMad u w s
  | .slAnd u w => Sys2Proof.Machine.execSlAnd u w s
  | .slOr u w => Sys2Proof.Machine.execSlOr u w s
  | .slXor u w => Sys2Proof.Machine.execSlXor u w s
  | .slAndn u w => Sys2Proof.Machine.execSlAndn u w s
  | .slShl u w => Sys2Proof.Machine.execSlShl u w s
  | .slShr u w => Sys2Proof.Machine.execSlShr u w s
  | .slMin u w => Sys2Proof.Machine.execSlMin u w s
  | .slMax u w => Sys2Proof.Machine.execSlMax u w s
  | .slCmp u w => Sys2Proof.Machine.execSlCmp u w s
  | .slSel u w => Sys2Proof.Machine.execSlSel u w s
  | .slMov u w => Sys2Proof.Machine.execSlMov u w s
  | .slSpec u w => Sys2Proof.Machine.execSlSpec u w s
  | .slPlog u w => Sys2Proof.Machine.execSlPlog u w s
  | .slLoop u w => Sys2Proof.Machine.execSlLoop u w s
  | .slEnd u w => Sys2Proof.Machine.execSlEnd u w s
  | .slMaddq u w => Sys2Proof.Machine.execSlMaddq u w s
  | .slMsubq u w => Sys2Proof.Machine.execSlMsubq u w s
  | .slMmulq u w => Sys2Proof.Machine.execSlMmulq u w s
  | .slMmadq u w => Sys2Proof.Machine.execSlMmadq u w s
  | .slMmulm u w => Sys2Proof.Machine.execSlMmulm u w s
  | .slMmadm u w => Sys2Proof.Machine.execSlMmadm u w s
  | .slMtom u w => Sys2Proof.Machine.execSlMtom u w s
  | .slMredq u w => Sys2Proof.Machine.execSlMredq u w s
  | .slMwide u w => Sys2Proof.Machine.execSlMwide u w s
  | .slMlift u w => Sys2Proof.Machine.execSlMlift u w s
  | .slFadd u w => Sys2Proof.Machine.execSlFadd u w s
  | .slFsub u w => Sys2Proof.Machine.execSlFsub u w s
  | .slFmul u w => Sys2Proof.Machine.execSlFmul u w s
  | .slFma u w => Sys2Proof.Machine.execSlFma u w s
  | .slFmin u w => Sys2Proof.Machine.execSlFmin u w s
  | .slFmax u w => Sys2Proof.Machine.execSlFmax u w s
  | .slFsgn u w => Sys2Proof.Machine.execSlFsgn u w s
  | .slDot2 u w => Sys2Proof.Machine.execSlDot2 u w s
  | .slDot4 u w => Sys2Proof.Machine.execSlDot4 u w s
  | .slCvt u w => Sys2Proof.Machine.execSlCvt u w s
  | .slSbox8 u w => Sys2Proof.Machine.execSlSbox8 u w s
  | .slMixcol u w => Sys2Proof.Machine.execSlMixcol u w s
  | .slRotl32 u w => Sys2Proof.Machine.execSlRotl32 u w s
  | .slClmul32 u w => Sys2Proof.Machine.execSlClmul32 u w s
  | .slLut16 u w => Sys2Proof.Machine.execSlLut16 u w s
  | .slSend u w => Sys2Proof.Machine.execSlSend u w s
  | .slRecv u w => Sys2Proof.Machine.execSlRecv u w s
  | .slLdc u w => Sys2Proof.Machine.execSlLdc u w s
  | .slStc u w => Sys2Proof.Machine.execSlStc u w s
  | .slStc2 u w => Sys2Proof.Machine.execSlStc2 u w s
  | .slLdw u w => Sys2Proof.Machine.execSlLdw u w s
  | .slStw u w => Sys2Proof.Machine.execSlStw u w s
  | .slStw2 u w => Sys2Proof.Machine.execSlStw2 u w s
  | .slAccclr u w => Sys2Proof.Machine.execSlAccclr u w s
  | .slAccadd u w => Sys2Proof.Machine.execSlAccadd u w s
  | .slAccmac u w => Sys2Proof.Machine.execSlAccmac u w s
  | .slAccrd u w => Sys2Proof.Machine.execSlAccrd u w s
  | .slAccwr u w => Sys2Proof.Machine.execSlAccwr u w s
  | .slTpush u w => Sys2Proof.Machine.execSlTpush u w s
  | .mortarAdd unit cycle => Sys2Proof.Machine.execMortarAdd unit cycle s
  | .slDeq u w => Sys2Proof.Machine.execSlDeq u w s
  | .slEnqData u w => Sys2Proof.Machine.execSlEnqData u w s
  | .slEnqOpen u w => Sys2Proof.Machine.execSlEnqOpen u w s
  | .slEnqClose u w => Sys2Proof.Machine.execSlEnqClose u w s
  | .slEnqSingle u w => Sys2Proof.Machine.execSlEnqSingle u w s
  | .slEnqMarker u w => Sys2Proof.Machine.execSlEnqMarker u w s
  | .slQmarkSet u w => Sys2Proof.Machine.execSlQmarkSet u w s
  | .slQmarkRewind u w => Sys2Proof.Machine.execSlQmarkRewind u w s
  | .slQrel u w => Sys2Proof.Machine.execSlQrel u w s
  | .rigReplace rig => Sys2Proof.Machine.execRigReplace rig s
  | .linkDown link => Sys2Proof.Machine.execLinkDown link s
  | .pierDmaStart pier => Sys2Proof.Machine.execPierDmaStart pier s
  | .pierDmaComplete pier => Sys2Proof.Machine.execPierDmaComplete pier s
  | .drainReq ashlar region cycle => Sys2Proof.Machine.execDrainReq ashlar region cycle s
  | .drainCapture rig => Sys2Proof.Machine.execDrainCapture rig s
  | .drainCopyDone rig => Sys2Proof.Machine.execDrainCopyDone rig s
  | .markerMaxClr ashlar => Sys2Proof.Machine.execMarkerMaxClr ashlar s
  | .msOpen cycle => Sys2Proof.Machine.execMsOpen cycle s
  | .msDrop block cycle => Sys2Proof.Machine.execMsDrop block cycle s
  | .msAbort block cycle => Sys2Proof.Machine.execMsAbort block cycle s
  | .msRetire block cycle => Sys2Proof.Machine.execMsRetire block cycle s
  | .msBind block cycle => Sys2Proof.Machine.execMsBind block cycle s
  | .msUnbind cycle => Sys2Proof.Machine.execMsUnbind cycle s
  | .msOutcomeCopy block cycle => Sys2Proof.Machine.execMsOutcomeCopy block cycle s
  | .roundSetupComplete block ingress work => Sys2Proof.Machine.execRoundSetupComplete block ingress work s
  | .dCollect block => Sys2Proof.Machine.execDCollect block s
  | .dClose block => Sys2Proof.Machine.execDClose block s
  | .crewCountExchange block => Sys2Proof.Machine.execCrewCountExchange block s
  | .dClosePlus1024 block => Sys2Proof.Machine.execDClosePlus1024 block s
  | .dRecoverEnd block => Sys2Proof.Machine.execDRecoverEnd block s
  | .dRetire block => Sys2Proof.Machine.execDRetire block s
  | .musterDecision => Sys2Proof.Machine.execMusterDecision s
  | .ingressMove qp => Sys2Proof.Machine.execIngressMove qp s
  | .refusalReportSend qp => Sys2Proof.Machine.execRefusalReportSend qp s
  | .envelopeDecide => Sys2Proof.Machine.execEnvelopeDecide s
  | .envelopeOpen block => Sys2Proof.Machine.execEnvelopeOpen block s
  | .cancellationPlan block => Sys2Proof.Machine.execCancellationPlan block s
  | .secretReconstruct block root slot => Sys2Proof.Machine.execSecretReconstruct block root slot s
  | .termIssue block => Sys2Proof.Machine.execTermIssue block s
  | .noiseDraw block chunk => Sys2Proof.Machine.execNoiseDraw block chunk s
  | .resultWrite block => Sys2Proof.Machine.execResultWrite block s
  | .glweCombine block ct => Sys2Proof.Machine.execGlweCombine block ct s
  | .ciLadd course vaultFault => Sys2Proof.Machine.execCiLadd course vaultFault s
  | .ciLsub course vaultFault => Sys2Proof.Machine.execCiLsub course vaultFault s
  | .ciLneg course vaultFault => Sys2Proof.Machine.execCiLneg course vaultFault s
  | .ciLscale course vaultFault => Sys2Proof.Machine.execCiLscale course vaultFault s
  | .ciLaddc course vaultFault => Sys2Proof.Machine.execCiLaddc course vaultFault s
  | .ciLnot course vaultFault => Sys2Proof.Machine.execCiLnot course vaultFault s
  | .ciRefresh course vaultFault => Sys2Proof.Machine.execCiRefresh course vaultFault s
  | .ciAnd course vaultFault => Sys2Proof.Machine.execCiAnd course vaultFault s
  | .ciOr course vaultFault => Sys2Proof.Machine.execCiOr course vaultFault s
  | .ciXor course vaultFault => Sys2Proof.Machine.execCiXor course vaultFault s
  | .ciNand course vaultFault => Sys2Proof.Machine.execCiNand course vaultFault s
  | .ciNor course vaultFault => Sys2Proof.Machine.execCiNor course vaultFault s
  | .ciXnor course vaultFault => Sys2Proof.Machine.execCiXnor course vaultFault s
  | .ciAndn course vaultFault => Sys2Proof.Machine.execCiAndn course vaultFault s
  | .ciLut2 course vaultFault => Sys2Proof.Machine.execCiLut2 course vaultFault s
  | .ciMux course vaultFault => Sys2Proof.Machine.execCiMux course vaultFault s
  | .ciExtract course vaultFault => Sys2Proof.Machine.execCiExtract course vaultFault s
  | .ciCopy course vaultFault => Sys2Proof.Machine.execCiCopy course vaultFault s
  | .ciKeysetRegister course vaultFault => Sys2Proof.Machine.execCiKeysetRegister course vaultFault s
  | .ciKeysetRelease course vaultFault => Sys2Proof.Machine.execCiKeysetRelease course vaultFault s
  | .ciGlweExportA course vaultFault => Sys2Proof.Machine.execCiGlweExportA course vaultFault s
  | .ciStatus course vaultFault => Sys2Proof.Machine.execCiStatus course vaultFault s
  | .vaultForward course fails => Sys2Proof.Machine.execVaultForward course fails s
  | .vaultInverse course fails => Sys2Proof.Machine.execVaultInverse course fails s
  | .vaultCompletion course cycle => Sys2Proof.Machine.execVaultCompletion course cycle s
  | .vaMtWrite course => Sys2Proof.Machine.execMtWrite course s
  | .vaMtClear course => Sys2Proof.Machine.execMtClear course s
  | .vaMtRead course => Sys2Proof.Machine.execMtRead course s
  | .spConfigure page cycle => Sys2Proof.Machine.execConfigure page cycle s
  | .spFlush page cycle => Sys2Proof.Machine.execFlush page cycle s
  | .spFree page cycle => Sys2Proof.Machine.execFree page cycle s
  | .spillSel page v => Sys2Proof.Machine.execSpillSel page v s
  | .watermarkWrite page high v => Sys2Proof.Machine.execWatermarkWrite page high v s
  | .winDataWrite queue off cycle bytes => Sys2Proof.Machine.execWinDataWrite queue off cycle bytes s
  | .winDataRead queue cycle len => Sys2Proof.Machine.execWinDataRead queue cycle len s
  | .prodData queue cycle => Sys2Proof.Machine.execProdData queue cycle s
  | .prodOpen queue cycle => Sys2Proof.Machine.execProdOpen queue cycle s
  | .prodClose queue cycle => Sys2Proof.Machine.execProdClose queue cycle s
  | .prodSingle queue cycle => Sys2Proof.Machine.execProdSingle queue cycle s
  | .prodMarker queue cycle => Sys2Proof.Machine.execProdMarker queue cycle s
  | .winMark queue cycle => Sys2Proof.Machine.execWinMark queue cycle s
  | .winRewind queue cycle => Sys2Proof.Machine.execWinRewind queue cycle s
  | .winRelease queue cycle => Sys2Proof.Machine.execWinRelease queue cycle s
  | .winNoticeAck queue v => Sys2Proof.Machine.execWinNoticeAck queue v s
  | .ringFetch queue => Sys2Proof.Machine.execRingFetch queue s
  | .doorbellRing queue cycle addrHi header => Sys2Proof.Machine.execDoorbellRing queue cycle addrHi header s
  | .doorbellFetchDone queue cycle data => Sys2Proof.Machine.execDoorbellFetchDone queue cycle data s
  | .rxFrame port len tags prio cls fill corr uncorr fcsOk => Sys2Proof.Machine.execRxFrame port len tags prio cls fill corr uncorr fcsOk s
  | .pfcFrameRx port pause resume => Sys2Proof.Machine.execPfcFrameRx port pause resume s
  | .pfcXoffRefresh port prio fill => Sys2Proof.Machine.execPfcXoffRefresh port prio fill s
  | .pfcStorm port prio => Sys2Proof.Machine.execPfcStorm port prio s
  | .lldpTx port => Sys2Proof.Machine.execLldpTx port s
  | .lldpRx port chassisType chassis portType portId ttl => Sys2Proof.Machine.execLldpRx port chassisType chassis portType portId ttl s
  | .lldpTtlExpiry port => Sys2Proof.Machine.execLldpTtlExpiry port s
  | .ethCfgWrite port v => Sys2Proof.Machine.execEthCfgWrite port v s
  | .ptpEnWrite port v => Sys2Proof.Machine.execPtpEnWrite port v s
  | .beaconTx => Sys2Proof.Machine.execBeaconTx s
  | .beaconRx port mac msg => Sys2Proof.Machine.execBeaconRx port mac msg s
  | .peerSeenTimeout id => Sys2Proof.Machine.execPeerSeenTimeout id s
  | .haForm v => Sys2Proof.Machine.execHaForm v s
  | .haDissolve v => Sys2Proof.Machine.execHaDissolve v s
  | .haHello port cycle msg => Sys2Proof.Machine.execHaHello port cycle msg s
  | .haAttest port cycle msg aliasKey => Sys2Proof.Machine.execHaAttest port cycle msg aliasKey s
  | .haConfirm port cycle msg => Sys2Proof.Machine.execHaConfirm port cycle msg s
  | .haReport port cycle msg => Sys2Proof.Machine.execHaReport port cycle msg s
  | .haRoster port cycle msg => Sys2Proof.Machine.execHaRoster port cycle msg s
  | .haRosterAck port cycle msg => Sys2Proof.Machine.execHaRosterAck port cycle msg s
  | .haRefuse port cycle msg => Sys2Proof.Machine.execHaRefuse port cycle msg s
  | .haLeave port cycle msg => Sys2Proof.Machine.execHaLeave port cycle msg s
  | .memberLost id => Sys2Proof.Machine.execMemberLost id s
  | .formationTimeout => Sys2Proof.Machine.execFormationTimeout s
  | .haDecision pos msg => Sys2Proof.Machine.execDecision pos msg s
  | .haDecisionAck pos msg => Sys2Proof.Machine.execDecisionAck pos msg s
  | .haDecisionResend block => Sys2Proof.Machine.execDecisionResend block s
  | .haDecisionApply block => Sys2Proof.Machine.execDecisionApply block s
  | .haDropSlots pos msg => Sys2Proof.Machine.execDropSlots pos msg s
  | .haCounts pos msg => Sys2Proof.Machine.execCounts pos msg s
  | .haStatuses pos msg => Sys2Proof.Machine.execStatuses pos msg s
  | .haDigest pos msg => Sys2Proof.Machine.execDigest pos msg s
  | .haFaultReport pos msg => Sys2Proof.Machine.execFaultReport pos msg s
  | .haShares pos msg => Sys2Proof.Machine.execShares pos msg s
  | .haTerms pos msg => Sys2Proof.Machine.execTerms pos msg s
  | .haChunkSets pos msg => Sys2Proof.Machine.execChunkSets pos msg s
  | .haRetractions pos msg => Sys2Proof.Machine.execRetractions pos msg s
  | .haDone pos msg => Sys2Proof.Machine.execDone pos msg s
  | .hyQpCreate => Sys2Proof.Machine.execHyQpCreate s
  | .hyQpModify => Sys2Proof.Machine.execHyQpModify s
  | .hyQpDestroy => Sys2Proof.Machine.execHyQpDestroy s
  | .hyQpQuery => Sys2Proof.Machine.execHyQpQuery s
  | .hyRegister => Sys2Proof.Machine.execHyRegister s
  | .hyDeregister => Sys2Proof.Machine.execHyDeregister s
  | .hyPdAlloc => Sys2Proof.Machine.execHyPdAlloc s
  | .hyPdFree => Sys2Proof.Machine.execHyPdFree s
  | .hyOdpResolve => Sys2Proof.Machine.execHyOdpResolve s
  | .hyOdpInvalidate => Sys2Proof.Machine.execHyOdpInvalidate s
  | .hyGidSet => Sys2Proof.Machine.execHyGidSet s
  | .hyOdpPop => Sys2Proof.Machine.execHyOdpPop s
  | .hyOdpTimeout qp => Sys2Proof.Machine.execHyOdpTimeout qp s
  | .wrSend qp cycle pages host => Sys2Proof.Machine.execWrSend qp cycle pages host s
  | .wrSendImm qp cycle pages host => Sys2Proof.Machine.execWrSendImm qp cycle pages host s
  | .wrWrite qp cycle pages host => Sys2Proof.Machine.execWrWrite qp cycle pages host s
  | .wrWriteImm qp cycle pages host => Sys2Proof.Machine.execWrWriteImm qp cycle pages host s
  | .wrRead qp cycle pages host => Sys2Proof.Machine.execWrRead qp cycle pages host s
  | .wrFetchAdd qp cycle pages host => Sys2Proof.Machine.execWrFetchAdd qp cycle pages host s
  | .wrCmpSwap qp cycle pages host => Sys2Proof.Machine.execWrCmpSwap qp cycle pages host s
  | .wrAccWrite qp cycle pages host => Sys2Proof.Machine.execWrAccWrite qp cycle pages host s
  | .wrAccWriteImm qp cycle pages host => Sys2Proof.Machine.execWrAccWriteImm qp cycle pages host s
  | .rxSendPacket p cycle => Sys2Proof.Machine.execRxSendPacket p cycle s
  | .rxWritePacket p cycle => Sys2Proof.Machine.execRxWritePacket p cycle s
  | .rxReadRequest p cycle => Sys2Proof.Machine.execRxReadRequest p cycle s
  | .rxAtomic p cycle => Sys2Proof.Machine.execRxAtomic p cycle s
  | .rxAccWritePacket p cycle => Sys2Proof.Machine.execRxAccWritePacket p cycle s
  | .rxSprayPacket p cycle => Sys2Proof.Machine.execRxSprayPacket p cycle s
  | .rxUdSend p cycle => Sys2Proof.Machine.execRxUdSend p cycle s
  | .rxAck p => Sys2Proof.Machine.execRxAck p s
  | .rxNak p kind => Sys2Proof.Machine.execRxNak p kind s
  | .rxReadResponse p => Sys2Proof.Machine.execRxReadResponse p s
  | .rxCnp p => Sys2Proof.Machine.execRxCnp p s
  | .sprayAck p => Sys2Proof.Machine.execSprayAck p s
  | .spraySnak p => Sys2Proof.Machine.execSpraySnak p s
  | .spraySnakTimer qp base cycle => Sys2Proof.Machine.execSpraySnakTimer qp base cycle s
  | .ackTimeout qp => Sys2Proof.Machine.execAckTimeout qp s
  | .rnrTimer qp => Sys2Proof.Machine.execRnrTimer qp s
  | .rateIncrease qp => Sys2Proof.Machine.execRateIncrease qp s
  | .kpTakeOwnership => Sys2Proof.Machine.execKpTakeOwnership s
  | .kpRotate => Sys2Proof.Machine.execKpRotate s
  | .kpSetAuthority => Sys2Proof.Machine.execKpSetAuthority s
  | .kpSetDebugKey => Sys2Proof.Machine.execKpSetDebugKey s
  | .kpSeal => Sys2Proof.Machine.execKpSeal s
  | .kpUnseal => Sys2Proof.Machine.execKpUnseal s
  | .kpReturn => Sys2Proof.Machine.execKpReturn s
  | .kpScrap => Sys2Proof.Machine.execKpScrap s
  | .kpGenerate => Sys2Proof.Machine.execKpGenerate s
  | .kpImportSealed => Sys2Proof.Machine.execKpImportSealed s
  | .kpImportClear => Sys2Proof.Machine.execKpImportClear s
  | .kpLoad slot => Sys2Proof.Machine.execKpLoad slot s
  | .kpUnload slot => Sys2Proof.Machine.execKpUnload slot s
  | .kpKeyRequest slot dest use round => Sys2Proof.Machine.execKpKeyRequest slot dest use round s
  | .tamperAlarm sensor held => Sys2Proof.Machine.execTamperAlarm sensor held s
  | .boClaim cycle => Sys2Proof.Machine.execBoClaim cycle s
  | .claimComplete reserve => Sys2Proof.Machine.execClaimComplete reserve s
  | .boRelease cycle => Sys2Proof.Machine.execBoRelease cycle s
  | .scrubDone => Sys2Proof.Machine.execScrubDone s
  | .boAttest => Sys2Proof.Machine.execBoAttest s
  | .boRegionAlloc => Sys2Proof.Machine.execBoRegionAlloc s
  | .boRegionFree => Sys2Proof.Machine.execBoRegionFree s
  | .boRigLoad => Sys2Proof.Machine.execBoRigLoad s
  | .boRigUnload cycle => Sys2Proof.Machine.execBoRigUnload cycle s
  | .boFnLoad => Sys2Proof.Machine.execBoFnLoad s
  | .boFnUnload cycle => Sys2Proof.Machine.execBoFnUnload cycle s
  | .boHostCopy => Sys2Proof.Machine.execBoHostCopy s
  | .boFwStage => Sys2Proof.Machine.execBoFwStage s
  | .fwProgramDone ok => Sys2Proof.Machine.execFwProgramDone ok s
  | .boFwActivate => Sys2Proof.Machine.execBoFwActivate s
  | .boFenceMapRead => Sys2Proof.Machine.execBoFenceMapRead s
  | .boExport slot src len dst label cookie => Sys2Proof.Machine.execBoExport slot src len dst label cookie s
  | .boImport slot src dst cookie => Sys2Proof.Machine.execBoImport slot src dst cookie s
  | .warmReset => Sys2Proof.Machine.execWarmReset s
  | .porReset => Sys2Proof.Machine.execPorReset s
  | .bosunWatchdog => Sys2Proof.Machine.execBosunWatchdog s
  | .inputInRange absent flashWp => Sys2Proof.Machine.execInputInRange absent flashWp s
  | .inputOutOfRange progress => Sys2Proof.Machine.execInputOutOfRange progress s
  | .memtestDone cores stores blocks => Sys2Proof.Machine.execMemtestDone cores stores blocks s
  | .initDone => Sys2Proof.Machine.execInitDone s
  | .fwLoadDone badA badB => Sys2Proof.Machine.execFwLoadDone badA badB s
  | .ready => Sys2Proof.Machine.execReady s
  | .slotCheck => Sys2Proof.Machine.execSlotCheck s
  | .perst pin => Sys2Proof.Machine.execPerst pin s
  | .retrain v => Sys2Proof.Machine.execRetrain v s
  | .bar2BaseWrite v => Sys2Proof.Machine.execBar2BaseWrite v s
  | .bar2Access offset cycle len data => Sys2Proof.Machine.execBar2Access offset cycle len data s
  | .tlpError e => Sys2Proof.Machine.execTlpError e s
  | .msixSend vector => Sys2Proof.Machine.execMsixSend vector s
  | .evtLatchWrite page index off v => Sys2Proof.Machine.execEvtLatchWrite page index off v s
  | .softReset page index => Sys2Proof.Machine.execSoftReset page index s
  | .errClr page index => Sys2Proof.Machine.execErrClr page index s
  | .pageLock page index => Sys2Proof.Machine.execPageLock page index s
  | .tempMaxClr stack => Sys2Proof.Machine.execTempMaxClr stack s
  | .queueMaxClr stack => Sys2Proof.Machine.execQueueMaxClr stack s
  | .registerWrite bar addr len cycle v => Sys2Proof.Machine.execRegisterWrite bar addr len cycle v s
  | .patrolScrub word delta => Sys2Proof.Machine.execPatrolScrub word delta s
  | .reefLatencyTol v => Sys2Proof.Machine.execReefLatencyTol v s
  | .reefExitDone badA badB => Sys2Proof.Machine.execReefExitDone badA badB s
  | .pwrBrakeAssert => Sys2Proof.Machine.execPwrBrakeAssert s
  | .pwrBrakeRelease => Sys2Proof.Machine.execPwrBrakeRelease s
  | .powerLimit watts average volts amps rested => Sys2Proof.Machine.execPowerLimit watts average volts amps rested s
  | .thermalReading sensor value rested => Sys2Proof.Machine.execThermalReading sensor value rested s
  | .thermalTrip sensor value => Sys2Proof.Machine.execThermalTrip sensor value s
  | .fatal code => Sys2Proof.Machine.execFatal code s
  | .smbusRead access => Sys2Proof.Machine.execSmbusRead access s
  | .tapTrst low => Sys2Proof.Machine.execTapTrst low s
  | .tapExtest cells => Sys2Proof.Machine.execTapExtest cells s
  | .tapSamplePreload cells => Sys2Proof.Machine.execTapSamplePreload cells s
  | .tapIdcode => Sys2Proof.Machine.execTapIdcode s
  | .tapClamp => Sys2Proof.Machine.execTapClamp s
  | .tapHighz => Sys2Proof.Machine.execTapHighz s
  | .tapBypass => Sys2Proof.Machine.execTapBypass s
  | .ttDbgRead addr reserved => Sys2Proof.Machine.execTtDbgRead addr reserved s
  | .ttDbgWrite addr reserved cycle v => Sys2Proof.Machine.execTtDbgWrite addr reserved cycle v s
  | .ttDbgNop addr reserved => Sys2Proof.Machine.execTtDbgNop addr reserved s
  | .ttSessionOpen => Sys2Proof.Machine.execTtSessionOpen s
  | .ttSessionClose => Sys2Proof.Machine.execTtSessionClose s
  | .ttHalt force cycle => Sys2Proof.Machine.execTtHalt force cycle s
  | .ttResume => Sys2Proof.Machine.execTtResume s
  | .ttStep => Sys2Proof.Machine.execTtStep s
  | .ttUnlock => Sys2Proof.Machine.execTtUnlock s
  | .ttIsoClr => Sys2Proof.Machine.execTtIsoClr s
  | .ttIsoStep cycles mismatch => Sys2Proof.Machine.execTtIsoStep cycles mismatch s
  | .ttMemRead => Sys2Proof.Machine.execTtMemRead s
  | .ttMemWrite => Sys2Proof.Machine.execTtMemWrite s
  | .commandCompletion page x => Sys2Proof.Machine.execCommandCompletion page x s
  | .ciCompletion => Sys2Proof.Machine.execCiCompletion s
  | .weightsIoCompletion => Sys2Proof.Machine.execWeightsIoCompletion s
  | .syncModeWrite v => Sys2Proof.Machine.execSyncModeWrite v s
  | .maxStateWrite v => Sys2Proof.Machine.execMaxStateWrite v s
  | .ethLinkDown port => Sys2Proof.Machine.execEthLinkDown port s
  | .ethLinkUp port => Sys2Proof.Machine.execEthLinkUp port s
  | .pcieLinkUp gen width flit => Sys2Proof.Machine.execPcieLinkUp gen width flit s
  | .configWrite w => Sys2Proof.Machine.execConfigWrite w s
  | .msixUnmask vector addr data masked => Sys2Proof.Machine.execMsixUnmask vector addr data masked s
  | .completionTimeout who => Sys2Proof.Machine.execCompletionTimeout who s
  | .pfcPauseExpiry port prio => Sys2Proof.Machine.execPfcPauseExpiry port prio s
  | .fenceRecordWrite => Sys2Proof.Machine.execFenceRecordWrite s
  | .lifetimeTotalsWrite => Sys2Proof.Machine.execLifetimeTotalsWrite s
  | .heartbeatAdvance => Sys2Proof.Machine.execHeartbeatAdvance s
  | .registerRead bar addr len cycle => Sys2Proof.Machine.execRegisterRead bar addr len cycle s

end Sys2Proof.Machine
end

