-- ==== Sys2Proof/Safety.lean ====
section
/-!
DEFINITION. What counts as a safe run, in the terms that claims use: the canonical forms that every state keeps, the fuses that
no step unburns, the conditions under which a slot issues, and what a landing command leaves.
-/

namespace Sys2Proof.Machine

/-- Memory, the check symbols and the register file are in canonical form: equal contents are equal data. -/
def State.canonical (s : State) : Prop :=
  Memory.wf s.mem = true ∧ NMap.wf (0 : W32) s.ecc = true

/-- Every fuse burned in `f` is burned in `g`, and COUNTER has not fallen (14 R540). -/
def Fuses.kept (f g : Fuses) : Prop :=
  f.counter ≤ g.counter ∧ (f.returned → g.returned) ∧ (f.sealedKill → g.sealedKill) ∧ (f.scrapped → g.scrapped) ∧
  (f.factoryDisable → g.factoryDisable) ∧ (∀ r, f.factoryRoot = some r → g.factoryRoot = some r) ∧
  (∀ r, f.returnRoot = some r → g.returnRoot = some r) ∧ (∀ r, f.ownerRoot = some r → g.ownerRoot = some r) ∧
  (∀ r, f.sealedRoot = some r → g.sealedRoot = some r)

/-- A step that neither faults nor is refused. -/
def State.runs (s : State) : Prop := ∃ t, step s = .next t

/-! ### Slots -/

/-- Key of the core that issues a slot. -/
def slotKey (u : Issue) : Nat := coreKey u.rig u.ord u.pos

/-- The core that issues a slot, before it does. -/
def State.slotCore (s : State) (u : Issue) : Core := s.core (slotKey u)

/-- The slot is a valid word of a rig `r` and runs: its core exists and issues in this stroke (04 R181, R182), and the residue check
finds nothing (04 R167). -/
abbrev Issues (s : State) (u : Issue) (op : Op) (w : Slot) (r : Rig) : Prop :=
  s.rig? u.rig = some r ∧ r.hasCore u = true ∧ slotOk op w = true ∧ slotFits w = true ∧ rigSlotOk r op w = true ∧
  r.coreLive u (s.slotCore u) = true ∧ (hasResidue op = true → u.resOk = true)

/-- The state in which the slot takes effect: time stands at its cycle, and Telltale's comparators have seen the issue (19 R691). -/
def State.issued (s : State) (u : Issue) (r : Rig) : State := (s.atCycle u.cycle).slotIssued r u (s.slotCore u)

/-- Every issue of the slot answers a next state, in which the issuing core is `f` of what it was, moved on to its next slot, and
nothing else of the issued state has changed. -/
def SlotGives (i : Issue → Slot → Instr) (op : Op) (f : Issue → Slot → Rig → Core → Core) : Prop :=
  ∀ (u : Issue) (w : Slot) (s : State) (r : Rig), Issues s u op w r →
    exec (i u w) s = .next ((s.issued u r).setCore (slotKey u) (f u w r (s.slotCore u)).next)

/-- DST after a float operation `f` on every element of a lane: two BF16 elements, or one F32 (04 R169, R187). -/
def fltLanes (c : Core) (w : Slot) (f : FFmt → Nat → Nat → Nat → Nat) : Core :=
  c.writeLanes w fun i =>
    if w.fmt = 6 then
      f bf16 (c.opA w i % 2 ^ 16) (c.opB w i % 2 ^ 16) (c.opC w i % 2 ^ 16) +
      2 ^ 16 * f bf16 (c.opA w i / 2 ^ 16) (c.opB w i / 2 ^ 16) (c.opC w i / 2 ^ 16)
    else f f32 (c.opA w i) (c.opB w i) (c.opC w i)

/-- A store of `n` bytes, 16 or 32, from register SRCA on to the bytes at `base` (04 R170, R192, R197): the bytes of the lanes that
pass hold the registers' bytes, every other word is as it was, and so is the rest of a clean word that no bed holds. -/
def StoresAt (s t : State) (c : Core) (w : Slot) (base n : Nat) : Prop :=
  (∀ a, a / 32 ≠ base / 32 → memGet t.mem a = memGet s.mem a) ∧
  (∀ j, j < n → c.laneOn w (j % 16 / 4) = true →
    memGet t.mem (base + j) = BitVec.ofNat 8 (c.g128 (w.srca + j / 16) / 2 ^ (8 * (j % 16)))) ∧
  (s.ecc.get 0 (base / 32) = 0 → s.bedComm (base / 32) = none →
    ∀ a, a / 32 = base / 32 → ¬ (base ≤ a ∧ a < base + n ∧ c.laneOn w ((a - base) % 16 / 4) = true) →
      memGet t.mem a = memGet s.mem a)

/-- The two states agree but for the fabric, the cores, the registers, memory with its check symbols, the debug port, the cycle,
pending vectors, held errors and what was sent. -/
def SameOutside (s t : State) : Prop :=
  t = { s with
    regs := t.regs, captHeld := t.captHeld, mem := t.mem, ecc := t.ecc, fabric := t.fabric, cores := t.cores, tt := t.tt, out := t.out
    stroke := { s.stroke with cycle := t.stroke.cycle }, pcie := { s.pcie with pba := t.pcie.pba } }

/-- A core of the rig may put a word to the queue that the slot names: the predicate passes, and PER_STROKE is not used up (04
R202). -/
def MayEnqueue (s : State) (u : Issue) (w : Slot) (r : Rig) (b : RigQueue) : Prop :=
  (s.slotCore u).wholeOn w = true ∧ r.queues[w.qreg]? = some b ∧ b.putCount < b.perStroke

/-- A word was put: the logical queue counts it, the core has its answer in P[PDST] and moves on, and memory stands. -/
def Enqueued (s t : State) (u : Issue) (w : Slot) (r : Rig) : Prop :=
  t.rig? u.rig = some (r.put w.qreg) ∧ t.mem = s.mem ∧
  t.cores = s.cores.put {} (slotKey u) ((s.slotCore u).setPred w.pdst
    (((List.range 4).filter ((s.slotCore u).laneOn w)).map fun i => (i, true))).next

/-- A word of memory is clean, and no bed holds a committed value of it. -/
def State.plainWord (s : State) (w : Nat) : Prop := s.ecc.get 0 w = 0 ∧ s.bedComm w = none

/-! ### The stroke -/

/-- Nothing but rigs that use no queue is at work: no round, no packet, no queue, no command that waits for the commit, no halt, and no
reef state below Reef-0. The stroke is not gated. -/
structure Calm (s : State) : Prop where
  generating : s.generating = true
  gated : s.gated = false
  halt : s.tt.haltAt = none
  unlock : s.tt.unlockAt = none
  comparators : ∀ b, b < 16 → s.bpArmed b 0 = false
  queues : s.spill = {}
  rounds : s.rounds = {}
  net : s.net = {}
  spillCmd : s.spillCmd = []
  muster : s.muster.busy = false
  bosun : s.bosun.busy = false
  modTable : s.mtCmd.busy = false
  alarm : s.stroke.alarmOn = false
  stretch : s.stroke.stretchPending = false
  next : s.stroke.nextStroke = none
  faults : s.stroke.strokeFaults = []
  adds : s.fabric.adds = []
  beds : s.fabric.bed = []
  rigs : ∀ e ∈ s.fabric.rigs, e.2.queues = [] ∧ e.2.drain = {} ∧ e.2.vaultBroken = false
  reef : s.reef = {}
  maxState : s.reg .reef 0 0x44 = 0

/-- Every core of a rig that ran starts the next stroke (04 R163): its working accumulators committed, or taken back to the shadows. -/
def restarted (s : State) (commit : Bool) : NMap Core :=
  (s.cores.map fun e => if (s.rig? (e.1 / (8192 * 64))).any (·.active) then (e.1, e.2.restart commit) else e).filter
    fun e => decide (e.2 ≠ {})

/-! ### Accesses and landing commands -/

/-- A host access to a page takes effect at once: the function is not in D3hot, the page is in service, and the module is not in bare
poles (16 R593, R599, 17 R640). -/
abbrev Takes (s : State) (p : Page) : Prop := s.pcie.d3hot = false ∧ s.serves p = true ∧ s.reef.level ≠ 4

/-- The state after the wake event of an access to a page (17 R639). -/
def State.woken (s : State) (p : Page) : State := if quietPage p then s else s.wake 2 2 4

/-- The stroke at whose commit a command that lands at `cycle` takes effect (01 R36). -/
def effAt (s : State) (cycle : Nat) : Nat := if cycle < 1920 then s.stroke.now else s.stroke.now + 1

/-- The generator counts cycles: it runs and is not held. -/
abbrev Clocked (s : State) : Prop := s.tt.halted = false ∧ s.stroke.running = true

/-- Memory, the cores, the fabric and the queues stand. -/
def FabricStands (s t : State) : Prop :=
  t.mem = s.mem ∧ t.ecc = s.ecc ∧ t.cores = s.cores ∧ t.fabric = s.fabric ∧ t.spill = s.spill

/-- A MUSTER command has landed: it is in progress, for the commit that its cycle gives (01 R36), with its argument and address. -/
def MusterLanded (s t : State) (op blk cycle : Nat) : Prop :=
  t.muster.busy = true ∧ t.muster.op = op ∧ t.muster.sub = blk ∧ t.muster.eff = effAt s cycle ∧
  t.muster.args = [BitVec.ofNat 32 s.musterArg, BitVec.ofNat 32 s.musterAddr, BitVec.ofNat 32 (s.musterAddr / 2 ^ 32)] ∧
  t.cores = s.cores ∧ t.fabric = s.fabric ∧ t.ten = s.ten ∧ t.keep = s.keep

/-- A carriage message of KIND `kind` from the member at `pos` passes the checks of 07 R307, for the live round in block `b`, with its
records; `u` is the state in which it takes effect. -/
def Carried (s u : State) (pos kind b : Nat) (msg : List Byte) (recs : List (List Byte)) : Prop :=
  pos < s.net.hail.members.length ∧ pos ≠ s.net.hail.pos ∧ ∃ round body, s.carryOpen pos msg = (some (kind, round, body), u) ∧
    u.blockOf round = some b ∧ recs = chunksOf (body.length + 1) ((carryRecord kind).getD 1) body

/-! ### Requests of the engines -/

/-- A Plinth unit writes a packet of the given payload words: held for the next cycle 0 from cycle 2,016 on (10 R390), and at once
otherwise, where no packet is open and the queue has room (10 R387, R388). -/
def UnitPut (s t : State) (n : Nat) (p : Producer) (words : List W256) : Prop :=
  (s.holding = true → t.spill.held = s.spill.held ++ [.item n p words 0 0 0]) ∧
  (s.holding = false → (s.queue n).openItem = none → (s.queue n).flushed = [] →
    (s.queue n).level + words.length + 1 ≤ (s.queue n).cap →
    (t.queue n).items = (s.queue n).items ++ [{
      kind := .packet, src := p, closed := true, complete := true, stroke := s.stroke.now
      words := { w := ctrlWord 2 words.length 0 p.code 0 s.stroke.now 0 0 } :: words.map fun w => { w := tagWord 1 w } }])

/-- A rig of CIPHER on the Course runs, and request `r` of operation `op` is at the head of the engine's queue (08 R321, R322). -/
def CipherStarts (s : State) (op course : Nat) (r : CReq) : Prop :=
  course < 96 ∧ s.cipher.loaded = true ∧ s.enginesStart = true ∧ r.op = op ∧
  (∃ e, s.cipherRig course = some e ∧ e.2.running = true ∧ e.2.vaultBroken = false) ∧
  ∃ i, s.cipherHead = some i ∧ i.kind = .packet ∧ i.hasBad = false ∧ parseReq i = r

/-- The state in which the engine performs the request at the head of its queue. -/
def State.cipherTaken (s : State) : State := s.dropHead s.cipher.reqQueue

/-- Header of the first input. -/
def hdr0 (os : List Obj) : ObjHdr := (os.map (·.h)).headD (parseHdr [])

/-- Header of OUT, but for its level: an LWE object, or for EXTRACT an LWE_BIG object, that is neither poisoned nor sealed. -/
def outHdr (op : Nat) (os : List Obj) : ObjHdr :=
  { hdr0 os with
    typ := if op = 0x1A then 2 else 1, len := objLen (hdr0 os).param (if op = 0x1A then 2 else 1) (hdr0 os).len, flags := 0 }

/-- Request `r` is well formed, its inputs `os` are clean unsealed objects of one key set and type, OUT is apart from them outside the
sealed area, the key set is registered, and the level test passes (08 R322 to R326, R332). -/
structure LweReady (v : State) (r : CReq) (o : COp) (os : List Obj) : Prop where
  form : r.formOk = true
  row : cOp r.op = some o
  inputs : ∀ a ∈ [r.in0, r.in1, r.in2].take o.inputs, v.objRange a 32 = true
  reads : v.readObjs ([r.in0, r.in1, r.in2].take o.inputs) = (os, v)
  types : ∀ x ∈ os, (hdr0 os).typeOk x.h o = true
  clean : ∀ x ∈ os, x.poison = false ∧ x.h.flags.testBit 1 = false
  width : r.widthOk (hdr0 os).w = true
  ranges : ∀ e ∈ ([r.in0, r.in1, r.in2].take o.inputs).zip (os.map (·.h)),
    v.objRange e.1 (32 + objLen e.2.param e.2.typ 0) = true ∧
    ¬ (e.1 < r.out + (32 + (outHdr r.op os).len) ∧ r.out < e.1 + (32 + objLen e.2.param e.2.typ 0))
  out : v.objRange r.out (32 + (outHdr r.op os).len) = true ∧ v.inSealedArea r.out (32 + (outHdr r.op os).len) = false
  keys : ∃ k b, v.cipher.keySets.find? (hdr0 os).ksid = some k ∧ bitSet (hdr0 os).param = some b ∧ k.hasKeys r.op = true ∧
    testLevel r.op r.c (lv os 0) (lv os 1) (lv os 2) ≤ b.levelMax

/-- OUT is written with its level and body, and the completion waits with status 0 (08 R323, R325). -/
def State.lweDone (u : State) (r : CReq) (os : List Obj) (body : List Nat) (refreshes : Nat) : State :=
  let level := resultLevel r.op r.c (lv os 0) (lv os 1) (lv os 2)
  (u.writeBytes 1 r.out (({ outHdr r.op os with level := level } : ObjHdr).bytes ++ body.flatMap (toLe 4))).cipherDone r 0 level refreshes

/-- A linear operation writes `f` of the message width, C and the bodies of its inputs. -/
def LinearGives (i : Nat → Bool → Instr) (op : Nat) (f : Nat → Int → List Nat → List Nat → List Nat) : Prop :=
  ∀ (s : State) (course : Nat) (vf : Bool) (r : CReq) (o : COp) (os : List Obj), CipherStarts s op course r →
    LweReady s.cipherTaken r o os →
    exec (i course vf) s = .next (s.cipherTaken.lweDone r os (f (hdr0 os).w r.c (bodyOf os 0) (bodyOf os 1)) 0)

/-- A refresh has ended: its body is written, or OUT is poisoned with the status of the failure, after `n` refreshes before it (08
R324, R332). -/
def lweEnd (x : RefreshRes × State) (r : CReq) (os : List Obj) (n : Nat) (f : List Nat → List Nat) : State :=
  match x.1 with
  | .ok body => x.2.lweDone r os (f body) (n + 1)
  | .failed e => x.2.poisonOut r (outHdr r.op os) e n

/-- An operation writes what one refresh makes of the linear step `f`, with a fixed table, or LUT where `table` is none. -/
def RefreshGives (i : Nat → Bool → Instr) (op : Nat) (table : Option Nat) (f : Nat → List Nat → List Nat → List Nat) : Prop :=
  ∀ (s : State) (course : Nat) (vf : Bool) (r : CReq) (o : COp) (os : List Obj), CipherStarts s op course r →
    LweReady s.cipherTaken r o os →
    exec (i course vf) s = .next (lweEnd
      (s.cipherTaken.refresh ⟨course, vf⟩ (hdr0 os) (f (hdr0 os).w (bodyOf os 0) (bodyOf os 1)) (table.getD r.lut) (decide (op = 0x1A)))
      r os 0 id)

/-! ### Queues -/

/-- The host windows are reachable, and `n` is one of the queues (16 R599). -/
abbrev WinOpen (s : State) (n : Nat) : Prop := n < 16384 ∧ s.pcie.d3hot = false ∧ s.inService = true

/-- The state in which a window access takes effect: its cycle, and the wake event of a window (17 R639). -/
def State.windowed (s : State) (cycle : Nat) : State := (s.atCycle cycle).wake 3 2 4

/-- The queue may be opened by a producer: no packet is open, and no close is due after a flush (10 R389, R405). -/
def Queue.unopened (q : Queue) : Prop := q.openItem = none ∧ q.flushed = []

/-! ### Hail -/

/-- A well-formed Hail datagram of a type arrives in a cycle on a port that Hail runs on, from the module `id` (11 R430). -/
abbrev HailGiven (s : State) (port typ cycle : Nat) (m : List Byte) (id : Nat) : Prop :=
  port < 8 ∧ cycle < 2048 ∧ s.hailPort port = true ∧ hailBad m = false ∧ leAt m 5 1 = typ ∧ leAt m 8 8 = id

/-- A crew of this module loses a member that was not lost before (11 R443). -/
abbrev LosesMember (s : State) (id : Nat) : Prop :=
  s.hail.phase = .crew ∧ id ∈ s.hail.members ∧ id ≠ s.moduleId ∧ (s.peer id).lost = false

/-! ### Halyard -/

/-- A work request of operation `op` is at the head of the SQ of a connected queue pair that may send it, its two words are `a` and `b`,
and `data` are the bytes it sends from module memory (12 R468 to R470, R476, R488). -/
structure WrReady (s : State) (i op cycle : Nat) (a b : Nat) (data : List Byte) : Prop where
  slot : i < 66560
  live : (s.qp i).live = true ∧ (s.qp i).bound = true ∧ (s.qp i).ud = false ∧ (s.qp i).state = .rts
  sends : s.quiet = false ∧ s.wrHeld (s.qp i) a = false ∧ wrOk (s.qp i) a b = true
  head : ∃ it, s.headWr (s.qp i).sq = some it ∧ it.kind = .packet ∧ it.words.length = 3 ∧ it.words.any (·.bad) = false ∧
    wrWords it = (a, b)
  code : bits a 0 8 = op
  inOrder : ∀ r, (s.qp i).sent.head? = some r → r.done = none
  source : (bits a 120 32 = 0 ∧ data = []) ∨
    (bits a 120 32 ≠ 0 ∧ ∃ k off, k.host = false ∧ s.checkKey (s.qp i) (bits a 24 32)
      (if 2 ≤ reqKind op ∧ reqKind op ≤ 4 then .localWrite else .local) (bits a 56 64) (bits a 120 32) 1 = .ok k off ∧
      if 2 ≤ reqKind op ∧ reqKind op ≤ 4 then data = []
      else (s.atCycle cycle).readBytes 5 (k.start + off) (bits a 120 32) = (data, false, s.atCycle cycle))

/-- Packet `k` of request `r` of queue pair `i`, with its share of the payload (12 R460, R490, R492). -/
def State.packetOf (s : State) (i : Nat) (r : SentReq) (data : List Byte) (k : Nat) : Out :=
  .rdma (s.qp i).dest (bthOp r.op r.spray k r.span) (psnAdd r.first k) (r.fields k)
    (if r.carries then (data.drop (k * (s.qp i).pmtu)).take (s.qp i).pmtu else [])

/-- A work-request row takes the request and sends it: its packets leave, it waits for its response, and the next PSN follows its last. -/
def WrGives (c : Nat → Nat → List (Nat × Nat) → List Byte → Instr) (op : Nat) : Prop :=
  ∀ (s : State) (i cycle a b : Nat) (pages : List (Nat × Nat)) (host data : List Byte), WrReady s i op cycle a b data →
    ∃ t, exec (c i cycle pages host) s = .next t ∧ t.mem = s.mem ∧ t.cores = s.cores ∧
      (t.qp i).sent = (s.qp i).sent ++ [sentOf (s.qp i) a b []] ∧
      (t.qp i).nextPsn = psnAdd (sentOf (s.qp i) a b []).last 1 ∧
      ∀ k, k < (if reqKind op = 2 then 1 else (sentOf (s.qp i) a b []).span) →
        s.packetOf i (sentOf (s.qp i) a b []) data k ∈ t.out

/-- A packet reaches live queue pair `i` (12 R462, R464); it is not marked CE. -/
structure Reaches (s : State) (p : Packet) (i : Nat) : Prop where
  serving : s.inService = true ∧ s.ten.claimed = true
  named : p.qpn ≠ 1 ∧ s.qpOf p.qpn = some (i, s.qp i)
  unmarked : p.ce = false

/-- Queue pair `i` in RTS waits for the answer to one request `r`, of which nothing is acknowledged (12 R470, R486). -/
structure Waits (s : State) (i : Nat) (r : SentReq) : Prop where
  slot : i < 66560
  state : (s.qp i).state = .rts ∧ (s.qp i).ud = false
  one : (s.qp i).sent = [r] ∧ r.done = none
  first : (s.qp i).una = r.first

/-- A response reaches queue pair `i`, which waits for the answer to a signalled request `r` whose PSNs end the ones sent. -/
structure Awaits (s : State) (p : Packet) (i : Nat) (r : SentReq) : Prop where
  reach : Reaches s p i
  waits : Waits s i r
  signaled : r.own = false ∧ r.signaled = true
  span : r.span < 2 ^ 23 ∧ psnSub (s.qp i).nextPsn r.first = r.span

/-- Request `r` is complete: nothing is outstanding, and its completion with a status of 0 goes to the CQ (12 R470). -/
def Completed (s t : State) (i : Nat) (r : SentReq) : Prop :=
  (t.qp i).sent = [] ∧
    UnitPut s t (s.qp i).cq (.halyard ((s.qp i).qpn i)) [cqWord r.wrId 0 r.op ((s.qp i).qpn i) r.len s.stroke.now]

/-- Every packet of `r` has been sent again, and HALYARD counts them (12 R486). -/
def Resent (s t : State) (i : Nat) (r : SentReq) : Prop :=
  (∀ k, k < r.span → s.packetOf i r (s.resendData i r) k ∈ t.out) ∧
    t.reg .halyard 0 0x15C = satAdd (s.reg .halyard 0 0x15C) r.span

/-- A request packet lands on queue pair `i` (12 R464, R477, R485): the stroke is not closing, and nothing makes the queue pair answer
RNR. -/
structure Lands (s : State) (p : Packet) (i cycle : Nat) : Prop where
  reach : Reaches s p i
  state : (s.qp i).state = .rtr ∨ (s.qp i).state = .rts
  time : (s.atCycle cycle).holding = false
  takes : s.stroke.running = true ∧ s.tt.halted = false ∧ s.reef.level < 3 ∧ (s.qp i).stall = none

/-- The reliable packet is the expected one, between messages (12 R478). -/
abbrev Expected (s : State) (p : Packet) (i : Nat) : Prop :=
  (s.qp i).ud = false ∧ (s.qp i).rx = none ∧ (s.qp i).ackPend = none ∧ p.psn < psnMod ∧ p.psn = (s.qp i).expPsn

/-- The packet is taken: E passes it, and its acknowledgement waits for cycle 2,016 (12 R478, R483). -/
def Accepted (t : State) (p : Packet) (i : Nat) : Prop :=
  (t.qp i).expPsn = psnAdd p.psn 1 ∧ (t.qp i).ackPend = some p.psn ∧ (t.qp i).rx = none

/-- A message of one packet lands in queue `n`: a closed packet of its bytes, with its queue pair, length and cycle (12 R466). -/
def Landed (s t : State) (n i : Nat) (data : List Byte) : Prop :=
  let p : Producer := .halyard ((s.qp i).qpn i)
  (t.queue n).items = (s.queue n).items ++ [{
    kind := .packet, src := p, closed := true, complete := true, stroke := s.stroke.now, qpn := (s.qp i).qpn i
    bytes := data.length, cycle := s.stroke.cycle
    words := ⟨ctrlWord 2 (streamWords data).length data.length p.code 0 s.stroke.now ((s.qp i).qpn i) 0, false⟩ ::
      (streamWords data).map fun w => ⟨tagWord 1 w, false⟩ }]

/-! ### Tenancy and the Keep -/

/-- Key slot `slot` holds a key that serves destination bit `dest` and use bit `use` for no round (14 R551). -/
abbrev KeyServes (s : State) (slot dest use : Nat) (k : KeySlot) : Prop :=
  slot < 56 ∧ s.keep.slots.find? slot = some k ∧ k.leaving = false ∧ k.dest.testBit dest = true ∧ k.usage.testBit use = true ∧ k.round = 0

/-- WEIGHTS_IO is loaded, strokes run, one of its rigs runs, and a request is at the head of its queue (15 R581); `v` is the state in
which it is performed. -/
def WeightsStarts (s v : State) : Prop :=
  s.weights.loaded = true ∧ s.enginesStart = true ∧ (∃ e ∈ s.fabric.rigs, e.2.func = 2 ∧ e.2.running = true) ∧
    (∃ i, s.weightsHead = some i) ∧ s.ten.guardW = true ∧ v = s.dropHead s.weights.reqQueue

/-- Header of a weights record (15 R582): length of the data, their offset in the region, label and nonce. -/
def weightsHeader (len off label : Nat) (nonce : List Byte) : List Byte :=
  toLe 4 0x4D365745 ++ toLe 2 1 ++ toLe 2 0 ++ toLe 8 len ++ toLe 8 off ++ toLe 8 label ++ nonce ++ List.replicate 20 0

/-! ### Resets -/

/-- What a WARM reset for a cause leaves (00 R17, 16 R620, R621): start-up begins at FILL, the stroke counter, the fuses and the fence map
stay, and everything volatile is gone. -/
def WarmLeft (s t : State) (cause : Nat) : Prop :=
  t.boot.stage = .fill ∧ t.boot.lastReset = cause ∧ t.mem = [] ∧ t.ecc = [] ∧ t.cores = [] ∧ t.spill = {} ∧ t.rounds = {} ∧ t.ten = {} ∧
  t.fabric = s.fabric.kept ∧ t.stroke.now = s.stroke.now ∧ t.keep = { s.keep with slots := [], msg := [] }

/-- What a POR for a cause leaves (00 R17, 16 R620, 18 R663): start-up begins at KEEP, the stroke counter is 0, the fuses stay, and the
fence map is that of flash. -/
def PorLeft (s t : State) (cause : Nat) : Prop :=
  t.boot.stage = .keep ∧ t.boot.lastReset = cause ∧ t.boot.fatal = 0 ∧ t.mem = [] ∧ t.ecc = [] ∧ t.cores = [] ∧ t.spill = {} ∧
  t.rounds = {} ∧ t.ten = {} ∧ t.fabric = s.boot.flashMap.fabric ∧ t.stroke.now = 0 ∧ t.keep.fuses = s.keep.fuses ∧ t.keep.slots = []

/-- The rails are down (20 R715, R720, R721): volatile state and every key are gone, the fuses stay. -/
def RailsDown (s t : State) : Prop :=
  t.power.on = false ∧ t.stroke.running = false ∧ t.mem = [] ∧ t.cores = [] ∧ t.spill = {} ∧ t.keep.slots = [] ∧
  t.keep.fuses = s.keep.fuses

/-! ### The debug port -/

/-- The TAP answers, and a request of the debug transport is served (19 R671, R676, R680). -/
abbrev DebugServed (s : State) : Prop := s.tapLive = true ∧ s.ttShut = false

/-- The request ended with status OK for an address, with its data in the result register and shifted out (19 R676). -/
def Answered (s t : State) (addr : Nat) (data : W32) : Prop :=
  t.tt.ir = 0x10 ∧ t.tt.resStatus = 0 ∧ t.tt.resAddr = addr ∧ t.tt.resData = data ∧ Out.debug 0 data ∈ t.out ∧ t.stroke.now = s.stroke.now

end Sys2Proof.Machine
end

