-- ==== Sys2Proof/Certificates/Slice0/Obligations.lean ====
section
/-!
DEFINITION. The statements for the provers.
-/

open Sys2Proof Sys2Proof.Machine

/-! ### The block -/

/-- One step takes the command at the front of the queue and runs it with the queue's rest; with no command waiting the block idles,
which is the model's choice (log entry 3). -/
def Obligations.StepRunsFront : Prop :=
  (∀ (c : Instr) (q : List Instr) (s : State), s.pending = c :: q → step s = exec c { s with pending := q }) ∧
  (∀ s : State, s.pending = [] → step s = .next s)

/-! ### Slots of a core (04) -/

/-- Integer operations on 32-bit lanes and U64 pairs (04 R184, R185): the arithmetic wraps, ADD and SUB with SAT clamp, MULHI takes
the upper half of the product, and SHR is arithmetic for S32. -/
def Obligations.SlotIntegerResults : Prop :=
  SlotGives .slAdd .add (fun _ w _ c =>
    if w.fmt = 3 then c.writePairs w fun e => (c.opA64 w e + c.opB64 w e) % 2 ^ 64
    else c.writeLanes w fun i =>
      if !w.sat then (c.opA w i + c.opB w i) % 2 ^ 32
      else if w.fmt = 2 then (clampI (-(2 ^ 31)) (2 ^ 31 - 1) (s32 (c.opA w i) + s32 (c.opB w i)) % 2 ^ 32).toNat
      else min (c.opA w i + c.opB w i) (2 ^ 32 - 1)) ∧
  SlotGives .slSub .sub (fun _ w _ c =>
    if w.fmt = 3 then c.writePairs w fun e => (c.opA64 w e + 2 ^ 64 - c.opB64 w e) % 2 ^ 64
    else c.writeLanes w fun i =>
      if !w.sat then (c.opA w i + 2 ^ 32 - c.opB w i) % 2 ^ 32
      else if w.fmt = 2 then (clampI (-(2 ^ 31)) (2 ^ 31 - 1) (s32 (c.opA w i) - s32 (c.opB w i)) % 2 ^ 32).toNat
      else c.opA w i - c.opB w i) ∧
  SlotGives .slMul .mul (fun _ w _ c => c.writeLanes w fun i => c.opA w i * c.opB w i % 2 ^ 32) ∧
  SlotGives .slMulhi .mulhi (fun _ w _ c => c.writeLanes w fun i =>
    if w.fmt = 2 then (s32 (c.opA w i) * s32 (c.opB w i) / 2 ^ 32 % 2 ^ 32).toNat else c.opA w i * c.opB w i / 2 ^ 32) ∧
  SlotGives .slMad .mad (fun _ w _ c => c.writeLanes w fun i => (c.opA w i * c.opB w i + c.opC w i) % 2 ^ 32) ∧
  SlotGives .slShl .shl (fun _ w _ c =>
    if w.fmt = 3 then c.writePairs w fun e => c.opA64 w e * 2 ^ (c.opB64 w e % 64) % 2 ^ 64
    else c.writeLanes w fun i => c.opA w i * 2 ^ (c.opB w i % 32) % 2 ^ 32) ∧
  SlotGives .slShr .shr (fun _ w _ c =>
    if w.fmt = 3 then c.writePairs w fun e => c.opA64 w e / 2 ^ (c.opB64 w e % 64)
    else c.writeLanes w fun i =>
      if w.fmt = 2 then (s32 (c.opA w i) / 2 ^ (c.opB w i % 32) % 2 ^ 32).toNat else c.opA w i / 2 ^ (c.opB w i % 32)) ∧
  SlotGives .slMin .min (fun _ w _ c =>
    if w.fmt = 3 then c.writePairs w fun e => min (c.opA64 w e) (c.opB64 w e)
    else c.writeLanes w fun i =>
      if w.fmt = 2 then (if s32 (c.opA w i) ≤ s32 (c.opB w i) then c.opA w i else c.opB w i) else min (c.opA w i) (c.opB w i)) ∧
  SlotGives .slMax .max (fun _ w _ c =>
    if w.fmt = 3 then c.writePairs w fun e => max (c.opA64 w e) (c.opB64 w e)
    else c.writeLanes w fun i =>
      if w.fmt = 2 then (if s32 (c.opA w i) ≤ s32 (c.opB w i) then c.opB w i else c.opA w i) else max (c.opA w i) (c.opB w i))

/-- Bitwise operations, selection, moves and the special values (04 R184, R185). -/
def Obligations.SlotLogicResults : Prop :=
  SlotGives .slAnd .and (fun _ w _ c => c.writeLanes w fun i => c.opA w i &&& c.opB w i) ∧
  SlotGives .slOr .or (fun _ w _ c => c.writeLanes w fun i => c.opA w i ||| c.opB w i) ∧
  SlotGives .slXor .xor (fun _ w _ c => c.writeLanes w fun i => c.opA w i ^^^ c.opB w i) ∧
  SlotGives .slAndn .andn (fun _ w _ c => c.writeLanes w fun i => c.opA w i - (c.opA w i &&& c.opB w i)) ∧
  SlotGives .slSel .sel (fun _ w _ c => c.writeLanes w fun i => if c.pred (w.subop % 4) i then c.opA w i else c.opB w i) ∧
  SlotGives .slMov .mov (fun _ w _ c => c.writeLanes w fun i => c.opB w i) ∧
  SlotGives .slSpec .spec (fun u w _ c => c.writeLanes w fun i =>
    if w.subop = 0 then c.loopIdx 0 else if w.subop = 1 then c.loopIdx 1 else if w.subop = 2 then i
    else if w.subop = 3 then u.pos else u.ord)

/-- NOP changes no register; CMP and PLOG write P[PDST] in the lanes that pass; a LOOP of count 0 goes to the slot after its end and
any other enters its body; END ends the core's stroke (04 R182, R184, R185). -/
def Obligations.SlotControlResults : Prop :=
  SlotGives .slNop .nop (fun _ _ _ c => c) ∧
  SlotGives .slCmp .cmp (fun _ w _ c => c.writePred w fun i =>
    if w.fmt = 3 then cmpInt w.subop (c.opA64 w (i / 2)) (c.opB64 w (i / 2))
    else if w.fmt = 5 then cmpF32 w.subop (c.opA w i) (c.opB w i)
    else if w.fmt = 2 then cmpInt w.subop (s32 (c.opA w i)) (s32 (c.opB w i))
    else cmpInt w.subop (c.opA w i) (c.opB w i)) ∧
  SlotGives .slPlog .plog (fun _ w _ c => c.writePred w fun i =>
    let x := c.pred (w.srca % 4) i
    let y := c.pred (w.srcb % 4) i
    if w.subop = 0 then x && y else if w.subop = 1 then x || y else if w.subop = 2 then x != y
    else if w.subop = 3 then x && !y else !x) ∧
  (∀ (u : Issue) (w : Slot) (s : State) (r : Rig), Issues s u .loop w r → loopCount (s.slotCore u) w = 0 →
    exec (.slLoop u w) s = .next ((s.issued u r).setCore (slotKey u) ({ s.slotCore u with pc := w.addr16 } : Core).next)) ∧
  (∀ (u : Issue) (w : Slot) (s : State) (r : Rig), Issues s u .loop w r → loopCount (s.slotCore u) w ≠ 0 →
    exec (.slLoop u w) s = .next ((s.issued u r).setCore (slotKey u) { s.slotCore u with
      loops := { start := (s.slotCore u).pc + 1, stop := w.addr16, idx := 0, count := loopCount (s.slotCore u) w } ::
        (s.slotCore u).loops
      pc := (s.slotCore u).pc + 1, stalled := false })) ∧
  (∀ (u : Issue) (w : Slot) (s : State) (r : Rig), Issues s u .endSlot w r →
    exec (.slEnd u w) s = .next ((s.issued u r).setCore (slotKey u)
      { s.slotCore u with ended := true, endCycle := u.cycle, stalled := false }))

/-- Modular operations with the modulus q that MODSEL selects (04 R186): exact residues in 64-bit elements. For an odd modulus
q above 1 the Montgomery product times 2^64 is A × B modulo q, and MMADM's is A × B + C × 2^64; both are below q. -/
def Obligations.SlotModularResults : Prop :=
  SlotGives .slMaddq .maddq (fun _ w r c => c.writePairs w fun e => (c.opA64 w e + c.opB64 w e) % r.q w) ∧
  SlotGives .slMsubq .msubq (fun _ w r c => c.writePairs w fun e => (((c.opA64 w e : Int) - c.opB64 w e) % (r.q w : Int)).toNat) ∧
  SlotGives .slMmulq .mmulq (fun _ w r c => c.writePairs w fun e => c.opA64 w e * c.opB64 w e % r.q w) ∧
  SlotGives .slMmadq .mmadq (fun _ w r c => c.writePairs w fun e => (c.opA64 w e * c.opB64 w e + c.opC64 w e) % r.q w) ∧
  SlotGives .slMtom .mtom (fun _ w r c => c.writePairs w fun e => c.opA64 w e * 2 ^ 64 % r.q w) ∧
  SlotGives .slMredq .mredq (fun _ w r c => c.writePairs w fun e => c.opA64 w e % r.q w) ∧
  SlotGives .slMwide .mwide (fun _ w r c => c.writePairs w fun e => (c.opB64 w e * 2 ^ 64 + c.opA64 w e) % r.q w) ∧
  SlotGives .slMlift .mlift (fun _ w r c => c.writePairs w fun e =>
    let x := c.opA64 w e % r.q w
    if 2 * x ≤ r.q w - 1 then x else (2 ^ 64 + x - r.q w) % 2 ^ 64) ∧
  (∃ f : Nat → Nat → Nat → Nat,
    SlotGives .slMmulm .mmulm (fun _ w r c => c.writePairs w fun e => f (r.q w) (c.opA64 w e) (c.opB64 w e)) ∧
    ∀ q a b, q % 2 = 1 → 1 < q → f q a b < q ∧ f q a b * 2 ^ 64 % q = a * b % q) ∧
  (∃ f : Nat → Nat → Nat → Nat → Nat,
    SlotGives .slMmadm .mmadm (fun _ w r c => c.writePairs w fun e => f (r.q w) (c.opA64 w e) (c.opB64 w e) (c.opC64 w e)) ∧
    ∀ q a b c, q % 2 = 1 → 1 < q → f q a b c < q ∧ f q a b c * 2 ^ 64 % q = (a * b + c * 2 ^ 64) % q)

/-- Float operations (04 R172 to R174, R187 to R190): the exact result of the decoded operands, rounded once; NaN operands give the
canonical NaN; CVT takes and puts the element that SUBOP names. -/
def Obligations.SlotFloatResults : Prop :=
  SlotGives .slFadd .fadd (fun _ w _ c => fltLanes c w fun f a b _ => f.round w.rnd (exactSum w.rnd [f.decode a, f.decode b])) ∧
  SlotGives .slFsub .fsub (fun _ w _ c => fltLanes c w fun f a b _ =>
    f.round w.rnd (exactSum w.rnd [f.decode a, (f.decode b).negate])) ∧
  SlotGives .slFmul .fmul (fun _ w _ c => fltLanes c w fun f a b _ => f.round w.rnd (exactMul (f.decode a) (f.decode b))) ∧
  SlotGives .slFma .fma (fun _ w _ c => fltLanes c w fun f a b d =>
    f.round w.rnd (exactSum w.rnd [exactMul (f.decode a) (f.decode b), f.decode d])) ∧
  SlotGives .slFmin .fmin (fun _ w _ c => fltLanes c w fun f a b _ => f.minMax false a b) ∧
  SlotGives .slFmax .fmax (fun _ w _ c => fltLanes c w fun f a b _ => f.minMax true a b) ∧
  SlotGives .slFsgn .fsgn (fun _ w _ c => fltLanes c w fun f a b _ => f.sgn w.subop a b)

/-- Dot products and conversions (04 R187, R189, R190): DOT2 and float DOT4 round the exact sum of the products and the F32 of the
accumulator once; integer DOT4 adds to the whole accumulator; CVT converts the element that SUBOP names. -/
def Obligations.SlotDotConvertResults : Prop :=
  SlotGives .slDot2 .dot2 (fun _ w _ c => c.accLanes w fun i =>
    f32.round w.rnd (exactSum w.rnd [f32.decode (c.accLane w.acc i % 2 ^ 32),
      exactMul (bf16.decode (c.opA w i % 2 ^ 16)) (bf16.decode (c.opB w i % 2 ^ 16)),
      exactMul (bf16.decode (c.opA w i / 2 ^ 16)) (bf16.decode (c.opB w i / 2 ^ 16))])) ∧
  SlotGives .slDot4 .dot4 (fun _ w _ c => c.accLanes w fun i =>
    let fb := if w.subop = 1 then otherFmt w.fmt else w.fmt
    if w.fmt = 7 ∨ w.fmt = 8 then
      f32.round w.rnd (exactSum w.rnd (f32.decode (c.accLane w.acc i % 2 ^ 32) :: [0, 1, 2, 3].map fun j =>
        exactMul ((fmtFloat w.fmt).decode (elem (c.opA w i) 8 j)) ((fmtFloat fb).decode (elem (c.opB w i) 8 j))))
    else
      (((c.accLane w.acc i : Int) +
        int8 w.fmt (elem (c.opA w i) 8 0) * int8 fb (elem (c.opB w i) 8 0) +
        int8 w.fmt (elem (c.opA w i) 8 1) * int8 fb (elem (c.opB w i) 8 1) +
        int8 w.fmt (elem (c.opA w i) 8 2) * int8 fb (elem (c.opB w i) 8 2) +
        int8 w.fmt (elem (c.opA w i) 8 3) * int8 fb (elem (c.opB w i) 8 3)) % 2 ^ 64).toNat) ∧
  SlotGives .slCvt .cvt (fun _ w _ c => c.writeLanes w fun i =>
    let src := w.subop % 16
    let e := w.subop / 16
    if fmtWidth w.fmt < fmtWidth src then
      setBits (c.lane w.dst i) (fmtWidth w.fmt * e) (fmtWidth w.fmt) (cvtElem src w.fmt w.rnd w.sat (c.opA w i))
    else if fmtWidth src < fmtWidth w.fmt then cvtElem src w.fmt w.rnd w.sat (elem (c.opA w i) (fmtWidth src) e)
    else cvtElem src w.fmt w.rnd w.sat (c.opA w i))

/-- Cryptographic operations (04 R191): the AES box and column on every lane, rotation, carry-less products, and table look-up. -/
def Obligations.SlotCryptoResults : Prop :=
  SlotGives .slSbox8 .sbox8 (fun _ w _ c => c.writeLanes w fun i => mapBytes (if w.subop = 0 then sbox else invSbox) (c.opA w i)) ∧
  SlotGives .slMixcol .mixcol (fun _ w _ c => c.writeLanes w fun i => mixColumn (decide (w.subop = 1)) (c.opA w i)) ∧
  SlotGives .slRotl32 .rotl32 (fun _ w _ c => c.writeLanes w fun i =>
    (BitVec.rotateLeft (BitVec.ofNat 32 (c.opA w i)) (c.opB w i % 32)).toNat) ∧
  SlotGives .slClmul32 .clmul32 (fun _ w _ c => c.writeLanes w fun i =>
    if w.subop = 0 then clmul (c.opA w i) (c.opB w i) % 2 ^ 32 else bits (clmul (c.opA w i) (c.opB w i)) 32 31) ∧
  SlotGives .slLut16 .lut16 (fun _ w _ c => c.writeLanes w fun i =>
    lutByte c w (4 * i) + 2 ^ 8 * lutByte c w (4 * i + 1) + 2 ^ 16 * lutByte c w (4 * i + 2) + 2 ^ 24 * lutByte c w (4 * i + 3))

/-- SEND puts register A in the neighbour's receive buffer of the link that points back, and RECV takes the oldest register of a
link; a full and an empty buffer stall the core, which keeps its slot (04 R192, R196). -/
def Obligations.SlotNeighbourResults : Prop :=
  (∀ (u : Issue) (w : Slot) (s : State) (r : Rig) (p : Nat), Issues s u .send w r → (s.slotCore u).wholeOn w = true →
    neighbour u.pos w.subop = some p →
    ((s.core (coreKey u.rig u.ord p)).rx.get [] ((w.subop + 2) % 4)).length < 8 →
    exec (.slSend u w) s = .next (((s.issued u r).setCore (slotKey u) (s.slotCore u).next).setCore (coreKey u.rig u.ord p)
      { s.core (coreKey u.rig u.ord p) with
        rx := (s.core (coreKey u.rig u.ord p)).rx.put [] ((w.subop + 2) % 4)
          ((s.core (coreKey u.rig u.ord p)).rx.get [] ((w.subop + 2) % 4) ++
            [BitVec.ofNat 128 ((s.slotCore u).g128 w.srca)]) })) ∧
  (∀ (u : Issue) (w : Slot) (s : State) (r : Rig) (p : Nat), Issues s u .send w r → (s.slotCore u).wholeOn w = true →
    neighbour u.pos w.subop = some p →
    8 ≤ ((s.core (coreKey u.rig u.ord p)).rx.get [] ((w.subop + 2) % 4)).length →
    exec (.slSend u w) s = .next ((s.issued u r).setCore (slotKey u) { s.slotCore u with stalled := true })) ∧
  (∀ (u : Issue) (w : Slot) (s : State) (r : Rig) (v : BitVec 128) (l : List (BitVec 128)), Issues s u .recv w r →
    (s.slotCore u).wholeOn w = true → (s.slotCore u).rx.get [] w.subop = v :: l →
    exec (.slRecv u w) s = .next ((s.issued u r).setCore (slotKey u)
      (({ s.slotCore u with rx := (s.slotCore u).rx.put [] w.subop l } : Core).writeLanes w fun i => bits v.toNat (32 * i) 32).next)) ∧
  (∀ (u : Issue) (w : Slot) (s : State) (r : Rig), Issues s u .recv w r →
    (s.slotCore u).wholeOn w = true → (s.slotCore u).rx.get [] w.subop = [] →
    exec (.slRecv u w) s = .next ((s.issued u r).setCore (slotKey u) { s.slotCore u with stalled := true }))

/-- LDC and LDW load 16 bytes of a clean word: the core-store half that ADDR16 and the index term name, or the unit of a bound
region that the offset names (04 R192, R194); the lanes that pass take them, memory stands. -/
def Obligations.SlotLoadResults : Prop :=
  (∀ (u : Issue) (w : Slot) (s : State) (r : Rig), Issues s u .ldc w r →
    s.plainWord (coreWordIdx (r.storeKey u) (coreWord (s.slotCore u) w)) →
    exec (.slLdc u w) s = .next ((s.issued u r).setCore (slotKey u) ((s.slotCore u).writeLanes w fun i =>
      ofLe (memRead s.mem (32 * coreWordIdx (r.storeKey u) (coreWord (s.slotCore u) w) + 16 * coreHalf w + 4 * i) 4)).next)) ∧
  (∀ (u : Issue) (w : Slot) (s : State) (r : Rig) (a : Nat), Issues s u .ldw w r →
    r.regionAddr w.qreg accRead (16 * unitOffset (s.slotCore u) w (decide (w.subop = 1))) 16 = some a → a % 16 = 0 →
    s.plainWord (a / 32) →
    ∃ t, exec (.slLdw u w) s = .next t ∧ SameOutside s t ∧ t.mem = s.mem ∧ t.fabric = s.fabric ∧
      t.cores = s.cores.put {} (slotKey u) ((s.slotCore u).writeLanes w fun i => ofLe (memRead s.mem (a + 4 * i) 4)).next)

/-- Stores write the lanes that pass and no other byte of memory: STC and STC2 the core-store word that ADDR16 and the index term
name, STW and STW2 the unit of a bound region that the offset names (04 R192, R197). -/
def Obligations.SlotStoreResults : Prop :=
  (∀ (u : Issue) (w : Slot) (s : State) (r : Rig), Issues s u .stc w r →
    ∃ t, exec (.slStc u w) s = .next t ∧ SameOutside s t ∧ t.cores = s.cores.put {} (slotKey u) (s.slotCore u).next ∧
      StoresAt s t (s.slotCore u) w (32 * coreWordIdx (r.storeKey u) (coreWord (s.slotCore u) w) + 16 * coreHalf w) 16) ∧
  (∀ (u : Issue) (w : Slot) (s : State) (r : Rig), Issues s u .stc2 w r →
    ∃ t, exec (.slStc2 u w) s = .next t ∧ SameOutside s t ∧ t.cores = s.cores.put {} (slotKey u) (s.slotCore u).next ∧
      StoresAt s t (s.slotCore u) w (32 * coreWordIdx (r.storeKey u) (coreWord (s.slotCore u) w)) 32) ∧
  (∀ (u : Issue) (w : Slot) (s : State) (r : Rig) (a : Nat), Issues s u .stw w r →
    r.regionAddr w.qreg accWrite (16 * unitOffset (s.slotCore u) w (decide (w.subop = 1))) 16 = some a → a % 16 = 0 →
    ∃ t, exec (.slStw u w) s = .next t ∧ SameOutside s t ∧ t.cores = s.cores.put {} (slotKey u) (s.slotCore u).next ∧
      StoresAt s t (s.slotCore u) w a 16) ∧
  (∀ (u : Issue) (w : Slot) (s : State) (r : Rig) (a : Nat), Issues s u .stw2 w r →
    r.regionAddr w.qreg accWrite (32 * (unitOffset (s.slotCore u) w (decide (w.subop = 1)) / 2)) 32 = some a → a % 32 = 0 →
    ∃ t, exec (.slStw2 u w) s = .next t ∧ SameOutside s t ∧ t.cores = s.cores.put {} (slotKey u) (s.slotCore u).next ∧
      StoresAt s t (s.slotCore u) w a 32)

/-- Accumulator operations (04 R192, R195): clear, add and multiply-add in the slot's format, and the moves of its halves. -/
def Obligations.SlotAccumulatorResults : Prop :=
  SlotGives .slAccclr .accclr (fun _ w _ c =>
    if (List.range 4).all (c.laneOn w) then { c.accLanes w (fun _ => 0) with accBad := c.accBad.put false w.acc false }
    else c.accLanes w fun _ => 0) ∧
  SlotGives .slAccadd .accadd (fun _ w r c =>
    if w.fmt = 3 then c.accPairs w fun e => (c.accLane w.acc (2 * e) + c.opA64 w e) % 2 ^ 64
    else if w.fmt = 4 then c.accPairs w fun e => (c.accLane w.acc (2 * e) + c.opA64 w e) % r.q w
    else if w.fmt = 5 then c.accLanes w fun i => f32.add w.rnd (c.accLane w.acc i % 2 ^ 32) (c.opA w i)
    else if w.fmt = 2 then c.accLanes w fun i => (((c.accLane w.acc i : Int) + s32 (c.opA w i)) % 2 ^ 64).toNat
    else c.accLanes w fun i => (c.accLane w.acc i + c.opA w i) % 2 ^ 64) ∧
  SlotGives .slAccmac .accmac (fun _ w r c =>
    if w.fmt = 4 then c.accPairs w fun e => (c.accLane w.acc (2 * e) + c.opA64 w e * c.opB64 w e) % r.q w
    else if w.fmt = 5 then c.accLanes w fun i => f32.fma w.rnd (c.opA w i) (c.opB w i) (c.accLane w.acc i % 2 ^ 32)
    else if w.fmt = 2 then c.accLanes w fun i => (((c.accLane w.acc i : Int) + s32 (c.opA w i) * s32 (c.opB w i)) % 2 ^ 64).toNat
    else c.accLanes w fun i => (c.accLane w.acc i + c.opA w i * c.opB w i) % 2 ^ 64) ∧
  SlotGives .slAccrd .accrd (fun _ w _ c => c.writeLanes w fun i =>
    if w.subop = 0 then c.accLane w.acc i % 2 ^ 32 else c.accLane w.acc i / 2 ^ 32) ∧
  SlotGives .slAccwr .accwr (fun _ w _ c => c.accLanes w fun i =>
    if w.subop = 0 then c.accLane w.acc i / 2 ^ 32 * 2 ^ 32 + c.lane w.srca i
    else c.accLane w.acc i % 2 ^ 32 + c.lane w.srca i * 2 ^ 32)

/-- TPUSH (04 R198, 05 R209 to R214): the value leaves for the Mortar unit of its destination, directly with SUBOP[0] set, and
otherwise through an adder tree that holds no other group of the rig; the core moves on and memory stands. -/
def Obligations.SlotPushResults : Prop :=
  ∀ (u : Issue) (w : Slot) (s : State) (r : Rig) (a : Nat), Issues s u .tpush w r →
    r.regionAddr w.qreg accMortar
      (if w.fmt = 6 ∧ w.subop.testBit 1 = false then 32 * (unitOffset (s.slotCore u) w (w.subop.testBit 2) / 2)
        else 16 * unitOffset (s.slotCore u) w (w.subop.testBit 2))
      (if w.fmt = 6 ∧ w.subop.testBit 1 = false then 32 else 16) = some a →
    (w.subop.testBit 0 = false → ∀ m ∈ s.fabric.adds, m.src ≠ .rig u.rig) →
    ∃ t m, exec (.slTpush u w) s = .next t ∧ t.fabric.adds = s.fabric.adds ++ [m] ∧
      t.cores = s.cores.put {} (slotKey u) (s.slotCore u).next ∧ SameOutside s t ∧ t.mem = s.mem ∧
      m.addr = a ∧ m.src = .rig u.rig ∧ m.data = BitVec.ofNat 256 (pushData (s.slotCore u) w) ∧
      m.bytes = (if w.fmt = 6 ∧ w.subop.testBit 1 = false then 32 else 16) ∧
      m.fmt = (if w.fmt = 3 then AddFmt.u64 else if w.fmt = 4 then AddFmt.modq (r.q w)
        else if w.fmt = 5 ∨ w.fmt = 6 then AddFmt.f32 else AddFmt.u32) ∧
      m.poison = (w.subop.testBit 1 && (s.slotCore u).accBad.get false w.acc) ∧
      m.entered = (if w.subop.testBit 0 then u.cycle else u.cycle + 24)

/-- ENQ (04 R202, 10 R388, R391): a word of the core's open packet, an opened packet, a closing word, a one-word packet and a lone
marker enter the queue bound to QREG; a rig's items stay incomplete until the commit. -/
def Obligations.SlotEnqueueResults : Prop :=
  (∀ (u : Issue) (w : Slot) (s : State) (r : Rig) (b : RigQueue) (l : List QItem) (x : QItem),
    Issues s u .enq w r → w.subop = 0 → MayEnqueue s u w r b → (s.queue b.queue).items = l ++ [x] → x.closed = false →
    x.abandoned = false → x.src = .core (slotKey u) → (s.queue b.queue).flushed = [] →
    (s.queue b.queue).level + 1 ≤ (s.queue b.queue).cap → x.dataWords < 65536 →
    ∃ t, exec (.slEnqData u w) s = .next t ∧ Enqueued s t u w r ∧
      (t.queue b.queue).items = l ++ [{ x with words := x.words ++ [{ w := tagWord 1 ((s.slotCore u).enqWord w) }] }]) ∧
  (∀ (u : Issue) (w : Slot) (s : State) (r : Rig) (b : RigQueue), Issues s u .enq w r → w.subop = 1 → MayEnqueue s u w r b →
    (s.queue b.queue).openItem = none → (s.queue b.queue).flushed = [] →
    (s.queue b.queue).level + 2 ≤ (s.queue b.queue).cap →
    ∃ t, exec (.slEnqOpen u w) s = .next t ∧ Enqueued s t u w r ∧
      (t.queue b.queue).items = (s.queue b.queue).items ++
        [{ kind := .packet, src := .core (slotKey u), words := [{ w := 0 }, { w := tagWord 1 ((s.slotCore u).enqWord w) }] }]) ∧
  (∀ (u : Issue) (w : Slot) (s : State) (r : Rig) (b : RigQueue) (l : List QItem) (x : QItem) (h : QWord) (d : List QWord),
    Issues s u .enq w r → w.subop = 2 → MayEnqueue s u w r b → (s.queue b.queue).items = l ++ [x] → x.closed = false →
    x.abandoned = false → x.src = .core (slotKey u) → x.words = h :: d → x.freed = 0 → (s.queue b.queue).flushed = [] →
    (s.queue b.queue).level + 1 ≤ (s.queue b.queue).cap → x.dataWords < 65536 →
    ∃ t, exec (.slEnqClose u w) s = .next t ∧ Enqueued s t u w r ∧
      (t.queue b.queue).items = l ++ [{ x with
        words := { w := ctrlWord 2 (d.length + 1) x.bytes 1 x.decision s.stroke.now x.qpn 0 } ::
          d ++ [{ w := tagWord 1 ((s.slotCore u).enqWord w) }]
        closed := true, complete := false, stroke := s.stroke.now }]) ∧
  (∀ (u : Issue) (w : Slot) (s : State) (r : Rig) (b : RigQueue), Issues s u .enq w r → w.subop = 3 → MayEnqueue s u w r b →
    (s.queue b.queue).openItem = none → (s.queue b.queue).flushed = [] →
    (s.queue b.queue).level + 2 ≤ (s.queue b.queue).cap →
    ∃ t, exec (.slEnqSingle u w) s = .next t ∧ Enqueued s t u w r ∧
      (t.queue b.queue).items = (s.queue b.queue).items ++
        [{ kind := .packet, src := .core (slotKey u), closed := true, stroke := s.stroke.now
           words := [{ w := ctrlWord 2 1 0 1 0 s.stroke.now 0 0 }, { w := tagWord 1 ((s.slotCore u).enqWord w) }] }]) ∧
  (∀ (u : Issue) (w : Slot) (s : State) (r : Rig) (b : RigQueue), Issues s u .enq w r → w.subop = 4 → MayEnqueue s u w r b →
    (s.queue b.queue).openItem = none → (s.queue b.queue).flushed = [] →
    (s.queue b.queue).level + 1 ≤ (s.queue b.queue).cap →
    ∃ t, exec (.slEnqMarker u w) s = .next t ∧ Enqueued s t u w r ∧
      (t.queue b.queue).items = (s.queue b.queue).items ++
        [{ kind := .marker, src := .core (slotKey u), closed := true, stroke := s.stroke.now
           words := [{ w := tagWord 3 ((s.slotCore u).enqWord w) }] }])

/-- DEQ takes the next word handed to the rig, with tag 0xFF for an uncorrectable or poisoned one and zeros where nothing is left;
QMARK sets or rewinds to the rig mark, and QREL sets the release point (04 R199, R200, R205, 13 R519). -/
def Obligations.SlotConsumeResults : Prop :=
  (∀ (u : Issue) (w : Slot) (s : State) (r : Rig) (b : RigQueue) (d : QWord) (q : Queue), Issues s u .deq w r →
    (s.slotCore u).wholeOn w = true → r.queue? w.qreg = some b → (s.queue b.queue).deq = some (d, q) →
    exec (.slDeq u w) s = .next (((s.issued u r).setQueue b.queue q).setCore (slotKey u)
      ((s.slotCore u).takeWord w d.w.toNat (if d.bad then 0xFF else wordTag d.w)).next)) ∧
  (∀ (u : Issue) (w : Slot) (s : State) (r : Rig) (b : RigQueue), Issues s u .deq w r →
    (s.slotCore u).wholeOn w = true → r.queue? w.qreg = some b → (s.queue b.queue).deq = none →
    exec (.slDeq u w) s = .next ((s.issued u r).setCore (slotKey u) ((s.slotCore u).takeWord w 0 0).next)) ∧
  (∀ (u : Issue) (w : Slot) (s : State) (r : Rig) (b : RigQueue), Issues s u .qmark w r → w.subop = 0 →
    (s.slotCore u).wholeOn w = true → r.queue? w.qreg = some b →
    exec (.slQmarkSet u w) s = .next (((s.issued u r).setQueue b.queue
      { s.queue b.queue with rigMark := (s.queue b.queue).rd }).setCore (slotKey u) (s.slotCore u).next)) ∧
  (∀ (u : Issue) (w : Slot) (s : State) (r : Rig) (b : RigQueue), Issues s u .qmark w r → w.subop = 1 →
    (s.slotCore u).wholeOn w = true → r.queue? w.qreg = some b →
    exec (.slQmarkRewind u w) s = .next (((s.issued u r).setQueue b.queue
      { s.queue b.queue with rd := (s.queue b.queue).rigMark }).setCore (slotKey u) (s.slotCore u).next)) ∧
  (∀ (u : Issue) (w : Slot) (s : State) (r : Rig) (b : RigQueue), Issues s u .qrel w r →
    (s.slotCore u).wholeOn w = true → r.queue? w.qreg = some b →
    exec (.slQrel u w) s = .next (((s.issued u r).setQueue b.queue
      { s.queue b.queue with qrel := true, relPoint := (s.queue b.queue).rigMark }).setCore (slotKey u) (s.slotCore u).next))

/-- A masked write of a register: the lanes that pass (04 R170) take the values, every other lane and register stands. -/
def Obligations.LaneWritesMask : Prop :=
  (∀ (c : Core) (w : Slot) (f : Nat → Nat),
    (∀ i, i < 4 → (c.writeLanes w f).lane w.dst i = if c.laneOn w i then f i % 2 ^ 32 else c.lane w.dst i) ∧
    (∀ r, r ≠ w.dst → (c.writeLanes w f).g128 r = c.g128 r) ∧
    c.writeLanes w f = { c with g := (c.writeLanes w f).g }) ∧
  (∀ (c : Core) (w : Slot) (f : Nat → Nat),
    (∀ e, e < 2 → bits ((c.writePairs w f).g128 w.dst) (64 * e) 64 =
      if c.pairOn w e then f e % 2 ^ 64 else bits (c.g128 w.dst) (64 * e) 64) ∧
    (∀ r, r ≠ w.dst → (c.writePairs w f).g128 r = c.g128 r) ∧
    c.writePairs w f = { c with g := (c.writePairs w f).g }) ∧
  (∀ (c : Core) (w : Slot) (f : Nat → Nat),
    (∀ i, i < 4 → (c.accLanes w f).accLane w.acc i = if c.laneOn w i then f i % 2 ^ 64 else c.accLane w.acc i) ∧
    (∀ a, a ≠ w.acc → ∀ i, (c.accLanes w f).accLane a i = c.accLane a i) ∧
    c.accLanes w f = { c with acc := (c.accLanes w f).acc }) ∧
  (∀ (c : Core) (w : Slot) (f : Nat → Bool),
    (∀ i, i < 4 → (c.writePred w f).pred w.pdst i =
      if w.pdst = 0 then true else if c.lanePass w i then f i else c.pred w.pdst i) ∧
    (∀ k, k ≠ w.pdst → ∀ i, (c.writePred w f).pred k i = c.pred k i) ∧
    c.writePred w f = { c with p := (c.writePred w f).p })

/-- What the issue of a slot changes by itself: the cycle, and registers of the TELLTALE page, the debug port, pending vectors and
messages sent where a comparator matches; memory, every rig and core, every queue and every other register stand. -/
def Obligations.SlotIssueFrame : Prop :=
  ∀ (s : State) (u : Issue) (r : Rig),
    s.issued u r = { s with
      regs := (s.issued u r).regs, tt := (s.issued u r).tt, out := (s.issued u r).out
      stroke := { s.stroke with cycle := (s.issued u r).stroke.cycle }
      pcie := { s.pcie with pba := (s.issued u r).pcie.pba } } ∧
    (∀ d a, ¬ (0x5000 ≤ a ∧ a < 0x6000) → (s.issued u r).regs.get d a = s.regs.get d a) ∧
    ((s.tt.halted || !s.stroke.running) = false → (s.issued u r).stroke.cycle = u.cycle)

/-- A slot word whose fields R181 does not allow stops as invalid, whatever its operation; and a core that the rig does not have is no
unit: stated for one operation of each shape. -/
def Obligations.InvalidSlotStops : Prop :=
  ∀ (u : Issue) (w : Slot) (s : State) (r : Rig), s.rig? u.rig = some r →
    (r.hasCore u = true →
      ((slotOk .add w && slotFits w && rigSlotOk r .add w) = false → exec (.slAdd u w) s = .fault .invalidSlot) ∧
      ((slotOk .mmulm w && slotFits w && rigSlotOk r .mmulm w) = false → exec (.slMmulm u w) s = .fault .invalidSlot) ∧
      ((slotOk .ldw w && slotFits w && rigSlotOk r .ldw w) = false → exec (.slLdw u w) s = .fault .invalidSlot) ∧
      ((slotOk .enq w && slotFits w && rigSlotOk r .enq w) = false → exec (.slEnqData u w) s = .fault .invalidSlot) ∧
      (w.subop ≠ 0 → exec (.slEnqData u w) s = .fault .invalidSlot)) ∧
    (r.hasCore u = false → exec (.slAdd u w) s = .fault .noUnit ∧ exec (.slLdw u w) s = .fault .noUnit)

/-- A residue mismatch in a multiplication that carries the mod-3 check fences the core (04 R167, 03 R137, R140): the Ashlar's fence
mask gains the core's physical position, the stroke overruns charged to the rig, and re-placement becomes due. -/
def Obligations.ResidueMismatchFences : Prop :=
  ∀ (u : Issue) (w : Slot) (s : State) (r : Rig) (x : RigAshlar) (a : Nat), s.rig? u.rig = some r → r.hasCore u = true →
    (slotOk .mul w && slotFits w && rigSlotOk r .mul w) = true → r.coreLive u (s.slotCore u) = true → u.resOk = false →
    r.ashlars[u.ord]? = some x → x.place = some a → x.physPos u.pos < 64 →
    ∃ t, exec (.slMul u w) s = .next t ∧
      (t.ashlar a).fence = (s.ashlar a).fence ||| BitVec.ofNat 64 (2 ^ x.physPos u.pos) ∧
      t.stroke.strokeFaults = s.stroke.strokeFaults ++ [(u.rig, a)] ∧
      (∃ y, t.rig? u.rig = some y ∧ y.replaceFrom = some s.stroke.now ∧
        y.ashlars[u.ord]? = some { x with broken := true, evacuated := true }) ∧
      t.cores = s.cores ∧ t.mem = s.mem

/-! ### Strokes (02), beds and Mortar (05) -/

/-- The commit of a stroke of a calm machine (02 R74, R86, R90, 04 R163, 05 R207): the counter advances and cycle 0 begins; in a
stroke that commits every core's shadow takes the working accumulators, in an overrun the working accumulators return to the shadows. -/
def Obligations.StrokeCommitResults : Prop :=
  ∀ s : State, Calm s →
    (s.overran = false → ∃ t, exec .strokeCommit s = .next t ∧ t.stroke.now = min (s.stroke.now + 1) (2 ^ 64 - 1) ∧
      t.stroke.cycle = 0 ∧ t.cores = restarted s true ∧ t.mem = s.mem ∧ t.stroke.overrunRun = 0 ∧ t.stroke.lastOverran = false) ∧
    (s.overran = true → ∃ t, exec .strokeCommit s = .next t ∧ t.stroke.now = min (s.stroke.now + 1) (2 ^ 64 - 1) ∧
      t.stroke.cycle = 0 ∧ t.cores = restarted s false ∧ t.mem = s.mem ∧ t.stroke.overrunRun = s.stroke.overrunRun + 1 ∧
      t.stroke.lastOverran = true ∧ t.stroke.lastOverrun = s.stroke.now)

/-- Intake takes place once at cycle 0 of a stroke, and every rig that may run runs in it (02 R73, 10 R395); a bed's committed word is
written back (05 R216); a Mortar unit serves the first add of its queue into the word's provisional value (05 R214 to R216). -/
def Obligations.IntakeBedMortarResults : Prop :=
  (∀ s : State, s.generating = true → s.gated = false → s.stroke.intakeAt ≠ some s.stroke.now →
    ∃ t, exec .intake s = .next t ∧ t.stroke.intakeAt = some s.stroke.now ∧ t.stroke.cycle = 0 ∧ t.mem = s.mem ∧ t.cores = s.cores ∧
      ∀ id r, s.rig? id = some r → r.running = true → ∃ y, t.rig? id = some y ∧ y.active = true) ∧
  (∀ (s : State) (x : Nat) (v : W256) (bad : Bool), s.bedComm x = some (v, bad) →
    ∃ t, exec (.bedWriteBack x) s = .next t ∧ memRead t.mem (32 * x) 32 = toLe 32 v.toNat ∧ t.bedComm x = none ∧
      (∀ a, a / 32 ≠ x → memGet t.mem a = memGet s.mem a) ∧
      t = { s with mem := t.mem, ecc := t.ecc, fabric := { s.fabric with bed := t.fabric.bed } }) ∧
  (∀ (s : State) (unit cycle : Nat) (m : MAdd) (l : List MAdd) (v : W256) (bad : Bool), unit < 5184 →
    s.fabric.adds = m :: l → s.mortarUnit m.addr = unit → m.entered ≤ cycle →
    (s.fabric.bed.get {} (m.addr / 32)).prov = some (v, bad) →
    ∃ t, exec (.mortarAdd unit cycle) s = .next t ∧ t.fabric.adds = l ∧ t.mem = s.mem ∧ t.cores = s.cores ∧
      (t.fabric.bed.get {} (m.addr / 32)).prov = some (BitVec.ofNat 256 (setBits v.toNat (8 * (m.addr % 32)) (8 * m.bytes)
        (m.fmt.apply m.bytes (bits v.toNat (8 * (m.addr % 32)) (8 * m.bytes)) m.data.toNat)), bad || m.poison))

/-- Alignment (02 R96 to R101, R107, R723, 11 R429, R439): an edge is accepted with its phase error, locks the module after 16 in a row
that are near, and is ignored when it comes early; 4 strokes without one end the alignment; PTP locks at the 16th good message and is
lost without any; and at the commit of its ADOPT_AT the module takes the crew's stroke number. -/
def Obligations.AlignmentResults : Prop :=
  (∀ (s : State) (cycle : Nat), cycle < 2048 → s.generating = true → s.stroke.lastEdge = none → s.stroke.sync ≠ .lockedPin →
    s.pinMode = false →
    ∃ t, exec (.strokeSyncInEdge cycle) s = .next t ∧ t.stroke.lastEdge = some (2048 * s.stroke.now + cycle + s.stroke.extra) ∧
      t.stroke.edgeRun = 1 ∧ t.stroke.sync = s.stroke.sync ∧ t.mem = s.mem) ∧
  (∀ (s : State) (cycle l : Nat), cycle < 2048 → s.generating = true → s.pinMode = true → s.stroke.sync = .acquiring →
    s.stroke.lastEdge = some l → s.stroke.edgeRun = 15 →
    l + 2040 ≤ 2048 * s.stroke.now + cycle + s.stroke.extra → 2048 * s.stroke.now + cycle + s.stroke.extra ≤ l + 2056 →
    -40 ≤ s.phaseOf cycle → s.phaseOf cycle ≤ 40 →
    ∃ t, exec (.strokeSyncInEdge cycle) s = .next t ∧ t.stroke.sync = .lockedPin) ∧
  (∀ (s : State) (cycle l : Nat), cycle < 2048 → s.generating = true → s.stroke.lastEdge = some l →
    2048 * s.stroke.now + cycle + s.stroke.extra < l + 1844 →
    ∃ t, exec (.strokeSyncInEdge cycle) s = .next t ∧ t.stroke = { s.stroke with cycle := cycle }) ∧
  (∀ (s : State) (cycle : Nat), cycle < 2048 → s.generating = true → s.pinMode = true →
    s.stroke.edgeSince + 4 * 2048 ≤ 2048 * s.stroke.now + cycle + s.stroke.extra → s.stroke.fallback = false →
    s.stroke.sync ≠ .freeRun →
    ∃ t, exec (.freeRun cycle) s = .next t ∧
      t.stroke.sync = (if s.syncMode = 3 ∧ s.stroke.ptpLocked = true then .lockedPtp else .freeRun) ∧
      t.stroke.fallback = decide (s.syncMode = 3 ∧ s.stroke.ptpLocked = true)) ∧
  (∀ (s : State) (port : Nat) (offset start : Int), port < 8 → (s.reg .eth port 0x58).toNat.testBit 0 = true →
    s.ten.scrubbing = false → s.power.on = true → s.reef.level ≠ 4 → (s.port port).linkUp = true → s.stroke.ptpLocked = false →
    s.stroke.ptpGood = 15 → -50 ≤ offset → offset ≤ 50 →
    ∃ t, exec (.ptpSync port offset start) s = .next t ∧ t.stroke.ptpLocked = true ∧
      (s.stroke.epochSet = false → s.inCrew = false → t.stroke.epoch = start - 1024 * s.stroke.now) ∧
      (s.syncMode = 2 → t.stroke.sync = .lockedPtp)) ∧
  (∀ s : State, s.stroke.ptpLocked = true → s.ten.scrubbing = false →
    ∃ t, exec .ptpSyncTimeout s = .next t ∧ t.stroke.ptpLocked = false ∧
      (s.stroke.sync = .lockedPtp → t.stroke.sync = .freeRun) ∧ (s.stroke.sync ≠ .lockedPtp → t.stroke.sync = s.stroke.sync)) ∧
  (∀ s : State, s.generating = true → s.hail.phase = .forming → s.hail.adoptAt = some s.stroke.now → s.roundsIdle = true →
    ∃ t, exec .adoption s = .next t ∧ t.stroke.nextStroke = some s.hail.adoptV ∧ t.stroke.epoch = s.hail.adoptEpoch ∧
      t.hail.phase = .crew ∧ t.hail.formResult = 1 ∧ t.mem = s.mem)

/-! ### Rigs, links, drains and Pier DMA (03, 05, 18) -/

/-- Re-placement of a faulted rig (03 R139, R142): where every broken Ashlar finds a place the rig may run again, where one does not the
rig stays as it is. -/
def Obligations.RigReplaceResults : Prop :=
  ∀ (s : State) (id : Nat) (r : Rig), s.rig? id = some r → r.faulted = true → r.permanent = false → r.vaultBroken = false →
    (∃ (o : Nat) (x : RigAshlar), r.ashlars[o]? = some x ∧ x.broken = true) →
    (∀ r1 s1, s.replaceAll id r ((List.range r.ashlars.length).filter fun o => (r.ashlars[o]?.map fun x => x.broken) = some true) =
        some (r1, s1) →
      ∃ t, exec (.rigReplace id) s = .next t ∧
        t.rig? id = some { r1 with faulted := false, replaceFrom := none, charges := 0, vaultBroken := false }) ∧
    (s.replaceAll id r ((List.range r.ashlars.length).filter fun o => (r.ashlars[o]?.map fun x => x.broken) = some true) = none →
      exec (.rigReplace id) s = .next s)

/-- A link out of service (18 R658 to R660): a Course link is down at both ends and latches LINK_DOWN on both pages; a lane of a Plinth
link is down, which is fatal only with the other lane. -/
def Obligations.LinkDownResults : Prop :=
  (∀ (s : State) (c d : Nat), s.power.on = true → c < 96 → (coursePresent c).contains d = true → s.courseLinkDown c d = false →
    ∃ t, exec (.linkDown (.course c d)) s = .next t ∧ t.courseLinkDown c d = true ∧
      t.courseLinkDown (courseAcross c d) (opposite d) = true ∧
      (t.reg .course (courseAcross c d) 0x14).toNat.testBit 0 = true ∧ t.mem = s.mem ∧ t.cores = s.cores) ∧
  (∀ (s : State) (p l : Nat), s.power.on = true → p < 6 → l < 2 →
    s.fabric.downLinks.contains (2000 + 2 * p + (1 - l)) = false →
    ∃ t, exec (.linkDown (.plinthLane p l)) s = .next t ∧ t.fabric.downLinks.contains (2000 + 2 * p + l) = true ∧
      t.boot = s.boot ∧ t.mem = s.mem)

/-- A drain (05 R222 to R225): a request on the page of a rig's Ashlar is pending for the stroke of its landing; the capture takes the
accumulators of a stroke that commits; the copy stores them, 512 words for each Ashlar, and ends with 1 or, with poison, 5; MAX of
ASHLAR_MARKER returns to 0 (03 R153). -/
def Obligations.DrainResults : Prop :=
  (∀ (s : State) (a region cycle id o b : Nat) (r : Rig), a < 4800 → Takes s .ashlar → Clocked s → s.rigOn a = some (id, r, o) →
    region < 64 → r.drain.phase = .idle ∨ r.drain.phase = .finished → r.sealed = false →
    r.drainRange region (s.reg .ashlar a 0x94).toNat = some b →
    ∃ t, exec (.drainReq a region cycle) s = .next t ∧ t.mem = s.mem ∧ t.cores = s.cores ∧
      t.rig? id = some { r with drain := { r.drain with
        phase := .pending, region := region, base := (s.reg .ashlar a 0x94).toNat, fromStroke := effAt s cycle } }) ∧
  (∀ (s : State) (id : Nat) (r : Rig), s.rig? id = some r → r.drainDue s.stroke.now = true → s.overran = false →
    ∃ t, exec (.drainCapture id) s = .next t ∧ t.mem = s.mem ∧ t.cores = s.cores ∧
      t.rig? id = some { r with drain := { r.drain with
        phase := .copying, captured := s.stroke.now, copy := s.capture id r, overwritten := false } }) ∧
  (∀ (s : State) (id a : Nat) (r : Rig), s.rig? id = some r → r.drain.phase = .copying →
    r.drainRange r.drain.region r.drain.base = some a → a % 32 = 0 → r.drain.overwritten = false →
    ∃ t, exec (.drainCopyDone id) s = .next t ∧ t.cores = s.cores ∧
      t.rig? id = some { r with drain := { r.drain with
        phase := .finished, result := if r.drain.copy.any (·.2.2) then 5 else 1, copy := [] } } ∧
      (∀ k, k < 512 * r.ashlars.length → memRead t.mem (a + 32 * k) 32 =
        ((r.drain.copy.find? fun e => decide (e.1 = k)).map fun e => toLe 32 e.2.1.toNat).getD (List.replicate 32 0)) ∧
      (∀ x, x < a ∨ a + 16384 * r.ashlars.length ≤ x → memGet t.mem x = memGet s.mem x)) ∧
  (∀ (s : State) (a : Nat), a < 4800 → Takes s .ashlar →
    ∃ t, exec (.markerMaxClr a) s = .next t ∧ t.ashlar a = { s.ashlar a with markerMax := 0 } ∧ t.mem = s.mem)

/-- Pier DMA (03 R148, R149): the engine starts the oldest waiting request of a rig on its Pier, and a request that completes has moved
its words. -/
def Obligations.PierDmaResults : Prop :=
  (∀ (s : State) (p id n pos : Nat) (w : W256), p < 6 → s.enginesStart = true →
    (s.fabric.rigs.findSome? fun e => if e.2.onPier p then (s.dmaWaiting e.2).map fun x => (e.1, x) else none) =
      some (id, w, n, pos) →
    ∃ t, exec (.pierDmaStart p) s = .next t ∧ t.mem = s.mem ∧ t.cores = s.cores ∧
      t.fabric.dma.get [] p = s.fabric.dma.get [] p ++ [{ rig := id, word := w, issued := s.stroke.now, started := true }] ∧
      (t.queue n).rd = pos) ∧
  (∀ (s : State) (p a b : Nat) (q : DmaReq) (l : List DmaReq) (r : Rig), p < 6 → s.fabric.dma.get [] p = q :: l →
    s.rig? q.rig = some r → r.dmaRange (dmaWord q.word) = some (a, b) → a % 32 = 0 → b % 32 = 0 →
    a + (dmaWord q.word).len ≤ b ∨ b + (dmaWord q.word).len ≤ a →
    (∀ k, k < (dmaWord q.word).len / 32 → s.plainWord (a / 32 + k)) →
    ∃ t, exec (.pierDmaComplete p) s = .next t ∧ t.fabric.dma.get [] p = l ∧ t.cores = s.cores ∧
      (∀ j, j < (dmaWord q.word).len → memGet t.mem (b + j) = memGet s.mem (a + j)) ∧
      (∀ x, x < b ∨ b + (dmaWord q.word).len ≤ x → memGet t.mem x = memGet s.mem x))

/-! ### The state after reset, and what every step keeps -/

/-- The state right after POR (00 R17, 02 R90, 09 R361, 14 R557, 16 R631): the counter is 0, start-up is in stage KEEP, the module is
unclaimed with no guard in force, nothing is loaded, queued, registered or in memory, and every register reads its reset value. -/
def Obligations.ResetState : Prop :=
  State.reset.stroke.now = 0 ∧ State.reset.stroke.cycle = 0 ∧ State.reset.boot.stage = .keep ∧
  State.reset.ten.claimed = false ∧ State.reset.ten.guardC = false ∧ State.reset.ten.guardW = false ∧
  State.reset.fabric.rigs = [] ∧ State.reset.fabric.areas = [] ∧ State.reset.fabric.moduli = [] ∧
  State.reset.spill.queues = [] ∧ State.reset.rounds.blocks = [] ∧ State.reset.net.halyard.qps = [] ∧
  State.reset.keep.slots = [] ∧ State.reset.net.hail.phase = .idle ∧ State.reset.reef.level = 0 ∧ State.reset.tt.session = false ∧
  State.reset.muster.busy = false ∧ State.reset.bosun.busy = false ∧ State.reset.pending = [] ∧ State.reset.out = [] ∧
  State.reset.canonical ∧ ∀ p i off, State.reset.reg p i off = regReset (regAddr p i off)

/-- Memory and the check symbols keep their canonical form through every step. -/
def Obligations.StepKeepsCanonical : Prop :=
  ∀ s t : State, s.canonical → step s = .next t → t.canonical

/-- The slot word of an operation and its fields gives them back (04 R179), with every field at every value of its width. -/
def Obligations.SlotWordRoundTrip : Prop :=
  ∀ (op : Op) (w : Slot), (opRow op).isSome = true → slotFits w = true → decodeSlot (encodeSlot op w) = some (op, w)

/-! ### Muster's commands (06 R267 to R269) -/

/-- A write of MUSTER_CMD while no command is in progress lands the command of its opcode, in progress until the commit of the stroke
that its cycle gives (01 R36). -/
def Obligations.MusterLanding : Prop :=
  ∀ (s : State) (blk cycle : Nat), blk < 16 → Takes s .muster → Clocked s → s.muster.busy = false →
    (∃ t, exec (.msOpen cycle) s = .next t ∧ MusterLanded s t 1 0 cycle) ∧
    (∃ t, exec (.msDrop blk cycle) s = .next t ∧ MusterLanded s t 2 blk cycle) ∧
    (∃ t, exec (.msAbort blk cycle) s = .next t ∧ MusterLanded s t 3 blk cycle ∧ t.rounds = s.rounds ∧ t.mem = s.mem) ∧
    (∃ t, exec (.msRetire blk cycle) s = .next t ∧ MusterLanded s t 4 blk cycle ∧ t.rounds = s.rounds ∧ t.mem = s.mem) ∧
    (∃ t, exec (.msBind blk cycle) s = .next t ∧ MusterLanded s t 5 blk cycle ∧ t.rounds = s.rounds ∧ t.mem = s.mem) ∧
    (∃ t, exec (.msUnbind cycle) s = .next t ∧ MusterLanded s t 6 0 cycle ∧ t.rounds = s.rounds ∧ t.mem = s.mem) ∧
    (∃ t, exec (.msOutcomeCopy blk cycle) s = .next t ∧ MusterLanded s t 7 blk cycle ∧ t.rounds = s.rounds ∧ t.mem = s.mem)

/-! ### Rounds (01, 06, 07, 08) -/

/-- Deadlines of a round that stands alone, with nothing pending against it (01 R45 to R49, R52, R55): D_COLLECT opens the collection of a
round that is set up and faults one that is not; D_CLOSE classifies the roster and closes; 1,024 strokes later the outcomes are
published and recovery begins; D_RECOVER_END without a result faults the round and destroys its secrets; D_RETIRE retires it. -/
def Obligations.RoundDeadlines : Prop :=
  ∀ (s : State) (b : Nat), b < 16 → s.muster.busy = false → (s.round b).crew = false → (s.round b).dropPend = [] →
    (s.round b).decisions = [] → (s.round b).reasons = [] → (s.round b).abortNow = false → s.roundRigFault (s.round b) = false →
    ((s.round b).state = .open → s.stroke.now = (s.round b).d.dCollect → (s.round b).setup = true →
      ∃ t, exec (.dCollect b) s = .next t ∧ t.round b = { s.round b with state := .collect } ∧ FabricStands s t) ∧
    ((s.round b).state = .open → s.stroke.now = (s.round b).d.dCollect → (s.round b).setup = false →
      ∃ t, exec (.dCollect b) s = .next t ∧ (t.round b).state = .faulted ∧ (t.round b).reason = 2 ∧ (t.round b).keyPriv = none) ∧
    ((s.round b).state = .collect → s.stroke.now = (s.round b).d.dClose →
      ∃ t, exec (.dClose b) s = .next t ∧ FabricStands s t ∧
        t.round b = { s.round b with
          state := .close, leftCollect := some s.stroke.now
          roster := (s.round b).roster.map fun e => (e.1, e.2.classify (s.round b).d.chunks (s.round b).d.late s.stroke.now) }) ∧
    ((s.round b).state = .close → s.stroke.now = (s.round b).d.dClose + 1024 → s.roundPoisoned (s.round b) = false →
      (s.round b).d.floor ≤ (s.round b).minCount →
      ∃ t, exec (.dClosePlus1024 b) s = .next t ∧ FabricStands s t ∧
        t.round b = { s.round b with
          state := .recover, published := true
          roster := (s.round b).roster.map fun e => (e.1, { e.2 with outcome := e.2.status (s.round b).d.chunks }) }) ∧
    ((s.round b).state = .recover → s.stroke.now = (s.round b).d.dRecover → (s.round b).resultWritten = false →
      ∃ t, exec (.dRecoverEnd b) s = .next t ∧ (t.round b).state = .faulted ∧ (t.round b).reason = 4 ∧
        (t.round b).keyPriv = none ∧ (t.round b).secrets = [] ∧ (t.round b).shares = []) ∧
    ((s.round b).state = .release ∨ (s.round b).state = .faulted → s.stroke.now = (s.round b).d.dRetire →
      ∃ t, exec (.dRetire b) s = .next t ∧ (t.round b).state = .retired ∧ (t.round b).id = (s.round b).id ∧
        (t.round b).roster = [] ∧ (t.round b).desc = [] ∧ (t.round b).keyPriv = none)

/-- Setup of a round (01 R47): queues, rigs, the roster of the enrolled slots and a fresh X25519 key pair; the counts of a crew are
exchanged once after D_CLOSE + 511 (06 R262); a FAULTED decision faults the round at the stroke it names (01 R59). -/
def Obligations.RoundSetupAndDecisions : Prop :=
  (∀ (s t : State) (b : Nat) (ingress work : List Nat), b < 16 → ingress ≠ [] → ingress.length ≤ 1024 → (s.round b).state = .open →
    (s.round b).setup = false → (s.round b).openAt < s.stroke.now → (s.round b).descriptorOk = true →
    s.setupRound b ingress work = some t →
    exec (.roundSetupComplete b ingress work) s = .next t ∧ (t.round b).setup = true ∧ (t.round b).setupAt = s.stroke.now ∧
      (t.round b).roster = (s.round b).initRoster.roster ∧
      (∃ k, (t.round b).keyPriv = some k ∧ (t.round b).rpk = x25519 k x25519Base) ∧
      (t.round b).ingress.length = ingress.length ∧ (t.round b).ingressRigs.length = ingress.length) ∧
  (∀ (s : State) (b : Nat), b < 16 → (s.round b).crew = true → (s.round b).state = .close → (s.round b).exchanged = false →
    (s.round b).d.dClose + 511 < s.stroke.now →
    ∃ t, exec (.crewCountExchange b) s = .next t ∧ t.round b = { s.round b with exchanged := true } ∧ FabricStands s t) ∧
  (∀ (s : State) (b : Nat) (d : Decision), b < 16 → s.muster.busy = false → (s.round b).state.working = true →
    (s.round b).dropPend = [] → (s.round b).abortNow = false → (s.round b).decisions = [d] → d.kind = 3 → d.applied = false →
    d.named ≤ s.stroke.now →
    ∃ t, exec (.haDecisionApply b) s = .next t ∧ (t.round b).state = .faulted ∧ (t.round b).reason = d.reason)

/-- Muster decides a landed contribution (06 R244 to R249): one that passes every check is admitted, marked in its client's window and
counted in its chunk; one that fails a check is refused with that check's code and reported. -/
def Obligations.RoundAdmission : Prop :=
  (∀ (s : State) (k qp n i b : Nat) (it : QItem), s.undecided = [(k, qp, n, i, some b)] → (s.queue n).items[i]? = some it →
    it.judged = false → it.complete = true → it.abandoned = false → it.kind = .packet →
    s.judge (some b) it.stream it.hasBad it.stroke = 0 →
    ∃ t, exec .musterDecision s = .next t ∧ t.mem = s.mem ∧ t.cores = s.cores ∧
      (t.queue n).items[i]? = some { it with judged := true, decision := 0 } ∧
      (t.round b).entry (leAt it.stream 8 4) =
        ((s.round b).entry (leAt it.stream 8 4)).takeIn (leAt it.stream 0xC 4) ((leAt it.stream 0x12 2).testBit 0) ∧
      (t.round b).counts.get 0 (leAt it.stream 0xC 4) = (s.round b).counts.get 0 (leAt it.stream 0xC 4) + 1) ∧
  (∀ (s : State) (k qp n i b c : Nat) (it : QItem), s.undecided = [(k, qp, n, i, some b)] → (s.queue n).items[i]? = some it →
    it.judged = false → it.complete = true → it.abandoned = false → it.kind = .packet →
    s.judge (some b) it.stream it.hasBad it.stroke = c → c ≠ 0 → (s.rounds.reports.get [] qp).length < 4096 →
    ∃ t, exec .musterDecision s = .next t ∧ t.mem = s.mem ∧ t.cores = s.cores ∧ t.round b = s.round b ∧
      (t.queue n).items[i]? = some { it with judged := true, decision := c } ∧
      t.rounds.reports.get [] qp = s.rounds.reports.get [] qp ++ [{
        round := leAt (padTo 64 it.stream) 0 8, slot := leAt (padTo 64 it.stream) 8 4, chunk := leAt (padTo 64 it.stream) 0xC 4
        tag := leAt (padTo 64 it.stream) 0x18 4, reason := c, stroke := it.stroke }])

/-- An admitted packet moves from its landing queue to the ingress queue of its slot (06 R260, R724), and the reports of a queue pair
leave as one Send with Immediate of the module's own (06 R250, R251). -/
def Obligations.RoundMovesAndReports : Prop :=
  (∀ (s : State) (qp b n : Nat) (bd : Bind) (it : QItem), qp < 65536 → s.bind? qp = some bd → bd.role = .contribution →
    bd.round = some b → (∀ e ∈ s.rounds.ended, e.1 ≠ qp) → (s.queue bd.landing).items = [it] → (s.queue bd.landing).rd = 0 →
    it.complete = true → it.abandoned = false → it.judged = true → it.decision = 0 → it.words ≠ [] →
    (s.round b).state.working = true →
    (s.round b).ingress[leAt it.stream 8 4 % max 1 (s.round b).ingress.length]? = some n → n ≠ bd.landing →
    (s.queue n).level + it.words.length ≤ (s.queue n).cap →
    ∃ t, exec (.ingressMove qp) s = .next t ∧ t.mem = s.mem ∧ t.rounds = s.rounds ∧
      (t.queue n).items = (s.queue n).items ++ [{ it with judged := false }] ∧
      (t.queue bd.landing).rd = it.words.length ∧ (t.queue bd.landing).items = [it] ∧
      (t.queue bd.landing).relPend = some it.words.length) ∧
  (∀ (s : State) (i : Nat) (x : Report) (l : List Report), i < 65536 → s.rounds.reports.get [] i = x :: l → l.length < 128 →
    (s.qp i).live = true → (s.qp i).state = .rts → (s.qp i).ud = false → (∀ r ∈ (s.qp i).sent, r.done = none) →
    s.quiet = false → s.outstanding < 16384 →
    ∃ t r, exec (.refusalReportSend i) s = .next t ∧ t.rounds.reports.get [] i = [] ∧ t.mem = s.mem ∧
      (t.qp i).sent = (s.qp i).sent ++ [r] ∧ r.own = true ∧ r.op = 1 ∧ r.op1 = l.length + 1 ∧ r.first = (s.qp i).nextPsn ∧
      r.data = x.bytes (s.rounds.lost.contains i) ++ l.flatMap fun y => y.bytes false)

/-- Envelopes (07 R287, R288, R725): one that fails a check is refused, counted and reported with 20h plus the check's number; one that
passes moves to the round's feed queue; an opened one is taken off it, with the state that the opening leaves. -/
def Obligations.RoundEnvelopes : Prop :=
  (∀ (s : State) (qp b c : Nat) (bd : Bind) (it : QItem), s.rounds.binds = [(qp, bd)] → s.rounds.ended = [] → bd.role = .envelope →
    bd.round = some b →
    (s.queue bd.landing).items = [it] → (s.queue bd.landing).rd = 0 → it.words ≠ [] → it.judged = false → it.complete = true →
    it.abandoned = false → it.stroke < s.stroke.now → s.envChecks (some b) it.stream it.stroke = c → c ≠ 0 →
    (s.rounds.reports.get [] qp).length < 4096 →
    ∃ t, exec .envelopeDecide s = .next t ∧ t.mem = s.mem ∧ t.round b = s.round b ∧
      (t.queue bd.landing).items = [{ it with judged := true, decision := 0x20 + c }] ∧
      (t.queue bd.landing).rd = it.words.length ∧
      ∃ r, t.rounds.reports.get [] qp = s.rounds.reports.get [] qp ++ [r] ∧ r.reason = 0x20 + c ∧ r.stroke = it.stroke ∧
        r.round = leAt it.stream 8 8) ∧
  (∀ (s : State) (qp b n : Nat) (bd : Bind) (it : QItem), s.rounds.binds = [(qp, bd)] → s.rounds.ended = [] → bd.role = .envelope →
    bd.round = some b →
    (s.queue bd.landing).items = [it] → (s.queue bd.landing).rd = 0 → it.words ≠ [] → it.judged = false → it.complete = true →
    it.abandoned = false → it.stroke < s.stroke.now → s.envChecks (some b) it.stream it.stroke = 0 →
    (s.round b).state.working = true → (s.round b).envQueue = some n → n ≠ bd.landing →
    (s.queue n).level + it.words.length ≤ (s.queue n).cap →
    ∃ t, exec .envelopeDecide s = .next t ∧ t.mem = s.mem ∧ t.rounds = s.rounds ∧
      (t.queue n).items = (s.queue n).items ++ [{ it with judged := false, decision := 0 }] ∧
      (t.queue bd.landing).rd = it.words.length) ∧
  (∀ (s u : State) (b n : Nat) (it : QItem) (l : List QItem), b < 16 → (s.round b).envQueue = some n →
    (s.queue n).items = it :: l → (s.round b).state.working = true →
    (s.setQueue n { s.queue n with items := l }).openEnv b it.stream it.hasBad = (0, u) →
    exec (.envelopeOpen b) s = .next u ∧ (u.queue n).items = l ∧ u.mem = s.mem ∧
      (u.round b).envAccepted = min ((s.round b).envAccepted + 1) 0xFFFFFFFF)

/-- Recovery (07 R291 to R297, R302, R303, 08 R350): the plan names the needed secrets; a secret is the polynomial's value at 0 through
the first THRESHOLD shares; a term joins the mask feed of its slot; the noise of an owned chunk is drawn; the record of an owned chunk
holds its sums, count and round id; and a ciphertext is combined once THRESHOLD partial decryptions stand. -/
def Obligations.RoundRecovery : Prop :=
  (∀ (s : State) (b : Nat), b < 16 → (s.round b).state = .recover → (s.round b).planBuilt = false →
    (s.round b).d.dClose + 1024 < s.stroke.now → (s.round b).d.glwe = false →
    ∃ t, exec (.cancellationPlan b) s = .next t ∧ FabricStands s t ∧
      t.round b = { s.round b with
        planBuilt := true, needed := (s.round b).plan, secretsNeeded := (s.round b).plan.length
        unreachable := ((s.round b).plan.filter fun x => !(s.round b).reachable x).length }) ∧
  (∀ (s : State) (b slot : Nat) (root : Bool) (l : List Share), b < 16 → (s.round b).state = .recover → (s.round b).planBuilt = true →
    (s.round b).needed.contains { root := root, slot := slot } = true →
    ((s.round b).secrets.any fun y => y.id = { root := root, slot := slot }) = false →
    (s.round b).shares.filter (fun x => decide (x.owner = slot)) = l → l.length = (s.round b).d.threshold →
    (s.round b).d.dClose + 1024 < s.stroke.now →
    ∃ t y, exec (.secretReconstruct b root slot) s = .next t ∧ FabricStands s t ∧ (t.round b).secrets = (s.round b).secrets ++ [y] ∧
      y.id = { root := root, slot := slot } ∧
      y.value = interpolate shareP 0 (l.map fun x => (x.holder + 1, if root then x.pair else x.self)) ∧
      (t.round b).secretsDone = (s.round b).secretsDone + 1 ∧
      (t.round b).toIssue = (s.round b).toIssue ++ ((s.round b).termsOf y.id y.value).map fun x => (s.stroke.now, x)) ∧
  (∀ (s u : State) (b k : Nat) (l : List Term), b < 16 → (s.round b).state = .recover → (s.round b).toIssue = [(k, l)] →
    k < s.stroke.now → (s.round b).issuedAt ≠ s.stroke.now → s.issueTerm b l = some u →
    ∃ t, exec (.termIssue b) s = .next t ∧ t = u.modRound b fun x => { x with
      toIssue := [], issuedAt := s.stroke.now, issuedCount := 1 }) ∧
  (∀ (s : State) (b c : Nat), b < 16 → (s.round b).d.noise = true → (s.round b).owns c = true → (s.round b).state = .collect →
    (s.round b).noiseDrawn.find? c = none →
    ∃ t l, exec (.noiseDraw b c) s = .next t ∧ FabricStands s t ∧ l.length = (s.round b).d.words ∧
      t.round b = { s.round b with noiseDrawn := (s.round b).noiseDrawn.insertAt c l }) ∧
  (∀ (s : State) (b c : Nat), b < 16 → (s.round b).state = .recover → (s.round b).resultWritten = false →
    (s.round b).cancelDone = true → (s.round b).noiseOk = true → s.unconsumed b = false → s.workPaused (s.round b) = false →
    (s.round b).crew = false → (s.round b).owned = [c] → (s.round b).resAt c % 32 = 0 →
    (∀ a, (s.round b).resAt c ≤ a → a < (s.round b).resAt c + 4096 → s.bedComm (a / 32) = none) →
    (s.sumWords (s.round b) c).1.length = (s.round b).d.words →
    ∃ t, exec (.resultWrite b) s = .next t ∧ t.round b = { s.round b with resultWritten := true } ∧
      memRead t.mem ((s.round b).resAt c) 4096 =
        resultRecord (s.round b).d (s.sumWords (s.round b) c).1 c ((s.round b).counts.get 0 c) (s.round b).d.noise ∧
      (∀ a, a < (s.round b).resAt c ∨ (s.round b).resAt c + 4096 ≤ a → memGet t.mem a = memGet s.mem a)) ∧
  (∀ (s : State) (b x : Nat), b < 16 → (s.round b).state = .recover → (s.round b).d.glwe = true →
    (s.ownedCts (s.round b)).contains x = true → (s.round b).combined.find? x = none →
    ((s.round b).partials.filter fun p => decide (p.ct = x)).length = (s.round b).d.threshold →
    (∀ p ∈ (s.round b).partials, p.accepted < s.stroke.now) → s.workPaused (s.round b) = false →
    (s.round b).d.dClose + 1024 < s.stroke.now →
    ∃ t l, exec (.glweCombine b x) s = .next t ∧ FabricStands s t ∧ l.length = (s.roundKey (s.round b)).ring ∧
      t.round b = { s.round b with
        combined := (s.round b).combined.insertAt x l, secretsDone := (s.round b).secretsDone + 1 })

/-! ### The crew channel (07 R305 to R307, 11 R441, R442) -/

/-- What a member holds after a message of the leader or of another member about a round (06 R262 to R264, 07 R305, 11 R442); the
leader sends a decision again to a member that has not acknowledged it (11 R442). -/
def Obligations.CrewMessages : Prop :=
  (∀ (s u : State) (pos b : Nat) (msg : List Byte) (recs : List (List Byte)) (e : List Byte),
    (Carried s u pos 0x10 b msg [e] → leAt e 0 1 ≠ 1 → u.stroke.now ≤ leAt e 8 8 →
      (∀ d ∈ (u.round b).decisions, ¬ (d.kind = leAt e 0 1 ∧ d.named = leAt e 8 8)) →
      ∃ t, exec (.haDecision pos msg) s = .next t ∧ FabricStands u t ∧ (t.round b).decisions = (u.round b).decisions ++
        [{ kind := leAt e 0 1, reason := leAt e 1 1, count := leAt e 4 4, named := leAt e 8 8 }]) ∧
    (Carried s u pos 0x11 b msg recs →
      ∃ t, exec (.haDecisionAck pos msg) s = .next t ∧ FabricStands u t ∧
        (t.round b).decisions.length = (u.round b).decisions.length ∧
        ∀ d ∈ (t.round b).decisions, d.named = leAt (recs.headD []) 0 8 → pos ∈ d.acked) ∧
    (∀ d : Decision, Carried s u pos 0x16 b msg recs → (u.round b).decisions = [d] → d.kind = 1 →
      d.named = leAt (recs.headD []) 0 8 → (∀ r ∈ recs, leAt r 0 8 = d.named) → d.whole = false → u.stroke.now ≤ d.named →
      ∃ t, exec (.haDropSlots pos msg) s = .next t ∧ FabricStands u t ∧
        (t.round b).decisions = [{ d with slots := d.slots ++ recs.map fun r => leAt r 8 4 }]) ∧
    (Carried s u pos 0x12 b msg [e] → (u.round b).owns (leAt e 0 4) = true →
      ∃ t, exec (.haCounts pos msg) s = .next t ∧ FabricStands u t ∧ pos ∈ (t.round b).countsFrom ∧
        (t.round b).counts.get 0 (leAt e 0 4) = (u.round b).counts.get 0 (leAt e 0 4) + leAt e 4 4) ∧
    (Carried s u pos 0x13 b msg [e] →
      ∃ t, exec (.haStatuses pos msg) s = .next t ∧ FabricStands u t ∧ pos ∈ (t.round b).statusFrom ∧
        (t.round b).statuses.get 0 (leAt e 0 4) = leAt e 4 1) ∧
    (Carried s u pos 0x14 b msg recs → recs.headD [] = sha256 (u.round b).desc →
      ∃ t, exec (.haDigest pos msg) s = .next t ∧ FabricStands u t ∧
        t.round b = { u.round b with digests := (u.round b).digests ++ [pos] }) ∧
    (Carried s u pos 0x15 b msg recs → u.isLeader = true → (u.round b).crew = true → (u.round b).state.working = true →
      (∀ d ∈ (u.round b).decisions, d.kind ≠ 3) →
      ∃ t, exec (.haFaultReport pos msg) s = .next t ∧ FabricStands u t ∧ (t.round b).decisions = (u.round b).decisions ++
        [{ kind := 3, reason := leAt (recs.headD []) 0 1, count := 0, named := u.stroke.now + 64 }]) ∧
    (Carried s u pos 1 b msg [e] → (u.round b).state.working = true →
      ∃ t, exec (.haShares pos msg) s = .next t ∧ FabricStands u t ∧ (t.round b).shares = (u.round b).shares ++
        [{ owner := leAt e 0 4, holder := leAt e 4 4, self := leAt e 8 16, pair := leAt e 0x18 16 }]) ∧
    (∀ v : State, Carried s u pos 2 b msg [e] → (u.round b).state = .recover → u.enqueueTerm b (termOf (ofLe e)) = some v →
      ∃ t, exec (.haTerms pos msg) s = .next t ∧ t.spill = v.spill ∧ t.mem = u.mem ∧ t.cores = u.cores ∧
        t.round b = { u.round b with cancelDone := false }) ∧
    (Carried s u pos 3 b msg [e] →
      ∃ t, exec (.haChunkSets pos msg) s = .next t ∧ FabricStands u t ∧
        (t.round b).chunkSets.find? (leAt e 0 4) = some (leAt e 4 4, BitVec.ofNat 64 (leAt e 8 8))) ∧
    (Carried s u pos 4 b msg recs →
      ∃ t, exec (.haRetractions pos msg) s = .next t ∧ FabricStands u t ∧
        t.round b = { u.round b with retractions := (u.round b).retractions ++ recs.map fun r => (leAt r 0 4, leAt r 4 4) }) ∧
    (Carried s u pos 5 b msg recs →
      ∃ t, exec (.haDone pos msg) s = .next t ∧ FabricStands u t ∧ pos ∈ (t.round b).doneFrom)) ∧
  (∀ (s : State) (b p : Nat) (d : Decision), b < 16 → s.isLeader = true → (s.round b).decisions = [d] → d.slots = [] →
    s.otherPositions = [p] → d.acked.contains p = false → (s.peer (s.memberId p)).connected = true →
    ∃ t m, exec (.haDecisionResend b) s = .next t ∧ t.out = .carry p m :: s.out ∧ t.rounds = s.rounds ∧ FabricStands s t ∧
      (t.peer (s.memberId p)).seqTx = (s.peer (s.memberId p)).seqTx + 1)

/-! ### CIPHER (08) -/

/-- Linear operations on encrypted bits (08 R325): sums, differences and multiples of the bodies on the torus of 2^32, and a copy. -/
def Obligations.CipherLinear : Prop :=
  LinearGives .ciLadd 0x01 (fun _ _ x y => (x.zip y).map fun e => (e.1 + e.2) % 2 ^ 32) ∧
  LinearGives .ciLsub 0x02 (fun _ _ x y => (x.zip y).map fun e => (e.1 + (2 ^ 32 - 1) * e.2) % 2 ^ 32) ∧
  LinearGives .ciLneg 0x03 (fun _ _ x _ => x.map fun v => (2 ^ 32 - 1) * v % 2 ^ 32) ∧
  LinearGives .ciLscale 0x04 (fun _ c x _ => x.map fun v => (c % 2 ^ 32).toNat * v % 2 ^ 32) ∧
  LinearGives .ciLaddc 0x05 (fun w c x _ => x.dropLast ++ [(x.getLastD 0 + c.toNat * 2 ^ (31 - w)) % 2 ^ 32]) ∧
  LinearGives .ciLnot 0x06 (fun w _ x _ => addConst (x.map fun v => (2 ^ 32 - 1) * v % 2 ^ 32) (2 ^ (31 - w))) ∧
  LinearGives .ciCopy 0x20 (fun _ _ x _ => x)

/-- Gates, tables, refresh and extraction (08 R325 to R327): one refresh of the linear step by the operation's table, or
OUT poisoned with the status of a refresh that fails; MUX adds the results of two. -/
def Obligations.CipherGates : Prop :=
  RefreshGives .ciRefresh 0x10 none (fun _ x _ => x) ∧
  RefreshGives .ciAnd 0x11 (some 0x1100) (fun _ x y => linBody 1 x 1 y) ∧
  RefreshGives .ciOr 0x12 (some 0x1110) (fun _ x y => linBody 1 x 1 y) ∧
  RefreshGives .ciXor 0x13 (some 0x1010) (fun _ x y => linBody 1 x 1 y) ∧
  RefreshGives .ciNand 0x14 (some 0x0011) (fun _ x y => linBody 1 x 1 y) ∧
  RefreshGives .ciNor 0x15 (some 0x0001) (fun _ x y => linBody 1 x 1 y) ∧
  RefreshGives .ciXnor 0x16 (some 0x0101) (fun _ x y => linBody 1 x 1 y) ∧
  RefreshGives .ciAndn 0x17 (some 0x0100) (fun _ x y => linBody 2 x 1 y) ∧
  RefreshGives .ciLut2 0x18 none (fun _ x y => linBody 2 x 1 y) ∧
  RefreshGives .ciExtract 0x1A none (fun _ x _ => x) ∧
  (∀ (s : State) (course : Nat) (vf : Bool) (r : CReq) (o : COp) (os : List Obj), CipherStarts s 0x19 course r →
    LweReady s.cipherTaken r o os →
    let first := s.cipherTaken.refresh ⟨course, vf⟩ (hdr0 os) (linBody 2 (bodyOf os 0) 1 (bodyOf os 1)) 0x1000 false
    exec (.ciMux course vf) s = .next (match first.1 with
      | .failed e => first.2.poisonOut r (outHdr r.op os) e 0
      | .ok x => lweEnd (first.2.refresh ⟨course, vf⟩ (hdr0 os) (muxStep (hdr0 os).w os) 0x1000 false) r os 1
          fun y => linBody 1 x 1 y))

/-- Key sets, the export of A and the status record (08 R337, R338, R341, R347), and the completion at a commit (08 R323, R330). -/
def Obligations.CipherKeySets : Prop :=
  (∀ (s : State) (course : Nat) (vf : Bool) (r : CReq) (h : List Byte) (k : KeySet), CipherStarts s 0x30 course r → r.formOk = true →
    r.in0 % 32 = 0 → s.cipherTaken.tenantRange r.in0 64 1 = true → s.cipherTaken.readBytes 1 r.in0 64 = (h, false, s.cipherTaken) →
    s.cipherTaken.imageHdr r.in0 h = some k → s.cipherTaken.tenantRange r.in0 k.len 1 = true →
    s.cipher.keySets.find? (leAt h 8 8) = none → s.cipher.keySets.length < 16 →
    s.cipherTaken.imageChunks (leAt h 8 8) k = (true, s.cipherTaken) →
    ∃ t, exec (.ciKeysetRegister course vf) s = .next t ∧ t.cipher.keySets = s.cipher.keySets.insertAt (leAt h 8 8) k ∧
      t.cipher.completions = s.cipher.completions ++ [⟨r.cookie, 0, 0, 0, none⟩] ∧ t.mem = s.mem) ∧
  (∀ (s : State) (course : Nat) (vf : Bool) (r : CReq) (k : KeySet), CipherStarts s 0x31 course r → r.formOk = true →
    s.cipher.keySets.find? r.ksid = some k →
    (∀ e ∈ s.rounds.blocks, e.2.state.live = true → e.2.d.glwe = true → e.2.d.keySet ≠ r.ksid) →
    ∃ t, exec (.ciKeysetRelease course vf) s = .next t ∧ t.cipher.keySets = s.cipher.keySets.erase r.ksid ∧
      (∀ e ∈ t.cipher.replica, e.2.1 ≠ r.ksid) ∧
      t.cipher.completions = s.cipher.completions ++ [⟨r.cookie, 0, 0, 0, none⟩] ∧ t.mem = s.mem) ∧
  (∀ (s : State) (course b : Nat) (vf : Bool) (r : CReq), CipherStarts s 0x40 course r → r.formOk = true → r.c = b → b < 16 →
    (s.round b).state = .recover → (s.round b).d.glwe = true → (s.roundKey (s.round b)).span ≠ 0 → r.out % 32 = 0 →
    s.cipherTaken.tenantRange r.out (4096 * max 1 ((s.round b).owned.filter fun c => !(glweA (s.roundKey (s.round b)) c).isEmpty).length)
      1 = true →
    ∃ t, exec (.ciGlweExportA course vf) s = .next t ∧ t.rounds = s.rounds ∧ t.cores = s.cores ∧
      t.cipher.completions = s.cipher.completions ++ [⟨r.cookie, 0, 0, 0, none⟩]) ∧
  (∀ (s : State) (course : Nat) (vf : Bool) (r : CReq), CipherStarts s 0x41 course r → r.formOk = true →
    s.cipherTaken.objRange r.out 64 = true →
    ∃ t, exec (.ciStatus course vf) s = .next t ∧ t.mem = (s.cipherTaken.writeBytes 1 r.out s.cipher.record).mem ∧
      t.cipher.events = (if r.attr.testBit 1 then 0 else s.cipher.events) ∧
      t.cipher.completions = s.cipher.completions ++ [⟨r.cookie, 0, 0, 0, some r.out⟩]) ∧
  (∀ (s : State) (d : CipherDone) (l : List CipherDone), s.cipher.completions = d :: l → s.overran = false → s.gated = false →
    d.record = none →
    ∃ t, exec .ciCompletion s = .next t ∧ t.cipher = { s.cipher with completions := l } ∧ t.mem = s.mem ∧
      UnitPut s t s.cipher.doneQueue .cipher [BitVec.ofNat 256 (d.cookie + 2 ^ 64 * d.status + 2 ^ 72 * d.level +
        2 ^ 104 * min d.refreshes 255 + 2 ^ 112 * (s.stroke.now % 2 ^ 64))])

/-! ### Vaults (09) -/

/-- A Vault takes the request at the head of its input, a forward or an inverse transform of one polynomial whose source is clean, and
writes the transform to its destination; the completion word waits, and is written to the done queue (09 R358, R359, R364, R366); a
command of the modulus table lands (09 R379). -/
def Obligations.VaultResults : Prop :=
  (∀ (s u : State) (c id p a b : Nat) (r : Rig) (it : QItem) (l : List QItem) (x : QWord) (h : QWord) (data : List Byte) (q : VaultReq)
      (d : RigQueue), c < 96 → s.enginesStart = true → (s.fabric.vaults.get {} c) = {} → (s.queue (16384 + c)).items = it :: l →
    it.deliverable = true → it.words = [h, x] → s.vaultRig c = some (id, r) → vaultReq x.w = q → q.malformed = false → q.batch = 1 →
    s.vaultModulus q = some p → s.vaultRanges r q = some (a, b, none) → r.queues[q.doneQueue]? = some d → d.role = 1 →
    u = s.setQueue (16384 + c) { s.queue (16384 + c) with items := l } → u.readBytes 4 a (8 * 2 ^ q.m) = (data, false, u) →
    (q.op = 1 → ∃ t, exec (.vaultForward c []) s = .next t ∧ (t.queue (16384 + c)).items = l ∧
      t.mem = (u.writeBytes 4 b (coeffBytes (nttForward p q.m q.nega (coeffs data)))).mem ∧
      (t.fabric.vaults.get {} c).completion = some (d.queue, BitVec.ofNat 256 q.cookie)) ∧
    (q.op = 2 → ∃ t, exec (.vaultInverse c []) s = .next t ∧ (t.queue (16384 + c)).items = l ∧
      t.mem = (u.writeBytes 4 b (coeffBytes (nttInverse p q.m q.nega q.scale (coeffs data)))).mem ∧
      (t.fabric.vaults.get {} c).completion = some (d.queue, BitVec.ofNat 256 q.cookie))) ∧
  (∀ (s : State) (c cycle n : Nat) (w : W256), c < 96 → (s.fabric.vaults.get {} c).completion = some (n, w) →
    ∃ t, exec (.vaultCompletion c cycle) s = .next t ∧ (t.fabric.vaults.get {} c).completion = none ∧ t.mem = s.mem ∧
      UnitPut (s.atCycle cycle) t n (.vault c) [w]) ∧
  (∀ (s : State) (c : Nat), c < 96 → Takes s .vault → s.mtCmd.busy = false →
    ∀ op i, (i, op) ∈ [(Instr.vaMtWrite c, 1), (.vaMtClear c, 2), (.vaMtRead c, 3)] →
      exec i s = .next { s.woken .vault with mtCmd := { s.mtCmd with
        busy := true, op := op, sub := c, args := [s.reg .vault 0 0x80, s.reg .vault 0 0x84, s.reg .vault 0 0x88] } })

/-! ### Queues and windows (10, 16) -/

/-- A SPILL command lands on its page, with the selected queue and the staged configuration (10 R404, R416); SPILL_SEL selects a queue and
shows its configuration (10 R411); a watermark that R412 allows is set. -/
def Obligations.SpillCommands : Prop :=
  (∀ (s : State) (k cycle op : Nat) (i : Instr), k < 16 → Takes s .spill → Clocked s → (s.spillCmdOf k).busy = false →
    (i, op) ∈ [(Instr.spConfigure k cycle, 1), (.spFlush k cycle, 2), (.spFree k cycle, 3)] →
    exec i s = .next { (s.atCycle cycle).woken .spill with
      spillCmd := s.spillCmd.put {} k { s.spillCmdOf k with
        busy := true, op := op, eff := effAt s cycle, args := [BitVec.ofNat 32 (s.selQueue k), s.reg .spill k 0x44] } }) ∧
  (∀ (s : State) (k : Nat) (v : W32), k < 16 → Takes s .spill →
    ∃ t, exec (.spillSel k v) s = .next t ∧ t.reg .spill k 0x40 = v &&& 0x3FF ∧ t.selQueue k = 1024 * k + v.toNat % 1024 ∧
      t.reg .spill k 0x44 = (s.queue (1024 * k + v.toNat % 1024)).cfgWord ∧ FabricStands s t) ∧
  (∀ (s : State) (k : Nat) (v : W32), k < 16 → Takes s .spill → (s.queue (s.selQueue k)).owner = .tenant →
    v.toNat % 2 ^ 23 ≤ (s.queue (s.selQueue k)).cap →
    (v.toNat % 2 ^ 23 = 0 ∨ (s.queue (s.selQueue k)).lowWm < v.toNat % 2 ^ 23) →
    (s.queue (s.selQueue k)).lowWm ≤ (s.queue (s.selQueue k)).cap →
    exec (.watermarkWrite k true v) s = .next (((s.atCycle s.stroke.cycle).woken .spill).setQueue (s.selQueue k)
      { s.queue (s.selQueue k) with highWm := v.toNat % 2 ^ 23 })) ∧
  (∀ (s : State) (k : Nat) (v : W32), k < 16 → Takes s .spill → (s.queue (s.selQueue k)).owner = .tenant →
    v.toNat % 2 ^ 23 ≤ (s.queue (s.selQueue k)).cap → (s.queue (s.selQueue k)).highWm ≤ (s.queue (s.selQueue k)).cap →
    ((s.queue (s.selQueue k)).highWm = 0 ∨ v.toNat % 2 ^ 23 < (s.queue (s.selQueue k)).highWm) →
    exec (.watermarkWrite k false v) s = .next (((s.atCycle s.stroke.cycle).woken .spill).setQueue (s.selQueue k)
      { s.queue (s.selQueue k) with lowWm := v.toNat % 2 ^ 23 }))

/-- The host's production (10 R388 to R392, R407 to R409): WIN_DATA stages bytes; each WIN_PROD_OP does to the queue what its code says,
with LAST 0; from cycle 2,016 on it is held for the next stroke (10 R390). -/
def Obligations.WindowProduction : Prop :=
  ∀ (s : State) (n cycle : Nat), WinOpen s n → (s.queue n).hostProd = true →
    (∀ (off : Nat) (l : List Byte), off + l.length ≤ 32 → l.length ∈ [1, 2, 4, 8, 16, 32] → off % l.length = 0 →
      exec (.winDataWrite n off cycle l) s = .next ((s.windowed cycle).setQueue n { s.queue n with
        staged := BitVec.ofNat 256 (ofLe (((toLe 32 (s.queue n).staged.toNat).take off ++ l ++
          (toLe 32 (s.queue n).staged.toNat).drop (off + l.length)).take 31)) })) ∧
    (∀ op i, (i, op) ∈ [(Instr.prodData n cycle, 0), (.prodOpen n cycle, 1), (.prodClose n cycle, 2), (.prodSingle n cycle, 3),
        (.prodMarker n cycle, 4)] → (s.windowed cycle).holding = true →
      exec i s = .next { s.windowed cycle with spill := { s.spill with
        held := s.spill.held ++ [.hostProd n op (s.queue n).staged] } }) ∧
    ((s.windowed cycle).holding = false →
      (∀ (l : List QItem) (y : QItem), (s.queue n).items = l ++ [y] → y.closed = false → y.abandoned = false → y.src = .host →
        (s.queue n).flushed = [] → (s.queue n).level + 1 ≤ (s.queue n).cap → y.dataWords < 65536 →
        (∃ t, exec (.prodData n cycle) s = .next t ∧ t.mem = s.mem ∧ (t.queue n).last = 0 ∧
          (t.queue n).items = l ++ [{ y with words := y.words ++ [{ w := tagWord 1 (s.queue n).staged }] }]) ∧
        (∀ h d, y.words = h :: d → y.freed = 0 →
          ∃ t, exec (.prodClose n cycle) s = .next t ∧ t.mem = s.mem ∧ (t.queue n).last = 0 ∧
            (t.queue n).items = l ++ [{ y with
              words := { w := ctrlWord 2 (d.length + 1) y.bytes 2 y.decision s.stroke.now y.qpn 0 } ::
                d ++ [{ w := tagWord 1 (s.queue n).staged }]
              closed := true, complete := true, stroke := s.stroke.now }])) ∧
      ((s.queue n).unopened → (s.queue n).level + 2 ≤ (s.queue n).cap →
        (∃ t, exec (.prodOpen n cycle) s = .next t ∧ t.mem = s.mem ∧ (t.queue n).last = 0 ∧
          (t.queue n).items = (s.queue n).items ++
            [{ kind := .packet, src := .host, words := [{ w := 0 }, { w := tagWord 1 (s.queue n).staged }] }]) ∧
        (∃ t, exec (.prodSingle n cycle) s = .next t ∧ t.mem = s.mem ∧ (t.queue n).last = 0 ∧
          (t.queue n).items = (s.queue n).items ++
            [{ kind := .packet, src := .host, closed := true, complete := true, stroke := s.stroke.now
               words := [{ w := ctrlWord 2 1 0 2 0 s.stroke.now 0 0 }, { w := tagWord 1 (s.queue n).staged }] }]) ∧
        (∃ t, exec (.prodMarker n cycle) s = .next t ∧ t.mem = s.mem ∧ (t.queue n).last = 0 ∧
          (t.queue n).items = (s.queue n).items ++
            [{ kind := .marker, src := .host, closed := true, complete := true, stroke := s.stroke.now
               words := [{ w := tagWord 3 (s.queue n).staged }] }])))

/-- The host's consumption (10 R396, R401, R407, R408): a read takes the next visible word, or zeros; MARK, REWIND and RELEASE move the
host mark, the read position and the release point; an acknowledgement takes COUNT off the notices; a burst fills the head window by
8 words (10 R397). -/
def Obligations.WindowConsumption : Prop :=
  (∀ (s : State) (n cycle len : Nat) (d : QWord) (p : Nat), WinOpen s n → (s.queue n).hostCons = true →
    (s.queue n).nextWord (s.queue n).rd = some (d, p) → d.bad = false →
    exec (.winDataRead n cycle len) s = .next (((s.windowed cycle).setQueue n { s.queue n with latch := d.w, rd := p }).emit
      (.completion ((toLe 32 d.w.toNat).take len) false))) ∧
  (∀ (s : State) (n cycle len : Nat), WinOpen s n → (s.queue n).hostCons = true → (s.queue n).nextWord (s.queue n).rd = none →
    exec (.winDataRead n cycle len) s = .next (((s.windowed cycle).setQueue n { s.queue n with latch := 0 }).emit
      (.completion ((List.replicate 32 0).take len) false))) ∧
  (∀ (s : State) (n cycle : Nat), WinOpen s n → (s.queue n).hostCons = true →
    exec (.winMark n cycle) s = .next ((s.windowed cycle).setQueue n { s.queue n with hostMark := (s.queue n).rd }) ∧
    exec (.winRewind n cycle) s = .next ((s.windowed cycle).setQueue n { s.queue n with rd := (s.queue n).hostMark }) ∧
    exec (.winRelease n cycle) s = .next ((s.windowed cycle).setQueue n { s.queue n with
      relPend := some (s.queue n).rd, hostMark := (s.queue n).rd
      relFrom := if (s.windowed cycle).stroke.cycle < 2041 then s.stroke.now else s.stroke.now + 1 })) ∧
  (∀ (s : State) (n : Nat) (v : W32), WinOpen s n → (s.queue n).hostProd = true ∨ (s.queue n).hostCons = true →
    v.toNat.testBit 31 = false →
    exec (.winNoticeAck n v) s = .next ((s.windowed s.stroke.cycle).setQueue n { s.queue n with
      notices := (s.queue n).notices - v.toNat % 2 ^ 24 })) ∧
  (∀ (s : State) (n : Nat), n < 16384 →
    ∃ t, exec (.ringFetch n) s = .next t ∧ t.mem = s.mem ∧
      t.queue n = { s.queue n with
        inPlace := max (s.queue n).inPlace (min ((s.queue n).inPlace + 8) ((s.queue n).level - (s.queue n).intakeMark)) })

/-- A doorbell (16 R602 to R604): a valid ring reads the header and the words from host memory and opens its packet; when the words have
come they are written and the packet is closed, with LAST 0. -/
def Obligations.DoorbellResults : Prop :=
  (∀ (s : State) (n cycle : Nat) (hi : W32) (h : List Byte), WinOpen s n → s.reef.level ≠ 4 → (s.queue n).hostProd = true →
    ((s.queue n).dbAddrLo.toNat + 2 ^ 32 * hi.toNat) % 64 = 0 → (s.queue n).dbBusy = false → (s.queue n).unopened →
    s.pcie.bme = true → hostHeaderOk h = true → (s.windowed cycle).holding = false → (s.queue n).level + 2 ≤ (s.queue n).cap →
    ∃ t, exec (.doorbellRing n cycle hi (some h)) s = .next t ∧ t.mem = s.mem ∧
      (t.queue n).dbBusy = true ∧ (t.queue n).dbWords = leAt h 0 4 ∧
      (t.queue n).items = (s.queue n).items ++ [{ kind := .packet, src := .doorbell, words := [{ w := 0 }] }] ∧
      t.out = .hostRead ((s.queue n).dbAddrLo.toNat + 2 ^ 32 * hi.toNat + 32) (32 * leAt h 0 4) ::
        .hostRead ((s.queue n).dbAddrLo.toNat + 2 ^ 32 * hi.toNat) 32 :: (s.windowed cycle).out) ∧
  (∀ (s : State) (n cycle : Nat) (l : List QItem) (y : QItem) (h : QWord) (data : List Byte), n < 16384 →
    (s.atCycle cycle).holding = false → (s.queue n).dbBusy = true → (s.queue n).dbWords = 1 → (s.queue n).items = l ++ [y] →
    y.closed = false → y.abandoned = false → y.src = .doorbell → y.words = [h] → y.freed = 0 → (s.queue n).flushed = [] →
    (s.queue n).level + 1 ≤ (s.queue n).cap → data.length = 32 →
    ∃ t, exec (.doorbellFetchDone n cycle (some data)) s = .next t ∧ t.mem = s.mem ∧
      (t.queue n).dbBusy = false ∧ (t.queue n).dbLast = 0 ∧
      (t.queue n).items = l ++ [{ y with
        closed := true, complete := true, stroke := s.stroke.now
        words := [{ w := ctrlWord 2 1 y.bytes 2 y.decision s.stroke.now y.qpn 0 },
          { w := tagWord 1 (BitVec.ofNat 256 (ofLe data)) }] }])

/-! ### Ethernet ports (11) -/

/-- Frames of a port (11 R421, R424 to R426): a good frame is counted and enters its priority's buffer, a bad one is counted as bad; PFC
pauses and resumes priorities, an XOFF is repeated while the buffer stays above XON, a priority held paused is a storm, and a pause
ends with its time; LLDP frames are sent, and a neighbour is held until its TTL is over. ETH_CFG takes a value whose speed and lane rate
go together, in flash too (R423, R447); at most one port has PTP_EN (R428); a link that falls is counted, with its PFC state cleared,
and a port that is not disabled comes up (R420). -/
def Obligations.PortResults : Prop :=
  (∀ (s : State) (p prio : Nat), p < 8 → prio < 8 →
    (∀ len tags fill corr uncorr, s.portMode ≠ .off → (s.port p).linkUp = true → 64 ≤ len → len ≤ 9216 → tags ≤ 1 →
      ((s.port p).fill.put 0 prio fill).foldl (fun n (e : Nat × Nat) => n + e.2) 0 ≤ 8192 →
      ∃ t, exec (.rxFrame p len tags prio 0 fill corr uncorr true) s = .next t ∧ t.mem = s.mem ∧
        t.getPair .eth p 0x60 = min (2 ^ 64 - 1) (s.getPair .eth p 0x60 + 1) ∧ (t.port p).fill.get 0 prio = fill ∧
        t.reg .eth p 0x7C = satAdd (s.reg .eth p 0x7C) corr) ∧
    (∀ len tags fill corr uncorr, s.portMode ≠ .off → (s.port p).linkUp = true →
      ∃ t, exec (.rxFrame p len tags prio 0 fill corr uncorr false) s = .next t ∧ FabricStands s t ∧ t.net = s.net ∧
        t.reg .eth p 0x70 = satAdd (s.reg .eth p 0x70) 1) ∧
    (∀ pause resume, pause < 256 → resume < 256 → pause &&& resume = 0 → s.portMode ≠ .off → (s.port p).linkUp = true →
      ∃ t, exec (.pfcFrameRx p pause resume) s = .next t ∧ FabricStands s t ∧
        (t.port p).rxPaused = ((s.port p).rxPaused ||| (pause &&& s.pfcEn p)) &&& (255 - resume)) ∧
    (∀ fill, (s.port p).txPausing.testBit prio = true → s.portMode.pfc = true → (s.pfcEn p).testBit prio = true →
      (s.reg .eth p 0x54).toNat < fill →
      ∃ t, exec (.pfcXoffRefresh p prio fill) s = .next t ∧ FabricStands s t ∧ t.out = .pfc p prio 65535 :: s.out ∧
        (t.port p).txPausing = (s.port p).txPausing) ∧
    ((s.port p).rxPaused.testBit prio = true →
      ∃ t, exec (.pfcStorm p prio) s = .next t ∧ FabricStands s t ∧
        t.port p = { s.port p with storm := putBit (s.port p).storm prio true } ∧ (t.reg .eth p 0x14).toNat.testBit 4 = true) ∧
    (∃ t, exec (.pfcPauseExpiry p prio) s = .next t ∧ FabricStands s t ∧
      t.port p = { s.port p with
        rxPaused := putBit (s.port p).rxPaused prio false, storm := putBit (s.port p).storm prio false }) ∧
    ((s.reg .eth p 0x40).toNat.testBit 6 = true → (s.port p).linkUp = true → s.portMode.lldp = true →
      ∃ t, exec (.lldpTx p) s = .next t ∧ FabricStands s t ∧ t.out = .lldp p 120 :: s.out ∧ t.net = s.net) ∧
    (∀ ct c pt i ttl, (s.port p).linkUp = true → s.portMode.lldp = true → (s.port p).nbr = none → ttl ≠ 0 →
      ∃ t n, exec (.lldpRx p ct c pt i ttl) s = .next t ∧ FabricStands s t ∧ t.port p = { s.port p with nbr := some n } ∧
        n.record = lldpRecord ct c pt i ∧ n.ttl = ttl ∧ n.since = s.cycles) ∧
    (∃ t, exec (.lldpTtlExpiry p) s = .next t ∧ FabricStands s t ∧ t.port p = { s.port p with nbr := none })) ∧
  (∀ (s : State) (p : Nat) (v : W32), p < 8 → Takes s .eth →
    (v.toNat % 8 = 0 ∨ lanesOf (v.toNat % 8) (bits v.toNat 3 2) ≠ 0) → v.toNat &&& 0xFFF00E00 = 0 →
    ∃ t, exec (.ethCfgWrite p v) s = .next t ∧ FabricStands s t ∧ t.reg .eth p 0x40 = v ∧ (t.port p).flashCfg = v ∧
      (v.toNat % 32 = (s.reg .eth p 0x40).toNat % 32 → t.port p = { s.port p with flashCfg := v }) ∧
      (v.toNat % 32 ≠ (s.reg .eth p 0x40).toNat % 32 → (t.port p).linkUp = false)) ∧
  (∀ (s : State) (p : Nat) (v : W32), p < 8 → Takes s .eth → bits v.toNat 1 2 ≠ 3 → v.toNat.testBit 0 = true →
    ∃ t, exec (.ptpEnWrite p v) s = .next t ∧ FabricStands s t ∧ t.reg .eth p 0x58 = v &&& 0x7FF ∧
      ∀ q, q < 8 → q ≠ p → t.reg .eth q 0x58 = s.reg .eth q 0x58 &&& 0x7FE) ∧
  (∀ (s : State) (p : Nat), p < 8 → (s.port p).linkUp = true →
    ∃ t, exec (.ethLinkDown p) s = .next t ∧ FabricStands s t ∧ t.reg .eth p 0x8C = satAdd (s.reg .eth p 0x8C) 1 ∧
      t.port p = { s.port p with
        phyUp := false, linkUp := false, fecLock := false, lpiTx := false, lpiRx := false, rxPaused := 0, txPausing := 0
        storm := 0, fill := [] }) ∧
  (∀ (s : State) (p : Nat), p < 8 → s.portMode ≠ .off → (s.port p).linkUp = false →
    lanesOf ((s.reg .eth p 0x40).toNat % 8) (bits (s.reg .eth p 0x40).toNat 3 2) ≠ 0 →
    ∃ t, exec (.ethLinkUp p) s = .next t ∧ FabricStands s t ∧ (t.port p).linkUp = true ∧ (t.port p).phyUp = true ∧
      (t.reg .eth p 0x14).toNat.testBit 1 = true)

/-! ### Hail (11) -/

/-- Beacons, FORM, DISSOLVE and the loss of members (11 R432 to R434, R440, R443, R444). -/
def Obligations.HailMembership : Prop :=
  (∀ (s : State) (p : Nat), p < 8 → (∀ q, q < 8 → s.hailPort q = decide (q = p)) →
    ∃ t m, exec .beaconTx s = .next t ∧ FabricStands s t ∧ t.out = .hail p m :: s.out ∧ t.net = s.net ∧
      t.reg .hail 0 0x84 = satAdd (s.reg .hail 0 0x84) 1) ∧
  (∀ (s : State) (port mac : Nat) (m : List Byte), port < 8 → s.hailPort port = true → hailBad m = false → beaconBad m = false →
    leAt m 5 1 = 1 → leAt m 8 8 ≠ s.moduleId → s.hail.phase ≠ .forming →
    ∃ t, exec (.beaconRx port mac m) s = .next t ∧ FabricStands s t ∧ leAt m 8 8 ∈ t.hail.seen ∧ leAt m 8 8 ∈ t.hail.everSeen ∧
      t.reg .hail 0 0x88 = satAdd (s.reg .hail 0 0x88) 1) ∧
  (∀ (s : State) (id : Nat),
    ∃ t, exec (.peerSeenTimeout id) s = .next t ∧ FabricStands s t ∧ id ∉ t.hail.seen ∧ id ∉ t.hail.candidates ∧
      (LosesMember s id → t.hail.degraded = true ∧ (t.peer id).lost = true)) ∧
  (∀ (s : State) (v : W32), Takes s .hail → v.toNat.testBit 0 = true → v.toNat.testBit 1 = false → s.hail.phase = .idle →
    s.crewIdReg ≠ 0 → 2 ≤ bits v.toNat 8 9 → bits v.toNat 8 9 ≤ 256 → 8 ≤ s.hail.pskWritten.length → s.ten.claimed = true →
    s.roundsIdle = true → s.stroke.sync = .lockedPin ∨ s.stroke.sync = .lockedPtp →
    ∃ t, exec (.haForm v) s = .next t ∧ FabricStands s t ∧ t.hail.phase = .forming ∧ t.hail.crewId = s.crewIdReg ∧
      t.hail.expect = bits v.toNat 8 9 ∧ t.hail.members = [] ∧ t.hail.peers = [] ∧
      t.hail.keyEpoch = (s.hail.epochs.get 0 s.crewIdReg + 1) % 2 ^ 16) ∧
  (∀ (s : State) (v : W32), Takes s .hail → v.toNat.testBit 1 = true → v.toNat.testBit 0 = false → s.hail.phase = .crew →
    bits v.toNat 8 9 = s.expectReg →
    ∃ t, exec (.haDissolve v) s = .next t ∧ FabricStands s t ∧ t.hail.phase = .idle ∧ t.hail.formResult = 9 ∧ t.hail.members = [] ∧
      t.hail.peers = [] ∧ t.hail.psk = []) ∧
  (∀ (s : State) (port cycle id : Nat) (m b : List Byte), HailGiven s port 9 cycle m id → (s.atCycle cycle).hailBody m id = some b →
    LosesMember s id →
    ∃ t, exec (.haLeave port cycle m) s = .next t ∧ FabricStands s t ∧ t.hail.degraded = true ∧ (t.peer id).lost = true) ∧
  (∀ (s : State) (id : Nat), LosesMember s id → id ∉ s.hail.seen →
    ∃ t, exec (.memberLost id) s = .next t ∧ FabricStands s t ∧ t.hail.degraded = true ∧ (t.peer id).lost = true) ∧
  (∀ s : State, s.hail.phase = .forming →
    ∃ t, exec .formationTimeout s = .next t ∧ FabricStands s t ∧ t.hail.phase = .idle ∧ t.hail.formResult = 6)

/-- Formation (11 R435 to R440): HELLO is answered with ATTEST; an ATTEST whose statement matches derives the pair's keys and reserves a
queue pair; a CONFIRM whose HMAC is right connects it; the leader holds reports and acknowledgements, a member takes the roster, and a
refusal ends the formation. -/
def Obligations.HailFormation : Prop :=
  ∀ (s : State) (port cycle id : Nat) (m : List Byte), (s.atCycle cycle).formingWith m = true →
    (HailGiven s port 2 cycle m id → m.length = 104 → id < s.moduleId → id ∈ s.hail.candidates → (s.peer id).refused = false →
      (s.peer id).attested = false →
      ∃ t a, exec (.haHello port cycle m) s = .next t ∧ FabricStands s t ∧ t.out = .hail port a :: s.out ∧
        (t.peer id).peerNonce = (m.drop 40).take 32 ∧ (t.peer id).peerEph = (m.drop 72).take 32 ∧ (t.peer id).port = port) ∧
    (∀ (key : Option (List Byte)) (i : Nat), HailGiven s port 3 cycle m id → m.length = 40 + 658 + leAt m 696 2 →
      (s.peer id).nonce ≠ [] → (s.peer id).attested = false → (s.peer id).refused = false → id ≤ s.moduleId →
      allZero ((m.drop 40).take 32) = true → allZero ((m.drop 104).take 16) = true → (m.drop 72).take 32 = (s.peer id).peerEph →
      (s.atCycle cycle).statementMatches ((m.drop 120).take 576) (sha256 ((s.peer id).nonce ++ (s.peer id).peerEph)) key = true →
      s.freeTamrikQp = some i →
      ∃ t a, exec (.haAttest port cycle m key) s = .next t ∧ FabricStands s t ∧ t.out = .hail (s.peer id).port a :: s.out ∧
        (t.peer id).attested = true ∧ (t.peer id).k = 0 ∧ (t.peer id).ephPriv = [] ∧ (t.peer id).qp = some i ∧
        (t.peer id).keyConfirm = ((s.pairKeys id (s.peer id).ephPriv (s.peer id).peerEph).drop 64) ∧ (t.qp i).live = true) ∧
    (∀ i : Nat, HailGiven s port 4 cycle m id → m.length = 76 → (s.peer id).attested = true → (s.peer id).refused = false →
      (s.peer id).connected = false → m.drop 44 = hmac (s.peer id).keyConfirm (ascii "M6 crew confirm" ++ toLe 8 id) →
      (s.peer id).qp = some i →
      ∃ t, exec (.haConfirm port cycle m) s = .next t ∧ FabricStands s t ∧ (t.peer id).connected = true ∧
        (t.peer id).peerQpn = leAt m 40 4 ∧ (t.qp i).state = .rts) ∧
    (∀ b : List Byte, HailGiven s port 5 cycle m id → (s.atCycle cycle).hailBody m id = some b → b.length = 16 * s.hail.expect →
      ∃ t, exec (.haReport port cycle m) s = .next t ∧ FabricStands s t ∧
        t.hail.reports.find? id = some ((chunksOf (b.length + 1) 16 b).map fun e => (leAt e 0 8, leAtI e 8))) ∧
    (∀ b : List Byte, HailGiven s port 6 cycle m id → (s.atCycle cycle).hailBody m id = some b → leAt b 0 2 = s.hail.expect →
      (chunksOf (b.length + 1) 16 (b.drop 20)).length = s.hail.expect →
      s.moduleId ∈ (chunksOf (b.length + 1) 16 (b.drop 20)).map (fun e => leAt e 0 8) → s.roundsIdle = true →
      ∃ t, exec (.haRoster port cycle m) s = .next t ∧ FabricStands s t ∧
        t.hail.members = (chunksOf (b.length + 1) 16 (b.drop 20)).map (fun e => leAt e 0 8) ∧ t.hail.adoptV = leAt b 4 8 ∧
        t.hail.keyEpoch = leAt b 2 2 ∧ t.hail.pos = t.hail.members.idxOf s.moduleId) ∧
    (∀ b : List Byte, HailGiven s port 7 cycle m id → (s.atCycle cycle).hailBody m id = some b →
      ∃ t, exec (.haRosterAck port cycle m) s = .next t ∧ FabricStands s t ∧ id ∈ t.hail.rosterAcks) ∧
    (∀ b : List Byte, HailGiven s port 8 cycle m id → (s.atCycle cycle).hailBody m id = some b →
      ∃ t, exec (.haRefuse port cycle m) s = .next t ∧ FabricStands s t ∧ t.hail.phase = .idle ∧ t.hail.formResult = 7)

/-! ### Halyard (12) -/

/-- Work requests (12 R468 to R470, R488): each operation of the table is taken from the SQ and its packets are sent. -/
def Obligations.HalyardRequests : Prop :=
  WrGives .wrSend 0 ∧ WrGives .wrSendImm 1 ∧ WrGives .wrWrite 2 ∧ WrGives .wrWriteImm 3 ∧ WrGives .wrRead 4 ∧ WrGives .wrFetchAdd 5 ∧
  WrGives .wrCmpSwap 6 ∧ WrGives .wrAccWrite 7 ∧ WrGives .wrAccWriteImm 8

/-- Responses and timers of the requester (12 R470, R486, R493 to R495, R498): acknowledgements and responses complete a request, NAKs
fail or resend it, timers resend it, and CNPs lower the rate, which rises again without them; a residency fault that times out at the
responder is answered with an access NAK (12 R477), and a write of HALYARD_ODP_POP drops the oldest fault record (12 R505). -/
def Obligations.HalyardResponses : Prop :=
  (∀ (s : State) (p : Packet) (i : Nat) (r : SentReq), Awaits s p i r →
    (r.carries = true → r.spray = false → p.psn = r.last →
      ∃ t, exec (.rxAck p) s = .next t ∧ t.mem = s.mem ∧ (t.qp i).una = psnAdd p.psn 1 ∧ Completed s t i r) ∧
    (∀ (k : RKey) (off : Nat), p.psn = r.first → r.got = 0 → 0 < r.len → p.payload.length = r.len →
      (r.op = 4 ∧ p.opcode ≠ 0x12) ∨ ((r.op = 5 ∨ r.op = 6) ∧ p.opcode = 0x12 ∧ r.len = 8) →
      s.checkKey (s.qp i) r.lkey .localWrite r.laddr r.len 1 = .ok k off → k.host = false →
      ∃ t, exec (.rxReadResponse p) s = .next t ∧ t.mem = (s.writeBytes 5 (k.start + off) p.payload p.bad).mem ∧ Completed s t i r) ∧
    (r.spray = true → p.base = r.first →
      ∃ t, exec (.sprayAck p) s = .next t ∧ t.mem = s.mem ∧ Completed s t i r) ∧
    (r.spray = true → reqKind r.op ≠ 2 → ofBe ((p.payload.take 4).drop 1) = r.first →
      ∃ t, exec (.spraySnak p) s = .next t ∧ t.mem = s.mem ∧ t.reg .halyard 0 0x16C = satAdd (s.reg .halyard 0 0x16C) 1 ∧
        ∀ k ∈ snakIndices p.payload, k < r.span → s.packetOf i r (s.resendData i r) k ∈ t.out) ∧
    (reqKind r.op ≠ 2 → p.psn = r.first → ∃ t, exec (.rxNak p 0) s = .next t ∧ t.mem = s.mem ∧ t.cores = s.cores ∧ Resent s t i r) ∧
    (∀ kind, 1 ≤ kind → kind ≤ 3 → p.psn = r.first →
      ∃ t, exec (.rxNak p kind) s = .next t ∧ t.mem = s.mem ∧ (t.qp i).state = .error ∧ (t.qp i).sent = [] ∧
        t.reg .halyard 0 0xC4 = BitVec.ofNat 32 ((s.qp i).qpn i + 2 ^ 24 * (5 + kind))) ∧
    (p.psn = r.first → (s.qp i).rnrRetry = 7 ∨ (s.qp i).rnrTries < (s.qp i).rnrRetry →
      ∃ t, exec (.rxNak p 4) s = .next t ∧ t.mem = s.mem ∧
        t.qp i = { s.qp i with rnrTries := (s.qp i).rnrTries + 1, rnrFrom := some r.first })) ∧
  (∀ (s : State) (i : Nat) (r : SentReq), Waits s i r → reqKind r.op ≠ 2 →
    ((s.qp i).rnrFrom = some r.first → ∃ t, exec (.rnrTimer i) s = .next t ∧ t.mem = s.mem ∧ (t.qp i).rnrFrom = none ∧ Resent s t i r) ∧
    ((s.qp i).ackTimeout ≠ 0 → (s.qp i).retries < (s.qp i).retryCnt →
      ∃ t, exec (.ackTimeout i) s = .next t ∧ t.mem = s.mem ∧ (t.qp i).retries = (s.qp i).retries + 1 ∧ Resent s t i r)) ∧
  (∀ (s : State) (p : Packet) (i : Nat), Reaches s p i → (s.qp i).state = .rts → (s.qp i).lastCut = none →
    ∃ t, exec (.rxCnp p) s = .next t ∧ FabricStands s t ∧ t.reg .halyard 0 0x164 = satAdd (s.reg .halyard 0 0x164) 1 ∧
      t.qp i = { s.qp i with
        lastCut := some s.cycles
        rate := some (max 1000 (((s.qp i).rate.getD (s.qpLine (s.qp i))) *
          (256 - bits (s.reg .halyard 0 0xC0).toNat 10 8) / 256)) }) ∧
  (∀ (s : State) (i old new : Nat), i < 66560 → (s.qp i).rate = some old →
    old + s.qpLine (s.qp i) * bits (s.reg .halyard 0 0xC0).toNat 18 7 / 100 = new →
    exec (.rateIncrease i) s = .next (s.setQp i { s.qp i with rate := if s.qpLine (s.qp i) ≤ new then none else some new })) ∧
  (∀ (s : State) (i : Nat) (x : Stall), i < 66560 → (s.qp i).stall = some x → x.resp = true →
    ∃ t, exec (.hyOdpTimeout i) s = .next t ∧ t.mem = s.mem ∧ (t.qp i).state = .error ∧ (t.qp i).stall = none ∧
      Out.nak (s.qp i).dest x.psn 2 0 ∈ t.out) ∧
  (∀ s : State, Takes s .halyard →
    exec .hyOdpPop s = .next ((s.woken .halyard).setHalyard { s.halyard with odp := s.halyard.odp.drop 1 }))

/-- Packets at the responder (12 R466, R478 to R483, R491, R493, R494, 02 R77): from cycle 2,016 on they wait for the next stroke; a Send or
datagram lands in its queue, a Write in memory, a Read answers with committed data, an atomic executes at once and its response waits, an
Accumulate-Write enters the feeder queue, and a spray packet sets its bit; a quiet context sends its gaps. -/
def Obligations.HalyardPackets : Prop :=
  (∀ (s : State) (p : Packet) (cycle : Nat) (c : Instr) (l : List Nat), (s.atCycle cycle).holding = true → p.opcode ∈ l →
    (c, l) ∈ [(Instr.rxSendPacket p cycle, [0, 1, 2, 3, 4, 5]), (.rxWritePacket p cycle, [6, 7, 8, 9, 10, 11]),
      (.rxReadRequest p cycle, [12]), (.rxAtomic p cycle, [0x13, 0x14]), (.rxUdSend p cycle, [0x64, 0x65]),
      (.rxAccWritePacket p cycle, [0xC0, 0xC1, 0xC2, 0xC3, 0xC4, 0xC5]), (.rxSprayPacket p cycle, [0xC8, 0xC9, 0xCA, 0xCB])] →
    exec c s = .next ((s.atCycle cycle).setHalyard { s.halyard with held := s.halyard.held ++ [p] })) ∧
  (∀ (s : State) (p : Packet) (i cycle : Nat), Lands s p i cycle → p.bad = false →
    (p.opcode = 4 → Expected s p i → p.payload.length ≤ (s.qp i).pmtu → p.payload.length ≤ (s.qp i).maxMsg →
      (s.queue (s.landingOf i)).unopened → (s.queue (s.landingOf i)).level + (s.qp i).sendRoom ≤ (s.queue (s.landingOf i)).cap →
      ∃ t, exec (.rxSendPacket p cycle) s = .next t ∧ t.mem = s.mem ∧ Accepted t p i ∧
        Landed (s.atCycle cycle) t (s.landingOf i) i p.payload) ∧
    (p.opcode = 0x64 → (s.qp i).ud = true → p.qkey = (s.qp i).qkey → p.payload.length ≤ (s.qp i).pmtu →
      p.payload.length ≤ (s.qp i).maxMsg → (s.queue (s.landingOf i)).unopened →
      (s.queue (s.landingOf i)).level + max (s.qp i).sendRoom ((40 + p.payload.length + 23) / 24 + 2) ≤
        (s.queue (s.landingOf i)).cap →
      ∃ t, exec (.rxUdSend p cycle) s = .next t ∧ t.mem = s.mem ∧
        Landed (s.atCycle cycle) t (s.landingOf i) i (padTo 40 (p.grh.take 40) ++ p.payload)) ∧
    (∀ (k : RKey) (off : Nat), k.host = false →
      (p.opcode = 0xA → Expected s p i → p.payload.length = p.len → p.len ≤ (s.qp i).pmtu →
        s.checkKey (s.qp i) p.key .write p.va p.len 1 = .ok k off →
        ∃ t, exec (.rxWritePacket p cycle) s = .next t ∧ Accepted t p i ∧
          t.mem = ((s.atCycle cycle).writeBytes 5 (k.start + off) p.payload).mem) ∧
      (∀ data, p.opcode = 0xC → Expected s p i → 1 ≤ p.len → p.len ≤ (s.qp i).pmtu →
        s.checkKey (s.qp i) p.key .read p.va p.len 1 = .ok k off →
        (s.atCycle cycle).readBytes 5 (k.start + off) p.len = (data, false, s.atCycle cycle) →
        ∃ t, exec (.rxReadRequest p cycle) s = .next t ∧ t.mem = s.mem ∧ (t.qp i).expPsn = psnAdd p.psn 1 ∧
          Out.rdma (s.qp i).dest 0x10 p.psn [] data ∈ t.out) ∧
      (∀ data, p.opcode = 0x13 ∨ p.opcode = 0x14 → Expected s p i → s.checkKey (s.qp i) p.key .atomic p.va 8 8 = .ok k off →
        (s.atCycle cycle).readBytes 5 (k.start + off) 8 = (data, false, s.atCycle cycle) →
        ∃ t, exec (.rxAtomic p cycle) s = .next t ∧ (t.qp i).expPsn = psnAdd p.psn 1 ∧
          (t.qp i).atomicPend = (s.qp i).atomicPend ++ [(p.psn, ofLe data)] ∧
          t.mem = ((s.atCycle cycle).writeBytes 5 (k.start + off)
            (toLe 8 (if p.opcode = 0x14 then (ofLe data + p.op0) % 2 ^ 64
              else if ofLe data = p.op1 % 2 ^ 64 then p.op0 % 2 ^ 64 else ofLe data))).mem) ∧
      (p.opcode = 0xC4 → Expected s p i → (s.qp i).ext = true → p.payload.length = p.len → p.len ≤ (s.qp i).pmtu →
        accOk p.fmt p.q p.va p.len = true → s.checkKey (s.qp i) p.key .acc p.va (accSpan p.fmt p.len) 1 = .ok k off →
        (s.queue (feederOf i)).unopened → s.feederRoom (feederOf i) (p.len / 16 + 1) = true →
        ∃ t, exec (.rxAccWritePacket p cycle) s = .next t ∧ t.mem = s.mem ∧ Accepted t p i ∧
          ∃ x, (t.queue (feederOf i)).items = (s.queue (feederOf i)).items ++ [x] ∧ x.complete = true ∧
            x.words.drop 1 = (feederWords (k.start + off) p.fmt p.q i p.psn p.payload).map fun w => { w := tagWord 1 w }) ∧
      (p.opcode = 0xC8 → (s.qp i).ext = true → (s.qp i).spray = true → (s.qp i).ud = false → sprayOk (s.qp i) p none = true →
        (∀ c ∈ s.sprayOf i, c.base ≠ p.base) → s.sprayDup i (s.qp i) p = false → s.halyard.spray.length < 1024 →
        (s.sprayOf i).length < 64 → s.checkKey (s.qp i) p.key .write p.va p.len 1 = .ok k off →
        ∃ t, exec (.rxSprayPacket p cycle) s = .next t ∧
          t.mem = ((s.atCycle cycle).writeBytes 5 (k.start + off + p.idx * (s.qp i).pmtu) p.payload).mem ∧
          ∃ c ∈ t.halyard.spray, c.qp = i ∧ c.base = p.base ∧ c.got = [p.idx] ∧ c.full = decide ((s.qp i).packets p.len ≤ 1)))) ∧
  (∀ (s : State) (i base cycle : Nat) (c : SprayCtx), i < 66560 → c.snaks < 8 → c.full = false → c.base = base →
    (s.sprayOf i).find? (fun x => decide (x.base = base) && !x.full) = some c →
    ∃ t, exec (.spraySnakTimer i base cycle) s = .next t ∧ FabricStands s t ∧
      Out.rdma (s.qp i).dest 0xCD base [base] (snakBytes base c.pkts (gaps c.pkts c.got)) ∈ t.out ∧
      t.reg .halyard 0 0x168 = satAdd (s.reg .halyard 0 0x168) 1)

/-! ### Command registers (00 R722) -/

/-- Commands of the BOSUN, HALYARD and KEEP pages land with their arguments, for the commit that their cycle gives where they name one (01
R36, 12 R501, 14 R554, R564, 16 R622). -/
def Obligations.HostCommandsLand : Prop :=
  (∀ s : State, Takes s .bosun → s.bosun.busy = false →
    (∀ (cycle : Nat) (i : Instr) (op : Nat), Clocked s →
      (i, op) ∈ [(Instr.boClaim cycle, 1), (.boRelease cycle, 2), (.boRigUnload cycle, 7), (.boFnUnload cycle, 9)] →
      exec i s = .next { (s.atCycle cycle).woken .bosun with bosun := { s.bosun with
        busy := true, op := op, eff := effAt s cycle, ready := false, bad := false
        args := (List.range 64).map fun k => s.reg .bosun 0 (0x100 + 4 * k) } }) ∧
    (∀ (i : Instr) (op : Nat),
      (i, op) ∈ [(Instr.boAttest, 3), (.boRegionAlloc, 4), (.boRegionFree, 5), (.boRigLoad, 6), (.boFnLoad, 8), (.boHostCopy, 10),
        (.boFwStage, 11), (.boFwActivate, 12), (.boFenceMapRead, 13)] →
      exec i s = .next { s.woken .bosun with bosun := { s.bosun with
        busy := true, op := op, eff := effAt s s.stroke.cycle, ready := false, bad := false
        args := (List.range 64).map fun k => s.reg .bosun 0 (0x100 + 4 * k) } })) ∧
  (∀ s : State, Takes s .halyard → s.halyardCmd.busy = false → ∀ i op,
    (i, op) ∈ [(Instr.hyQpCreate, 1), (.hyQpModify, 2), (.hyQpDestroy, 3), (.hyQpQuery, 4), (.hyRegister, 5), (.hyDeregister, 6),
      (.hyPdAlloc, 7), (.hyPdFree, 8), (.hyOdpResolve, 9), (.hyOdpInvalidate, 10), (.hyGidSet, 11)] →
    exec i s = .next { s.woken .halyard with
      halyardCmd := { s.halyardCmd with busy := true, op := op, args := s.halyardBlock } }) ∧
  (∀ s : State, Takes s .keep → s.keepCmd.busy = false → ∀ i op slot, slot < 64 →
    (i, op, slot) ∈ [(Instr.kpGenerate, 1, 0), (.kpImportSealed, 2, 0), (.kpImportClear, 3, 0), (.kpLoad slot, 4, slot)] ∨
      (leAt s.keep.message 6 1, i, op, slot) ∈ [(1, Instr.kpTakeOwnership, 6, 0), (2, .kpRotate, 6, 0), (3, .kpSetAuthority, 6, 0),
        (4, .kpSetDebugKey, 6, 0), (5, .kpSeal, 6, 0), (6, .kpUnseal, 6, 0), (7, .kpReturn, 6, 0), (8, .kpScrap, 6, 0)] →
    exec i s = .next { s with keepCmd := { s.keepCmd with
      busy := true, op := op, sub := slot, args := [s.reg .keep 0 0x54, s.reg .keep 0 0x58, s.reg .keep 0 0x50] } }) ∧
  (∀ (s : State) (slot : Nat) (k : KeySlot), Takes s .keep → s.keepCmd.busy = false → slot < 56 → s.reg .keep 0 0x50 = 0 →
    s.keep.slots.find? slot = some k →
    exec (.kpUnload slot) s = .next { s with
      keepCmd := { s.keepCmd with
        busy := true, op := 5, sub := slot, args := [s.reg .keep 0 0x54, s.reg .keep 0 0x58, s.reg .keep 0 0x50] }
      keep := { s.keep with slots := s.keep.slots.insertAt slot { k with leaving := true } } })

/-! ### Tenancy, weights and the tamper line (14, 15) -/

/-- The end of a claim (15 R577, 16 R626), of a scrub (15 R584) and of a firmware programming (16 R629); a key that is asked for within its
use (14 R551); WEIGHTS_IO (15 R581 to R583); and an alarm in SEALED, which burns SEALED_KILL (14 R559). -/
def Obligations.TenancyEvents : Prop :=
  (∀ (s : State) (l : List (Nat × Nat × Bool)), s.ten.claiming = true → s.reserveOk l = true →
    ∃ t, exec (.claimComplete l) s = .next t ∧ t.ten = { s.ten with claiming := false, claimed := true } ∧ t.mem = s.mem ∧
      t.bosun = { s.bosun with busy := false, ready := false, outcome := 0, result := 0 } ∧
      t.fabric = { s.fabric with
        areas := s.fabric.areas ++ ((l.map fun e => { base := e.1, len := e.2.1, tag := if e.2.2 then 4 else 5, owner := .tamrik }) ++
          s.withheldPages.map fun w => { base := w, len := 0x200000, tag := 0, owner := .withheld }) }) ∧
  (∀ s : State, s.ten.scrubbing = true → s.lcHold = false → s.boot.fatal = 0 → s.power.on = true →
    (if s.boot.recordB then s.boot.slotB else s.boot.slotA).holds = .valid →
    ∃ t, exec .scrubDone s = .next t ∧ t.boot.stage = .ready ∧ t.boot.lastReset = 7 ∧ t.ten = {} ∧ t.mem = [] ∧ t.ecc = [] ∧
      t.cores = [] ∧ t.spill = {} ∧ t.rounds = {} ∧ t.keep.slots = [] ∧ t.bosun.busy = false ∧ t.fabric = s.fabric.kept ∧
      t.stroke.now = s.stroke.now) ∧
  (∀ s : State, s.boot.fwState = .programming → s.boot.staged.holds = .valid →
    ∃ t, exec (.fwProgramDone true) s = .next t ∧ t.boot.fwState = .staged ∧ t.boot.stagedVer = s.boot.staged.version ∧
      (if s.boot.fwSlotB then t.boot.slotB else t.boot.slotA) = s.boot.staged ∧
      (if s.boot.fwSlotB then t.boot.slotA = s.boot.slotA else t.boot.slotB = s.boot.slotB) ∧ FabricStands s t) ∧
  (∀ (s : State) (slot dest use : Nat) (k : KeySlot), dest < 5 → use < 7 → KeyServes s slot dest use k →
    exec (.kpKeyRequest slot dest use 0) s = .next s) ∧
  (∀ (s v u : State) (slot src len dst label cookie : Nat) (k : KeySlot) (a : Area) (nonce data : List Byte), WeightsStarts s v →
    src % 32 = 0 → dst % 32 = 0 → len % 32 = 0 → 32 ≤ len → len ≤ 2 ^ 36 → s.tenantRange src len 2 = true →
    s.tenantRange dst (80 + len) 1 = true → KeyServes s slot 1 0 k → k.typ = 2 → s.areaOf src = some a →
    v.drawBytes 12 = (nonce, u) → u.readBytes 1 src len = (data, false, u) →
    ∃ t, exec (.boExport slot src len dst label cookie) s = .next t ∧
      t.mem = (u.writeBytes 1 dst (weightsHeader len (src - a.base) label nonce ++
        gcmSeal k.key nonce (weightsHeader len (src - a.base) label nonce) data)).mem ∧
      t.weights.completions = s.weights.completions ++ [{ cookie := cookie, status := 0, base := dst, len := 80 + len }]) ∧
  (∀ (s v : State) (slot src dst cookie : Nat) (k : KeySlot) (h x p : List Byte), WeightsStarts s v → src % 32 = 0 → dst % 32 = 0 →
    s.tenantRange src 64 1 = true → v.readBytes 1 src 64 = (h, false, v) → recordOk h = true →
    s.tenantRange src (80 + leAt h 8 8) 1 = true → s.tenantRange dst (leAt h 8 8) 2 = true → KeyServes s slot 1 1 k → k.typ = 2 →
    v.readBytes 1 (src + 64) (leAt h 8 8 + 16) = (x, false, v) → x.length = leAt h 8 8 + 16 →
    gcmOpen k.key ((h.drop 0x20).take 12) h x = some p →
    ∃ t, exec (.boImport slot src dst cookie) s = .next t ∧ t.mem = (v.writeBytes 1 dst p).mem ∧
      t.weights.completions = s.weights.completions ++ [{ cookie := cookie, status := 0, base := dst, len := leAt h 8 8 }]) ∧
  (∀ (s : State) (d : WioDone) (l : List WioDone), s.weights.completions = d :: l →
    ∃ t, exec .weightsIoCompletion s = .next t ∧ t.weights = { s.weights with completions := l } ∧
      t.mem = (if d.status = 10 then s.zeroRange d.base d.len else s).mem ∧
      UnitPut s t s.weights.doneQueue .cipher [BitVec.ofNat 256 (d.cookie % 2 ^ 64 + 2 ^ 64 * d.status)]) ∧
  (∀ (s : State) (sensor : Nat) (held : Bool), sensor < 7 → s.keep.lc = .sealed → s.boot.stage ≠ .keep →
    ∃ t, exec (.tamperAlarm sensor held) s = .next t ∧ t.keep.lc = .tamperLock ∧ t.keep.fuses = { s.keep.fuses with sealedKill := true } ∧
      t.keep.slots = [] ∧ t.keep.latched.testBit sensor = true ∧ t.keep.nowAlarm.testBit sensor = held ∧ t.mem = [] ∧ t.ecc = [] ∧
      t.cores = [] ∧ t.spill = {} ∧ t.rounds = {} ∧ t.stroke.running = false)

/-! ### Resets and start-up (00 R17, 16, 18) -/

/-- Resets and the stages of start-up (00 R17, 16 R620, R621, R628 to R632, 18 R653, R660 to R663, 20 R720). -/
def Obligations.ResetAndStartUp : Prop :=
  (∀ s : State, Takes s .global → s.initializing = false → s.ten.scrubbing = false → s.keep.lc ≠ .tamperLock →
    (s.boot.fatal = 0 → s.boot.stage ≠ .failed → ∃ t, exec .warmReset s = .next t ∧ WarmLeft s t 3) ∧
    (∃ t, exec .porReset s = .next t ∧ PorLeft s t 2)) ∧
  (∀ s : State, s.boot.stage = .tamrik ∨ s.boot.stage = .ready →
    (s.boot.fatal = 0 → s.lcHold = false → s.ten.scrubbing = false → s.power.on = true →
      ∃ t, exec .bosunWatchdog s = .next t ∧ WarmLeft s t 4) ∧
    exec .heartbeatAdvance s = .next { s with boot := { s.boot with heartbeat := s.boot.heartbeat + 1 } }) ∧
  (∀ (s : State) (absent wp : Bool), s.power.tripped = false ∨ absent = true →
    ∃ t, exec (.inputInRange absent wp) s = .next t ∧ PorLeft s t 1 ∧ t.power.on = true ∧ t.power.inputOk = true ∧
      t.power.tripped = false ∧ t.power.flashWp = wp) ∧
  (∀ (s : State) (progress : Nat), s.power.inputOk = true → ¬ (s.keepCmd.busy = true ∧ s.keepCmd.op = 6) →
    ∃ t, exec (.inputOutOfRange progress) s = .next t ∧ RailsDown s t ∧ t.power.inputOk = false) ∧
  (∀ (s : State) (cores : List (Nat × Nat)) (stores blocks : List Nat), s.boot.stage = .memtest → s.boot.warmKeep = false →
    s.power.on = true → (∀ e ∈ cores, e.1 < 4800 ∧ e.2 < 64) → (∀ a ∈ stores, a < 4800) → (∀ b ∈ blocks, b / 2 ^ 20 < 384) →
    s.fabric.retired.length + blocks.length ≤ 4096 →
    ∃ t, exec (.memtestDone cores stores blocks) s = .next t ∧ t.boot = { s.boot with stage := .fill } ∧ t.mem = s.mem ∧
      (∀ e ∈ cores, (t.ashlar e.1).fence.getLsbD e.2 = true) ∧ (∀ a ∈ stores, (t.ashlar a).storeWithdrawn = true) ∧
      (∀ b ∈ blocks, b ∈ t.fabric.retired)) ∧
  (∀ s : State, s.boot.stage = .fill → s.power.on = true →
    ∃ t, exec .initDone s = .next t ∧ t.boot = { s.boot with stage := if s.lcHold then .lcHold else .fwLoad } ∧ FabricStands s t ∧
      (t.reg .global 0 0x14).toNat.testBit 0 = true) ∧
  (∀ s : State, s.boot.stage = .fwLoad → s.power.on = true →
    (if s.boot.recordB then s.boot.slotB else s.boot.slotA).holds = .valid →
    ∃ t, exec (.fwLoadDone false false) s = .next t ∧ t.boot.stage = .tamrik ∧ t.boot.bootedB = s.boot.recordB ∧ t.boot.fallback = false ∧
      t.boot.fwVersion = (if s.boot.recordB then s.boot.slotB else s.boot.slotA).version ∧ t.stroke.running = true ∧ FabricStands s t) ∧
  (∀ s : State, s.boot.stage = .tamrik → s.power.on = true →
    ∃ t, exec .ready s = .next t ∧ t.boot = { s.boot with stage := .ready } ∧ FabricStands s t ∧
      (t.reg .global 0 0x14).toNat.testBit 1 = true) ∧
  (∀ s : State, s.boot.stage = .ready → exec .slotCheck s = .next { s with boot := { s.boot with
    infoA := if s.boot.infoA = .unchecked then s.boot.slotA.info else s.boot.infoA
    infoB := if s.boot.infoB = .unchecked then s.boot.slotB.info else s.boot.infoB } }) ∧
  (∀ (s : State) (code : Nat), code = 1 ∨ code = 3 → s.boot.fatal = 0 → s.power.on = true → s.lcHold = false →
    ∃ t, exec (.fatal code) s = .next t ∧ t.boot.fatal = code ∧ t.boot.stage = .failed ∧ t.stroke.running = false ∧ t.mem = s.mem ∧
      (∀ e ∈ t.keep.slots, 56 ≤ e.1) ∧ (t.reg .global 0 0x14).toNat.testBit 3 = true) ∧
  (∀ s : State, ∃ t, exec .fenceRecordWrite s = .next t ∧ t = { s with boot := { s.boot with flashMap := t.boot.flashMap } } ∧
    t.boot.flashMap.retired = s.fabric.retired ∧
    ∀ a, (s.ashlar a).fence ≠ 0 → ∃ x, (a, x) ∈ t.boot.flashMap.ashlars ∧ x = ((s.ashlar a).fence, (s.ashlar a).strike, (s.ashlar a).storeWithdrawn)) ∧
  (∀ s : State, s.inService = true →
    exec .lifetimeTotalsWrite s = .next { s with boot := { s.boot with flashLife := (List.range 6).map fun p =>
      (p, ((s.reg .pier p 0x5C).toNat, (s.reg .pier p 0x60).toNat)) } })

/-! ### Power (17, 20), and the patrol scrub (13) -/

/-- The power cap and its causes (17 R645, R646, 20 R705, R714), the thermal trip (20 R715), reef states (17 R636, R638, R648), the
synchronisation mode (02 R105), SMBus answers (20 R716 to R718), and the patrol scrub (13 R526, R527). -/
def Obligations.PowerEvents : Prop :=
  (∀ s : State, ∃ t, exec .pwrBrakeAssert s = .next t ∧ FabricStands s t ∧ t.reef.brakePin = true ∧ t.reef.capPin = true ∧
    t.reef.cap = true) ∧
  (∀ s : State, (s.reg .reef 0 0x44).toNat.testBit 3 = false →
    ∃ t, exec .pwrBrakeRelease s = .next t ∧ FabricStands s t ∧ t.reef.brakePin = false ∧ t.reef.capPin = false ∧
      t.reef.cap = (s.reef.cap && (s.reef.capPower || s.reef.capThermal))) ∧
  (∀ (s : State) (watts average volts amps : Nat) (rested : Bool), s.power.on = true → average < 2 ^ 16 →
    ∃ t, exec (.powerLimit watts average volts amps rested) s = .next t ∧ FabricStands s t ∧
      t.reg .reef 0 0x6C = BitVec.ofNat 32 (average + 2 ^ 16 * max average ((s.reg .reef 0 0x6C).toNat / 2 ^ 16)) ∧
      t.power.overs = (if average > 2600 then s.power.overs + 1 else 0) ∧
      (watts ≥ 3100 ∨ t.power.overs ≥ 10 → t.reef.capPower = true ∧ t.reef.cap = true)) ∧
  (∀ (s : State) (value : Int) (rested : Bool), s.power.on = true → value < 115 →
    ∃ t, exec (.thermalReading .plinth value rested) s = .next t ∧ FabricStands s t ∧ t.power.plinthTj = value ∧
      t.power.tripNear = s.power.tripNear.filter (· ≠ .plinth) ∧ (105 ≤ value → t.reef.capThermal = true ∧ t.reef.cap = true)) ∧
  (∀ (s : State) (k : Nat) (value : Int) (rested : Bool), s.power.on = true → k < 12 → -128 ≤ value → value < 110 →
    ∃ t, exec (.thermalReading (.hbm k) value rested) s = .next t ∧ FabricStands s t ∧ t.hbmTemp k = value) ∧
  (∀ (s : State) (sensor : TempSensor) (value : Int), s.power.on = true → tempFits sensor = true → tempTrips sensor value = true →
    sensor ∈ s.power.tripNear →
    ∃ t, exec (.thermalTrip sensor value) s = .next t ∧ RailsDown s t ∧ t.power.tripped = true ∧ t.power.tripLast = tempCode sensor ∧
      t.power.tripCount = min 0xFFFF (s.power.tripCount + 1)) ∧
  (∀ s : State, s.reef.exiting = true → s.power.on = true → s.reef.level ≠ 4 →
    ∃ t, exec (.reefExitDone false false) s = .next t ∧ FabricStands s t ∧ t.reef.exiting = false ∧ t.reef.target = s.reefTarget ∧
      t.reef.level = min s.reefTarget (s.reef.level - 1)) ∧
  (∀ (s : State) (v : W32), Takes s .reef →
    (∃ t, exec (.reefLatencyTol v) s = .next t ∧ FabricStands s t ∧ t.reg .reef 0 0x40 = v ∧
      (s.reef.level ≠ 0 → v.toNat < exitLatency s.reef.level → t.reef.exiting = true)) ∧
    (v.toNat % 8 ≤ 4 → ∃ t, exec (.maxStateWrite v) s = .next t ∧ FabricStands s t ∧ t.reg .reef 0 0x44 = v &&& 0xF ∧
      (v.toNat.testBit 3 = true → t.reef.capPin = true ∧ t.reef.cap = true) ∧ (v.toNat % 8 < s.reef.level → t.reef.exiting = true))) ∧
  (∀ (s : State) (v : W32), Takes s .stroke → s.pageLocked .stroke 0 = false → s.tt.halted = false →
    (s.reg .stroke 0 0x4C).toNat < 16 →
    ∃ t, exec (.syncModeWrite v) s = .next t ∧ FabricStands s t ∧ t.reg .stroke 0 0x4C = v &&& 0xF ∧
      (v.toNat % 4 = s.syncMode → t.stroke.sync = s.stroke.sync) ∧ (v.toNat % 4 = 0 → s.syncMode ≠ 0 → t.stroke.sync = .freeRun) ∧
      (v.toNat % 2 = 1 → s.syncMode ≠ v.toNat % 4 → t.stroke.sync = .acquiring)) ∧
  (∀ s : State, s.power.inputOk = true →
    (∀ c, exec (.smbusRead (.endpoint c)) s = .next (s.emit (.smbus (toLe (if (s.smbField c).2 then 2 else 1) (s.smbField c).1 ++
      [pec ([0x94, BitVec.ofNat 8 c, 0x95] ++ toLe (if (s.smbField c).2 then 2 else 1) (s.smbField c).1)])))) ∧
    (∀ offset len, ∃ t x, exec (.smbusRead (.fru offset len)) s = .next t ∧
      t.out = .smbus ((List.range len).map (fun j => s.fruByte (offset + j)) ++ [x]) :: s.out)) ∧
  (∀ (s : State) (x pc b : Nat), s.scrubRuns = true → s.place (32 * x) = .hbm pc b →
    (s.ecc.get 0 x = 0 → ∃ t, exec (.patrolScrub x 0) s = .next t ∧ t.mem = s.mem ∧ t.ecc = s.ecc ∧ t.cores = s.cores ∧
      ((s.reg .hbmc (pc / 32) 0x58).toNat + 1 < stackWords →
        t.reg .hbmc (pc / 32) 0x58 = BitVec.ofNat 32 ((s.reg .hbmc (pc / 32) 0x58).toNat + 1))) ∧
    (∀ (delta : W32) (pos mag : Nat), s.ecc.get 0 x = 0 → decodeDelta delta = .corrected pos mag →
      ∃ t, exec (.patrolScrub x delta) s = .next t ∧ t.ecc.get 0 x = 0 ∧ t.cores = s.cores ∧
        memRead t.mem (32 * x) 32 = repairBytes (memRead s.mem (32 * x) 32) pos mag ∧
        ∀ a, a / 32 ≠ x → memGet t.mem a = memGet s.mem a))

/-! ### The host link and the page header (16) -/

/-- The PCIe link, its errors and configuration space (16 R593 to R596, R606, R608), BAR2 (R600), the page header (R606, R610 to R612),
accesses of BAR0 and BAR4 (R598, R601, 00 R14, R15), and the maxima that a page's control register clears (13 R530, R537). -/
def Obligations.HostLinkResults : Prop :=
  (∀ (s : State) (pin : Bool), s.power.on = true →
    ∃ t, exec (.perst pin) s = .next t ∧ t.mem = s.mem ∧ t.cores = s.cores ∧ t.pcie.bme = false ∧ t.pcie.linkUp = false ∧
      t.pcie.msixEn = false ∧ t.pcie.d3hot = false ∧ t.pcie.bar2Base = s.pcie.bar2Base ∧ t.pcie.perst = (pin || s.pcie.perst) ∧
      (∀ e ∈ t.pcie.msix, e.2.masked = true) ∧
      (s.pcie.linkUp = true → t.reg .pcie 0 0x64 = satAdd (s.reg .pcie 0 0x64) 1)) ∧
  (∀ (s : State) (gen width : Nat) (flit : Bool), s.power.on = true → 1 ≤ gen → gen ≤ (s.reg .pcie 0 0x44).toNat % 8 →
    width ∈ [1, 2, 4, 8] →
    ∃ t, exec (.pcieLinkUp gen width flit) s = .next t ∧ FabricStands s t ∧ t.pcie.linkUp = true ∧ t.pcie.training = false ∧
      t.pcie.gen = gen ∧ t.pcie.width = width ∧ t.pcie.flit = flit ∧ t.pcie.perst = false) ∧
  (∀ s : State, s.power.on = true → s.pcie.linkUp = true →
    (∀ on, exec (.configWrite (.power on)) s = .next { s with pcie := { s.pcie with d3hot := on } }) ∧
    (∀ on, ∃ t, exec (.configWrite (.busMaster on)) s = .next t ∧ t.pcie.bme = on ∧ FabricStands s t) ∧
    (∀ on mask, ∃ t, exec (.configWrite (.msix on mask)) s = .next t ∧ t.pcie.msixEn = on ∧ t.pcie.funcMask = mask ∧ FabricStands s t) ∧
    (∀ v, exec (.configWrite (.aerStatus v)) s = .next { s with pcie := { s.pcie with aerStatus := s.pcie.aerStatus &&& ~~~v } }) ∧
    (∀ addr, addr % 2 ^ 26 = 0 → addr < 2 ^ 64 →
      exec (.configWrite (.bar 0 addr)) s = .next { s with pcie := { s.pcie with bar0 := addr } })) ∧
  (∀ s : State, s.power.on = true →
    (∀ e b, (e, b) ∈ [(TlpErr.receiver, 0), (.badTlp, 6), (.badDllp, 7), (.rollover, 8), (.replayTimeout, 12)] →
      ∃ t, exec (.tlpError e) s = .next t ∧ FabricStands s t ∧ t.reg .pcie 0 0x68 = satAdd (s.reg .pcie 0 0x68) 1 ∧
        t.pcie.aerCorr = s.pcie.aerCorr ||| BitVec.ofNat 32 (2 ^ b)) ∧
    (∀ e b, (e, b) ∈ [(TlpErr.unsupported true, 20), (.unexpectedCompletion, 16), (.ecrc, 19), (.malformed, 18), (.overflow, 17),
        (.flowControl, 13), (.dataLink, 4)] →
      exec (.tlpError e) s = .next { s with pcie := { s.pcie with aerStatus := s.pcie.aerStatus ||| BitVec.ofNat 32 (2 ^ b) } }) ∧
    (∃ t, exec (.tlpError .poisonedWrite) s = .next t ∧ FabricStands s t ∧ t.reg .pcie 0 0x5C = satAdd (s.reg .pcie 0 0x5C) 1 ∧
      t.pcie.aerStatus = s.pcie.aerStatus ||| 0x1000) ∧
    (s.bosun.busy = true → ∃ t, exec (.completionTimeout .bosun) s = .next t ∧ FabricStands s t ∧ t.bosun = { s.bosun with bad := true } ∧
      t.reg .pcie 0 0x60 = satAdd (s.reg .pcie 0 0x60) 1 ∧ t.pcie.aerStatus = s.pcie.aerStatus ||| 0x4000)) ∧
  (∀ (s : State) (v : Nat), v < 2048 →
    (s.vectorHolds v = true → s.vectorsHeld = false → (s.pcie.msix.get {} v).masked = false → s.pcie.funcMask = false →
      s.pcie.msixEn = true → s.pcie.bme = true →
      exec (.msixSend v) s = .next { s with out := .msix v :: s.out, pcie := { s.pcie with pba := s.pcie.pba.filter (· ≠ v) } }) ∧
    (∀ addr data masked, addr < 2 ^ 64 → masked = true ∨ v ∉ s.pcie.pba →
      exec (.msixUnmask v addr data masked) s = .next { s with pcie := { s.pcie with
        msix := s.pcie.msix.put {} v { addr := addr, data := data, masked := masked } } })) ∧
  (∀ (s : State) (v : W32), Takes s .pcie →
    (v.toNat.testBit 3 = true → 1 ≤ v.toNat % 8 → v.toNat % 8 ≤ 6 → s.pageLocked .pcie 0 = false → s.pcie.linkUp = true →
      ∃ t, exec (.retrain v) s = .next t ∧ FabricStands s t ∧ t.pcie = { s.pcie with training := true } ∧
        t.reg .pcie 0 0x44 = v &&& 7) ∧
    (∀ base, (s.reg .pcie 0 0x48).toNat / 2 ^ 21 * 2 ^ 21 + 2 ^ 32 * (v.toNat % 2 ^ 16) = base → base + 2 ^ 36 ≤ 2 ^ 48 →
      ∃ t, exec (.bar2BaseWrite v) s = .next t ∧ FabricStands s t ∧ t.pcie = { s.pcie with bar2Base := base } ∧
        t.reg .pcie 0 0x4C = v &&& 0xFFFF)) ∧
  (∀ (s : State) (offset cycle n : Nat) (l d : List Byte), s.inService = true → s.pcie.d3hot = false → s.reef.level < 2 →
    1 ≤ n → (s.pcie.bar2Base + offset) % 32 + n ≤ 32 → offset + n ≤ 2 ^ 36 → s.bar2Open (s.pcie.bar2Base + offset) = true →
    (l.length = n → ∃ t, exec (.bar2Access offset cycle 0 (some l)) s = .next t ∧
      t.mem = ((s.atCycle cycle).writeBytes 6 (s.pcie.bar2Base + offset) l).mem ∧ t.cores = s.cores) ∧
    ((s.atCycle cycle).readBytes 6 (s.pcie.bar2Base + offset) n = (d, false, s.atCycle cycle) →
      exec (.bar2Access offset cycle n none) s = .next ((s.atCycle cycle).emit (.completion d false)))) ∧
  (∀ (s : State) (p : Page) (i : Nat) (v : W32), Takes s p → i < p.count →
    (∃ t, exec (.evtLatchWrite p i 0x14 v) s = .next t ∧ FabricStands s t ∧ t.reg p i 0x14 = s.reg p i 0x14 &&& ~~~v) ∧
    (∃ t, exec (.evtLatchWrite p i 0x18 v) s = .next t ∧ FabricStands s t ∧
      t.reg p i 0x18 = v &&& BitVec.ofNat 32 (2 ^ p.evtBits - 1)) ∧
    (∃ t, exec (.evtLatchWrite p i 0x1C v) s = .next t ∧ FabricStands s t ∧
      t.reg p i 0x14 = s.reg p i 0x14 ||| (v &&& BitVec.ofNat 32 (2 ^ p.evtBits - 1))) ∧
    (p.pageCtlIgnored = false → ∃ t, exec (.errClr p i) s = .next t ∧ FabricStands s t ∧ t.reg p i 0x34 = 0 ∧
      p.base + i * 0x1000 ∉ t.captHeld) ∧
    (∃ t, exec (.pageLock p i) s = .next t ∧ FabricStands s t ∧ t.reg p i 0x38 = 1) ∧
    (p = .eth → ∃ t, exec (.softReset p i) s = .next t ∧ FabricStands s t ∧ t.reg .eth i 0x40 = (s.port i).flashCfg ∧
      (t.port i).linkUp = false ∧ (t.port i).nbr = none) ∧
    (p = .pcie → ∃ t, exec (.softReset p i) s = .next t ∧ FabricStands s t ∧ t.pcie = { s.pcie with bar2Base := 0 }) ∧
    (p = .telltale → ∃ t, exec (.softReset p i) s = .next t ∧ t.tt.session = false)) ∧
  (∀ (s : State) (cycle : Nat), s.power.on = true →
    (∀ (p : Page) (off : Nat) (v : W32), Takes s p →
      (p, off) ∈ [(Page.muster, 0x40), (.muster, 0x44), (.keep, 0x50), (.keep, 0x54), (.bosun, 0x100), (.halyard, 0x80)] →
      ∃ t, exec (.registerWrite 0 (p.base + off) 4 cycle v) s = .next t ∧ FabricStands s t ∧ t.reg p 0 off = v) ∧
    (∀ n v, s.inService = true → s.pcie.d3hot = false → n < 16384 →
      exec (.registerWrite 4 (0x410000 + 16 * n) 4 cycle v) s =
        .next ((s.windowed cycle).setQueue n { s.queue n with dbAddrLo := v })) ∧
    (∀ (p : Page) (i a : Nat) (d : RDesc), s.pcie.d3hot = false → s.serves p = true → s.reef.level < 2 → pageOf a = some (p, i) → a % 4 = 0 →
      findReg p (a % 0x1000) = some d → d.companion = false → d.latches = false →
      exec (.registerRead 0 a 4 cycle) s =
        .next ((s.atCycle cycle).emit (.completion (toLe 4 ((s.atCycle cycle).view p i (a % 0x1000)).toNat) false)))) ∧
  (∀ (s : State) (k : Nat), k < 12 →
    (Takes s .hbmc → exec (.tempMaxClr k) s = .next ((s.woken .hbmc).setReg .hbmc k 0x60
      (BitVec.ofNat 32 ((s.reg .hbmc k 0x60).toNat % 256 + 256 * ((s.reg .hbmc k 0x60).toNat % 256))))) ∧
    (Takes s .mortar → ∃ t, exec (.queueMaxClr k) s = .next t ∧
      t.fabric.queueMax.get 0 (4800 + 32 * k + (s.reg .mortar k 0x40).toNat % 32) = 0 ∧ t.mem = s.mem))

/-! ### Telltale (19) -/

/-- IDCODE shifts out 0x1660_1A6D, with its four fields (19 R673). -/
def Obligations.IdcodeReads : Prop :=
  ∃ v : W32, v = 0x16601A6D ∧ bits v.toNat 28 4 = 0x1 ∧ bits v.toNat 12 16 = 0x6601 ∧ bits v.toNat 1 11 = 0x536 ∧ bits v.toNat 0 1 = 1 ∧
    ∀ s : State, s.tapLive = true → exec .tapIdcode s = .next { s with tt := { s.tt with ir := 0x02 }, out := .debug 0 v :: s.out }

/-- The TAP (19 R671, R674, R675), the debug transport (R676, R677), sessions and tokens (R678, R679, R683, R684), halt, resume and step
(R686, R688), the isolated trial (R689), and memory access (R694, R697). -/
def Obligations.TelltaleResults : Prop :=
  (∀ s : State, exec (.tapTrst false) s = .next { s with tt := { s.tt with trst := false } } ∧
    (s.tt.session = false → exec (.tapTrst true) s = .next { s with tt := { s.tt with trst := true, ir := 2 } })) ∧
  (∀ s : State, s.tapLive = true →
    exec .tapBypass s = .next { s with tt := { s.tt with ir := 0xFF } } ∧
    (s.pinsAllowed = true →
      exec .tapClamp s = .next { s with tt := { s.tt with ir := 0x03 } } ∧
      exec .tapHighz s = .next { s with tt := { s.tt with ir := 0x04 } } ∧
      ∀ cells, ∃ t x, exec (.tapExtest cells) s = .next t ∧ FabricStands s t ∧ t.tt = { s.tt with ir := 0x00, boundary := cells % 2 ^ 12 } ∧
        t.out = .debug 0 x :: s.out) ∧
    (s.ttAccess ≠ 0 → ∀ cells, ∃ t x, exec (.tapSamplePreload cells) s = .next t ∧ FabricStands s t ∧
      t.tt = { s.tt with ir := 0x01, boundary := cells % 2 ^ 12 } ∧ t.out = .debug 0 x :: s.out)) ∧
  (∀ s : State, DebugServed s →
    (∀ addr, addr % 4 = 0 → addr < 2 ^ 32 → dbgPlace addr ≠ .unmapped →
      ∃ t, exec (.ttDbgNop addr 0) s = .next t ∧ FabricStands s t ∧ Answered s t addr 0) ∧
    (∀ (addr : Nat) (d : RDesc), addr % 4 = 0 → addr < 0x1000 → findReg .telltale addr = some d → d.companion = false → d.latches = false →
      ∃ t, exec (.ttDbgRead addr 0) s = .next t ∧ FabricStands s t ∧ Answered s t addr (s.view .telltale 0 addr)) ∧
    (s.tt.session = false → s.keep.lc = .opened →
      ∃ t, exec .ttSessionOpen s = .next t ∧ FabricStands s t ∧ Answered s t 0x40 0 ∧ t.tt.session = true ∧ t.tt.debugEnabled = true ∧
        t.reg .telltale 0 0x94 = satAdd (s.reg .telltale 0 0x94) 1) ∧
    (s.keep.lc = .factory ∨ s.keep.lc = .returned → s.unlockCheck s.tokenBytes = 8 →
      ∃ t, exec .ttUnlock s = .next t ∧ FabricStands s t ∧ Answered s t 0x40 0 ∧ t.tt.unlocked = true ∧ t.tt.unlockResult = 8 ∧ t.tt.token = []) ∧
    (s.keep.lc = .sealed → s.unlockCheck s.tokenBytes = 8 → s.tt.halted = false →
      ∃ t, exec .ttUnlock s = .next t ∧ FabricStands s t ∧ Answered s t 0x40 0 ∧ t.tt.unlockPending = true ∧
        t.tt.unlockAt = some (effAt s s.stroke.cycle) ∧ t.tt.token = [])) ∧
  (∀ s : State, DebugServed s → s.tt.session = true →
    (∀ cycle v, ∃ t, exec (.ttDbgWrite 0x50 0 cycle v) s = .next t ∧ FabricStands s t ∧ Answered s t 0x50 0 ∧
      t.reg .telltale 0 0x50 = v &&& 0x1FFF) ∧
    (s.tt.halted = false → ∃ t, exec .ttSessionClose s = .next t ∧ FabricStands s t ∧ Answered s t 0x40 0 ∧ t.tt.session = false ∧
      t.tt.haltAt = none ∧ t.tt.trial = none) ∧
    (∀ (force : Bool) (cycle : Nat), Clocked s → s.tt.haltAt = none → s.inCrew = false →
      ∃ t, exec (.ttHalt force cycle) s = .next t ∧ FabricStands s t ∧ Answered s t 0x40 0 ∧ t.tt.haltAt = some (effAt s cycle, 1, 0) ∧
        t.tt.halted = false) ∧
    (s.tt.halted = true →
      (∃ t, exec .ttResume s = .next t ∧ Answered s t 0x40 0 ∧ t.tt.halted = false ∧ t.tt.stepping = false ∧ t.tt.trial = none) ∧
      (∃ t, exec .ttStep s = .next t ∧ Answered s t 0x40 0 ∧ t.tt.halted = false ∧ t.tt.stepping = true ∧
        t.tt.haltAt = some (s.stroke.now, 4, 0)) ∧
      (∀ (cycles id ord : Nat) (r : Rig), 1 ≤ cycles → cycles ≤ 1856 → s.guarded = false →
        s.rigOn ((s.reg .telltale 0 0x50).toNat % 2 ^ 13) = some (id, r, ord) →
        ∃ t x, exec (.ttIsoStep cycles none) s = .next t ∧ FabricStands s t ∧ Answered s t 0x54 0 ∧ t.tt.trial = some x ∧
          x.ashlar = (s.reg .telltale 0 0x50).toNat % 2 ^ 13)) ∧
    (∃ t, exec .ttIsoClr s = .next t ∧ FabricStands s t ∧ Answered s t 0x40 0 ∧ t.tt.trial = none) ∧
    (s.ttMem.busy = false → ∀ i op, (i, op) ∈ [(Instr.ttMemRead, 1), (.ttMemWrite, 2)] →
      ∃ t, exec i s = .next t ∧ FabricStands s t ∧ Answered s t 0x68 0 ∧ t.ttMem = { s.ttMem with
        busy := true, op := op
        args := s.reg .telltale 0 0x60 :: s.reg .telltale 0 0x64 :: (List.range 8).map fun k => s.reg .telltale 0 (0x70 + 4 * k) }))

/-! ### The outcome of a command (00 R722) -/

/-- A command in progress ends: its outcome is set and BUSY falls (00 R722); OUTCOME_COPY writes a round's table (06 R259), REGION_ALLOC
gives the region (16 R626), a key slot is unloaded (14 R552), a queue is configured (10 R416), a modulus-table command is ready for its
commit (09 R362), and the debug port's write stores its word (19 R694). -/
def Obligations.CommandCompletion : Prop :=
  ∀ (s : State) (x : Completion), s.power.on = true →
    (∀ a, s.muster.busy = true → s.muster.op = 7 → s.muster.staged = 0 → (s.round s.muster.sub).published = true →
      (s.muster.args.getD 1 0).toNat + 2 ^ 32 * (s.muster.args.getD 2 0).toNat = a →
      s.tenantRange a (s.round s.muster.sub).d.slots 1 = true →
      ∃ t, exec (.commandCompletion .muster x) s = .next t ∧ t.muster = { s.muster with busy := false, outcome := 0, result := 0 } ∧
        t.mem = (s.writeBytes 7 a ((List.range (s.round s.muster.sub).d.slots).map fun k =>
          BitVec.ofNat 8 ((s.round s.muster.sub).statusOf k))).mem) ∧
    (∀ a r, s.bosun.busy = true → s.bosun.op = 4 → s.bosunGate 4 (leAt s.bosunArgs 0 1) = none → s.regionAlloc = (0, a, r) →
      ∃ t, exec (.commandCompletion .bosun x) s = .next t ∧ t.mem = s.mem ∧ t.bosun.busy = false ∧ t.bosun.outcome = 0 ∧ t.bosun.result = a ∧
        t.fabric.areas = s.fabric.areas ++ [{
          base := a, len := leAt s.bosunArgs 8 8, tag := leAt s.bosunArgs 0 4 % 16, owner := .tenant }]) ∧
    (s.halyardCmd.busy = true →
      ∃ t, exec (.commandCompletion .halyard x) s = .next t ∧ t.halyardCmd.busy = false ∧
        t.halyardCmd.outcome = (s.halyardEffect s.halyardCmd.op (blockNat s.halyardCmd.args)).1 ∧
        t.halyardCmd.result = (s.halyardEffect s.halyardCmd.op (blockNat s.halyardCmd.args)).2.1) ∧
    (∀ k, s.keepCmd.busy = true → s.keepCmd.op = 5 → (s.keepCmd.args.getD 2 0) = 0 → s.keepCmd.sub < 56 →
      s.keep.slots.find? s.keepCmd.sub = some k →
      ∃ t, exec (.commandCompletion .keep x) s = .next t ∧ FabricStands s t ∧ t.keepCmd = { s.keepCmd with busy := false, outcome := 0 } ∧
        t.keep = { s.keep with slots := s.keep.slots.erase s.keepCmd.sub }) ∧
    (∀ k n cfg, k < 16 → (s.spillCmdOf k).busy = true → (s.spillCmdOf k).op = 1 → ((s.spillCmdOf k).args.getD 0 0).toNat = n →
      ((s.spillCmdOf k).args.getD 1 0).toNat = cfg → s.spillOutcome 1 n cfg = 0 →
      ∃ t, exec (.commandCompletion (.spill k) x) s = .next t ∧ t.mem = s.mem ∧ t.queue n = (s.queue n).configured cfg ∧
        t.spillCmdOf k = { s.spillCmdOf k with busy := false, outcome := 0 }) ∧
    (s.mtCmd.busy = true → exec (.commandCompletion .vaultMt x) s = .next { s with mtCmd := { s.mtCmd with ready := true } }) ∧
    (∀ a b c, s.ttMem.busy = true → s.ttMem.op = 2 →
      (s.ttMem.args.getD 0 0).toNat / 32 * 32 + 2 ^ 32 * ((s.ttMem.args.getD 1 0).toNat % 2 ^ 16) = a → s.place a = .hbm b c →
      s.tagAt a = 1 →
      ∃ t, exec (.commandCompletion .ttMem x) s = .next t ∧ t.ttMem = { s.ttMem with busy := false, result := 0 } ∧
        t.mem = (s.writeBytes 6 a ((s.ttMem.args.drop 2).flatMap fun w => toLe 4 w.toNat)).mem)

/-- A QPN's low 16 bits are its index and the 8 above them its epoch (12 R461): a reliable-connected queue pair has index 0 to 65,535 and
epoch 0x01 to 0xFE, a datagram queue pair epoch 0xFF and index 0 to 1,023, and epoch 0x00 names none. -/
def Obligations.QpnNames : Prop :=
  ∀ (s : State) (index epoch : Nat), index < 2 ^ 16 → epoch < 2 ^ 8 →
    (epoch = 0x00 → s.qpOf (index + 2 ^ 16 * epoch) = none) ∧
    (0x01 ≤ epoch → epoch ≤ 0xFE → s.qpOf (index + 2 ^ 16 * epoch) =
      if (s.qp index).live = true ∧ (s.qp index).epoch = epoch then some (index, s.qp index) else none) ∧
    (epoch = 0xFF → index ≤ 1023 → s.qpOf (index + 2 ^ 16 * epoch) =
      if (s.qp (65536 + index)).live = true ∧ (s.qp (65536 + index)).epoch = epoch then some (65536 + index, s.qp (65536 + index))
      else none) ∧
    (epoch = 0xFF → 1023 < index → s.qpOf (index + 2 ^ 16 * epoch) = none)
end

