-- ==== Sys2Proof/Laws/Cipher.lean ====
section
/-!
SUPPORT. Laws of the ciphers: lengths of blocks, key streams and tags, and that AES-GCM opens what it sealed.
-/

namespace Sys2Proof.Machine

theorem xorBytes_length (a b : List Byte) : (xorBytes a b).length = min a.length b.length := by simp [xorBytes]

/-- The exclusive or with a key stream at least as long, taken twice. -/
theorem xorBytes_twice (a k : List Byte) (h : a.length ≤ k.length) : xorBytes (xorBytes a k) k = a := by
  apply List.ext_getElem (by simp [xorBytes_length]; omega)
  intro i h1 h2
  simp [xorBytes]

theorem toBe_length (n v : Nat) : (toBe n v).length = n := by
  have h : ∀ n v, (toLe n v).length = n := by
    intro n
    induction n with
    | zero => intro v; rfl
    | succ n ih => intro v; simp [toLe, ih]
  simp [toBe, h]

theorem aesEncRounds_length (keys : List (List Nat)) (s : List Nat) (h : ∀ k ∈ keys, k.length = 16) (h1 : keys ≠ []) :
    (aesEncRounds keys s).length = 16 := by
  induction keys generalizing s with
  | nil => exact absurd rfl h1
  | cons k r ih =>
    cases r with
    | nil => simp [aesEncRounds, xorNats, shiftRows, h k (by simp)]
    | cons k2 r2 => exact ih _ (fun x hx => h x (by simp [hx])) (by simp)

/-- A block encrypted under two or more round keys of 16 bytes has 16 bytes. -/
theorem aesEnc_length (keys : List (List Nat)) (b : List Byte) (h : ∀ k ∈ keys, k.length = 16) (h1 : 2 ≤ keys.length) :
    (aesEnc keys b).length = 16 := by
  match keys with
  | [_] => simp at h1
  | k :: k2 :: r => simp [aesEnc, aesEncRounds_length (k2 :: r) _ (fun x hx => h x (by simp [hx])) (by simp)]

theorem gctr_length (keys : List (List Nat)) (h : ∀ k ∈ keys, k.length = 16) (h1 : 2 ≤ keys.length) (n c : Nat) :
    (gctr keys n c).length = 16 * n := by
  induction n generalizing c with
  | zero => rfl
  | succ n ih => simp [gctr, aesEnc_length keys _ h h1, ih]; omega

theorem gcmTag_length (keys : List (List Nat)) (h : ∀ k ∈ keys, k.length = 16) (h1 : 2 ≤ keys.length) (j0 : Nat) (aad ct : List Byte) :
    (gcmTag keys j0 aad ct).length = 16 := by simp [gcmTag, xorBytes_length, toBe_length, aesEnc_length keys _ h h1]

/-- AES-GCM opens what it sealed. -/
theorem gcmOpen_gcmSeal (key nonce aad pt : List Byte) (h : ∀ k ∈ aesKeys key, k.length = 16) (h1 : 2 ≤ (aesKeys key).length) :
    gcmOpen key nonce aad (gcmSeal key nonce aad pt) = some pt := by
  have hs : pt.length ≤ (gctr (aesKeys key) ((pt.length + 15) / 16) (ofBe nonce * 2 ^ 32 + 1 + 1)).length := by
    rw [gctr_length _ h h1]; omega
  have hl : (xorBytes pt (gctr (aesKeys key) ((pt.length + 15) / 16) (ofBe nonce * 2 ^ 32 + 1 + 1))).length = pt.length := by
    rw [xorBytes_length]; omega
  simp only [gcmSeal, gcmOpen, List.length_append, gcmTag_length _ h h1, hl, Nat.add_sub_cancel]
  rw [if_neg (by omega), List.take_left' hl, List.drop_left' hl, if_pos rfl, hl, xorBytes_twice _ _ hs]

/-- The length of a sealed text. -/
theorem gcmSeal_length (key nonce aad pt : List Byte) (h : ∀ k ∈ aesKeys key, k.length = 16) (h1 : 2 ≤ (aesKeys key).length) :
    (gcmSeal key nonce aad pt).length = pt.length + 16 := by
  simp only [gcmSeal, List.length_append, gcmTag_length _ h h1, xorBytes_length, gctr_length _ h h1]; omega

end Sys2Proof.Machine
end

