-- ==== Sys2Proof/Laws/Map.lean ====
section
/-!
SUPPORT. The sparse map: reading after writing, on every list, and the canonical form that writing keeps.
-/

namespace Sys2Proof

variable {α : Type}

@[simp] theorem NMap.get_nil (d : α) (k : Nat) : NMap.get [] d k = d := rfl

theorem NMap.get_cons (j : Nat) (v : α) (m : NMap α) (d : α) (k : Nat) :
    NMap.get ((j, v) :: m) d k = if j = k then v else NMap.get m d k := rfl

@[simp] theorem NMap.get_insertAt_self (m : NMap α) (d v : α) (k : Nat) : (m.insertAt k v).get d k = v := by
  induction m with
  | nil => simp [NMap.insertAt, NMap.get]
  | cons e m ih =>
    obtain ⟨j, w⟩ := e
    simp only [NMap.insertAt]
    split
    · simp [NMap.get]
    · split
      · simp [NMap.get]
      · simp [NMap.get, ih]; omega

theorem NMap.get_insertAt_ne (m : NMap α) (d v : α) (k j : Nat) (h : j ≠ k) : (m.insertAt k v).get d j = m.get d j := by
  induction m with
  | nil => simp [NMap.insertAt, NMap.get, Ne.symm h]
  | cons e m ih =>
    obtain ⟨i, w⟩ := e
    simp only [NMap.insertAt]
    split
    · simp [NMap.get, Ne.symm h]
    · split
      · next hk => subst hk; simp [NMap.get, Ne.symm h]
      · simp [NMap.get, ih]

@[simp] theorem NMap.get_erase_self (m : NMap α) (d : α) (k : Nat) : (m.erase k).get d k = d := by
  induction m with
  | nil => rfl
  | cons e m ih =>
    obtain ⟨j, w⟩ := e
    simp only [NMap.erase]
    split
    · exact ih
    · next h => simp [NMap.get, h, ih]

theorem NMap.get_erase_ne (m : NMap α) (d : α) (k j : Nat) (h : j ≠ k) : (m.erase k).get d j = m.get d j := by
  induction m with
  | nil => rfl
  | cons e m ih =>
    obtain ⟨i, w⟩ := e
    simp only [NMap.erase]
    split
    · next hk => subst hk; simp [NMap.get, Ne.symm h, ih]
    · simp [NMap.get, ih]

/-- A read after a write to the same key gives what was written. -/
@[simp] theorem NMap.get_put_self [DecidableEq α] (m : NMap α) (d v : α) (k : Nat) : (m.put d k v).get d k = v := by
  simp only [NMap.put]
  split
  · next h => simp [h]
  · simp

/-- A write leaves every other key alone. -/
theorem NMap.get_put_ne [DecidableEq α] (m : NMap α) (d v : α) (k j : Nat) (h : j ≠ k) : (m.put d k v).get d j = m.get d j := by
  simp only [NMap.put]
  split
  · exact m.get_erase_ne d k j h
  · exact m.get_insertAt_ne d v k j h

/-- The same where the default of the read is another than that of the write. -/
theorem NMap.get_put_ne' [DecidableEq α] (m : NMap α) (d d' v : α) (k j : Nat) (h : j ≠ k) : (m.put d k v).get d' j = m.get d' j := by
  simp only [NMap.put]
  split
  · exact m.get_erase_ne d' k j h
  · exact m.get_insertAt_ne d' v k j h

theorem NMap.get_put [DecidableEq α] (m : NMap α) (d v : α) (k j : Nat) :
    (m.put d k v).get d j = if j = k then v else m.get d j := by
  split
  · next h => rw [h, NMap.get_put_self]
  · next h => exact m.get_put_ne d v k j h

@[simp] theorem NMap.find?_insertAt_self (m : NMap α) (v : α) (k : Nat) : (m.insertAt k v).find? k = some v := by
  induction m with
  | nil => simp [NMap.insertAt, NMap.find?]
  | cons e m ih =>
    obtain ⟨j, w⟩ := e
    simp only [NMap.insertAt]
    split
    · simp [NMap.find?]
    · split
      · simp [NMap.find?]
      · simp [NMap.find?, ih]; omega

/-! ### Canonical form -/

theorem NMap.risingFrom_le (m : NMap α) (a b : Nat) (h : a ≤ b) (hm : m.risingFrom b = true) : m.risingFrom a = true := by
  cases m with
  | nil => rfl
  | cons e m => simp only [NMap.risingFrom, Bool.and_eq_true, decide_eq_true_eq] at *; exact ⟨by omega, hm.2⟩

theorem NMap.risingFrom_filter (m : NMap α) (p : Nat × α → Bool) (a : Nat) (hm : m.risingFrom a = true) :
    NMap.risingFrom a (m.filter p) = true := by
  induction m generalizing a with
  | nil => rfl
  | cons e m ih =>
    simp only [NMap.risingFrom, Bool.and_eq_true, decide_eq_true_eq] at hm
    simp only [List.filter_cons]
    split
    · simp only [NMap.risingFrom, Bool.and_eq_true, decide_eq_true_eq]; exact ⟨hm.1, ih _ hm.2⟩
    · exact NMap.risingFrom_le _ a (e.1 + 1) (by omega) (ih _ hm.2)

theorem NMap.risingFrom_insertAt (m : NMap α) (k : Nat) (v : α) (a : Nat) (hk : a ≤ k) (hm : m.risingFrom a = true) :
    (m.insertAt k v).risingFrom a = true := by
  induction m generalizing a with
  | nil => simp [NMap.insertAt, NMap.risingFrom, hk]
  | cons e m ih =>
    obtain ⟨j, w⟩ := e
    simp only [NMap.risingFrom, Bool.and_eq_true, decide_eq_true_eq] at hm
    simp only [NMap.insertAt]
    split
    · simp only [NMap.risingFrom, Bool.and_eq_true, decide_eq_true_eq]; exact ⟨hk, by omega, hm.2⟩
    · split
      · next h => subst h; simp only [NMap.risingFrom, Bool.and_eq_true, decide_eq_true_eq]; exact ⟨hk, hm.2⟩
      · simp only [NMap.risingFrom, Bool.and_eq_true, decide_eq_true_eq]; exact ⟨hm.1, ih _ (by omega) hm.2⟩

theorem NMap.erase_eq_filter (m : NMap α) (k : Nat) : m.erase k = List.filter (fun e => decide (e.1 ≠ k)) m := by
  induction m with
  | nil => rfl
  | cons e m ih =>
    obtain ⟨j, w⟩ := e
    simp only [NMap.erase, List.filter_cons]
    split
    · next h => simp [h, ih]
    · next h => simp [h, ih]

theorem NMap.mem_insertAt (m : NMap α) (k : Nat) (v : α) (e : Nat × α) (h : e ∈ m.insertAt k v) : e = (k, v) ∨ e ∈ m := by
  induction m with
  | nil => simpa [NMap.insertAt] using h
  | cons x m ih =>
    obtain ⟨j, w⟩ := x
    simp only [NMap.insertAt] at h
    split at h
    · simp only [List.mem_cons] at *; tauto
    · split at h
      · simp only [List.mem_cons] at *; tauto
      · simp only [List.mem_cons] at *
        rcases h with h | h
        · tauto
        · have := ih h; tauto

/-- A filter keeps the canonical form. -/
theorem NMap.wf_filter [DecidableEq α] (d : α) (m : NMap α) (p : Nat × α → Bool) (h : NMap.wf d m = true) :
    NMap.wf d (m.filter p) = true := by
  simp only [NMap.wf, Bool.and_eq_true, List.all_eq_true] at *
  exact ⟨NMap.risingFrom_filter m p 0 h.1, fun e he => h.2 e (List.mem_filter.mp he).1⟩

theorem NMap.wf_dropWhere [DecidableEq α] (d : α) (m : NMap α) (p : Nat → Bool) (h : NMap.wf d m = true) :
    NMap.wf d (m.dropWhere p) = true := NMap.wf_filter d m _ h

/-- A write keeps the canonical form. -/
theorem NMap.wf_put [DecidableEq α] (d : α) (m : NMap α) (k : Nat) (v : α) (h : NMap.wf d m = true) : NMap.wf d (m.put d k v) = true := by
  simp only [NMap.put]
  split
  · rw [NMap.erase_eq_filter]; exact NMap.wf_filter d m _ h
  · next hv =>
    simp only [NMap.wf, Bool.and_eq_true, List.all_eq_true, decide_eq_true_eq] at *
    refine ⟨NMap.risingFrom_insertAt m k v 0 (by omega) h.1, fun e he => ?_⟩
    rcases NMap.mem_insertAt m k v e he with rfl | he
    · exact hv
    · exact h.2 e he

end Sys2Proof
end

