-- ==== Sys2Proof/Laws/State.lean ====
section
/-!
SUPPORT. One lemma per field per update of State's named updates, each true by rfl, and what each update's own read gives after it.
-/

namespace Sys2Proof.Machine

variable (s : State)


/-! ### setReg -/

@[simp] theorem State.setReg_hiLatch (p : Page) (i off : Nat) (v : W32) : (s.setReg p i off v).hiLatch = s.hiLatch := rfl
@[simp] theorem State.setReg_captHeld (p : Page) (i off : Nat) (v : W32) : (s.setReg p i off v).captHeld = s.captHeld := rfl
@[simp] theorem State.setReg_mem (p : Page) (i off : Nat) (v : W32) : (s.setReg p i off v).mem = s.mem := rfl
@[simp] theorem State.setReg_ecc (p : Page) (i off : Nat) (v : W32) : (s.setReg p i off v).ecc = s.ecc := rfl
@[simp] theorem State.setReg_stroke (p : Page) (i off : Nat) (v : W32) : (s.setReg p i off v).stroke = s.stroke := rfl
@[simp] theorem State.setReg_fabric (p : Page) (i off : Nat) (v : W32) : (s.setReg p i off v).fabric = s.fabric := rfl
@[simp] theorem State.setReg_cores (p : Page) (i off : Nat) (v : W32) : (s.setReg p i off v).cores = s.cores := rfl
@[simp] theorem State.setReg_spill (p : Page) (i off : Nat) (v : W32) : (s.setReg p i off v).spill = s.spill := rfl
@[simp] theorem State.setReg_rounds (p : Page) (i off : Nat) (v : W32) : (s.setReg p i off v).rounds = s.rounds := rfl
@[simp] theorem State.setReg_cipher (p : Page) (i off : Nat) (v : W32) : (s.setReg p i off v).cipher = s.cipher := rfl
@[simp] theorem State.setReg_weights (p : Page) (i off : Nat) (v : W32) : (s.setReg p i off v).weights = s.weights := rfl
@[simp] theorem State.setReg_net (p : Page) (i off : Nat) (v : W32) : (s.setReg p i off v).net = s.net := rfl
@[simp] theorem State.setReg_pcie (p : Page) (i off : Nat) (v : W32) : (s.setReg p i off v).pcie = s.pcie := rfl
@[simp] theorem State.setReg_boot (p : Page) (i off : Nat) (v : W32) : (s.setReg p i off v).boot = s.boot := rfl
@[simp] theorem State.setReg_ten (p : Page) (i off : Nat) (v : W32) : (s.setReg p i off v).ten = s.ten := rfl
@[simp] theorem State.setReg_keep (p : Page) (i off : Nat) (v : W32) : (s.setReg p i off v).keep = s.keep := rfl
@[simp] theorem State.setReg_reef (p : Page) (i off : Nat) (v : W32) : (s.setReg p i off v).reef = s.reef := rfl
@[simp] theorem State.setReg_power (p : Page) (i off : Nat) (v : W32) : (s.setReg p i off v).power = s.power := rfl
@[simp] theorem State.setReg_tt (p : Page) (i off : Nat) (v : W32) : (s.setReg p i off v).tt = s.tt := rfl
@[simp] theorem State.setReg_bosun (p : Page) (i off : Nat) (v : W32) : (s.setReg p i off v).bosun = s.bosun := rfl
@[simp] theorem State.setReg_muster (p : Page) (i off : Nat) (v : W32) : (s.setReg p i off v).muster = s.muster := rfl
@[simp] theorem State.setReg_halyardCmd (p : Page) (i off : Nat) (v : W32) : (s.setReg p i off v).halyardCmd = s.halyardCmd := rfl
@[simp] theorem State.setReg_keepCmd (p : Page) (i off : Nat) (v : W32) : (s.setReg p i off v).keepCmd = s.keepCmd := rfl
@[simp] theorem State.setReg_spillCmd (p : Page) (i off : Nat) (v : W32) : (s.setReg p i off v).spillCmd = s.spillCmd := rfl
@[simp] theorem State.setReg_mtCmd (p : Page) (i off : Nat) (v : W32) : (s.setReg p i off v).mtCmd = s.mtCmd := rfl
@[simp] theorem State.setReg_ttMem (p : Page) (i off : Nat) (v : W32) : (s.setReg p i off v).ttMem = s.ttMem := rfl
@[simp] theorem State.setReg_free (p : Page) (i off : Nat) (v : W32) : (s.setReg p i off v).free = s.free := rfl
@[simp] theorem State.setReg_out (p : Page) (i off : Nat) (v : W32) : (s.setReg p i off v).out = s.out := rfl
@[simp] theorem State.setReg_pending (p : Page) (i off : Nat) (v : W32) : (s.setReg p i off v).pending = s.pending := rfl

/-! ### setPair -/

@[simp] theorem State.setPair_hiLatch (p : Page) (i off v : Nat) : (s.setPair p i off v).hiLatch = s.hiLatch := rfl
@[simp] theorem State.setPair_captHeld (p : Page) (i off v : Nat) : (s.setPair p i off v).captHeld = s.captHeld := rfl
@[simp] theorem State.setPair_mem (p : Page) (i off v : Nat) : (s.setPair p i off v).mem = s.mem := rfl
@[simp] theorem State.setPair_ecc (p : Page) (i off v : Nat) : (s.setPair p i off v).ecc = s.ecc := rfl
@[simp] theorem State.setPair_stroke (p : Page) (i off v : Nat) : (s.setPair p i off v).stroke = s.stroke := rfl
@[simp] theorem State.setPair_fabric (p : Page) (i off v : Nat) : (s.setPair p i off v).fabric = s.fabric := rfl
@[simp] theorem State.setPair_cores (p : Page) (i off v : Nat) : (s.setPair p i off v).cores = s.cores := rfl
@[simp] theorem State.setPair_spill (p : Page) (i off v : Nat) : (s.setPair p i off v).spill = s.spill := rfl
@[simp] theorem State.setPair_rounds (p : Page) (i off v : Nat) : (s.setPair p i off v).rounds = s.rounds := rfl
@[simp] theorem State.setPair_cipher (p : Page) (i off v : Nat) : (s.setPair p i off v).cipher = s.cipher := rfl
@[simp] theorem State.setPair_weights (p : Page) (i off v : Nat) : (s.setPair p i off v).weights = s.weights := rfl
@[simp] theorem State.setPair_net (p : Page) (i off v : Nat) : (s.setPair p i off v).net = s.net := rfl
@[simp] theorem State.setPair_pcie (p : Page) (i off v : Nat) : (s.setPair p i off v).pcie = s.pcie := rfl
@[simp] theorem State.setPair_boot (p : Page) (i off v : Nat) : (s.setPair p i off v).boot = s.boot := rfl
@[simp] theorem State.setPair_ten (p : Page) (i off v : Nat) : (s.setPair p i off v).ten = s.ten := rfl
@[simp] theorem State.setPair_keep (p : Page) (i off v : Nat) : (s.setPair p i off v).keep = s.keep := rfl
@[simp] theorem State.setPair_reef (p : Page) (i off v : Nat) : (s.setPair p i off v).reef = s.reef := rfl
@[simp] theorem State.setPair_power (p : Page) (i off v : Nat) : (s.setPair p i off v).power = s.power := rfl
@[simp] theorem State.setPair_tt (p : Page) (i off v : Nat) : (s.setPair p i off v).tt = s.tt := rfl
@[simp] theorem State.setPair_bosun (p : Page) (i off v : Nat) : (s.setPair p i off v).bosun = s.bosun := rfl
@[simp] theorem State.setPair_muster (p : Page) (i off v : Nat) : (s.setPair p i off v).muster = s.muster := rfl
@[simp] theorem State.setPair_halyardCmd (p : Page) (i off v : Nat) : (s.setPair p i off v).halyardCmd = s.halyardCmd := rfl
@[simp] theorem State.setPair_keepCmd (p : Page) (i off v : Nat) : (s.setPair p i off v).keepCmd = s.keepCmd := rfl
@[simp] theorem State.setPair_spillCmd (p : Page) (i off v : Nat) : (s.setPair p i off v).spillCmd = s.spillCmd := rfl
@[simp] theorem State.setPair_mtCmd (p : Page) (i off v : Nat) : (s.setPair p i off v).mtCmd = s.mtCmd := rfl
@[simp] theorem State.setPair_ttMem (p : Page) (i off v : Nat) : (s.setPair p i off v).ttMem = s.ttMem := rfl
@[simp] theorem State.setPair_free (p : Page) (i off v : Nat) : (s.setPair p i off v).free = s.free := rfl
@[simp] theorem State.setPair_out (p : Page) (i off v : Nat) : (s.setPair p i off v).out = s.out := rfl
@[simp] theorem State.setPair_pending (p : Page) (i off v : Nat) : (s.setPair p i off v).pending = s.pending := rfl

/-! ### bump -/

@[simp] theorem State.bump_hiLatch (p : Page) (i off : Nat) : (s.bump p i off).hiLatch = s.hiLatch := rfl
@[simp] theorem State.bump_captHeld (p : Page) (i off : Nat) : (s.bump p i off).captHeld = s.captHeld := rfl
@[simp] theorem State.bump_mem (p : Page) (i off : Nat) : (s.bump p i off).mem = s.mem := rfl
@[simp] theorem State.bump_ecc (p : Page) (i off : Nat) : (s.bump p i off).ecc = s.ecc := rfl
@[simp] theorem State.bump_stroke (p : Page) (i off : Nat) : (s.bump p i off).stroke = s.stroke := rfl
@[simp] theorem State.bump_fabric (p : Page) (i off : Nat) : (s.bump p i off).fabric = s.fabric := rfl
@[simp] theorem State.bump_cores (p : Page) (i off : Nat) : (s.bump p i off).cores = s.cores := rfl
@[simp] theorem State.bump_spill (p : Page) (i off : Nat) : (s.bump p i off).spill = s.spill := rfl
@[simp] theorem State.bump_rounds (p : Page) (i off : Nat) : (s.bump p i off).rounds = s.rounds := rfl
@[simp] theorem State.bump_cipher (p : Page) (i off : Nat) : (s.bump p i off).cipher = s.cipher := rfl
@[simp] theorem State.bump_weights (p : Page) (i off : Nat) : (s.bump p i off).weights = s.weights := rfl
@[simp] theorem State.bump_net (p : Page) (i off : Nat) : (s.bump p i off).net = s.net := rfl
@[simp] theorem State.bump_pcie (p : Page) (i off : Nat) : (s.bump p i off).pcie = s.pcie := rfl
@[simp] theorem State.bump_boot (p : Page) (i off : Nat) : (s.bump p i off).boot = s.boot := rfl
@[simp] theorem State.bump_ten (p : Page) (i off : Nat) : (s.bump p i off).ten = s.ten := rfl
@[simp] theorem State.bump_keep (p : Page) (i off : Nat) : (s.bump p i off).keep = s.keep := rfl
@[simp] theorem State.bump_reef (p : Page) (i off : Nat) : (s.bump p i off).reef = s.reef := rfl
@[simp] theorem State.bump_power (p : Page) (i off : Nat) : (s.bump p i off).power = s.power := rfl
@[simp] theorem State.bump_tt (p : Page) (i off : Nat) : (s.bump p i off).tt = s.tt := rfl
@[simp] theorem State.bump_bosun (p : Page) (i off : Nat) : (s.bump p i off).bosun = s.bosun := rfl
@[simp] theorem State.bump_muster (p : Page) (i off : Nat) : (s.bump p i off).muster = s.muster := rfl
@[simp] theorem State.bump_halyardCmd (p : Page) (i off : Nat) : (s.bump p i off).halyardCmd = s.halyardCmd := rfl
@[simp] theorem State.bump_keepCmd (p : Page) (i off : Nat) : (s.bump p i off).keepCmd = s.keepCmd := rfl
@[simp] theorem State.bump_spillCmd (p : Page) (i off : Nat) : (s.bump p i off).spillCmd = s.spillCmd := rfl
@[simp] theorem State.bump_mtCmd (p : Page) (i off : Nat) : (s.bump p i off).mtCmd = s.mtCmd := rfl
@[simp] theorem State.bump_ttMem (p : Page) (i off : Nat) : (s.bump p i off).ttMem = s.ttMem := rfl
@[simp] theorem State.bump_free (p : Page) (i off : Nat) : (s.bump p i off).free = s.free := rfl
@[simp] theorem State.bump_out (p : Page) (i off : Nat) : (s.bump p i off).out = s.out := rfl
@[simp] theorem State.bump_pending (p : Page) (i off : Nat) : (s.bump p i off).pending = s.pending := rfl

/-! ### setCore -/

@[simp] theorem State.setCore_regs (k : Nat) (c : Core) : (s.setCore k c).regs = s.regs := rfl
@[simp] theorem State.setCore_hiLatch (k : Nat) (c : Core) : (s.setCore k c).hiLatch = s.hiLatch := rfl
@[simp] theorem State.setCore_captHeld (k : Nat) (c : Core) : (s.setCore k c).captHeld = s.captHeld := rfl
@[simp] theorem State.setCore_mem (k : Nat) (c : Core) : (s.setCore k c).mem = s.mem := rfl
@[simp] theorem State.setCore_ecc (k : Nat) (c : Core) : (s.setCore k c).ecc = s.ecc := rfl
@[simp] theorem State.setCore_stroke (k : Nat) (c : Core) : (s.setCore k c).stroke = s.stroke := rfl
@[simp] theorem State.setCore_fabric (k : Nat) (c : Core) : (s.setCore k c).fabric = s.fabric := rfl
@[simp] theorem State.setCore_spill (k : Nat) (c : Core) : (s.setCore k c).spill = s.spill := rfl
@[simp] theorem State.setCore_rounds (k : Nat) (c : Core) : (s.setCore k c).rounds = s.rounds := rfl
@[simp] theorem State.setCore_cipher (k : Nat) (c : Core) : (s.setCore k c).cipher = s.cipher := rfl
@[simp] theorem State.setCore_weights (k : Nat) (c : Core) : (s.setCore k c).weights = s.weights := rfl
@[simp] theorem State.setCore_net (k : Nat) (c : Core) : (s.setCore k c).net = s.net := rfl
@[simp] theorem State.setCore_pcie (k : Nat) (c : Core) : (s.setCore k c).pcie = s.pcie := rfl
@[simp] theorem State.setCore_boot (k : Nat) (c : Core) : (s.setCore k c).boot = s.boot := rfl
@[simp] theorem State.setCore_ten (k : Nat) (c : Core) : (s.setCore k c).ten = s.ten := rfl
@[simp] theorem State.setCore_keep (k : Nat) (c : Core) : (s.setCore k c).keep = s.keep := rfl
@[simp] theorem State.setCore_reef (k : Nat) (c : Core) : (s.setCore k c).reef = s.reef := rfl
@[simp] theorem State.setCore_power (k : Nat) (c : Core) : (s.setCore k c).power = s.power := rfl
@[simp] theorem State.setCore_tt (k : Nat) (c : Core) : (s.setCore k c).tt = s.tt := rfl
@[simp] theorem State.setCore_bosun (k : Nat) (c : Core) : (s.setCore k c).bosun = s.bosun := rfl
@[simp] theorem State.setCore_muster (k : Nat) (c : Core) : (s.setCore k c).muster = s.muster := rfl
@[simp] theorem State.setCore_halyardCmd (k : Nat) (c : Core) : (s.setCore k c).halyardCmd = s.halyardCmd := rfl
@[simp] theorem State.setCore_keepCmd (k : Nat) (c : Core) : (s.setCore k c).keepCmd = s.keepCmd := rfl
@[simp] theorem State.setCore_spillCmd (k : Nat) (c : Core) : (s.setCore k c).spillCmd = s.spillCmd := rfl
@[simp] theorem State.setCore_mtCmd (k : Nat) (c : Core) : (s.setCore k c).mtCmd = s.mtCmd := rfl
@[simp] theorem State.setCore_ttMem (k : Nat) (c : Core) : (s.setCore k c).ttMem = s.ttMem := rfl
@[simp] theorem State.setCore_free (k : Nat) (c : Core) : (s.setCore k c).free = s.free := rfl
@[simp] theorem State.setCore_out (k : Nat) (c : Core) : (s.setCore k c).out = s.out := rfl
@[simp] theorem State.setCore_pending (k : Nat) (c : Core) : (s.setCore k c).pending = s.pending := rfl

/-! ### setRig -/

@[simp] theorem State.setRig_regs (id : Nat) (r : Rig) : (s.setRig id r).regs = s.regs := rfl
@[simp] theorem State.setRig_hiLatch (id : Nat) (r : Rig) : (s.setRig id r).hiLatch = s.hiLatch := rfl
@[simp] theorem State.setRig_captHeld (id : Nat) (r : Rig) : (s.setRig id r).captHeld = s.captHeld := rfl
@[simp] theorem State.setRig_mem (id : Nat) (r : Rig) : (s.setRig id r).mem = s.mem := rfl
@[simp] theorem State.setRig_ecc (id : Nat) (r : Rig) : (s.setRig id r).ecc = s.ecc := rfl
@[simp] theorem State.setRig_stroke (id : Nat) (r : Rig) : (s.setRig id r).stroke = s.stroke := rfl
@[simp] theorem State.setRig_cores (id : Nat) (r : Rig) : (s.setRig id r).cores = s.cores := rfl
@[simp] theorem State.setRig_spill (id : Nat) (r : Rig) : (s.setRig id r).spill = s.spill := rfl
@[simp] theorem State.setRig_rounds (id : Nat) (r : Rig) : (s.setRig id r).rounds = s.rounds := rfl
@[simp] theorem State.setRig_cipher (id : Nat) (r : Rig) : (s.setRig id r).cipher = s.cipher := rfl
@[simp] theorem State.setRig_weights (id : Nat) (r : Rig) : (s.setRig id r).weights = s.weights := rfl
@[simp] theorem State.setRig_net (id : Nat) (r : Rig) : (s.setRig id r).net = s.net := rfl
@[simp] theorem State.setRig_pcie (id : Nat) (r : Rig) : (s.setRig id r).pcie = s.pcie := rfl
@[simp] theorem State.setRig_boot (id : Nat) (r : Rig) : (s.setRig id r).boot = s.boot := rfl
@[simp] theorem State.setRig_ten (id : Nat) (r : Rig) : (s.setRig id r).ten = s.ten := rfl
@[simp] theorem State.setRig_keep (id : Nat) (r : Rig) : (s.setRig id r).keep = s.keep := rfl
@[simp] theorem State.setRig_reef (id : Nat) (r : Rig) : (s.setRig id r).reef = s.reef := rfl
@[simp] theorem State.setRig_power (id : Nat) (r : Rig) : (s.setRig id r).power = s.power := rfl
@[simp] theorem State.setRig_tt (id : Nat) (r : Rig) : (s.setRig id r).tt = s.tt := rfl
@[simp] theorem State.setRig_bosun (id : Nat) (r : Rig) : (s.setRig id r).bosun = s.bosun := rfl
@[simp] theorem State.setRig_muster (id : Nat) (r : Rig) : (s.setRig id r).muster = s.muster := rfl
@[simp] theorem State.setRig_halyardCmd (id : Nat) (r : Rig) : (s.setRig id r).halyardCmd = s.halyardCmd := rfl
@[simp] theorem State.setRig_keepCmd (id : Nat) (r : Rig) : (s.setRig id r).keepCmd = s.keepCmd := rfl
@[simp] theorem State.setRig_spillCmd (id : Nat) (r : Rig) : (s.setRig id r).spillCmd = s.spillCmd := rfl
@[simp] theorem State.setRig_mtCmd (id : Nat) (r : Rig) : (s.setRig id r).mtCmd = s.mtCmd := rfl
@[simp] theorem State.setRig_ttMem (id : Nat) (r : Rig) : (s.setRig id r).ttMem = s.ttMem := rfl
@[simp] theorem State.setRig_free (id : Nat) (r : Rig) : (s.setRig id r).free = s.free := rfl
@[simp] theorem State.setRig_out (id : Nat) (r : Rig) : (s.setRig id r).out = s.out := rfl
@[simp] theorem State.setRig_pending (id : Nat) (r : Rig) : (s.setRig id r).pending = s.pending := rfl

/-! ### setAshlar -/

@[simp] theorem State.setAshlar_regs (a : Nat) (x : Ashlar) : (s.setAshlar a x).regs = s.regs := rfl
@[simp] theorem State.setAshlar_hiLatch (a : Nat) (x : Ashlar) : (s.setAshlar a x).hiLatch = s.hiLatch := rfl
@[simp] theorem State.setAshlar_captHeld (a : Nat) (x : Ashlar) : (s.setAshlar a x).captHeld = s.captHeld := rfl
@[simp] theorem State.setAshlar_mem (a : Nat) (x : Ashlar) : (s.setAshlar a x).mem = s.mem := rfl
@[simp] theorem State.setAshlar_ecc (a : Nat) (x : Ashlar) : (s.setAshlar a x).ecc = s.ecc := rfl
@[simp] theorem State.setAshlar_stroke (a : Nat) (x : Ashlar) : (s.setAshlar a x).stroke = s.stroke := rfl
@[simp] theorem State.setAshlar_cores (a : Nat) (x : Ashlar) : (s.setAshlar a x).cores = s.cores := rfl
@[simp] theorem State.setAshlar_spill (a : Nat) (x : Ashlar) : (s.setAshlar a x).spill = s.spill := rfl
@[simp] theorem State.setAshlar_rounds (a : Nat) (x : Ashlar) : (s.setAshlar a x).rounds = s.rounds := rfl
@[simp] theorem State.setAshlar_cipher (a : Nat) (x : Ashlar) : (s.setAshlar a x).cipher = s.cipher := rfl
@[simp] theorem State.setAshlar_weights (a : Nat) (x : Ashlar) : (s.setAshlar a x).weights = s.weights := rfl
@[simp] theorem State.setAshlar_net (a : Nat) (x : Ashlar) : (s.setAshlar a x).net = s.net := rfl
@[simp] theorem State.setAshlar_pcie (a : Nat) (x : Ashlar) : (s.setAshlar a x).pcie = s.pcie := rfl
@[simp] theorem State.setAshlar_boot (a : Nat) (x : Ashlar) : (s.setAshlar a x).boot = s.boot := rfl
@[simp] theorem State.setAshlar_ten (a : Nat) (x : Ashlar) : (s.setAshlar a x).ten = s.ten := rfl
@[simp] theorem State.setAshlar_keep (a : Nat) (x : Ashlar) : (s.setAshlar a x).keep = s.keep := rfl
@[simp] theorem State.setAshlar_reef (a : Nat) (x : Ashlar) : (s.setAshlar a x).reef = s.reef := rfl
@[simp] theorem State.setAshlar_power (a : Nat) (x : Ashlar) : (s.setAshlar a x).power = s.power := rfl
@[simp] theorem State.setAshlar_tt (a : Nat) (x : Ashlar) : (s.setAshlar a x).tt = s.tt := rfl
@[simp] theorem State.setAshlar_bosun (a : Nat) (x : Ashlar) : (s.setAshlar a x).bosun = s.bosun := rfl
@[simp] theorem State.setAshlar_muster (a : Nat) (x : Ashlar) : (s.setAshlar a x).muster = s.muster := rfl
@[simp] theorem State.setAshlar_halyardCmd (a : Nat) (x : Ashlar) : (s.setAshlar a x).halyardCmd = s.halyardCmd := rfl
@[simp] theorem State.setAshlar_keepCmd (a : Nat) (x : Ashlar) : (s.setAshlar a x).keepCmd = s.keepCmd := rfl
@[simp] theorem State.setAshlar_spillCmd (a : Nat) (x : Ashlar) : (s.setAshlar a x).spillCmd = s.spillCmd := rfl
@[simp] theorem State.setAshlar_mtCmd (a : Nat) (x : Ashlar) : (s.setAshlar a x).mtCmd = s.mtCmd := rfl
@[simp] theorem State.setAshlar_ttMem (a : Nat) (x : Ashlar) : (s.setAshlar a x).ttMem = s.ttMem := rfl
@[simp] theorem State.setAshlar_free (a : Nat) (x : Ashlar) : (s.setAshlar a x).free = s.free := rfl
@[simp] theorem State.setAshlar_out (a : Nat) (x : Ashlar) : (s.setAshlar a x).out = s.out := rfl
@[simp] theorem State.setAshlar_pending (a : Nat) (x : Ashlar) : (s.setAshlar a x).pending = s.pending := rfl

/-! ### setQueue -/

@[simp] theorem State.setQueue_regs (n : Nat) (q : Queue) : (s.setQueue n q).regs = s.regs := rfl
@[simp] theorem State.setQueue_hiLatch (n : Nat) (q : Queue) : (s.setQueue n q).hiLatch = s.hiLatch := rfl
@[simp] theorem State.setQueue_captHeld (n : Nat) (q : Queue) : (s.setQueue n q).captHeld = s.captHeld := rfl
@[simp] theorem State.setQueue_mem (n : Nat) (q : Queue) : (s.setQueue n q).mem = s.mem := rfl
@[simp] theorem State.setQueue_ecc (n : Nat) (q : Queue) : (s.setQueue n q).ecc = s.ecc := rfl
@[simp] theorem State.setQueue_stroke (n : Nat) (q : Queue) : (s.setQueue n q).stroke = s.stroke := rfl
@[simp] theorem State.setQueue_fabric (n : Nat) (q : Queue) : (s.setQueue n q).fabric = s.fabric := rfl
@[simp] theorem State.setQueue_cores (n : Nat) (q : Queue) : (s.setQueue n q).cores = s.cores := rfl
@[simp] theorem State.setQueue_rounds (n : Nat) (q : Queue) : (s.setQueue n q).rounds = s.rounds := rfl
@[simp] theorem State.setQueue_cipher (n : Nat) (q : Queue) : (s.setQueue n q).cipher = s.cipher := rfl
@[simp] theorem State.setQueue_weights (n : Nat) (q : Queue) : (s.setQueue n q).weights = s.weights := rfl
@[simp] theorem State.setQueue_net (n : Nat) (q : Queue) : (s.setQueue n q).net = s.net := rfl
@[simp] theorem State.setQueue_pcie (n : Nat) (q : Queue) : (s.setQueue n q).pcie = s.pcie := rfl
@[simp] theorem State.setQueue_boot (n : Nat) (q : Queue) : (s.setQueue n q).boot = s.boot := rfl
@[simp] theorem State.setQueue_ten (n : Nat) (q : Queue) : (s.setQueue n q).ten = s.ten := rfl
@[simp] theorem State.setQueue_keep (n : Nat) (q : Queue) : (s.setQueue n q).keep = s.keep := rfl
@[simp] theorem State.setQueue_reef (n : Nat) (q : Queue) : (s.setQueue n q).reef = s.reef := rfl
@[simp] theorem State.setQueue_power (n : Nat) (q : Queue) : (s.setQueue n q).power = s.power := rfl
@[simp] theorem State.setQueue_tt (n : Nat) (q : Queue) : (s.setQueue n q).tt = s.tt := rfl
@[simp] theorem State.setQueue_bosun (n : Nat) (q : Queue) : (s.setQueue n q).bosun = s.bosun := rfl
@[simp] theorem State.setQueue_muster (n : Nat) (q : Queue) : (s.setQueue n q).muster = s.muster := rfl
@[simp] theorem State.setQueue_halyardCmd (n : Nat) (q : Queue) : (s.setQueue n q).halyardCmd = s.halyardCmd := rfl
@[simp] theorem State.setQueue_keepCmd (n : Nat) (q : Queue) : (s.setQueue n q).keepCmd = s.keepCmd := rfl
@[simp] theorem State.setQueue_spillCmd (n : Nat) (q : Queue) : (s.setQueue n q).spillCmd = s.spillCmd := rfl
@[simp] theorem State.setQueue_mtCmd (n : Nat) (q : Queue) : (s.setQueue n q).mtCmd = s.mtCmd := rfl
@[simp] theorem State.setQueue_ttMem (n : Nat) (q : Queue) : (s.setQueue n q).ttMem = s.ttMem := rfl
@[simp] theorem State.setQueue_free (n : Nat) (q : Queue) : (s.setQueue n q).free = s.free := rfl
@[simp] theorem State.setQueue_out (n : Nat) (q : Queue) : (s.setQueue n q).out = s.out := rfl
@[simp] theorem State.setQueue_pending (n : Nat) (q : Queue) : (s.setQueue n q).pending = s.pending := rfl

/-! ### setRound -/

@[simp] theorem State.setRound_regs (b : Nat) (r : Round) : (s.setRound b r).regs = s.regs := rfl
@[simp] theorem State.setRound_hiLatch (b : Nat) (r : Round) : (s.setRound b r).hiLatch = s.hiLatch := rfl
@[simp] theorem State.setRound_captHeld (b : Nat) (r : Round) : (s.setRound b r).captHeld = s.captHeld := rfl
@[simp] theorem State.setRound_mem (b : Nat) (r : Round) : (s.setRound b r).mem = s.mem := rfl
@[simp] theorem State.setRound_ecc (b : Nat) (r : Round) : (s.setRound b r).ecc = s.ecc := rfl
@[simp] theorem State.setRound_stroke (b : Nat) (r : Round) : (s.setRound b r).stroke = s.stroke := rfl
@[simp] theorem State.setRound_fabric (b : Nat) (r : Round) : (s.setRound b r).fabric = s.fabric := rfl
@[simp] theorem State.setRound_cores (b : Nat) (r : Round) : (s.setRound b r).cores = s.cores := rfl
@[simp] theorem State.setRound_spill (b : Nat) (r : Round) : (s.setRound b r).spill = s.spill := rfl
@[simp] theorem State.setRound_cipher (b : Nat) (r : Round) : (s.setRound b r).cipher = s.cipher := rfl
@[simp] theorem State.setRound_weights (b : Nat) (r : Round) : (s.setRound b r).weights = s.weights := rfl
@[simp] theorem State.setRound_net (b : Nat) (r : Round) : (s.setRound b r).net = s.net := rfl
@[simp] theorem State.setRound_pcie (b : Nat) (r : Round) : (s.setRound b r).pcie = s.pcie := rfl
@[simp] theorem State.setRound_boot (b : Nat) (r : Round) : (s.setRound b r).boot = s.boot := rfl
@[simp] theorem State.setRound_ten (b : Nat) (r : Round) : (s.setRound b r).ten = s.ten := rfl
@[simp] theorem State.setRound_keep (b : Nat) (r : Round) : (s.setRound b r).keep = s.keep := rfl
@[simp] theorem State.setRound_reef (b : Nat) (r : Round) : (s.setRound b r).reef = s.reef := rfl
@[simp] theorem State.setRound_power (b : Nat) (r : Round) : (s.setRound b r).power = s.power := rfl
@[simp] theorem State.setRound_tt (b : Nat) (r : Round) : (s.setRound b r).tt = s.tt := rfl
@[simp] theorem State.setRound_bosun (b : Nat) (r : Round) : (s.setRound b r).bosun = s.bosun := rfl
@[simp] theorem State.setRound_muster (b : Nat) (r : Round) : (s.setRound b r).muster = s.muster := rfl
@[simp] theorem State.setRound_halyardCmd (b : Nat) (r : Round) : (s.setRound b r).halyardCmd = s.halyardCmd := rfl
@[simp] theorem State.setRound_keepCmd (b : Nat) (r : Round) : (s.setRound b r).keepCmd = s.keepCmd := rfl
@[simp] theorem State.setRound_spillCmd (b : Nat) (r : Round) : (s.setRound b r).spillCmd = s.spillCmd := rfl
@[simp] theorem State.setRound_mtCmd (b : Nat) (r : Round) : (s.setRound b r).mtCmd = s.mtCmd := rfl
@[simp] theorem State.setRound_ttMem (b : Nat) (r : Round) : (s.setRound b r).ttMem = s.ttMem := rfl
@[simp] theorem State.setRound_free (b : Nat) (r : Round) : (s.setRound b r).free = s.free := rfl
@[simp] theorem State.setRound_out (b : Nat) (r : Round) : (s.setRound b r).out = s.out := rfl
@[simp] theorem State.setRound_pending (b : Nat) (r : Round) : (s.setRound b r).pending = s.pending := rfl

/-! ### setCipher -/

@[simp] theorem State.setCipher_regs (c : CipherEng) : (s.setCipher c).regs = s.regs := rfl
@[simp] theorem State.setCipher_hiLatch (c : CipherEng) : (s.setCipher c).hiLatch = s.hiLatch := rfl
@[simp] theorem State.setCipher_captHeld (c : CipherEng) : (s.setCipher c).captHeld = s.captHeld := rfl
@[simp] theorem State.setCipher_mem (c : CipherEng) : (s.setCipher c).mem = s.mem := rfl
@[simp] theorem State.setCipher_ecc (c : CipherEng) : (s.setCipher c).ecc = s.ecc := rfl
@[simp] theorem State.setCipher_stroke (c : CipherEng) : (s.setCipher c).stroke = s.stroke := rfl
@[simp] theorem State.setCipher_fabric (c : CipherEng) : (s.setCipher c).fabric = s.fabric := rfl
@[simp] theorem State.setCipher_cores (c : CipherEng) : (s.setCipher c).cores = s.cores := rfl
@[simp] theorem State.setCipher_spill (c : CipherEng) : (s.setCipher c).spill = s.spill := rfl
@[simp] theorem State.setCipher_rounds (c : CipherEng) : (s.setCipher c).rounds = s.rounds := rfl
@[simp] theorem State.setCipher_weights (c : CipherEng) : (s.setCipher c).weights = s.weights := rfl
@[simp] theorem State.setCipher_net (c : CipherEng) : (s.setCipher c).net = s.net := rfl
@[simp] theorem State.setCipher_pcie (c : CipherEng) : (s.setCipher c).pcie = s.pcie := rfl
@[simp] theorem State.setCipher_boot (c : CipherEng) : (s.setCipher c).boot = s.boot := rfl
@[simp] theorem State.setCipher_ten (c : CipherEng) : (s.setCipher c).ten = s.ten := rfl
@[simp] theorem State.setCipher_keep (c : CipherEng) : (s.setCipher c).keep = s.keep := rfl
@[simp] theorem State.setCipher_reef (c : CipherEng) : (s.setCipher c).reef = s.reef := rfl
@[simp] theorem State.setCipher_power (c : CipherEng) : (s.setCipher c).power = s.power := rfl
@[simp] theorem State.setCipher_tt (c : CipherEng) : (s.setCipher c).tt = s.tt := rfl
@[simp] theorem State.setCipher_bosun (c : CipherEng) : (s.setCipher c).bosun = s.bosun := rfl
@[simp] theorem State.setCipher_muster (c : CipherEng) : (s.setCipher c).muster = s.muster := rfl
@[simp] theorem State.setCipher_halyardCmd (c : CipherEng) : (s.setCipher c).halyardCmd = s.halyardCmd := rfl
@[simp] theorem State.setCipher_keepCmd (c : CipherEng) : (s.setCipher c).keepCmd = s.keepCmd := rfl
@[simp] theorem State.setCipher_spillCmd (c : CipherEng) : (s.setCipher c).spillCmd = s.spillCmd := rfl
@[simp] theorem State.setCipher_mtCmd (c : CipherEng) : (s.setCipher c).mtCmd = s.mtCmd := rfl
@[simp] theorem State.setCipher_ttMem (c : CipherEng) : (s.setCipher c).ttMem = s.ttMem := rfl
@[simp] theorem State.setCipher_free (c : CipherEng) : (s.setCipher c).free = s.free := rfl
@[simp] theorem State.setCipher_out (c : CipherEng) : (s.setCipher c).out = s.out := rfl
@[simp] theorem State.setCipher_pending (c : CipherEng) : (s.setCipher c).pending = s.pending := rfl

/-! ### setHalyard -/

@[simp] theorem State.setHalyard_regs (h : Halyard) : (s.setHalyard h).regs = s.regs := rfl
@[simp] theorem State.setHalyard_hiLatch (h : Halyard) : (s.setHalyard h).hiLatch = s.hiLatch := rfl
@[simp] theorem State.setHalyard_captHeld (h : Halyard) : (s.setHalyard h).captHeld = s.captHeld := rfl
@[simp] theorem State.setHalyard_mem (h : Halyard) : (s.setHalyard h).mem = s.mem := rfl
@[simp] theorem State.setHalyard_ecc (h : Halyard) : (s.setHalyard h).ecc = s.ecc := rfl
@[simp] theorem State.setHalyard_stroke (h : Halyard) : (s.setHalyard h).stroke = s.stroke := rfl
@[simp] theorem State.setHalyard_fabric (h : Halyard) : (s.setHalyard h).fabric = s.fabric := rfl
@[simp] theorem State.setHalyard_cores (h : Halyard) : (s.setHalyard h).cores = s.cores := rfl
@[simp] theorem State.setHalyard_spill (h : Halyard) : (s.setHalyard h).spill = s.spill := rfl
@[simp] theorem State.setHalyard_rounds (h : Halyard) : (s.setHalyard h).rounds = s.rounds := rfl
@[simp] theorem State.setHalyard_cipher (h : Halyard) : (s.setHalyard h).cipher = s.cipher := rfl
@[simp] theorem State.setHalyard_weights (h : Halyard) : (s.setHalyard h).weights = s.weights := rfl
@[simp] theorem State.setHalyard_pcie (h : Halyard) : (s.setHalyard h).pcie = s.pcie := rfl
@[simp] theorem State.setHalyard_boot (h : Halyard) : (s.setHalyard h).boot = s.boot := rfl
@[simp] theorem State.setHalyard_ten (h : Halyard) : (s.setHalyard h).ten = s.ten := rfl
@[simp] theorem State.setHalyard_keep (h : Halyard) : (s.setHalyard h).keep = s.keep := rfl
@[simp] theorem State.setHalyard_reef (h : Halyard) : (s.setHalyard h).reef = s.reef := rfl
@[simp] theorem State.setHalyard_power (h : Halyard) : (s.setHalyard h).power = s.power := rfl
@[simp] theorem State.setHalyard_tt (h : Halyard) : (s.setHalyard h).tt = s.tt := rfl
@[simp] theorem State.setHalyard_bosun (h : Halyard) : (s.setHalyard h).bosun = s.bosun := rfl
@[simp] theorem State.setHalyard_muster (h : Halyard) : (s.setHalyard h).muster = s.muster := rfl
@[simp] theorem State.setHalyard_halyardCmd (h : Halyard) : (s.setHalyard h).halyardCmd = s.halyardCmd := rfl
@[simp] theorem State.setHalyard_keepCmd (h : Halyard) : (s.setHalyard h).keepCmd = s.keepCmd := rfl
@[simp] theorem State.setHalyard_spillCmd (h : Halyard) : (s.setHalyard h).spillCmd = s.spillCmd := rfl
@[simp] theorem State.setHalyard_mtCmd (h : Halyard) : (s.setHalyard h).mtCmd = s.mtCmd := rfl
@[simp] theorem State.setHalyard_ttMem (h : Halyard) : (s.setHalyard h).ttMem = s.ttMem := rfl
@[simp] theorem State.setHalyard_free (h : Halyard) : (s.setHalyard h).free = s.free := rfl
@[simp] theorem State.setHalyard_out (h : Halyard) : (s.setHalyard h).out = s.out := rfl
@[simp] theorem State.setHalyard_pending (h : Halyard) : (s.setHalyard h).pending = s.pending := rfl

/-! ### setQp -/

@[simp] theorem State.setQp_regs (i : Nat) (q : Qp) : (s.setQp i q).regs = s.regs := rfl
@[simp] theorem State.setQp_hiLatch (i : Nat) (q : Qp) : (s.setQp i q).hiLatch = s.hiLatch := rfl
@[simp] theorem State.setQp_captHeld (i : Nat) (q : Qp) : (s.setQp i q).captHeld = s.captHeld := rfl
@[simp] theorem State.setQp_mem (i : Nat) (q : Qp) : (s.setQp i q).mem = s.mem := rfl
@[simp] theorem State.setQp_ecc (i : Nat) (q : Qp) : (s.setQp i q).ecc = s.ecc := rfl
@[simp] theorem State.setQp_stroke (i : Nat) (q : Qp) : (s.setQp i q).stroke = s.stroke := rfl
@[simp] theorem State.setQp_fabric (i : Nat) (q : Qp) : (s.setQp i q).fabric = s.fabric := rfl
@[simp] theorem State.setQp_cores (i : Nat) (q : Qp) : (s.setQp i q).cores = s.cores := rfl
@[simp] theorem State.setQp_spill (i : Nat) (q : Qp) : (s.setQp i q).spill = s.spill := rfl
@[simp] theorem State.setQp_rounds (i : Nat) (q : Qp) : (s.setQp i q).rounds = s.rounds := rfl
@[simp] theorem State.setQp_cipher (i : Nat) (q : Qp) : (s.setQp i q).cipher = s.cipher := rfl
@[simp] theorem State.setQp_weights (i : Nat) (q : Qp) : (s.setQp i q).weights = s.weights := rfl
@[simp] theorem State.setQp_pcie (i : Nat) (q : Qp) : (s.setQp i q).pcie = s.pcie := rfl
@[simp] theorem State.setQp_boot (i : Nat) (q : Qp) : (s.setQp i q).boot = s.boot := rfl
@[simp] theorem State.setQp_ten (i : Nat) (q : Qp) : (s.setQp i q).ten = s.ten := rfl
@[simp] theorem State.setQp_keep (i : Nat) (q : Qp) : (s.setQp i q).keep = s.keep := rfl
@[simp] theorem State.setQp_reef (i : Nat) (q : Qp) : (s.setQp i q).reef = s.reef := rfl
@[simp] theorem State.setQp_power (i : Nat) (q : Qp) : (s.setQp i q).power = s.power := rfl
@[simp] theorem State.setQp_tt (i : Nat) (q : Qp) : (s.setQp i q).tt = s.tt := rfl
@[simp] theorem State.setQp_bosun (i : Nat) (q : Qp) : (s.setQp i q).bosun = s.bosun := rfl
@[simp] theorem State.setQp_muster (i : Nat) (q : Qp) : (s.setQp i q).muster = s.muster := rfl
@[simp] theorem State.setQp_halyardCmd (i : Nat) (q : Qp) : (s.setQp i q).halyardCmd = s.halyardCmd := rfl
@[simp] theorem State.setQp_keepCmd (i : Nat) (q : Qp) : (s.setQp i q).keepCmd = s.keepCmd := rfl
@[simp] theorem State.setQp_spillCmd (i : Nat) (q : Qp) : (s.setQp i q).spillCmd = s.spillCmd := rfl
@[simp] theorem State.setQp_mtCmd (i : Nat) (q : Qp) : (s.setQp i q).mtCmd = s.mtCmd := rfl
@[simp] theorem State.setQp_ttMem (i : Nat) (q : Qp) : (s.setQp i q).ttMem = s.ttMem := rfl
@[simp] theorem State.setQp_free (i : Nat) (q : Qp) : (s.setQp i q).free = s.free := rfl
@[simp] theorem State.setQp_out (i : Nat) (q : Qp) : (s.setQp i q).out = s.out := rfl
@[simp] theorem State.setQp_pending (i : Nat) (q : Qp) : (s.setQp i q).pending = s.pending := rfl

/-! ### setHail -/

@[simp] theorem State.setHail_regs (h : Hail) : (s.setHail h).regs = s.regs := rfl
@[simp] theorem State.setHail_hiLatch (h : Hail) : (s.setHail h).hiLatch = s.hiLatch := rfl
@[simp] theorem State.setHail_captHeld (h : Hail) : (s.setHail h).captHeld = s.captHeld := rfl
@[simp] theorem State.setHail_mem (h : Hail) : (s.setHail h).mem = s.mem := rfl
@[simp] theorem State.setHail_ecc (h : Hail) : (s.setHail h).ecc = s.ecc := rfl
@[simp] theorem State.setHail_stroke (h : Hail) : (s.setHail h).stroke = s.stroke := rfl
@[simp] theorem State.setHail_fabric (h : Hail) : (s.setHail h).fabric = s.fabric := rfl
@[simp] theorem State.setHail_cores (h : Hail) : (s.setHail h).cores = s.cores := rfl
@[simp] theorem State.setHail_spill (h : Hail) : (s.setHail h).spill = s.spill := rfl
@[simp] theorem State.setHail_rounds (h : Hail) : (s.setHail h).rounds = s.rounds := rfl
@[simp] theorem State.setHail_cipher (h : Hail) : (s.setHail h).cipher = s.cipher := rfl
@[simp] theorem State.setHail_weights (h : Hail) : (s.setHail h).weights = s.weights := rfl
@[simp] theorem State.setHail_pcie (h : Hail) : (s.setHail h).pcie = s.pcie := rfl
@[simp] theorem State.setHail_boot (h : Hail) : (s.setHail h).boot = s.boot := rfl
@[simp] theorem State.setHail_ten (h : Hail) : (s.setHail h).ten = s.ten := rfl
@[simp] theorem State.setHail_keep (h : Hail) : (s.setHail h).keep = s.keep := rfl
@[simp] theorem State.setHail_reef (h : Hail) : (s.setHail h).reef = s.reef := rfl
@[simp] theorem State.setHail_power (h : Hail) : (s.setHail h).power = s.power := rfl
@[simp] theorem State.setHail_tt (h : Hail) : (s.setHail h).tt = s.tt := rfl
@[simp] theorem State.setHail_bosun (h : Hail) : (s.setHail h).bosun = s.bosun := rfl
@[simp] theorem State.setHail_muster (h : Hail) : (s.setHail h).muster = s.muster := rfl
@[simp] theorem State.setHail_halyardCmd (h : Hail) : (s.setHail h).halyardCmd = s.halyardCmd := rfl
@[simp] theorem State.setHail_keepCmd (h : Hail) : (s.setHail h).keepCmd = s.keepCmd := rfl
@[simp] theorem State.setHail_spillCmd (h : Hail) : (s.setHail h).spillCmd = s.spillCmd := rfl
@[simp] theorem State.setHail_mtCmd (h : Hail) : (s.setHail h).mtCmd = s.mtCmd := rfl
@[simp] theorem State.setHail_ttMem (h : Hail) : (s.setHail h).ttMem = s.ttMem := rfl
@[simp] theorem State.setHail_free (h : Hail) : (s.setHail h).free = s.free := rfl
@[simp] theorem State.setHail_out (h : Hail) : (s.setHail h).out = s.out := rfl
@[simp] theorem State.setHail_pending (h : Hail) : (s.setHail h).pending = s.pending := rfl

/-! ### setPeer -/

@[simp] theorem State.setPeer_regs (id : Nat) (p : Peer) : (s.setPeer id p).regs = s.regs := rfl
@[simp] theorem State.setPeer_hiLatch (id : Nat) (p : Peer) : (s.setPeer id p).hiLatch = s.hiLatch := rfl
@[simp] theorem State.setPeer_captHeld (id : Nat) (p : Peer) : (s.setPeer id p).captHeld = s.captHeld := rfl
@[simp] theorem State.setPeer_mem (id : Nat) (p : Peer) : (s.setPeer id p).mem = s.mem := rfl
@[simp] theorem State.setPeer_ecc (id : Nat) (p : Peer) : (s.setPeer id p).ecc = s.ecc := rfl
@[simp] theorem State.setPeer_stroke (id : Nat) (p : Peer) : (s.setPeer id p).stroke = s.stroke := rfl
@[simp] theorem State.setPeer_fabric (id : Nat) (p : Peer) : (s.setPeer id p).fabric = s.fabric := rfl
@[simp] theorem State.setPeer_cores (id : Nat) (p : Peer) : (s.setPeer id p).cores = s.cores := rfl
@[simp] theorem State.setPeer_spill (id : Nat) (p : Peer) : (s.setPeer id p).spill = s.spill := rfl
@[simp] theorem State.setPeer_rounds (id : Nat) (p : Peer) : (s.setPeer id p).rounds = s.rounds := rfl
@[simp] theorem State.setPeer_cipher (id : Nat) (p : Peer) : (s.setPeer id p).cipher = s.cipher := rfl
@[simp] theorem State.setPeer_weights (id : Nat) (p : Peer) : (s.setPeer id p).weights = s.weights := rfl
@[simp] theorem State.setPeer_pcie (id : Nat) (p : Peer) : (s.setPeer id p).pcie = s.pcie := rfl
@[simp] theorem State.setPeer_boot (id : Nat) (p : Peer) : (s.setPeer id p).boot = s.boot := rfl
@[simp] theorem State.setPeer_ten (id : Nat) (p : Peer) : (s.setPeer id p).ten = s.ten := rfl
@[simp] theorem State.setPeer_keep (id : Nat) (p : Peer) : (s.setPeer id p).keep = s.keep := rfl
@[simp] theorem State.setPeer_reef (id : Nat) (p : Peer) : (s.setPeer id p).reef = s.reef := rfl
@[simp] theorem State.setPeer_power (id : Nat) (p : Peer) : (s.setPeer id p).power = s.power := rfl
@[simp] theorem State.setPeer_tt (id : Nat) (p : Peer) : (s.setPeer id p).tt = s.tt := rfl
@[simp] theorem State.setPeer_bosun (id : Nat) (p : Peer) : (s.setPeer id p).bosun = s.bosun := rfl
@[simp] theorem State.setPeer_muster (id : Nat) (p : Peer) : (s.setPeer id p).muster = s.muster := rfl
@[simp] theorem State.setPeer_halyardCmd (id : Nat) (p : Peer) : (s.setPeer id p).halyardCmd = s.halyardCmd := rfl
@[simp] theorem State.setPeer_keepCmd (id : Nat) (p : Peer) : (s.setPeer id p).keepCmd = s.keepCmd := rfl
@[simp] theorem State.setPeer_spillCmd (id : Nat) (p : Peer) : (s.setPeer id p).spillCmd = s.spillCmd := rfl
@[simp] theorem State.setPeer_mtCmd (id : Nat) (p : Peer) : (s.setPeer id p).mtCmd = s.mtCmd := rfl
@[simp] theorem State.setPeer_ttMem (id : Nat) (p : Peer) : (s.setPeer id p).ttMem = s.ttMem := rfl
@[simp] theorem State.setPeer_free (id : Nat) (p : Peer) : (s.setPeer id p).free = s.free := rfl
@[simp] theorem State.setPeer_out (id : Nat) (p : Peer) : (s.setPeer id p).out = s.out := rfl
@[simp] theorem State.setPeer_pending (id : Nat) (p : Peer) : (s.setPeer id p).pending = s.pending := rfl

/-! ### setPort -/

@[simp] theorem State.setPort_regs (p : Nat) (x : Port) : (s.setPort p x).regs = s.regs := rfl
@[simp] theorem State.setPort_hiLatch (p : Nat) (x : Port) : (s.setPort p x).hiLatch = s.hiLatch := rfl
@[simp] theorem State.setPort_captHeld (p : Nat) (x : Port) : (s.setPort p x).captHeld = s.captHeld := rfl
@[simp] theorem State.setPort_mem (p : Nat) (x : Port) : (s.setPort p x).mem = s.mem := rfl
@[simp] theorem State.setPort_ecc (p : Nat) (x : Port) : (s.setPort p x).ecc = s.ecc := rfl
@[simp] theorem State.setPort_stroke (p : Nat) (x : Port) : (s.setPort p x).stroke = s.stroke := rfl
@[simp] theorem State.setPort_fabric (p : Nat) (x : Port) : (s.setPort p x).fabric = s.fabric := rfl
@[simp] theorem State.setPort_cores (p : Nat) (x : Port) : (s.setPort p x).cores = s.cores := rfl
@[simp] theorem State.setPort_spill (p : Nat) (x : Port) : (s.setPort p x).spill = s.spill := rfl
@[simp] theorem State.setPort_rounds (p : Nat) (x : Port) : (s.setPort p x).rounds = s.rounds := rfl
@[simp] theorem State.setPort_cipher (p : Nat) (x : Port) : (s.setPort p x).cipher = s.cipher := rfl
@[simp] theorem State.setPort_weights (p : Nat) (x : Port) : (s.setPort p x).weights = s.weights := rfl
@[simp] theorem State.setPort_pcie (p : Nat) (x : Port) : (s.setPort p x).pcie = s.pcie := rfl
@[simp] theorem State.setPort_boot (p : Nat) (x : Port) : (s.setPort p x).boot = s.boot := rfl
@[simp] theorem State.setPort_ten (p : Nat) (x : Port) : (s.setPort p x).ten = s.ten := rfl
@[simp] theorem State.setPort_keep (p : Nat) (x : Port) : (s.setPort p x).keep = s.keep := rfl
@[simp] theorem State.setPort_reef (p : Nat) (x : Port) : (s.setPort p x).reef = s.reef := rfl
@[simp] theorem State.setPort_power (p : Nat) (x : Port) : (s.setPort p x).power = s.power := rfl
@[simp] theorem State.setPort_tt (p : Nat) (x : Port) : (s.setPort p x).tt = s.tt := rfl
@[simp] theorem State.setPort_bosun (p : Nat) (x : Port) : (s.setPort p x).bosun = s.bosun := rfl
@[simp] theorem State.setPort_muster (p : Nat) (x : Port) : (s.setPort p x).muster = s.muster := rfl
@[simp] theorem State.setPort_halyardCmd (p : Nat) (x : Port) : (s.setPort p x).halyardCmd = s.halyardCmd := rfl
@[simp] theorem State.setPort_keepCmd (p : Nat) (x : Port) : (s.setPort p x).keepCmd = s.keepCmd := rfl
@[simp] theorem State.setPort_spillCmd (p : Nat) (x : Port) : (s.setPort p x).spillCmd = s.spillCmd := rfl
@[simp] theorem State.setPort_mtCmd (p : Nat) (x : Port) : (s.setPort p x).mtCmd = s.mtCmd := rfl
@[simp] theorem State.setPort_ttMem (p : Nat) (x : Port) : (s.setPort p x).ttMem = s.ttMem := rfl
@[simp] theorem State.setPort_free (p : Nat) (x : Port) : (s.setPort p x).free = s.free := rfl
@[simp] theorem State.setPort_out (p : Nat) (x : Port) : (s.setPort p x).out = s.out := rfl
@[simp] theorem State.setPort_pending (p : Nat) (x : Port) : (s.setPort p x).pending = s.pending := rfl

/-! ### setKeep -/

@[simp] theorem State.setKeep_regs (k : Keep) : (s.setKeep k).regs = s.regs := rfl
@[simp] theorem State.setKeep_hiLatch (k : Keep) : (s.setKeep k).hiLatch = s.hiLatch := rfl
@[simp] theorem State.setKeep_captHeld (k : Keep) : (s.setKeep k).captHeld = s.captHeld := rfl
@[simp] theorem State.setKeep_mem (k : Keep) : (s.setKeep k).mem = s.mem := rfl
@[simp] theorem State.setKeep_ecc (k : Keep) : (s.setKeep k).ecc = s.ecc := rfl
@[simp] theorem State.setKeep_stroke (k : Keep) : (s.setKeep k).stroke = s.stroke := rfl
@[simp] theorem State.setKeep_fabric (k : Keep) : (s.setKeep k).fabric = s.fabric := rfl
@[simp] theorem State.setKeep_cores (k : Keep) : (s.setKeep k).cores = s.cores := rfl
@[simp] theorem State.setKeep_spill (k : Keep) : (s.setKeep k).spill = s.spill := rfl
@[simp] theorem State.setKeep_rounds (k : Keep) : (s.setKeep k).rounds = s.rounds := rfl
@[simp] theorem State.setKeep_cipher (k : Keep) : (s.setKeep k).cipher = s.cipher := rfl
@[simp] theorem State.setKeep_weights (k : Keep) : (s.setKeep k).weights = s.weights := rfl
@[simp] theorem State.setKeep_net (k : Keep) : (s.setKeep k).net = s.net := rfl
@[simp] theorem State.setKeep_pcie (k : Keep) : (s.setKeep k).pcie = s.pcie := rfl
@[simp] theorem State.setKeep_boot (k : Keep) : (s.setKeep k).boot = s.boot := rfl
@[simp] theorem State.setKeep_ten (k : Keep) : (s.setKeep k).ten = s.ten := rfl
@[simp] theorem State.setKeep_reef (k : Keep) : (s.setKeep k).reef = s.reef := rfl
@[simp] theorem State.setKeep_power (k : Keep) : (s.setKeep k).power = s.power := rfl
@[simp] theorem State.setKeep_tt (k : Keep) : (s.setKeep k).tt = s.tt := rfl
@[simp] theorem State.setKeep_bosun (k : Keep) : (s.setKeep k).bosun = s.bosun := rfl
@[simp] theorem State.setKeep_muster (k : Keep) : (s.setKeep k).muster = s.muster := rfl
@[simp] theorem State.setKeep_halyardCmd (k : Keep) : (s.setKeep k).halyardCmd = s.halyardCmd := rfl
@[simp] theorem State.setKeep_keepCmd (k : Keep) : (s.setKeep k).keepCmd = s.keepCmd := rfl
@[simp] theorem State.setKeep_spillCmd (k : Keep) : (s.setKeep k).spillCmd = s.spillCmd := rfl
@[simp] theorem State.setKeep_mtCmd (k : Keep) : (s.setKeep k).mtCmd = s.mtCmd := rfl
@[simp] theorem State.setKeep_ttMem (k : Keep) : (s.setKeep k).ttMem = s.ttMem := rfl
@[simp] theorem State.setKeep_free (k : Keep) : (s.setKeep k).free = s.free := rfl
@[simp] theorem State.setKeep_out (k : Keep) : (s.setKeep k).out = s.out := rfl
@[simp] theorem State.setKeep_pending (k : Keep) : (s.setKeep k).pending = s.pending := rfl

/-! ### Reads after writes -/

theorem State.reg_setReg (p q : Page) (i j off o : Nat) (v : W32) :
    (s.setReg p i off v).reg q j o = if regAddr q j o = regAddr p i off then v else s.reg q j o := by
  simp only [State.reg, State.setReg]
  split
  · next h => rw [h, NMap.get_put_self]
  · next h => rw [NMap.get_put_ne' _ _ _ _ _ _ h]

theorem State.reg_setReg_self (p : Page) (i off : Nat) (v : W32) : (s.setReg p i off v).reg p i off = v := by
  rw [State.reg_setReg, if_pos rfl]

theorem State.core_setCore (k j : Nat) (c : Core) : (s.setCore k c).core j = if j = k then c else s.core j := NMap.get_put _ _ _ _ _

theorem State.ashlar_setAshlar (a b : Nat) (x : Ashlar) : (s.setAshlar a x).ashlar b = if b = a then x else s.ashlar b :=
  NMap.get_put _ _ _ _ _

theorem State.queue_setQueue_self (n : Nat) (q : Queue) : (s.setQueue n q).queue n = q := NMap.get_put_self _ _ _ _

theorem State.queue_setQueue_ne (n m : Nat) (q : Queue) (h : m ≠ n) : (s.setQueue n q).queue m = s.queue m :=
  NMap.get_put_ne' _ _ _ _ _ _ h

theorem State.round_setRound (b c : Nat) (r : Round) : (s.setRound b r).round c = if c = b then r else s.round c := NMap.get_put _ _ _ _ _

theorem State.qp_setQp (i j : Nat) (q : Qp) : (s.setQp i q).qp j = if j = i then q else s.qp j := NMap.get_put _ _ _ _ _

theorem State.peer_setPeer (i j : Nat) (p : Peer) : (s.setPeer i p).peer j = if j = i then p else s.peer j := NMap.get_put _ _ _ _ _

theorem State.port_setPort (i j : Nat) (x : Port) : (s.setPort i x).port j = if j = i then x else s.port j := NMap.get_put _ _ _ _ _

theorem State.rig?_setRig_self (id : Nat) (r : Rig) : (s.setRig id r).rig? id = some r := NMap.find?_insertAt_self _ _ _

end Sys2Proof.Machine
end

