-- ==== Sys2Proof/Laws/Frame.lean ====
section
/-!
SUPPORT. What the shared operations on registers, events, errors, wake events and page accesses can change: one lemma for each.
-/

namespace Sys2Proof.Machine

variable (s : State)

/-- What is emitted joins `out`; nothing else changes. -/
theorem State.emit_frame (o : Out) : ∃ x, s.emit o = { s with out := x } := by
  unfold State.emit; split <;> exact ⟨_, rfl⟩

/-- An output that is no memory request is always sent. -/
theorem State.emit_plain (o : Out) (h : o.hostRequest = false) : s.emit o = { s with out := o :: s.out } := by
  unfold State.emit; simp [h]

theorem State.atCycle_frame (c : Nat) : ∃ x, s.atCycle c = { s with stroke := { s.stroke with cycle := x } } := by
  unfold State.atCycle; split <;> exact ⟨_, rfl⟩

/-- A vector is sent or becomes pending. -/
theorem State.sendVector_frame (v : Nat) (b : Bool) :
    ∃ o x, s.sendVector v b = { s with out := o, pcie := { s.pcie with pba := x } } := by
  unfold State.sendVector; dsimp only; split <;> exact ⟨_, _, rfl⟩

/-- An event is latched, and its vector may be sent or become pending. -/
theorem State.latchEvt_frame (p : Page) (i m : Nat) :
    ∃ r o x, s.latchEvt p i m = { s with regs := r, out := o, pcie := { s.pcie with pba := x } } := by
  have h (v : W32) : ∃ r o x, (s.setReg p i 0x14 v).sendVector (p.vector i) = { s with regs := r, out := o, pcie := { s.pcie with pba := x } } := by
    obtain ⟨o, x, h⟩ := (s.setReg p i 0x14 v).sendVector_frame (p.vector i) false
    rw [h]; exact ⟨_, _, _, rfl⟩
  unfold State.latchEvt; dsimp only
  generalize s.reg p i 0x14 ||| BitVec.ofNat 32 (m % 2 ^ p.evtBits) = v
  split
  · exact h v
  · exact ⟨_, _, _, rfl⟩

theorem State.setReg_frame (p : Page) (i off : Nat) (v : W32) : ∃ r, s.setReg p i off v = { s with regs := r } := ⟨_, rfl⟩

theorem State.bump_frame (p : Page) (i off : Nat) : ∃ r, s.bump p i off = { s with regs := r } := ⟨_, rfl⟩

theorem State.captMem_frame (p : Page) (i addr kind q : Nat) (d : W32) : ∃ r, s.captMem p i addr kind q d = { s with regs := r } := by
  have h (a b c e : W32) : ∃ r, (((s.setReg p i 0x24 a).setReg p i 0x28 b).setReg p i 0x2C c).setReg p i 0x30 e = { s with regs := r } :=
    ⟨_, rfl⟩
  unfold State.captMem; split
  · exact ⟨_, rfl⟩
  · exact h _ _ _ _

theorem State.captReg_frame (p : Page) (i off kind : Nat) (d : W32) :
    ∃ r c, s.captReg p i off kind d = { s with regs := r, captHeld := c } := by
  have h (a b c e : W32) : ∃ r, (((s.setReg p i 0x24 a).setReg p i 0x28 b).setReg p i 0x2C c).setReg p i 0x30 e = { s with regs := r } :=
    ⟨_, rfl⟩
  unfold State.captReg; split
  · exact ⟨_, _, rfl⟩
  · obtain ⟨r, hr⟩ := h (BitVec.ofNat 32 (off % 2 ^ 12 + kind * 2 ^ 12)) d (BitVec.ofNat 32 s.stroke.now)
      (BitVec.ofNat 32 (s.stroke.now / 2 ^ 32))
    dsimp only
    rw [hr]
    exact ⟨_, _, rfl⟩

/-- An error is counted and captured: registers, and the list of the captures held. -/
theorem State.pageError_frame (p : Page) (i off kind : Nat) (d : W32) (q : Nat) :
    ∃ r c, s.pageError p i off kind d q = { s with regs := r, captHeld := c } := by
  unfold State.pageError; dsimp only; split
  · obtain ⟨r, h⟩ := s.captMem_frame p i 0 8 q 0
    rw [h]; exact ⟨_, _, rfl⟩
  · obtain ⟨r, c, h⟩ := s.captReg_frame p i off kind d
    rw [h]; exact ⟨_, _, rfl⟩

/-- A reef exit starts: the reef record, REEF's registers, and WAKE_N. -/
theorem State.startExit_frame (cause : Nat) : ∃ x r o, s.startExit cause = { s with reef := x, regs := r, out := o } := by
  unfold State.startExit State.breakDwells State.emit; dsimp only
  repeat' split
  all_goals exact ⟨_, _, _, rfl⟩

theorem State.wake_frame (c lo hi : Nat) : ∃ x r o, s.wake c lo hi = { s with reef := x, regs := r, out := o } := by
  unfold State.wake; split
  · exact s.startExit_frame c
  · exact ⟨_, _, _, rfl⟩

/-- In Reef-0 an access wakes nothing. -/
theorem State.woken_awake (p : Page) (h : s.reef.level = 0) : s.woken p = s := by
  unfold State.woken State.wake; split
  · rfl
  · simp [h]

/-- A register access that takes effect at once is the write itself, after the wake event of the page. -/
theorem State.onPage_takes (p : Page) (i off : Nat) (v : W32) (f : State → State) (h : Takes s p) :
    s.onPage p i off v f = f (s.woken p) := by
  obtain ⟨h1, h2, h3⟩ := h
  simp only [State.onPage, State.pageWrite, h1, h2, State.woken]
  split
  · next h => simp at h
  · split
    · next h => simp at h
    · split
      · rfl
      · rfl

/-! ### Memory, cores, fabric and queues stand -/

theorem FabricStands.refl : FabricStands s s := ⟨rfl, rfl, rfl, rfl, rfl⟩

theorem FabricStands.trans {a b c : State} (h : FabricStands a b) (k : FabricStands b c) : FabricStands a c :=
  ⟨k.1.trans h.1, k.2.1.trans h.2.1, k.2.2.1.trans h.2.2.1, k.2.2.2.1.trans h.2.2.2.1, k.2.2.2.2.trans h.2.2.2.2⟩

theorem State.emit_stands (o : Out) : FabricStands s (s.emit o) := by
  obtain ⟨x, h⟩ := s.emit_frame o; rw [h]; exact ⟨rfl, rfl, rfl, rfl, rfl⟩

theorem State.latchEvt_stands (p : Page) (i m : Nat) : FabricStands s (s.latchEvt p i m) := by
  obtain ⟨r, o, x, h⟩ := s.latchEvt_frame p i m; rw [h]; exact ⟨rfl, rfl, rfl, rfl, rfl⟩

theorem State.pageError_stands (p : Page) (i off kind : Nat) (d : W32) (q : Nat) : FabricStands s (s.pageError p i off kind d q) := by
  obtain ⟨r, c, h⟩ := s.pageError_frame p i off kind d q; rw [h]; exact ⟨rfl, rfl, rfl, rfl, rfl⟩

theorem State.woken_stands (p : Page) : FabricStands s (s.woken p) := by
  unfold State.woken; split
  · exact FabricStands.refl s
  · obtain ⟨x, r, o, h⟩ := s.wake_frame 2 2 4; rw [h]; exact ⟨rfl, rfl, rfl, rfl, rfl⟩

end Sys2Proof.Machine
end

