-- ==== Sys2Proof/Laws/Memory.lean ====
section
/-!
SUPPORT. Memory: every operation keeps its canonical form; a read after a write to the same bytes gives the bytes written, and a
write leaves every other byte alone; a read of clean words gives the stored bytes and changes nothing.
-/

namespace Sys2Proof.Machine

/-! ### Canonical form -/

theorem memPut_wf (m : List Host.Cell) (a : Nat) (v : Byte) (h : Memory.wf m = true) : Memory.wf (memPut m a v) = true :=
  NMap.wf_put memDefault m a v h

theorem memWrite_wf (m : List Host.Cell) (a : Nat) (l : List Byte) (h : Memory.wf m = true) : Memory.wf (memWrite m a l) = true := by
  induction l generalizing m a with
  | nil => exact h
  | cons b l ih => exact ih _ _ (memPut_wf m a b h)

theorem State.storeWord_wf (s : State) (w : Nat) (l : List Byte) (d : W32)
    (h : Memory.wf s.mem = true ∧ NMap.wf (0 : W32) s.ecc = true) :
    Memory.wf (s.storeWord w l d).mem = true ∧ NMap.wf (0 : W32) (s.storeWord w l d).ecc = true :=
  ⟨memWrite_wf _ _ _ h.1, NMap.wf_put 0 _ _ _ h.2⟩

theorem State.zeroRange_wf (s : State) (a n : Nat) (h : Memory.wf s.mem = true ∧ NMap.wf (0 : W32) s.ecc = true) :
    Memory.wf (s.zeroRange a n).mem = true ∧ NMap.wf (0 : W32) (s.zeroRange a n).ecc = true :=
  ⟨NMap.wf_dropWhere memDefault s.mem (fun k => decide (a ≤ k ∧ k < a + n)) h.1,
    NMap.wf_dropWhere 0 s.ecc (fun w => decide (a ≤ 32 * w ∧ 32 * w < a + n)) h.2⟩

/-! ### Reading after writing -/

theorem memGet_memPut (m : List Host.Cell) (a b : Nat) (v : Byte) : memGet (memPut m a v) b = if b = a then v else memGet m b :=
  NMap.get_put m memDefault v a b

/-- After a write of bytes, the bytes written read back and every other byte is as it was. -/
theorem memGet_memWrite (m : List Host.Cell) (a b : Nat) (l : List Byte) :
    memGet (memWrite m a l) b = if a ≤ b ∧ b < a + l.length then l.getD (b - a) 0 else memGet m b := by
  induction l generalizing m a with
  | nil => simp [memWrite]
  | cons x l ih =>
    simp only [memWrite, ih, memGet_memPut, List.length_cons]
    by_cases h : b = a
    · subst h; simp
    · by_cases h1 : a + 1 ≤ b ∧ b < a + 1 + l.length
      · rw [if_pos h1, if_pos (by omega), show b - a = (b - (a + 1)) + 1 by omega, List.getD_cons_succ]
      · rw [if_neg h1, if_neg h, if_neg (by omega)]

theorem memRead_length (m : List Host.Cell) (a n : Nat) : (memRead m a n).length = n := by simp [memRead]

theorem memRead_add (m : List Host.Cell) (a n k : Nat) : memRead m a (n + k) = memRead m a n ++ memRead m (a + n) k := by
  simp [memRead, List.range_add, Nat.add_assoc]

/-- Reading back what was written. -/
theorem memRead_memWrite_self (m : List Host.Cell) (a : Nat) (l : List Byte) : memRead (memWrite m a l) a l.length = l := by
  apply List.ext_getElem (by simp [memRead])
  intro i h1 h2
  simp [memRead, memGet_memWrite, h2]

/-! ### Reads of clean words -/

/-- No watch window is armed. -/
def State.unwatched (s : State) : Prop := ∀ w, w < 8 → (s.reg .telltale 0 (0x20C + 16 * w)).toNat.testBit 0 = false

theorem State.watched_unwatched (s : State) (a n kind req : Nat) (h : s.unwatched) : s.watched a n kind req = s := by
  have hf : (List.range 8).filter (fun w =>
      let c := (s.reg .telltale 0 (0x20C + 16 * w)).toNat
      c.testBit 0 && c.testBit kind && decide (a < s.wwBase w + s.wwLen w ∧ s.wwBase w < a + n ∧ a < 2 ^ 48)) = [] := by
    rw [List.filter_eq_nil_iff]
    intro w hw
    simp [h w (List.mem_range.mp hw)]
  simp only [State.watched, hf, List.foldl_nil]

/-- A word with no difference in its check symbols and no committed bed value reads as stored. -/
theorem State.readWord_plain (s : State) (req w : Nat) (h : s.ecc.get 0 w = 0 ∧ s.bedComm w = none) :
    s.readWord req w = (memRead s.mem (32 * w) 32, false, s) := by
  have hd : decodeDelta 0 = .clean := by decide
  simp only [State.readWord, h.1, h.2, hd]

theorem State.readWords_plain (s : State) (req w n : Nat) (h : ∀ k, k < n → s.ecc.get 0 (w + k) = 0 ∧ s.bedComm (w + k) = none) :
    s.readWords req w n = (memRead s.mem (32 * w) (32 * n), false, s) := by
  induction n generalizing w with
  | zero => rfl
  | succ n ih =>
    have h0 := s.readWord_plain req w (by simpa using h 0 (by omega))
    have hn := ih (w + 1) fun k hk => by have := h (k + 1) (by omega); rwa [show w + (k + 1) = w + 1 + k by omega] at this
    simp only [State.readWords, h0, hn, Bool.or_self, show 32 * (n + 1) = 32 + 32 * n by omega, memRead_add,
      show 32 * (w + 1) = 32 * w + 32 by omega]

theorem drop_take_memRead (m : List Host.Cell) (a k d n : Nat) (h : d + n ≤ k) :
    ((memRead m a k).drop d).take n = memRead m (a + d) n := by
  apply List.ext_getElem (by simp [memRead]; omega)
  intro i h1 h2
  simp [memRead, Nat.add_assoc]

/-- A read of bytes in clean words, with no watch window armed, gives the stored bytes and changes nothing. -/
theorem State.readBytes_plain (s : State) (req a n : Nat) (hw : s.unwatched)
    (h : ∀ w, a / 32 ≤ w → w ≤ (a + n - 1) / 32 → s.ecc.get 0 w = 0 ∧ s.bedComm w = none) :
    s.readBytes req a n = (memRead s.mem a n, false, s) := by
  by_cases hn : n = 0
  · subst hn; rfl
  · simp only [State.readBytes, if_neg hn, s.watched_unwatched a n 1 req hw]
    have hle : a / 32 ≤ (a + n - 1) / 32 := Nat.div_le_div_right (by omega)
    rw [s.readWords_plain req (a / 32) _ fun k hk => h _ (by omega) (by omega)]
    have hm := Nat.div_add_mod a 32
    have hm2 := Nat.div_add_mod (a + n - 1) 32
    have := Nat.mod_lt (a + n - 1) (show 32 > 0 by omega)
    rw [drop_take_memRead _ _ _ _ _ (by omega), hm]

/-- Bytes of an unlisted range read as zero. -/
theorem memRead_zero (m : List Host.Cell) (a n : Nat) (h : (m.all fun e => decide (e.1 < a ∨ a + n ≤ e.1)) = true) :
    memRead m a n = List.replicate n 0 := by
  apply List.ext_getElem (by simp [memRead])
  intro i h1 h2
  have hi : i < n := by simpa [memRead] using h1
  simp only [memRead, List.getElem_map, List.getElem_range, List.getElem_replicate]
  clear h1 h2
  induction m with
  | nil => rfl
  | cons e m ih =>
    simp only [List.all_cons, Bool.and_eq_true, decide_eq_true_eq] at h
    obtain ⟨j, v⟩ := e
    simp only [memGet, NMap.get_cons]
    rw [if_neg (by simp at h; omega)]
    exact ih h.2

end Sys2Proof.Machine
end

