-- ==== Sys2Proof/Laws/Slot.lean ====
section
/-!
SUPPORT. What the shared operations of a slot do under the conditions in which it issues (04 R167, R181, R182), and what the issue
leaves alone.
-/

namespace Sys2Proof.Machine

theorem State.atCycle_core (s : State) (c k : Nat) : (s.atCycle c).core k = s.core k := by
  simp only [State.atCycle]; split <;> rfl

/-- A slot that issues runs its body on the issued state. -/
theorem runSlot_of_issues {s : State} {u : Issue} {op : Op} {w : Slot} {r : Rig} (h : Issues s u op w r)
    (body : State → Rig → Nat → Core → State) :
    runSlot s u op w body = .next (body (s.issued u r) r (slotKey u) (s.slotCore u)) := by
  obtain ⟨h1, h2, h3, h4, h5, h6, h7⟩ := h
  have hl : r.coreLive u (s.core (coreKey u.rig u.ord u.pos)) = true := h6
  have hr : (hasResidue op && !u.resOk) = false := by
    cases hh : hasResidue op
    · rfl
    · simp [h7 hh]
  simp only [runSlot, h1, h2, h3, h4, h5, hl, hr, State.atCycle_core, State.issued, State.slotCore, slotKey]
  simp

/-- A slot that changes only its own core. -/
theorem coreSlot_of_issues {s : State} {u : Issue} {op : Op} {w : Slot} {r : Rig} (h : Issues s u op w r) (f : Rig → Core → Core) :
    coreSlot s u op w f = .next ((s.issued u r).setCore (slotKey u) (f r (s.slotCore u)).next) := by
  simp only [coreSlot, runSlot_of_issues h]

/-- An invalid word of a core that exists stops. -/
theorem runSlot_invalid {s : State} {u : Issue} {op : Op} {w : Slot} {r : Rig} (h : s.rig? u.rig = some r) (hc : r.hasCore u = true)
    (hw : (slotOk op w && slotFits w && rigSlotOk r op w) = false) (body : State → Rig → Nat → Core → State) :
    runSlot s u op w body = .fault .invalidSlot := by
  simp [runSlot, h, hc, hw]

end Sys2Proof.Machine
end

