-- ==== Sys2Proof/WellFormed.lean ====
section
/-!
DEFINITION. Well-formed commands: every operand names a unit, an index or a cycle that the module has, and every field of a slot
word fits its width. A term that is not well-formed is no command that anything can give the module.
-/

namespace Sys2Proof

open Sys2Proof.Machine

/-- A fabric cycle of a stroke (00 R20). -/
def cycleOk (c : Nat) : Bool := decide (c < 2048)
/-- An Ethernet port (11 R419). -/
def portOk (n : Nat) : Bool := decide (n < 8)
/-- A Pier, a Course, an Ashlar (03 R112, R113). -/
def pierOk (n : Nat) : Bool := decide (n < 6)
def courseOk (n : Nat) : Bool := decide (n < 96)
def ashlarOk (n : Nat) : Bool := decide (n < 4800)
/-- A round block (01 R43). -/
def blockOk (n : Nat) : Bool := decide (n < 16)
/-- A spill queue and a SPILL page (10 R383, R410). -/
def queueOk (n : Nat) : Bool := decide (n < 16384)
def spillPageOk (n : Nat) : Bool := decide (n < 16)
/-- An HBM stack and a word of memory by its address over 32 (13 R508). -/
def stackOk (n : Nat) : Bool := decide (n < 12)
def wordOk (n : Nat) : Bool := decide (n < 2 ^ 43)
/-- A Mortar unit: an Ashlar's, or a pseudo-channel's (05 R218). -/
def mortarOk (n : Nat) : Bool := decide (n < 5184)
/-- A logical region (03 R126). -/
def regionOk (n : Nat) : Bool := decide (n < 64)
/-- A queue pair: RC by its number, UD above them (12 R462). -/
def qpOk (n : Nat) : Bool := decide (n < 66560)
/-- A traffic priority (11 R424). -/
def prioOk (n : Nat) : Bool := decide (n < 8)
/-- A crew position (11 R437) and a client slot (06 R238). -/
def memberOk (n : Nat) : Bool := decide (n < 256)
def clientOk (n : Nat) : Bool := decide (n < 4194304)
/-- A key slot and a tamper sensor (14 R546, R558). -/
def keySlotOk (n : Nat) : Bool := decide (n < 64)
def tamperOk (n : Nat) : Bool := decide (n < 7)
/-- A vector (16 R605) and a BAR (R597). -/
def vectorOk (n : Nat) : Bool := decide (n < 68)
def barOk (n : Nat) : Bool := decide (n = 0 ∨ n = 2 ∨ n = 4)
/-- An access of at least one byte and at most a page (16 R598), and an offset in a page. -/
def lenOk (n : Nat) : Bool := decide (1 ≤ n ∧ n ≤ 4096)
def offOk (n : Nat) : Bool := decide (n < 4096)
/-- Pages of a type (16 R613). -/
def pageCount (p : Page) : Nat := p.count
/-- A link generation and width (16 R591, R618). -/
def genOk (n : Nat) : Bool := decide (1 ≤ n ∧ n ≤ 6)
def widthOk (n : Nat) : Bool := [1, 2, 4, 8].contains n
/-- A fatal fault that an event raises (18 R660). -/
def fatalOk (n : Nat) : Bool := decide (n = 1 ∨ n = 3)
/-- Steps done of a key update (14 R556). -/
def progressOk (n : Nat) : Bool := decide (n ≤ 5)
/-- The boundary register, the reserved bits of a debug request, and the trial's cycles and positions (19 R674, R676, R689). -/
def cellsOk (n : Nat) : Bool := decide (n < 2 ^ 12)
def reservedOk (n : Nat) : Bool := decide (n < 2 ^ 6)
def isoCyclesOk (n : Nat) : Bool := decide (n < 2 ^ 11)
def mismatchOk (m : Option Nat) : Bool := m.all fun p => decide (p < 64)
/-- A temperature sensor (20 R714). -/
def sensorOk : TempSensor → Bool
  | .pier n => pierOk n
  | .hbm k => stackOk k
  | .plinth => true
  | .coolantIn => true
  | .coolantOut => true
/-- A link (03 R160, 18 R658). -/
def linkOk : Link → Bool
  | .course c d => courseOk c && decide (d < 4)
  | .pier p d => pierOk p && decide (d < 4)
  | .plinth p => pierOk p
  | .pierLane p d l => pierOk p && decide (d < 4 ∧ l < 4)
  | .plinthLane p l => pierOk p && decide (l < 2)
/-- An issue: a position of an Ashlar in the compute window (02 R73, 03 R114). -/
def issueOk (u : Issue) : Bool := ashlarOk u.ord && decide (u.pos < 64 ∧ 64 ≤ u.cycle ∧ u.cycle < 1920)

/-- A well-formed command. -/
def Instr.wf (i : Instr) : Bool :=
  match i with
  | .strokeCommit => true
  | .intake => true
  | .bedWriteBack word => wordOk word
  | .strokeSyncInEdge cycle => cycleOk cycle
  | .freeRun cycle => cycleOk cycle
  | .adoption => true
  | .ptpSync port _ _ => portOk port
  | .ptpSyncTimeout => true
  | .slNop u w => issueOk u && slotFits w
  | .slAdd u w => issueOk u && slotFits w
  | .slSub u w => issueOk u && slotFits w
  | .slMul u w => issueOk u && slotFits w
  | .slMulhi u w => issueOk u && slotFits w
  | .slMad u w => issueOk u && slotFits w
  | .slAnd u w => issueOk u && slotFits w
  | .slOr u w => issueOk u && slotFits w
  | .slXor u w => issueOk u && slotFits w
  | .slAndn u w => issueOk u && slotFits w
  | .slShl u w => issueOk u && slotFits w
  | .slShr u w => issueOk u && slotFits w
  | .slMin u w => issueOk u && slotFits w
  | .slMax u w => issueOk u && slotFits w
  | .slCmp u w => issueOk u && slotFits w
  | .slSel u w => issueOk u && slotFits w
  | .slMov u w => issueOk u && slotFits w
  | .slSpec u w => issueOk u && slotFits w
  | .slPlog u w => issueOk u && slotFits w
  | .slLoop u w => issueOk u && slotFits w
  | .slEnd u w => issueOk u && slotFits w
  | .slMaddq u w => issueOk u && slotFits w
  | .slMsubq u w => issueOk u && slotFits w
  | .slMmulq u w => issueOk u && slotFits w
  | .slMmadq u w => issueOk u && slotFits w
  | .slMmulm u w => issueOk u && slotFits w
  | .slMmadm u w => issueOk u && slotFits w
  | .slMtom u w => issueOk u && slotFits w
  | .slMredq u w => issueOk u && slotFits w
  | .slMwide u w => issueOk u && slotFits w
  | .slMlift u w => issueOk u && slotFits w
  | .slFadd u w => issueOk u && slotFits w
  | .slFsub u w => issueOk u && slotFits w
  | .slFmul u w => issueOk u && slotFits w
  | .slFma u w => issueOk u && slotFits w
  | .slFmin u w => issueOk u && slotFits w
  | .slFmax u w => issueOk u && slotFits w
  | .slFsgn u w => issueOk u && slotFits w
  | .slDot2 u w => issueOk u && slotFits w
  | .slDot4 u w => issueOk u && slotFits w
  | .slCvt u w => issueOk u && slotFits w
  | .slSbox8 u w => issueOk u && slotFits w
  | .slMixcol u w => issueOk u && slotFits w
  | .slRotl32 u w => issueOk u && slotFits w
  | .slClmul32 u w => issueOk u && slotFits w
  | .slLut16 u w => issueOk u && slotFits w
  | .slSend u w => issueOk u && slotFits w
  | .slRecv u w => issueOk u && slotFits w
  | .slLdc u w => issueOk u && slotFits w
  | .slStc u w => issueOk u && slotFits w
  | .slStc2 u w => issueOk u && slotFits w
  | .slLdw u w => issueOk u && slotFits w
  | .slStw u w => issueOk u && slotFits w
  | .slStw2 u w => issueOk u && slotFits w
  | .slAccclr u w => issueOk u && slotFits w
  | .slAccadd u w => issueOk u && slotFits w
  | .slAccmac u w => issueOk u && slotFits w
  | .slAccrd u w => issueOk u && slotFits w
  | .slAccwr u w => issueOk u && slotFits w
  | .slTpush u w => issueOk u && slotFits w
  | .mortarAdd unit cycle => mortarOk unit && cycleOk cycle
  | .slDeq u w => issueOk u && slotFits w
  | .slEnqData u w => issueOk u && slotFits w
  | .slEnqOpen u w => issueOk u && slotFits w
  | .slEnqClose u w => issueOk u && slotFits w
  | .slEnqSingle u w => issueOk u && slotFits w
  | .slEnqMarker u w => issueOk u && slotFits w
  | .slQmarkSet u w => issueOk u && slotFits w
  | .slQmarkRewind u w => issueOk u && slotFits w
  | .slQrel u w => issueOk u && slotFits w
  | .rigReplace _ => true
  | .linkDown link => linkOk link
  | .pierDmaStart pier => pierOk pier
  | .pierDmaComplete pier => pierOk pier
  | .drainReq ashlar region cycle => ashlarOk ashlar && regionOk region && cycleOk cycle
  | .drainCapture _ => true
  | .drainCopyDone _ => true
  | .markerMaxClr ashlar => ashlarOk ashlar
  | .msOpen cycle => cycleOk cycle
  | .msDrop block cycle => blockOk block && cycleOk cycle
  | .msAbort block cycle => blockOk block && cycleOk cycle
  | .msRetire block cycle => blockOk block && cycleOk cycle
  | .msBind block cycle => blockOk block && cycleOk cycle
  | .msUnbind cycle => cycleOk cycle
  | .msOutcomeCopy block cycle => blockOk block && cycleOk cycle
  | .roundSetupComplete block _ _ => blockOk block
  | .dCollect block => blockOk block
  | .dClose block => blockOk block
  | .crewCountExchange block => blockOk block
  | .dClosePlus1024 block => blockOk block
  | .dRecoverEnd block => blockOk block
  | .dRetire block => blockOk block
  | .musterDecision => true
  | .ingressMove qp => qpOk qp
  | .refusalReportSend qp => qpOk qp
  | .envelopeDecide => true
  | .envelopeOpen block => blockOk block
  | .cancellationPlan block => blockOk block
  | .secretReconstruct block _ slot => blockOk block && clientOk slot
  | .termIssue block => blockOk block
  | .noiseDraw block _ => blockOk block
  | .resultWrite block => blockOk block
  | .glweCombine block _ => blockOk block
  | .ciLadd course _ => courseOk course
  | .ciLsub course _ => courseOk course
  | .ciLneg course _ => courseOk course
  | .ciLscale course _ => courseOk course
  | .ciLaddc course _ => courseOk course
  | .ciLnot course _ => courseOk course
  | .ciRefresh course _ => courseOk course
  | .ciAnd course _ => courseOk course
  | .ciOr course _ => courseOk course
  | .ciXor course _ => courseOk course
  | .ciNand course _ => courseOk course
  | .ciNor course _ => courseOk course
  | .ciXnor course _ => courseOk course
  | .ciAndn course _ => courseOk course
  | .ciLut2 course _ => courseOk course
  | .ciMux course _ => courseOk course
  | .ciExtract course _ => courseOk course
  | .ciCopy course _ => courseOk course
  | .ciKeysetRegister course _ => courseOk course
  | .ciKeysetRelease course _ => courseOk course
  | .ciGlweExportA course _ => courseOk course
  | .ciStatus course _ => courseOk course
  | .vaultForward course _ => courseOk course
  | .vaultInverse course _ => courseOk course
  | .vaultCompletion course cycle => courseOk course && cycleOk cycle
  | .vaMtWrite course => courseOk course
  | .vaMtClear course => courseOk course
  | .vaMtRead course => courseOk course
  | .spConfigure page cycle => spillPageOk page && cycleOk cycle
  | .spFlush page cycle => spillPageOk page && cycleOk cycle
  | .spFree page cycle => spillPageOk page && cycleOk cycle
  | .spillSel page _ => spillPageOk page
  | .watermarkWrite page _ _ => spillPageOk page
  | .winDataWrite queue _ cycle _ => queueOk queue && cycleOk cycle
  | .winDataRead queue cycle len => queueOk queue && cycleOk cycle && lenOk len
  | .prodData queue cycle => queueOk queue && cycleOk cycle
  | .prodOpen queue cycle => queueOk queue && cycleOk cycle
  | .prodClose queue cycle => queueOk queue && cycleOk cycle
  | .prodSingle queue cycle => queueOk queue && cycleOk cycle
  | .prodMarker queue cycle => queueOk queue && cycleOk cycle
  | .winMark queue cycle => queueOk queue && cycleOk cycle
  | .winRewind queue cycle => queueOk queue && cycleOk cycle
  | .winRelease queue cycle => queueOk queue && cycleOk cycle
  | .winNoticeAck queue _ => queueOk queue
  | .ringFetch queue => queueOk queue
  | .doorbellRing queue cycle _ _ => queueOk queue && cycleOk cycle
  | .doorbellFetchDone queue cycle _ => queueOk queue && cycleOk cycle
  | .rxFrame port _ _ prio _ _ _ _ _ => portOk port && prioOk prio
  | .pfcFrameRx port _ _ => portOk port
  | .pfcXoffRefresh port prio _ => portOk port && prioOk prio
  | .pfcStorm port prio => portOk port && prioOk prio
  | .lldpTx port => portOk port
  | .lldpRx port _ _ _ _ _ => portOk port
  | .lldpTtlExpiry port => portOk port
  | .ethCfgWrite port _ => portOk port
  | .ptpEnWrite port _ => portOk port
  | .beaconTx => true
  | .beaconRx port _ _ => portOk port
  | .peerSeenTimeout _ => true
  | .haForm _ => true
  | .haDissolve _ => true
  | .haHello port cycle _ => portOk port && cycleOk cycle
  | .haAttest port cycle _ _ => portOk port && cycleOk cycle
  | .haConfirm port cycle _ => portOk port && cycleOk cycle
  | .haReport port cycle _ => portOk port && cycleOk cycle
  | .haRoster port cycle _ => portOk port && cycleOk cycle
  | .haRosterAck port cycle _ => portOk port && cycleOk cycle
  | .haRefuse port cycle _ => portOk port && cycleOk cycle
  | .haLeave port cycle _ => portOk port && cycleOk cycle
  | .memberLost _ => true
  | .formationTimeout => true
  | .haDecision pos _ => memberOk pos
  | .haDecisionAck pos _ => memberOk pos
  | .haDecisionResend block => blockOk block
  | .haDecisionApply block => blockOk block
  | .haDropSlots pos _ => memberOk pos
  | .haCounts pos _ => memberOk pos
  | .haStatuses pos _ => memberOk pos
  | .haDigest pos _ => memberOk pos
  | .haFaultReport pos _ => memberOk pos
  | .haShares pos _ => memberOk pos
  | .haTerms pos _ => memberOk pos
  | .haChunkSets pos _ => memberOk pos
  | .haRetractions pos _ => memberOk pos
  | .haDone pos _ => memberOk pos
  | .hyQpCreate => true
  | .hyQpModify => true
  | .hyQpDestroy => true
  | .hyQpQuery => true
  | .hyRegister => true
  | .hyDeregister => true
  | .hyPdAlloc => true
  | .hyPdFree => true
  | .hyOdpResolve => true
  | .hyOdpInvalidate => true
  | .hyGidSet => true
  | .hyOdpPop => true
  | .hyOdpTimeout qp => qpOk qp
  | .wrSend qp cycle _ _ => qpOk qp && cycleOk cycle
  | .wrSendImm qp cycle _ _ => qpOk qp && cycleOk cycle
  | .wrWrite qp cycle _ _ => qpOk qp && cycleOk cycle
  | .wrWriteImm qp cycle _ _ => qpOk qp && cycleOk cycle
  | .wrRead qp cycle _ _ => qpOk qp && cycleOk cycle
  | .wrFetchAdd qp cycle _ _ => qpOk qp && cycleOk cycle
  | .wrCmpSwap qp cycle _ _ => qpOk qp && cycleOk cycle
  | .wrAccWrite qp cycle _ _ => qpOk qp && cycleOk cycle
  | .wrAccWriteImm qp cycle _ _ => qpOk qp && cycleOk cycle
  | .rxSendPacket _ cycle => cycleOk cycle
  | .rxWritePacket _ cycle => cycleOk cycle
  | .rxReadRequest _ cycle => cycleOk cycle
  | .rxAtomic _ cycle => cycleOk cycle
  | .rxAccWritePacket _ cycle => cycleOk cycle
  | .rxSprayPacket _ cycle => cycleOk cycle
  | .rxUdSend _ cycle => cycleOk cycle
  | .rxAck _ => true
  | .rxNak _ _ => true
  | .rxReadResponse _ => true
  | .rxCnp _ => true
  | .sprayAck _ => true
  | .spraySnak _ => true
  | .spraySnakTimer qp _ cycle => qpOk qp && cycleOk cycle
  | .ackTimeout qp => qpOk qp
  | .rnrTimer qp => qpOk qp
  | .rateIncrease qp => qpOk qp
  | .kpTakeOwnership => true
  | .kpRotate => true
  | .kpSetAuthority => true
  | .kpSetDebugKey => true
  | .kpSeal => true
  | .kpUnseal => true
  | .kpReturn => true
  | .kpScrap => true
  | .kpGenerate => true
  | .kpImportSealed => true
  | .kpImportClear => true
  | .kpLoad slot => keySlotOk slot
  | .kpUnload slot => keySlotOk slot
  | .kpKeyRequest slot _ _ _ => keySlotOk slot
  | .tamperAlarm sensor _ => tamperOk sensor
  | .boClaim cycle => cycleOk cycle
  | .claimComplete _ => true
  | .boRelease cycle => cycleOk cycle
  | .scrubDone => true
  | .boAttest => true
  | .boRegionAlloc => true
  | .boRegionFree => true
  | .boRigLoad => true
  | .boRigUnload cycle => cycleOk cycle
  | .boFnLoad => true
  | .boFnUnload cycle => cycleOk cycle
  | .boHostCopy => true
  | .boFwStage => true
  | .fwProgramDone _ => true
  | .boFwActivate => true
  | .boFenceMapRead => true
  | .boExport slot _ _ _ _ _ => keySlotOk slot
  | .boImport slot _ _ _ => keySlotOk slot
  | .warmReset => true
  | .porReset => true
  | .bosunWatchdog => true
  | .inputInRange _ _ => true
  | .inputOutOfRange progress => progressOk progress
  | .memtestDone _ _ _ => true
  | .initDone => true
  | .fwLoadDone _ _ => true
  | .ready => true
  | .slotCheck => true
  | .perst _ => true
  | .retrain _ => true
  | .bar2BaseWrite _ => true
  | .bar2Access _ cycle len _ => cycleOk cycle && lenOk len
  | .tlpError _ => true
  | .msixSend vector => vectorOk vector
  | .evtLatchWrite page index off _ => decide (index < pageCount page) && offOk off
  | .softReset page index => decide (index < pageCount page)
  | .errClr page index => decide (index < pageCount page)
  | .pageLock page index => decide (index < pageCount page)
  | .tempMaxClr stack => stackOk stack
  | .queueMaxClr stack => stackOk stack
  | .registerWrite bar _ len cycle _ => barOk bar && lenOk len && cycleOk cycle
  | .patrolScrub word _ => wordOk word
  | .reefLatencyTol _ => true
  | .reefExitDone _ _ => true
  | .pwrBrakeAssert => true
  | .pwrBrakeRelease => true
  | .powerLimit _ _ _ _ _ => true
  | .thermalReading sensor _ _ => sensorOk sensor
  | .thermalTrip sensor _ => sensorOk sensor
  | .fatal code => fatalOk code
  | .smbusRead _ => true
  | .tapTrst _ => true
  | .tapExtest cells => cellsOk cells
  | .tapSamplePreload cells => cellsOk cells
  | .tapIdcode => true
  | .tapClamp => true
  | .tapHighz => true
  | .tapBypass => true
  | .ttDbgRead _ reserved => reservedOk reserved
  | .ttDbgWrite _ reserved cycle _ => reservedOk reserved && cycleOk cycle
  | .ttDbgNop _ reserved => reservedOk reserved
  | .ttSessionOpen => true
  | .ttSessionClose => true
  | .ttHalt _ cycle => cycleOk cycle
  | .ttResume => true
  | .ttStep => true
  | .ttUnlock => true
  | .ttIsoClr => true
  | .ttIsoStep cycles mismatch => isoCyclesOk cycles && mismatchOk mismatch
  | .ttMemRead => true
  | .ttMemWrite => true
  | .commandCompletion _ _ => true
  | .ciCompletion => true
  | .weightsIoCompletion => true
  | .syncModeWrite _ => true
  | .maxStateWrite _ => true
  | .ethLinkDown port => portOk port
  | .ethLinkUp port => portOk port
  | .pcieLinkUp gen width _ => genOk gen && widthOk width
  | .configWrite _ => true
  | .msixUnmask vector _ _ _ => vectorOk vector
  | .completionTimeout _ => true
  | .pfcPauseExpiry port prio => portOk port && prioOk prio
  | .fenceRecordWrite => true
  | .lifetimeTotalsWrite => true
  | .heartbeatAdvance => true
  | .registerRead bar _ len cycle => barOk bar && lenOk len && cycleOk cycle

end Sys2Proof
end

