-- ==== Sys2Proof/Tests/Slice0.lean ====
section
/-!
SUPPORT. The model's own tests: an ill-formed term for each check of WellFormed, a witness for the hypotheses of each obligation's
clauses, and single steps on small states. Expected results are worked out by hand from the rules named.
-/

namespace Sys2Proof.Tests

open Sys2Proof Sys2Proof.Machine

set_option Elab.async false

/-! ### Small states -/

/-- The next state of an outcome. -/
def nextOf (r : Res) : Option State :=
  match r with
  | .next t => some t
  | _ => none

/-- A rig of one Ashlar at place 0 that runs: one region of HBM with every access, an ingress and an egress queue, one modulus. -/
def rig1 : Rig :=
  { ashlars := [{ useMask := 3, freeMask := 0, seqFirst := 0, place := some 0 }], active := true
    regions := [{ tag := 1, access := 7, minLen := 0, base := 0x10000, len := 0x10000 }]
    queues := [{ role := 1, perStroke := 4, queue := 1 }, { role := 2, perStroke := 4, queue := 2 }]
    moduli := [{ q := 65537 }] }

/-- A data word of a queue. -/
def dataWord (v : W256) : QWord := { w := tagWord 1 v }

/-- A closed complete packet of one data word. -/
def packet1 : QItem :=
  { kind := .packet, src := .host, closed := true, complete := true
    words := [{ w := ctrlWord 2 1 32 3 0 0 0 0 }, dataWord 7] }

/-- The module in service, unclaimed, with that rig; queue 1 hands it a packet. -/
def up : State :=
  { State.reset with
    boot := { State.reset.boot with stage := .ready }
    fabric := { rigs := [(1, rig1)], areas := [{ base := 0x10000, len := 0x10000, tag := 1, owner := .tenant }] }
    spill := { queues := [
      (1, { owner := .tenant, ringLog := 8, items := [packet1], handed := 2, consumer := .rig, rigBinds := 1 }),
      (2, { owner := .tenant, ringLog := 8, rigBinds := 1 })] } }

/-- The same module, claimed. -/
def claimedUp : State := { up with ten := { up.ten with claimed := true } }

/-- The first core of the rig, at cycle 64. -/
def u0 : Issue := { rig := 1, ord := 0, pos := 0 }

/-- Every one of the slots issues on that core. -/
abbrev AllIssue (s : State) (l : List (Op × Slot)) : Prop := ∀ e ∈ l, Issues s u0 e.1 e.2 rig1


/-- A state with the registers of `up` arms no watch window. -/
theorem unwatched_of (s : State) (hr : s.regs = up.regs) : s.unwatched := by
  have h : ∀ w, w < 8 → (up.reg .telltale 0 (0x20C + 16 * w)).toNat.testBit 0 = false := by decide +kernel
  intro w hw
  have := h w hw
  unfold State.reg at this ⊢
  rwa [hr]
/-! ### Witnesses: slots (04) -/

/-- Registers 1, 2 and 3 from 4, 5 and 6 in every lane, in a format. -/
def abc (f : Nat) : Slot := { fmt := f, dst := 1, srca := 4, srcb := 5, lanes := 15 }

theorem witness_SlotIntegerResults : AllIssue up
    [(.add, abc 1), (.add, { abc 2 with sat := true }), (.add, abc 3), (.sub, { abc 1 with sat := true }), (.sub, abc 3), (.mul, abc 1),
     (.mulhi, abc 2), (.mad, { abc 1 with srcc := 6 }), (.shl, abc 1), (.shl, abc 3), (.shr, abc 2), (.shr, abc 3), (.min, abc 2),
     (.min, abc 3), (.max, abc 1), (.max, abc 2)] := by decide +kernel

theorem witness_SlotLogicResults : AllIssue up
    [(.and, abc 0), (.or, abc 0), (.xor, abc 0), (.andn, { abc 0 with bimm := true, srcb := 0, imm32 := 7 }), (.sel, { abc 0 with subop := 3 }),
     (.mov, { abc 0 with srca := 0 }), (.spec, { abc 0 with srca := 0, srcb := 0, subop := 4 })] := by decide +kernel

theorem witness_SlotControlResults : AllIssue up
    [(.nop, {}), (.cmp, { abc 2 with dst := 0, pdst := 1, subop := 5 }), (.plog, { abc 0 with dst := 0, srca := 1, srcb := 2, pdst := 3 }),
     (.loop, { subop := 1, srca := 4, addr16 := 511 }), (.loop, { imm32 := 65536, addr16 := 3 }), (.endSlot, {})] ∧
    loopCount (up.slotCore u0) { subop := 1, srca := 4, addr16 := 511 } = 0 ∧
    loopCount (up.slotCore u0) { imm32 := 65536, addr16 := 3 } ≠ 0 := by decide +kernel

theorem witness_SlotModularResults : AllIssue up
    [(.maddq, abc 4), (.msubq, abc 4), (.mmulq, abc 4), (.mmadq, { abc 4 with srcc := 6 }), (.mtom, { abc 4 with srcb := 0 }),
     (.mredq, { abc 4 with srcb := 0, modsel := 16 }), (.mwide, abc 4), (.mlift, { abc 4 with srcb := 0 }), (.mmulm, abc 4),
     (.mmadm, { abc 4 with srcc := 6 })] ∧
    rig1.q (abc 4) % 2 = 1 ∧ 1 < rig1.q (abc 4) := by decide +kernel

theorem witness_SlotFloatResults : AllIssue up
    [(.fadd, abc 5), (.fadd, { abc 6 with rnd := 3 }), (.fsub, abc 5), (.fmul, abc 6), (.fma, { abc 5 with srcc := 6 }), (.fmin, abc 5),
     (.fmax, abc 6), (.fsgn, { abc 5 with subop := 2 })] := by decide +kernel

theorem witness_SlotDotConvertResults : AllIssue up
    [(.dot2, { abc 6 with dst := 0, acc := 7 }), (.dot4, { abc 7 with dst := 0, subop := 1 }), (.dot4, { abc 9 with dst := 0 }),
     (.cvt, { abc 6 with srcb := 0, subop := 5 + 16 }), (.cvt, { abc 5 with srcb := 0, subop := 6 }),
     (.cvt, { abc 9 with srcb := 0, subop := 2 + 48, sat := true })] := by decide +kernel

theorem witness_SlotCryptoResults : AllIssue up
    [(.sbox8, { abc 0 with srcb := 0, subop := 1 }), (.mixcol, { abc 0 with srcb := 0 }), (.rotl32, abc 0),
     (.clmul32, { abc 0 with subop := 1 }), (.lut16, abc 0)] := by decide +kernel

/-- `up` with the receive buffers of core 0 and core 1 from W and E as given. -/
def withRx (own other : List (BitVec 128)) : State :=
  { up with cores := [(coreKey 1 0 0, { rx := [(1, own)], pc := 1 }), (coreKey 1 0 1, { rx := [(3, other)], pc := 1 })] }

theorem witness_SlotNeighbourResults :
    AllIssue up [(.send, { srca := 4, subop := 1 })] ∧ neighbour u0.pos 1 = some 1 ∧
    ((up.core (coreKey 1 0 1)).rx.get [] 3).length < 8 ∧ (up.slotCore u0).wholeOn { srca := 4, subop := 1 } = true ∧
    AllIssue (withRx [] (List.replicate 8 5)) [(.send, { srca := 4, subop := 1 })] ∧
    8 ≤ (((withRx [] (List.replicate 8 5)).core (coreKey 1 0 1)).rx.get [] 3).length ∧
    AllIssue (withRx [9] []) [(.recv, { dst := 3, lanes := 15, subop := 1 })] ∧
    ((withRx [9] []).slotCore u0).rx.get [] 1 = 9 :: [] ∧
    AllIssue up [(.recv, { dst := 3, lanes := 15, subop := 1 })] ∧ (up.slotCore u0).rx.get [] 1 = [] := by decide +kernel

/-- A load or store of unit 1 of region 0. -/
def unit1 : Slot := { imm32 := 1, lanes := 15 }

theorem witness_SlotLoadResults :
    AllIssue up [(.ldc, { dst := 1, lanes := 15, addr16 := 0x1FF }), (.ldw, { unit1 with dst := 1 })] ∧
    (up.ecc.get 0 (coreWordIdx (rig1.storeKey u0) 255) = 0 ∧ up.bedComm (coreWordIdx (rig1.storeKey u0) 255) = none) ∧
    rig1.regionAddr 0 accRead (16 * unitOffset (up.slotCore u0) { unit1 with dst := 1 } false) 16 = some 0x10010 ∧
    (up.ecc.get 0 (0x10010 / 32) = 0 ∧ up.bedComm (0x10010 / 32) = none) := by decide +kernel

theorem witness_SlotStoreResults :
    AllIssue up [(.stc, { srca := 4, lanes := 1, addr16 := 0x1FF }), (.stc2, { srca := 4, lanes := 15, addr16 := 0xFF }),
      (.stw, { unit1 with srca := 5 }), (.stw2, { unit1 with srca := 6, imm32 := 0xFFF })] ∧
    rig1.regionAddr 0 accWrite (16 * unitOffset (up.slotCore u0) { unit1 with srca := 5 } false) 16 = some 0x10010 ∧
    rig1.regionAddr 0 accWrite (32 * (unitOffset (up.slotCore u0) { unit1 with srca := 6, imm32 := 0xFFF } false / 2)) 32 =
      some 0x1FFE0 := by decide +kernel

theorem witness_SlotAccumulatorResults : AllIssue up
    [(.accclr, { acc := 7, lanes := 15 }), (.accadd, { abc 1 with dst := 0, srcb := 0 }), (.accadd, { abc 2 with dst := 0, srcb := 0 }),
     (.accadd, { abc 3 with dst := 0, srcb := 0 }), (.accadd, { abc 4 with dst := 0, srcb := 0 }),
     (.accadd, { abc 5 with dst := 0, srcb := 0 }), (.accmac, { abc 1 with dst := 0 }), (.accmac, { abc 2 with dst := 0 }),
     (.accmac, { abc 4 with dst := 0 }), (.accmac, { abc 5 with dst := 0 }), (.accrd, { dst := 1, lanes := 15, subop := 1 }),
     (.accwr, { srca := 4, lanes := 15, subop := 1 })] := by decide +kernel

theorem witness_SlotPushResults :
    AllIssue up [(.tpush, { unit1 with fmt := 1, srca := 4, subop := 1 }), (.tpush, { unit1 with fmt := 6, srca := 4 })] ∧
    rig1.regionAddr 0 accMortar (16 * unitOffset (up.slotCore u0) { unit1 with fmt := 1, srca := 4, subop := 1 } false) 16 =
      some 0x10010 ∧
    rig1.regionAddr 0 accMortar (32 * (unitOffset (up.slotCore u0) { unit1 with fmt := 6, srca := 4 } false / 2)) 32 = some 0x10000 ∧
    up.fabric.adds = [] := by decide +kernel

/-- Queue 2 holds an open packet of core 0. -/
def opened : State := up.setQueue 2 { up.queue 2 with
  items := [{ kind := .packet, src := .core (coreKey 1 0 0), words := [{ w := 0 }, dataWord 3] }] }

theorem witness_SlotEnqueueResults :
    AllIssue up ([1, 3, 4].map fun k => (.enq, { srca := 4, lanes := 15, qreg := 1, subop := k })) ∧
    AllIssue opened ([0, 2].map fun k => (.enq, { srca := 4, lanes := 15, qreg := 1, subop := k })) ∧
    rig1.queues[1]? = some { role := 2, perStroke := 4, queue := 2 } ∧
    (up.slotCore u0).wholeOn { srca := 4, lanes := 15, qreg := 1 } = true ∧
    (up.queue 2).openItem = none ∧ (up.queue 2).flushed = [] ∧ (up.queue 2).level + 2 ≤ (up.queue 2).cap ∧
    (opened.queue 2).items = [] ++ [{ kind := .packet, src := .core (slotKey u0), words := [{ w := 0 }, dataWord 3] }] ∧
    (opened.queue 2).flushed = [] ∧ (opened.queue 2).level + 1 ≤ (opened.queue 2).cap := by decide +kernel

theorem witness_SlotConsumeResults :
    AllIssue up [(.deq, { dst := 2, lanes := 15, pdst := 1, subop := 255 }), (.qmark, {}), (.qmark, { subop := 1 }), (.qrel, {})] ∧
    rig1.queue? 0 = some { role := 1, perStroke := 4, queue := 1 } ∧ (up.slotCore u0).wholeOn {} = true ∧
    ((up.queue 1).deq).isSome = true ∧ ((up.setQueue 1 { up.queue 1 with rd := 2 }).queue 1).deq = none := by decide +kernel

theorem witness_InvalidSlotStops :
    up.rig? u0.rig = some rig1 ∧ rig1.hasCore u0 = true ∧
    (∀ e ∈ [(Op.add, { abc 1 with lanes := 0 }), (.mmulm, { abc 4 with modsel := 17 }), (.ldw, { unit1 with qreg := 1 }),
      (.enq, { lanes := 15, qreg := 64, srca := 3 })], (slotOk e.1 e.2 && slotFits e.2 && rigSlotOk rig1 e.1 e.2) = false) ∧
    ({ lanes := 15, qreg := 1, srca := 3, subop := 1 } : Slot).subop ≠ 0 ∧ rig1.hasCore { u0 with pos := 2 } = false := by decide +kernel

/-- A mod-3 residue mismatch of the slot. -/
def u0bad : Issue := { u0 with resOk := false }

theorem witness_ResidueMismatchFences :
    up.rig? 1 = some rig1 ∧ rig1.hasCore u0bad = true ∧
    (slotOk .mul (abc 1) && slotFits (abc 1) && rigSlotOk rig1 .mul (abc 1)) = true ∧ rig1.coreLive u0bad (up.slotCore u0bad) = true ∧
    u0bad.resOk = false ∧ rig1.ashlars[0]? = some { useMask := 3, freeMask := 0, seqFirst := 0, place := some 0 } ∧
    ({ useMask := 3, freeMask := 0, seqFirst := 0, place := some 0 } : RigAshlar).physPos 0 < 64 := by decide +kernel

/-! ### Witnesses: strokes, beds and rigs (02, 03, 05, 18) -/

theorem witness_LaneWritesMask : (({} : Core).laneOn { lanes := 5 } 0 = true) ∧ ({} : Core).laneOn { lanes := 5 } 1 = false ∧
    ({} : Core).pairOn { lanes := 3 } 0 = true ∧ ({} : Core).lanePass { lanes := 8 } 3 = true := by decide +kernel

theorem witness_SlotIssueFrame : (up.tt.halted || !up.stroke.running) = false := by decide +kernel

/-- The rig alone, its two cores at END or not; MAX_STATE allows no reef state. -/
def calmUp (ended : Bool) : State :=
  { (State.reset.setReg .reef 0 0x44 0) with
    boot := { State.reset.boot with stage := .ready }
    fabric := { rigs := [(1, { rig1 with queues := [] })] }
    cores := if ended then [0, 1].map fun p => (coreKey 1 0 p, { ended := true, endCycle := 100 }) else [] }

theorem calmUp_calm (b : Bool) : Calm (calmUp b) := by
  cases b <;> constructor <;> decide +kernel

theorem witness_StrokeCommitResults :
    Calm (calmUp true) ∧ (calmUp true).overran = false ∧ Calm (calmUp false) ∧ (calmUp false).overran = true :=
  ⟨calmUp_calm true, by decide +kernel, calmUp_calm false, by decide +kernel⟩

/-- `up` with an add of 5 to the first 16 bytes of word 0x10000, whose bed entry holds values. -/
def bedded : State := { up with fabric := { up.fabric with
  adds := [{ addr := 0x10000, bytes := 16, fmt := .u32, data := 5, poison := false, src := .rig 1 }]
  bed := [(0x10000 / 32, { comm := some (9, false), prov := some (10, false) })] } }

theorem witness_IntakeBedMortarResults :
    (up.generating = true ∧ up.gated = false ∧ up.stroke.intakeAt ≠ some up.stroke.now ∧ up.rig? 1 = some rig1 ∧ rig1.running = true) ∧
    bedded.bedComm (0x10000 / 32) = some (9, false) ∧
    (bedded.mortarUnit 0x10000 < 5184 ∧ (0 : Nat) ≤ 1919 ∧ (bedded.fabric.bed.get {} (0x10000 / 32)).prov = some (10, false)) := by
  decide +kernel

/-- The synchronization mode, state and last edge as given. -/
def syncIn (mode : W32) (x : SyncState) (last : Option Nat) (n : Nat) : State :=
  let s := up.setReg .stroke 0 0x4C mode
  { s with stroke := { s.stroke with now := 10, sync := x, lastEdge := last, edgeRun := n } }

/-- A port whose link is up takes part in PTP, in PTP mode. -/
def ptpIn (good : Nat) (locked : Bool) : State :=
  let s := ((syncIn 2 (if locked then .lockedPtp else .freeRun) none 0).setReg .eth 7 0x58 1).setPort 7 { linkUp := true }
  { s with stroke := { s.stroke with ptpGood := good, ptpLocked := locked } }

/-- A module that is forming a crew adopts at the commit of the current stroke. -/
def adopting : State := up.setHail { up.hail with phase := .forming, adoptAt := some 0, adoptV := 4097 }

theorem witness_AlignmentResults :
    ((syncIn 0 .freeRun none 0).generating = true ∧ (syncIn 0 .freeRun none 0).stroke.lastEdge = none ∧
      (syncIn 0 .freeRun none 0).stroke.sync ≠ .lockedPin ∧ (syncIn 0 .freeRun none 0).pinMode = false) ∧
    ((syncIn 1 .acquiring (some (2048 * 9 + 48)) 15).generating = true ∧ (syncIn 1 .acquiring (some (2048 * 9 + 48)) 15).pinMode = true ∧
      (syncIn 1 .acquiring (some (2048 * 9 + 48)) 15).stroke.edgeRun = 15 ∧ 2048 * 9 + 48 + 2040 ≤ 2048 * 10 + 40 + 0 ∧
      2048 * 10 + 40 + 0 ≤ 2048 * 9 + 48 + 2056 ∧
      -40 ≤ (syncIn 1 .acquiring (some (2048 * 9 + 48)) 15).phaseOf 40 ∧ (syncIn 1 .acquiring (some (2048 * 9 + 48)) 15).phaseOf 40 ≤ 40) ∧
    2048 * (syncIn 1 .acquiring (some 20000) 3).stroke.now + 1363 + (syncIn 1 .acquiring (some 20000) 3).stroke.extra < 20000 + 1844 ∧
    ((syncIn 3 .lockedPin none 0).generating = true ∧ (syncIn 3 .lockedPin none 0).pinMode = true ∧
      (syncIn 3 .lockedPin none 0).stroke.edgeSince + 4 * 2048 ≤ 2048 * (syncIn 3 .lockedPin none 0).stroke.now + 2047 +
        (syncIn 3 .lockedPin none 0).stroke.extra ∧
      (syncIn 3 .lockedPin none 0).stroke.fallback = false ∧ (syncIn 3 .lockedPin none 0).stroke.sync ≠ .freeRun) ∧
    (((ptpIn 15 false).reg .eth 7 0x58).toNat.testBit 0 = true ∧ (ptpIn 15 false).ten.scrubbing = false ∧ (ptpIn 15 false).power.on = true ∧
      (ptpIn 15 false).reef.level ≠ 4 ∧ ((ptpIn 15 false).port 7).linkUp = true ∧ (ptpIn 15 false).stroke.ptpLocked = false ∧
      (ptpIn 15 false).stroke.ptpGood = 15 ∧ (ptpIn 15 false).stroke.epochSet = false ∧ (ptpIn 15 false).inCrew = false ∧
      (ptpIn 15 false).syncMode = 2) ∧
    ((ptpIn 0 true).stroke.ptpLocked = true ∧ (ptpIn 0 true).ten.scrubbing = false ∧ (ptpIn 0 true).stroke.sync = .lockedPtp) ∧
    (adopting.generating = true ∧ adopting.hail.phase = .forming ∧ adopting.hail.adoptAt = some adopting.stroke.now ∧
      adopting.roundsIdle = true) := by decide +kernel

/-- The rig faulted with a broken Ashlar. -/
def faulted (r : Rig) : State := { up with fabric := { up.fabric with rigs := [(1, r)] } }

/-- Its one Ashlar is broken. -/
def rigF (need : W64) : Rig :=
  { rig1 with faulted := true, ashlars := [{ useMask := need, freeMask := 0, seqFirst := 0, place := some 0, broken := true }] }

theorem witness_RigReplaceResults :
    ((faulted (rigF 3)).rig? 1 = some (rigF 3) ∧ (rigF 3).faulted = true ∧ (rigF 3).permanent = false ∧ (rigF 3).vaultBroken = false ∧
      ((rigF 3).ashlars[0]?).map (·.broken) = some true) ∧
    ((faulted (rigF 3)).replaceAll 1 (rigF 3) [0]).isSome = true := by decide +kernel

/-- No Ashlar serves again a block shape whose core is fenced. -/
def stuck : State :=
  let s := faulted { rigF 0xFFFFFFFFFFFFFFFF with shape := 3 }
  { s with fabric := { s.fabric with ashlars := [(0, { fence := 1 })] } }

theorem witness_RigReplaceResults_none :
    stuck.rig? 1 = some { rigF 0xFFFFFFFFFFFFFFFF with shape := 3 } ∧
    stuck.replaceAll 1 { rigF 0xFFFFFFFFFFFFFFFF with shape := 3 } [0] = none := by decide +kernel

/-- Lane 1 of Plinth link 5 is down. -/
def laneDown : State := { up with fabric := { up.fabric with downLinks := [2011] } }

theorem witness_LinkDownResults :
    (up.power.on = true ∧ (coursePresent 95).contains 0 = true ∧ up.courseLinkDown 95 0 = false) ∧
    (laneDown.power.on = true ∧ laneDown.fabric.downLinks.contains (2000 + 2 * 5 + (1 - 1)) = false) := by decide +kernel

/-- The rig with a drain, and accumulator 0 of core 1 of its shadows. -/
def draining (d : Drain) : State :=
  { up with
    fabric := { up.fabric with rigs := [(1, { rig1 with drain := d })] }
    cores := [(coreKey 1 0 1, { shadow := [(0, 77)], ended := true, endCycle := 9 }), ] }

/-- A region of exactly the length that one Ashlar's drain takes. -/
def rigD : Rig := { rig1 with regions := [{ tag := 1, access := 7, minLen := 0, base := 0x10000, len := 16384 }] }

theorem witness_DrainResults :
    (Takes up .ashlar ∧ Clocked up ∧ up.rigOn 0 = some (1, rig1, 0) ∧ rig1.drain.phase = .idle ∧ rig1.sealed = false ∧
      rig1.drainRange 0 (up.reg .ashlar 0 0x94).toNat = some 0x10000 ∧ rigD.drainRange 0 0 = some 0x10000) ∧
    ((calmUp true).overran = false ∧ ({ rig1 with drain := { phase := .pending } } : Rig).drainDue 0 = true) ∧
    ((draining { phase := .copying, copy := [(8, 77, false)] }).rig? 1 =
        some { rig1 with drain := { phase := .copying, copy := [(8, 77, false)] } } ∧
      ({ rig1 with drain := { phase := .copying, copy := [(8, 77, false)] } } : Rig).drainRange 0 0 = some 0x10000 ∧
      0x10000 % 32 = 0) := by decide +kernel

theorem witness_DrainResults_capture :
    let s : State := { calmUp true with fabric := { rigs := [(1, { rig1 with queues := [], drain := { phase := .pending } })] } }
    s.rig? 1 = some { rig1 with queues := [], drain := { phase := .pending } } ∧ s.overran = false ∧
      ({ rig1 with queues := [], drain := { phase := .pending } } : Rig).drainDue s.stroke.now = true := by decide +kernel

/-- A DMA request word: 64 bytes from the start of region 0 to its offset 0x8000, done queue 0. -/
def dmaReqWord : W256 := BitVec.ofNat 256 (0x8000 * 2 ^ 52 + 64 * 2 ^ 92)

/-- `rig1` with a request queue, which is queue 3. -/
def rigM : Rig := { rig1 with queues := rig1.queues ++ [{ role := 3, perStroke := 4, queue := 3 }] }

/-- The request waits, or the engine of Pier 0 has started it. -/
def dmaUp (started : Bool) : State :=
  let s : State := { up with fabric := { up.fabric with
    rigs := [(1, rigM)]
    dma := if started then [(0, [{ rig := 1, word := dmaReqWord, issued := 0, started := true }])] else [] } }
  s.setQueue 3 { owner := .tenant, ringLog := 8, rigBinds := 1, consumer := .unit, items := [{ packet1 with
    words := [{ w := ctrlWord 2 1 32 3 0 0 0 0 }, dataWord dmaReqWord] }] }

theorem witness_PierDmaResults :
    ((dmaUp false).enginesStart = true ∧
      ((dmaUp false).fabric.rigs.findSome? fun e => if e.2.onPier 0 then ((dmaUp false).dmaWaiting e.2).map fun x => (e.1, x) else none) =
        some (1, tagWord 1 dmaReqWord, 3, 2)) ∧
    ((dmaUp true).fabric.dma.get [] 0 = [{ rig := 1, word := dmaReqWord, issued := 0, started := true }] ∧
      (dmaUp true).rig? 1 = some rigM ∧ rigM.dmaRange (dmaWord dmaReqWord) = some (0x10000, 0x18000) ∧
      (dmaWord dmaReqWord).len = 64 ∧ 0x10000 + 64 ≤ 0x18000 ∧
      (∀ k, k < 2 → (dmaUp true).ecc.get 0 (0x10000 / 32 + k) = 0 ∧ (dmaUp true).bedComm (0x10000 / 32 + k) = none)) := by
  decide +kernel

/-! ### Witnesses: the state, rounds and Muster (01, 06, 07, 08) -/

theorem witness_StepRunsFront : ({ up with pending := [.intake] } : State).pending = .intake :: [] ∧ up.pending = [] := by decide +kernel

theorem witness_StepKeepsCanonical : Memory.wf up.mem = true ∧ NMap.wf (0 : W32) up.ecc = true ∧
    ((nextOf (step { up with pending := [.tapIdcode] })).any fun t => t.out = [.debug 0 0x16601A6D]) = true := by
  decide +kernel

theorem witness_SlotWordRoundTrip : (opRow .tpush).isSome = true ∧
    slotFits {
      fmt := 15, psel := 3, pinv := true, bimm := true, dst := 31, srca := 31, srcb := 31, srcc := 31, acc := 7, lanes := 15
      modsel := 31, rnd := 3, sat := true, pdst := 3, subop := 255, imm32 := 0xFFFFFFFF, addr16 := 65535, qreg := 63, idx := 3
      stride := 255 } = true := by decide +kernel

theorem witness_MusterLanding : Takes up .muster ∧ Clocked up ∧ up.muster.busy = false := by decide +kernel

/-- `n` bytes, zero but for fields (offset, length, value), little-endian. -/
def bytesAt (n : Nat) (l : List (Nat × Nat × Nat)) : List Byte :=
  (List.range n).map fun i => match l.find? fun e => decide (e.1 ≤ i ∧ i < e.1 + e.2.1) with
    | some e => BitVec.ofNat 8 (e.2.2 / 256 ^ (i - e.1))
    | none => 0

/-- A descriptor: round 5, 32 slots, all enrolled, one chunk of 32-bit words, THRESHOLD 2 of degree 2, D_COLLECT 10, D_CLOSE 20,
D_RECOVER_END 2,000, D_RETIRE 3,000; with `more` fields in place of these. -/
def desc5 (more : List (Nat × Nat × Nat)) : List Byte :=
  bytesAt 260 (more ++ [(0, 4, 0x4D365244), (4, 2, 1), (6, 2, 256), (8, 8, 5), (0x18, 8, 260), (0x20, 4, 32), (0x24, 4, 32), (0x28, 4, 1),
    (0x30, 1, 1), (0x34, 2, 2), (0x36, 2, 2), (0x38, 4, 32), (0x3C, 1, 2), (0x3F, 1, 1), (0x40, 8, 10), (0x48, 8, 20), (0x50, 8, 2000),
    (0x58, 8, 3000), (0x68, 8, 256), (256, 4, 0xFFFFFFFF)])

/-- The round of that descriptor in a state. -/
def round5 (x : RState) (more : List (Nat × Nat × Nat) := []) : Round := { state := x, desc := desc5 more, id := 5, accBase := 0x200000, resBase := 0x400000 }

/-- The module in stroke `now` with the round in block 0. -/
def roundUp (now : Nat) (r : Round) : State :=
  { up with rounds := { blocks := [(0, r)] }, stroke := { up.stroke with now := now } }

/-- The hypotheses that every deadline shares. -/
abbrev Alone (s : State) : Prop :=
  s.muster.busy = false ∧ (s.round 0).crew = false ∧ (s.round 0).dropPend = [] ∧ (s.round 0).decisions = [] ∧ (s.round 0).reasons = [] ∧
  (s.round 0).abortNow = false ∧ s.roundRigFault (s.round 0) = false

theorem witness_RoundDeadlines :
    (Alone (roundUp 10 { round5 .open with setup := true }) ∧ (roundUp 10 { round5 .open with setup := true }).stroke.now = (round5 .open).d.dCollect) ∧
    (Alone (roundUp 10 (round5 .open)) ∧ ((roundUp 10 (round5 .open)).round 0).state = .open ∧ ((roundUp 10 (round5 .open)).round 0).setup = false) ∧
    (Alone (roundUp 20 (round5 .collect)) ∧ (roundUp 20 (round5 .collect)).stroke.now = (round5 .collect).d.dClose) ∧
    (Alone (roundUp 1044 { round5 .close with counts := [(0, 32)] }) ∧
      (roundUp 1044 { round5 .close with counts := [(0, 32)] }).stroke.now = (round5 .close).d.dClose + 1024 ∧
      (roundUp 1044 { round5 .close with counts := [(0, 32)] }).roundPoisoned { round5 .close with counts := [(0, 32)] } = false ∧
      (round5 .close).d.floor ≤ ({ round5 .close with counts := [(0, 32)] } : Round).minCount) ∧
    (Alone (roundUp 2000 (round5 .recover)) ∧ (roundUp 2000 (round5 .recover)).stroke.now = (round5 .recover).d.dRecover ∧
      (round5 .recover).resultWritten = false) ∧
    (Alone (roundUp 3000 (round5 .faulted)) ∧ (roundUp 3000 (round5 .faulted)).stroke.now = (round5 .faulted).d.dRetire) := by decide +kernel

theorem witness_RoundSetupAndDecisions :
    (((roundUp 2 { round5 .open with openAt := 1 }).round 0).descriptorOk = true ∧
      ((roundUp 2 { round5 .open with openAt := 1 }).round 0).openAt < 2 ∧
      ((roundUp 2 { round5 .open with openAt := 1 }).setupRound 0 [100] []).isSome = true) ∧
    (((roundUp 532 { round5 .close with crew := true, size := 2 }).round 0).crew = true ∧ (round5 .close).d.dClose + 511 < 532) ∧
    ((roundUp 15 { round5 .collect with decisions := [{ kind := 3, reason := 4, count := 0, named := 15 }] }).muster.busy = false ∧
      (round5 .collect).state.working = true ∧ (round5 .collect).abortNow = false) := by decide +kernel

/-- A byte stream as a landed item of stroke `n`. -/
def landed (n : Nat) (l : List Byte) : QItem :=
  { kind := .packet, src := .halyard 0x10000, closed := true, complete := true, stroke := n, bytes := l.length
    words := ⟨0, false⟩ :: (streamWords l).map fun w => ⟨tagWord 1 w, false⟩ }

/-- A contribution of slot 3 to chunk 0 of the round, FINAL, of payload words 0. -/
def contribution : List Byte :=
  bytesAt 4096 [(0, 8, 5), (8, 4, 3), (0x10, 1, 1), (0x11, 1, 1), (0x12, 2, 1), (0x14, 2, 1008), (0x18, 4, 0xABCD)]

/-- It has landed on queue 9 of queue pair 0, whose round is in COLLECT. -/
def collecting (role : BindRole) (r : Round) (it : QItem) : State :=
  let s := roundUp 13 r
  ({ s with rounds := { s.rounds with binds := [(0, { round := some 0, role := role, landing := 9 })] } } : State).setQueue 9
    { owner := .sealed, ringLog := 14, consumer := .unit, items := [it] }

/-- The round in COLLECT with slot 3 enrolled, or not. -/
def round5c (on : Bool) : Round :=
  { round5 .collect with roster := if on then [(3, { estate := .enrolled })] else [], ingress := [10] }

theorem witness_RoundAdmission :
    (collecting .contribution (round5c true) (landed 12 contribution)).undecided = [(12 * 2048, 0, 9, 0, some 0)] ∧
    ((collecting .contribution (round5c true) (landed 12 contribution)).queue 9).items[0]? = some (landed 12 contribution) ∧
    (collecting .contribution (round5c true) (landed 12 contribution)).judge (some 0) (landed 12 contribution).stream
        (landed 12 contribution).hasBad 12 = 0 := by decide +kernel

theorem witness_RoundAdmission_refused :
    (collecting .contribution (round5c false) (landed 12 contribution)).undecided = [(12 * 2048, 0, 9, 0, some 0)] ∧
    (collecting .contribution (round5c false) (landed 12 contribution)).judge (some 0) (landed 12 contribution).stream
        (landed 12 contribution).hasBad 12 = 3 := by decide +kernel

/-- The contribution decided and admitted. -/
def admitted : State :=
  (collecting .contribution (round5c true) { landed 12 contribution with judged := true }).setQueue 10
    { owner := .sealed, ringLog := 14, consumer := .rig }

/-- A connected queue pair 0 that owes a report. -/
def reporting : State :=
  let s := claimedUp.setHalyard { up.halyard with qps := [(0, { live := true, epoch := 1, state := .rts })] }
  { s with rounds := { s.rounds with reports := [(0, [{ round := 5, slot := 3, chunk := 0, tag := 9, reason := 3, stroke := 12 }])] } }

theorem witness_RoundMovesAndReports :
    (admitted.bind? 0 = some { round := some 0, role := .contribution, landing := 9 } ∧ (admitted.queue 9).items.length = 1 ∧
      (admitted.queue 9).rd = 0 ∧ (admitted.round 0).state.working = true ∧
      (admitted.round 0).ingress[leAt (landed 12 contribution).stream 8 4 % max 1 (admitted.round 0).ingress.length]? = some 10 ∧
      (admitted.queue 10).level + (landed 12 contribution).words.length ≤ (admitted.queue 10).cap) ∧
    ((reporting.rounds.reports.get [] 0).length = 1 ∧ (reporting.qp 0).live = true ∧ (reporting.qp 0).state = .rts ∧
      (reporting.qp 0).ud = false ∧ (reporting.qp 0).sent = [] ∧ reporting.quiet = false ∧ reporting.outstanding < 16384) := by decide +kernel

/-- The round in RECOVER, whose key is 7 and whose slot 3 has contributed. -/
def round5r : Round :=
  { round5 .recover with
    roster := [(3, { estate := .enrolled, outcome := 1, admitted := 1, next := 1 })], envQueue := some 11, keyPriv := some (toLe 32 7)
    rpk := toLe 32 0x743bcb585f9990edc2cfc4af84f6ff300729bb5facda28154362cd47a37de52f }

/-- A share envelope of slot 3 for its neighbour 4, sealed to the round's key with the ephemeral key 9. -/
def envelope : List Byte :=
  bytesAt 0x20 [(0, 4, 0x4D365345), (4, 2, 1), (6, 2, 1), (8, 8, 5), (0x10, 4, 3), (0x14, 4, 77)] ++
    toLe 32 0x7930ae1103e8603c784b85b67bb897789f27b72b3e0b35a1bcd727627a8e2c42 ++
    toLe 72 0xe805417994559d5413ea21ac2db6ffd7e3cab2325aa032abc64121fc6c6340642d0adde692c0014fc4a87399945a516fad907ea8cee68dbcc57780b29e0d1b2a1dffbe25a2991856

/-- The envelope on its landing queue in RECOVER, or on the feed queue. -/
def enveloped (l : List Byte) : State :=
  let s := (collecting .envelope round5r (landed 1060 l)).setQueue 11 { owner := .sealed, ringLog := 22, consumer := .unit }
  { s with stroke := { s.stroke with now := 1061 } }

theorem witness_RoundEnvelopes :
    ((enveloped []).rounds.binds = [(0, { round := some 0, role := .envelope, landing := 9 })] ∧ (enveloped []).rounds.ended = [] ∧
      ((enveloped []).queue 9).items.length = 1 ∧
      (enveloped []).envChecks (some 0) (landed 1060 []).stream 1060 = 2) ∧
    ((enveloped envelope).envChecks (some 0) (landed 1060 envelope).stream 1060 = 0 ∧ (round5r).state.working = true ∧
      ((enveloped envelope).queue 11).level + (landed 1060 envelope).words.length ≤ ((enveloped envelope).queue 11).cap) ∧
    ((enveloped envelope).openEnv 0 (landed 1060 envelope).stream false).1 = 0 := by decide +kernel

/-- Shares of the self seed of slot 3 from slots 2 and 4. -/
def shares3 : List Share := [{ owner := 3, holder := 2, self := 5, pair := 6 }, { owner := 3, holder := 4, self := 8, pair := 9 }]

/-- The round in RECOVER with its plan. -/
def planned : Round :=
  { round5r with planBuilt := true, needed := [{ root := false, slot := 3 }], shares := shares3 }

/-- A ciphertext round of one chunk: ring degree 256, K 0 masks, THRESHOLD 1. -/
def glwe : State :=
  let r : Round := { round5 .recover [(0x30, 1, 4), (0x3C, 1, 0), (0x36, 2, 1), (0x31, 1, 16), (0x80, 8, 6)] with
    partials := [{ member := 0, ct := 0, coeffs := List.replicate 256 1, accepted := 1050 }] }
  let s := roundUp 1060 r
  let k : KeySet := ⟨0, 0x10, 0, 99, 0, 0, 8, 4, 16⟩
  { s with cipher := { s.cipher with keySets := [(6, k)] } }

theorem witness_RoundRecovery :
    ((roundUp 1045 round5r).round 0).planBuilt = false ∧ (round5r).d.dClose + 1024 < 1045 ∧ (round5r).d.glwe = false ∧
    (planned.needed.contains { root := false, slot := 3 } = true ∧ planned.shares.length = planned.d.threshold) ∧
    (((roundUp 1060 { planned with maskQueues := [12], toIssue := [(1050, [⟨5, 0, 0, 3, 3, false, false⟩])] }).setQueue 12
      { owner := .sealed, ringLog := 14, consumer := .rig }).issueTerm 0 [⟨5, 0, 0, 3, 3, false, false⟩]).isSome = true ∧
    ((round5 .collect [(0x3D, 1, 1), (0x60, 8, 0x1000000)]).d.noise = true ∧ (round5 .collect [(0x3D, 1, 1)]).owns 0 = true) ∧
    (({ planned with cancelDone := true } : Round).noiseOk = true ∧
      (roundUp 1060 { planned with cancelDone := true }).unconsumed 0 = false ∧ planned.owned = [0] ∧ planned.resAt 0 % 32 = 0 ∧
      ((roundUp 1060 { planned with cancelDone := true }).sumWords { planned with cancelDone := true } 0).1.length = planned.d.words ∧
      (roundUp 1060 planned).fabric.bed = []) ∧
    ((glwe.round 0).d.glwe = true ∧ (glwe.ownedCts (glwe.round 0)).contains 0 = true ∧
      ((glwe.round 0).partials.filter fun p => decide (p.ct = 0)).length = (glwe.round 0).d.threshold ∧
      glwe.workPaused (glwe.round 0) = false) := by decide +kernel

/-! ### Witnesses: the crew channel (07, 11) -/

/-- A crew of two: this module is at `pos`, the other at the other position, connected by keys of one byte repeated. -/
def crewUp (pos : Nat) (now : Nat) (r : Round) : State :=
  let s := roundUp now { r with crew := true, size := 2, pos := pos }
  s.setHail { s.hail with
    phase := .crew, members := [70, 71], pos := pos, keyEpoch := 3
    peers := [(70 + (1 - pos), { connected := true, keyTx := List.replicate 16 1, keyRx := List.replicate 16 2 })] }

/-- A message of the other member. -/
def carried (pos kind : Nat) (body : List Byte) : List Byte :=
  let h := carryHeader kind 3 5 (1 - pos) pos body.length 1
  h ++ gcmSeal (List.replicate 16 2) (carryNonce (1 - pos) pos 1) h body

theorem carried_of (s : State) (pos kind round b : Nat) (msg body : List Byte)
    (h : pos < s.net.hail.members.length ∧ pos ≠ s.net.hail.pos)
    (o : (s.carryOpen pos msg).1 = some (kind, round, body)) (k : (s.carryOpen pos msg).2.blockOf round = some b) :
    Carried s (s.carryOpen pos msg).2 pos kind b msg (chunksOf (body.length + 1) ((carryRecord kind).getD 1) body) :=
  ⟨h.1, h.2, round, body, Prod.ext o rfl, k, rfl⟩

/-- A message that keeps the form of 07 R306 and opens under the pair's key is taken. -/
theorem carry_opens (s : State) (pos n : Nat) (msg body : List Byte) (hk : carryRecord (leAt msg 4 1) = some n)
    (hb : (decide (leAt msg 0 4 ≠ 0x4D364B43 ∨ leAt msg 5 1 ≠ 1 ∨ leAt msg 0x10 1 ≠ pos ∨ leAt msg 0x11 1 ≠ s.net.hail.pos ∨
      leAt msg 0x12 2 ≠ 0 ∨ msg.length ≠ 0x30 + leAt msg 0x14 4 ∨ leAt msg 6 2 ≠ s.net.hail.keyEpoch ∨
      leAt msg 0x18 8 ≤ (s.peer (s.memberId pos)).seqRx) || decide (leAt msg 0x14 4 % n ≠ 0) || decide (leAt msg 0x14 4 > 65472)) = false)
    (ho : gcmOpen (s.peer (s.memberId pos)).keyRx (carryNonce pos s.net.hail.pos (leAt msg 0x18 8)) (msg.take 0x20) (msg.drop 0x20) =
      some body) :
    (s.carryOpen pos msg).1 = some (leAt msg 4 1, leAt msg 8 8, body) ∧ (s.carryOpen pos msg).2.rounds = s.rounds := by
  simp only [State.carryOpen, hk, hb, ho]
  exact ⟨rfl, rfl⟩

/-- States of a crew, the position of this module, and the KIND and body of a message of the other member. -/
def crewCases : List (State × Nat × Nat × List Byte) :=
  [(crewUp 1 12 (round5 .collect), 1, 0x10, bytesAt 16 [(0, 1, 3), (1, 1, 4), (8, 8, 12)]),
    (crewUp 0 12 { round5 .collect with decisions := [{ kind := 3, reason := 4, count := 0, named := 76 }] }, 0, 0x11,
      bytesAt 8 [(0, 8, 76)]),
    (crewUp 1 12 { round5 .collect with decisions := [{ kind := 1, reason := 0, count := 1, named := 76 }] }, 1, 0x16,
      bytesAt 16 [(0, 8, 76), (8, 4, 3)]),
    (crewUp 0 600 (round5 .close), 0, 0x12, bytesAt 8 [(4, 4, 2)]),
    (crewUp 1 600 (round5 .close), 1, 0x13, bytesAt 8 [(0, 4, 4), (4, 1, 1)]),
    (crewUp 0 5 (round5 .open), 0, 0x14, sha256 (desc5 [])),
    (crewUp 0 5 (round5 .open), 0, 0x15, bytesAt 8 [(0, 1, 2)]),
    (crewUp 0 1100 (round5 .recover), 0, 1, bytesAt 40 [(0, 4, 4), (4, 4, 3), (8, 16, 7), (0x18, 16, 8)]),
    (crewUp 0 1100 { round5 .recover with maskQueues := [12] }, 0, 2, bytesAt 32 []),
    (crewUp 0 1100 (round5 .recover), 0, 3, bytesAt 16 [(0, 4, 4), (8, 8, 3)]),
    (crewUp 0 1100 (round5 .recover), 0, 4, bytesAt 8 [(0, 4, 4)]),
    (crewUp 0 1100 (round5 .recover), 0, 5, bytesAt 8 [])]

theorem crewCases_form : ∀ e ∈ crewCases, (carryRecord (leAt (carried e.2.1 e.2.2.1 e.2.2.2) 4 1)).any (fun n =>
      decide (leAt (carried e.2.1 e.2.2.1 e.2.2.2) 0x14 4 % n = 0) && decide (leAt (carried e.2.1 e.2.2.1 e.2.2.2) 0 4 = 0x4D364B43 ∧
        leAt (carried e.2.1 e.2.2.1 e.2.2.2) 5 1 = 1 ∧ leAt (carried e.2.1 e.2.2.1 e.2.2.2) 0x10 1 = 1 - e.2.1 ∧
        leAt (carried e.2.1 e.2.2.1 e.2.2.2) 0x11 1 = e.1.net.hail.pos ∧ leAt (carried e.2.1 e.2.2.1 e.2.2.2) 0x12 2 = 0 ∧
        (carried e.2.1 e.2.2.1 e.2.2.2).length = 0x30 + leAt (carried e.2.1 e.2.2.1 e.2.2.2) 0x14 4 ∧
        leAt (carried e.2.1 e.2.2.1 e.2.2.2) 6 2 = e.1.net.hail.keyEpoch ∧ leAt (carried e.2.1 e.2.2.1 e.2.2.2) 0x14 4 ≤ 65472)) = true ∧
    (e.1.peer (e.1.memberId (1 - e.2.1))).keyRx = List.replicate 16 2 ∧ (e.1.peer (e.1.memberId (1 - e.2.1))).seqRx = 0 ∧
    leAt (carried e.2.1 e.2.2.1 e.2.2.2) 0x18 8 = 1 ∧ e.1.net.hail.pos = e.2.1 ∧
    (carryHeader e.2.2.1 3 5 (1 - e.2.1) e.2.1 e.2.2.2.length 1).length = 0x20 ∧ leAt (carried e.2.1 e.2.2.1 e.2.2.2) 4 1 = e.2.2.1 ∧
    leAt (carried e.2.1 e.2.2.1 e.2.2.2) 8 8 = 5 ∧ e.1.blockOf 5 = some 0 ∧ 1 - e.2.1 < e.1.net.hail.members.length ∧ 1 - e.2.1 ≠ e.2.1 := by
  decide +kernel

theorem keys2 : (∀ k ∈ aesKeys (List.replicate 16 2), k.length = 16) ∧ 2 ≤ (aesKeys (List.replicate 16 2)).length := by decide +kernel

theorem witness_CrewMessages : ∀ e ∈ crewCases, ∃ u, Carried e.1 u (1 - e.2.1) e.2.2.1 0 (carried e.2.1 e.2.2.1 e.2.2.2)
    (chunksOf (e.2.2.2.length + 1) ((carryRecord e.2.2.1).getD 1) e.2.2.2) ∧ u.rounds = e.1.rounds := by
  intro e he
  obtain ⟨h1, h2, h3, h4, h5, h6, h7, h8, h9, h10, h11⟩ := crewCases_form e he
  obtain ⟨n, hn⟩ : ∃ n, carryRecord (leAt (carried e.2.1 e.2.2.1 e.2.2.2) 4 1) = some n := by
    cases hc : carryRecord (leAt (carried e.2.1 e.2.2.1 e.2.2.2) 4 1) with
    | none => rw [hc] at h1; simp at h1
    | some n => exact ⟨n, rfl⟩
  have h := h1
  rw [hn, Option.any_some] at h
  simp only [Bool.and_eq_true, decide_eq_true_eq] at h
  obtain ⟨f0, f1, f2, f3, f4, f5, f6, f7, f8⟩ := h
  have ho := carry_opens e.1 (1 - e.2.1) n (carried e.2.1 e.2.2.1 e.2.2.2) e.2.2.2 hn
    (by simp only [f0, f1, f2, f3, f4, f5, f6, f7, h3, h4]; simp; omega)
    (by
      rw [h2, h4, h5, carried, List.take_left' h6, List.drop_left' h6]
      exact gcmOpen_gcmSeal _ _ _ _ keys2.1 keys2.2)
  rw [h7, h8] at ho
  refine ⟨_, carried_of e.1 (1 - e.2.1) e.2.2.1 5 0 _ e.2.2.2 ⟨h10, h5 ▸ h11⟩ ho.1 ?_, ho.2⟩
  rw [State.blockOf, ho.2]
  exact h9

theorem witness_CrewMessages_more :
    ({ kind := 1, reason := 0, count := 1, named := 76 } : Decision).whole = false ∧
    ((crewUp 0 600 (round5 .close)).round 0).owns 0 = true ∧ (crewUp 0 5 (round5 .open)).isLeader = true ∧
    (((crewUp 0 1100 { round5 .recover with maskQueues := [12] }).setQueue 12 { owner := .sealed, ringLog := 14 }).enqueueTerm 0
      (termOf 0)).isSome = true := by decide +kernel

theorem witness_CrewMessages_resend :
    let s := crewUp 0 12 { round5 .collect with decisions := [{ kind := 3, reason := 4, count := 0, named := 76 }] }
    s.isLeader = true ∧ s.otherPositions = [1] ∧ (s.peer (s.memberId 1)).connected = true := by decide +kernel

/-! ### Witnesses: CIPHER and the Vaults (08, 09) -/

/-- A rig of CIPHER on Course 0, which holds its Vault. -/
def rigC : Rig := { rig1 with func := 1, vaultUse := true, sealed := true, queues := [] }

/-- An LWE object of key set 9 and parameter set 1: 631 words of 0. -/
def lweObj (w : Nat) : Obj :=
  { h := { ksid := 9, param := 1, typ := 1, flags := 0, w := w, level := 1, len := 2524, zero := true }
    body := List.replicate 631 0, poison := false }

/-- Cells of memory, of (address, value). -/
def cellsOf (l : List (Nat × Byte)) : List Host.Cell := l.foldl (fun m e => memPut m e.1 e.2) []

/-- The header of that object at an address; every byte of the body reads as 0. -/
def objCells (a w : Nat) : List (Nat × Byte) := (List.range 32).zip (lweObj w).h.bytes |>.map fun e => (a + e.1, e.2)

/-- Two data words of a request: OP, ATTR, C, LUT and COOKIE, KSID, the inputs and OUT. -/
def cipherWords (op attr c lut ksid in0 in1 in2 out : Nat) : List QWord :=
  [⟨0, false⟩, dataWord (BitVec.ofNat 256 (op + 2 ^ 8 * attr + 2 ^ 24 * c + 2 ^ 56 * lut + 2 ^ 120 * 77 + 2 ^ 184 * ksid)),
    dataWord (BitVec.ofNat 256 (in0 + 2 ^ 48 * in1 + 2 ^ 96 * in2 + 2 ^ 144 * out))]

/-- CIPHER with a request at the head of its queue 4, objects of width `w` at 0x10000, 0x11000 and 0x12000, and key set 9. -/
def ciphered (w : Nat) (words : List QWord) : State :=
  let k : KeySet := ⟨0x18000, 1, 3, 0, 0, 0, 0, 0, 0⟩
  let s : State := { claimedUp with
    stroke := { claimedUp.stroke with now := 1 }
    fabric := { claimedUp.fabric with rigs := [(1, rigC)] }
    mem := cellsOf (objCells 0x10000 w ++ objCells 0x11000 w ++ objCells 0x12000 w)
    cipher := { loaded := true, courses := 1, reqQueue := 4, doneQueue := 5, keySets := [(9, k)] } }
  s.setQueue 4 { owner := .tenant, ringLog := 8, consumer := .unit, items := [{ packet1 with words := words }] }

/-- The words of an LWE request of an operation. -/
def lweWords (op c lut : Nat) (n : Nat) : List QWord :=
  cipherWords op 0 c lut 0 0x10000 (if n ≥ 2 then 0x11000 else 0) (if n = 3 then 0x12000 else 0) 0x14000

/-- The request that those words spell. -/
def lweReq (op : Nat) (c : Int) (lut : Nat) (n : Nat) : CReq :=
  ⟨op, 0, 0, c, lut, 77, 0, 0x10000, if n ≥ 2 then 0x11000 else 0, if n = 3 then 0x12000 else 0, 0x14000, 0, true⟩


theorem chunks_zero (f n : Nat) : ∀ k, f ≥ k → n > 0 → (chunksOf (f + 1) n (List.replicate (n * k) (0 : Byte))).map ofLe =
    List.replicate k (ofLe (List.replicate n 0)) := by
  induction f with
  | zero => intro k hk hn; obtain rfl : k = 0 := by omega
            simp [chunksOf]
  | succ f ih =>
    intro k hk hn
    cases k with
    | zero => simp [chunksOf]
    | succ k =>
      have he : (List.replicate (n * (k + 1)) (0 : Byte)).isEmpty = false := by simp; omega
      rw [chunksOf, he]
      simp only [Bool.false_eq_true, if_false, List.map_cons, List.take_replicate, List.drop_replicate, List.replicate_succ,
        Nat.mul_succ, Nat.add_sub_cancel, Nat.min_eq_left (Nat.le_add_left n (n * k))]
      rw [ih k (by omega) hn]

theorem words_zero (n k : Nat) (hn : n > 0) : wordsOf n (List.replicate (n * k) (0 : Byte)) =
    List.replicate k (ofLe (List.replicate n 0)) := by
  rw [wordsOf, List.length_replicate, Nat.mul_div_cancel_left k hn]
  exact chunks_zero k n k (Nat.le_refl k) hn

theorem lwe_reads (v : State) (w : Nat) (hw : v.unwatched) (he : ∀ x, v.ecc.get 0 x = 0) (hb : ∀ x, v.bedComm x = none)
    (hp : parseHdr (lweObj w).h.bytes = (lweObj w).h) (hn : (lweObj w).h.poisoned false = false) :
    ∀ (as : List Nat), (∀ a ∈ as, memRead v.mem a 32 = (lweObj w).h.bytes ∧
      (v.mem.all fun e => decide (e.1 < a + 32 ∨ a + 32 + 2524 ≤ e.1)) = true) → v.readObjs as = (as.map fun _ => lweObj w, v) := by
  suffices h : ∀ (as : List Nat) (acc : List Obj), (∀ a ∈ as, memRead v.mem a 32 = (lweObj w).h.bytes ∧
      (v.mem.all fun e => decide (e.1 < a + 32 ∨ a + 32 + 2524 ≤ e.1)) = true) →
      as.foldl (fun (x : List Obj × State) (a : Nat) =>
        let h := x.2.readBytes 1 a 32
        let hd := parseHdr h.1
        let n := objLen hd.param hd.typ 0
        let b := h.2.2.readBytes 1 (a + 32) n
        (x.1 ++ [{ h := hd, body := wordsOf 4 b.1, poison := hd.poisoned (h.2.1 || b.2.1) }], b.2.2)) (acc, v) =
      (acc ++ as.map fun _ => lweObj w, v) by
    intro as ha; exact (h as [] ha).trans (by simp)
  intro as
  induction as with
  | nil => intro acc _; simp
  | cons a as ih =>
    intro acc ha
    have h1 := ha a (by simp)
    have hl : objLen (lweObj w).h.param (lweObj w).h.typ 0 = 2524 := by rfl
    rw [List.foldl_cons]
    dsimp only
    rw [v.readBytes_plain 1 a 32 hw fun x _ _ => ⟨he x, hb x⟩]
    dsimp only
    rw [h1.1, hp, hl, v.readBytes_plain 1 (a + 32) 2524 hw fun x _ _ => ⟨he x, hb x⟩]
    dsimp only
    rw [memRead_zero _ _ _ h1.2, show (2524 : Nat) = 4 * 631 by rfl, words_zero 4 631 (by omega), Bool.or_self, hn,
      ih _ fun x hx => ha x (by simp [hx])]
    have ho : ({ h := (lweObj w).h, body := List.replicate 631 (ofLe (List.replicate 4 0)), poison := false } : Obj) = lweObj w := by
      rw [show ofLe (List.replicate 4 (0 : Byte)) = 0 by decide]; rfl
    rw [ho, List.append_assoc]
    rfl


/-- A request of each operation on LWE objects: OP, C, LUT and the number of inputs. -/
def lweCases : List (Nat × Int × Nat × Nat) :=
  [(0x01, 0, 0, 2), (0x02, 0, 0, 2), (0x03, 0, 0, 1), (0x04, 3, 0, 1), (0x05, 5, 0, 1), (0x06, 0, 0, 1), (0x20, 0, 0, 1),
    (0x10, 0, 0x3210, 1), (0x11, 0, 0, 2), (0x12, 0, 0, 2), (0x13, 0, 0, 2), (0x14, 0, 0, 2), (0x15, 0, 0, 2), (0x16, 0, 0, 2),
    (0x17, 0, 0, 2), (0x18, 0, 0x0110, 2), (0x19, 0, 0, 3), (0x1A, 0, 0x3210, 1)]

/-- The state of a case, its request and its inputs. -/
def lweState (e : Nat × Int × Nat × Nat) : State := ciphered 2 (lweWords e.1 (e.2.1 % 2 ^ 32).toNat e.2.2.1 e.2.2.2)
def lweCase (e : Nat × Int × Nat × Nat) : CReq := lweReq e.1 e.2.1 e.2.2.1 e.2.2.2
def lweItem (e : Nat × Int × Nat × Nat) : QItem :=
  { packet1 with words := lweWords e.1 (e.2.1 % 2 ^ 32).toNat e.2.2.1 e.2.2.2 }
def lweIns (e : Nat × Int × Nat × Nat) : List Nat := [0x10000, 0x11000, 0x12000].take e.2.2.2
def lweOs (e : Nat × Int × Nat × Nat) : List Obj := (lweIns e).map fun _ => lweObj 2
def key9 : KeySet := ⟨0x18000, 1, 3, 0, 0, 0, 0, 0, 0⟩

theorem lwe_starts : ∀ e ∈ lweCases, (lweState e).cipherHead = some (lweItem e) ∧ (lweItem e).hasBad = false ∧
    parseReq (lweItem e) = lweCase e ∧ (lweState e).cipherRig 0 = some (1, rigC) ∧ (lweState e).enginesStart = true := by
  decide +kernel

theorem lwe_form : ∀ e ∈ lweCases, (lweCase e).formOk = true ∧ [(lweCase e).in0, (lweCase e).in1, (lweCase e).in2].take e.2.2.2 = lweIns e ∧
      (cOp e.1).any (fun o => decide (o.inputs = e.2.2.2) &&
      (lweObj 2).h.typeOk (lweObj 2).h o) = true ∧ (lweCase e).widthOk 2 = true ∧ key9.hasKeys e.1 = true ∧
      testLevel e.1 e.2.1 (lv (lweOs e) 0) (lv (lweOs e) 1) (lv (lweOs e) 2) ≤ 16 ∧
      lweIns e = 0x10000 :: (lweIns e).tail := by
  decide +kernel

theorem lwe_place : ∀ e ∈ lweCases, (∀ a ∈ lweIns e, (lweState e).cipherTaken.objRange a 32 = true ∧
      memRead (lweState e).cipherTaken.mem a 32 = (lweObj 2).h.bytes ∧
      ((lweState e).cipherTaken.mem.all fun x => decide (x.1 < a + 32 ∨ a + 32 + 2524 ≤ x.1)) = true) ∧
    (∀ a ∈ (lweIns e).zip ((lweOs e).map (·.h)), (lweState e).cipherTaken.objRange a.1 (32 + objLen a.2.param a.2.typ 0) = true ∧
      ¬ (a.1 < 0x14000 + (32 + (outHdr e.1 (lweOs e)).len) ∧ 0x14000 < a.1 + (32 + objLen a.2.param a.2.typ 0))) ∧
    (lweState e).cipherTaken.objRange 0x14000 (32 + (outHdr e.1 (lweOs e)).len) = true ∧
    (lweState e).cipherTaken.inSealedArea 0x14000 (32 + (outHdr e.1 (lweOs e)).len) = false ∧
    (lweState e).cipherTaken.cipher.keySets.find? 9 = some key9 := by
  decide +kernel

theorem lwe_unwatched (e : Nat × Int × Nat × Nat) : (lweState e).cipherTaken.unwatched := unwatched_of _ rfl

/-- Every operation on LWE objects has a request that meets the premises of its statement. -/
theorem witness_CipherLinear_CipherGates : ∀ e ∈ lweCases, CipherStarts (lweState e) e.1 0 (lweCase e) ∧
    ∃ o, LweReady (lweState e).cipherTaken (lweCase e) o (lweOs e) := by
  intro e he
  obtain ⟨a1, a2, a3, a4, a5⟩ := lwe_starts e he
  obtain ⟨b1, b2, b3, b4, b5, b6, b7⟩ := lwe_form e he
  obtain ⟨c1, c2, c3, c4, c5⟩ := lwe_place e he
  refine ⟨⟨by decide, rfl, a5, rfl, ⟨_, a4, by decide, rfl⟩, _, a1, rfl, a2, a3⟩, ?_⟩
  cases ho : cOp e.1 with
  | none => simp [ho] at b3
  | some o =>
    simp only [ho, Option.any_some, Bool.and_eq_true, decide_eq_true_eq] at b3
    have hos : ∀ x ∈ lweOs e, x = lweObj 2 := by
      intro x hx; obtain ⟨_, _, rfl⟩ := List.mem_map.mp hx; rfl
    have h0 : hdr0 (lweOs e) = (lweObj 2).h := by rw [lweOs, b7]; rfl
    refine ⟨o, b1, ho, ?_, ?_, ?_, ?_, ?_, ?_, ⟨c3, c4⟩, ⟨key9, ⟨630, 10, 3, 7, 16, 2⟩, ?_, ?_, b5, b6⟩⟩
    · rw [b3.1, b2]; exact fun a ha => (c1 a ha).1
    · rw [b3.1, b2]
      have h1 : (lweState e).cipherTaken.ecc = [] := rfl
      have h2 : (lweState e).cipherTaken.fabric.bed = [] := rfl
      exact lwe_reads _ 2 (lwe_unwatched e) (fun _ => by rw [h1]; rfl) (fun _ => by rw [State.bedComm, h2]; rfl) (by decide +kernel) (by decide +kernel) _ fun a ha => (c1 a ha).2
    · intro x hx; rw [h0, hos x hx]; exact b3.2
    · intro x hx; rw [hos x hx]; decide
    · rw [h0]; exact b4
    · rw [b3.1, b2]; exact c2
    · rw [h0]; exact c5
    · rw [h0]; rfl

/-! ### Witnesses: key sets, the export of A, the status record, completions and Vaults (08, 09) -/

/-- The request of an operation with C, KSID, IN0 and OUT, as words and as the engine reads it. -/
def sysWords (op c ksid in0 out : Nat) : List QWord := cipherWords op 0 c 0 ksid in0 0 0 out
def sysReq (op c ksid in0 out : Nat) : CReq := ⟨op, 0, 0, c, 0, 77, ksid, in0, 0, 0, out, 0, true⟩
def sysItem (op c ksid in0 out : Nat) : QItem := { packet1 with words := sysWords op c ksid in0 out }

/-- The image of a GLWE key set, KSID 7. -/
def image7 : List Byte :=
  bytesAt 64 [(0, 4, 0x4D364B59), (4, 2, 1), (6, 2, 64), (8, 8, 7), (0x10, 1, 0x10), (0x14, 4, 99), (0x18, 8, 64), (0x20, 1, 1),
    (0x21, 1, 10), (0x22, 1, 4), (0x23, 1, 16)]
def key7 : KeySet := ⟨0x18000, 0x10, 0, 99, 64, 1, 10, 4, 16⟩

/-- CIPHER with such a request, that image at 0x18000, and in block 0 a GLWE round of key set 9 in RECOVER. -/
def sysUp (op c ksid in0 out : Nat) : State :=
  { ciphered 2 (sysWords op c ksid in0 out) with
    mem := cellsOf (((List.range 64).zip image7).map fun e => (0x18000 + e.1, e.2))
    rounds := { blocks := [(0, round5 .recover [(0x30, 1, 4), (0x80, 8, 9)])] }
    cipher := { (ciphered 2 (sysWords op c ksid in0 out)).cipher with keySets := [(6, key7), (9, key7)] } }

/-- The request of an operation is at the head of the queue and CIPHER may take it. -/
theorem sys_starts (op c ksid in0 out : Nat)
    (h : (sysUp op c ksid in0 out).cipherHead = some (sysItem op c ksid in0 out) ∧ (sysItem op c ksid in0 out).hasBad = false ∧
      parseReq (sysItem op c ksid in0 out) = sysReq op c ksid in0 out ∧ (sysUp op c ksid in0 out).cipherRig 0 = some (1, rigC) ∧
      (sysUp op c ksid in0 out).enginesStart = true) :
    CipherStarts (sysUp op c ksid in0 out) op 0 (sysReq op c ksid in0 out) :=
  ⟨by decide, rfl, h.2.2.2.2, rfl, ⟨_, h.2.2.2.1, by decide, rfl⟩, _, h.1, rfl, h.2.1, h.2.2.1⟩

theorem witness_CipherKeySets_register : CipherStarts (sysUp 0x30 0 0 0x18000 0) 0x30 0 (sysReq 0x30 0 0 0x18000 0) ∧
    (sysReq 0x30 0 0 0x18000 0).formOk = true ∧
    (sysUp 0x30 0 0 0x18000 0).cipherTaken.tenantRange 0x18000 64 1 = true ∧
    (sysUp 0x30 0 0 0x18000 0).cipherTaken.readBytes 1 0x18000 64 = (image7, false, (sysUp 0x30 0 0 0x18000 0).cipherTaken) ∧
    (sysUp 0x30 0 0 0x18000 0).cipherTaken.imageHdr 0x18000 image7 = some key7 ∧
    (sysUp 0x30 0 0 0x18000 0).cipher.keySets.find? (leAt image7 8 8) = none ∧
    (sysUp 0x30 0 0 0x18000 0).cipherTaken.imageChunks (leAt image7 8 8) key7 = (true, (sysUp 0x30 0 0 0x18000 0).cipherTaken) := by
  have hm : memRead (sysUp 0x30 0 0 0x18000 0).cipherTaken.mem 0x18000 64 = image7 := by decide +kernel
  refine ⟨sys_starts _ _ _ _ _ (by decide +kernel), by decide, by decide +kernel, ?_, by decide +kernel, by decide +kernel, rfl⟩
  rw [← hm]
  exact State.readBytes_plain _ _ _ _ (unwatched_of _ rfl) fun w _ _ => ⟨rfl, rfl⟩

theorem witness_CipherKeySets_release : CipherStarts (sysUp 0x31 0 6 0 0) 0x31 0 (sysReq 0x31 0 6 0 0) ∧
    (sysReq 0x31 0 6 0 0).formOk = true ∧ ((sysUp 0x31 0 6 0 0).cipher.keySets.find? 6).isSome = true ∧
    (∀ e ∈ (sysUp 0x31 0 6 0 0).rounds.blocks, e.2.state.live = true → e.2.d.glwe = true → e.2.d.keySet ≠ 6) :=
  ⟨sys_starts _ _ _ _ _ (by decide +kernel), by decide, rfl, by decide +kernel⟩

theorem witness_CipherKeySets_export : CipherStarts (sysUp 0x40 0 0 0 0x14000) 0x40 0 (sysReq 0x40 0 0 0 0x14000) ∧
    (sysReq 0x40 0 0 0 0x14000).formOk = true ∧
    (let s := sysUp 0x40 0 0 0 0x14000
    (s.round 0).state = .recover ∧ (s.round 0).d.glwe = true ∧ (s.roundKey (s.round 0)).span ≠ 0 ∧
      s.cipherTaken.tenantRange 0x14000 (4096 * max 1 ((s.round 0).owned.filter fun c =>
        !(glweA (s.roundKey (s.round 0)) c).isEmpty).length) 1 = true) :=
  ⟨sys_starts _ _ _ _ _ (by decide +kernel), by decide, by decide +kernel⟩

theorem witness_CipherKeySets_status : CipherStarts (sysUp 0x41 0 0 0 0x14000) 0x41 0 (sysReq 0x41 0 0 0 0x14000) ∧
    (sysReq 0x41 0 0 0 0x14000).formOk = true ∧ (sysUp 0x41 0 0 0 0x14000).cipherTaken.objRange 0x14000 64 = true :=
  ⟨sys_starts _ _ _ _ _ (by decide +kernel), by decide, by decide +kernel⟩

/-- A completion waits. -/
def completing : State :=
  ({ sysUp 0x41 0 0 0 0x14000 with
    cipher := { (sysUp 0x41 0 0 0 0x14000).cipher with completions := [⟨77, 0, 0, 0, none⟩] } } : State).setQueue 5
    { owner := .tenant, ringLog := 8 }

theorem witness_CipherKeySets_completion : completing.cipher.completions = [⟨77, 0, 0, 0, none⟩] ∧ completing.overran = false ∧
    completing.gated = false ∧ completing.holding = false ∧ (completing.queue 5).openItem = none ∧ (completing.queue 5).flushed = [] ∧
    (completing.queue 5).level + 1 + 1 ≤ (completing.queue 5).cap := by decide +kernel

/-- A Vault request: OP, m 10, modulus 16, source offset 0, destination offset 0x2000, COOKIE 77, a batch of 1. -/
def vaultWord (op : Nat) : QWord :=
  dataWord (BitVec.ofNat 256 (op + 2 ^ 6 * 10 + 2 ^ 11 * 16 + 2 ^ 68 * 0x2000 + 2 ^ 114 * 77 + 2 ^ 192))
def vaultReqOf (op : Nat) : VaultReq := vaultReq (vaultWord op).w

/-- The rig holds Vault 0, whose input has that request. -/
def vaultUp (op : Nat) : State :=
  let s : State := { up with
    stroke := { up.stroke with now := 1 }
    fabric := { up.fabric with rigs := [(1, { rig1 with vaultUse := true })] } }
  s.setQueue 16384 { owner := .system, ringLog := 8, consumer := .unit, items := [{ packet1 with words := [⟨0, false⟩, vaultWord op] }] }

/-- The state with the request taken. -/
def vaultTaken (op : Nat) : State := (vaultUp op).setQueue 16384 { (vaultUp op).queue 16384 with items := [] }

theorem witness_VaultResults : ∀ op ∈ [1, 2],
    ((vaultUp op).enginesStart = true ∧ ((vaultUp op).fabric.vaults.get {} 0) = {} ∧
      ((vaultUp op).queue 16384).items = [{ packet1 with words := [⟨0, false⟩, vaultWord op] }] ∧
      (vaultUp op).vaultRig 0 = some (1, { rig1 with vaultUse := true }) ∧ (vaultReqOf op).malformed = false ∧ (vaultReqOf op).batch = 1 ∧
      (vaultReqOf op).op = op ∧ (vaultUp op).vaultModulus (vaultReqOf op) = some p64 ∧
      (vaultUp op).vaultRanges { rig1 with vaultUse := true } (vaultReqOf op) = some (0x10000, 0x12000, none) ∧
      rig1.queues[(vaultReqOf op).doneQueue]? = some { role := 1, perStroke := 4, queue := 1 }) ∧
    (vaultTaken op).readBytes 4 0x10000 (8 * 2 ^ 10) = (memRead (vaultTaken op).mem 0x10000 (8 * 2 ^ 10), false, vaultTaken op) := by
  intro op ho
  refine ⟨?_, State.readBytes_plain _ _ _ _ (unwatched_of _ rfl) fun w _ _ => ⟨rfl, rfl⟩⟩
  revert op; decide +kernel

/-- A completion of Vault 0 waits for queue 2. -/
def vaultDone : State := { vaultUp 1 with fabric := { (vaultUp 1).fabric with vaults := [(0, { completion := some (2, 77) })] } }

theorem witness_VaultResults_done : (vaultDone.fabric.vaults.get {} 0).completion = some (2, 77) ∧
    (vaultDone.atCycle 64).holding = false ∧ ((vaultDone.atCycle 64).queue 2).openItem = none ∧
    ((vaultDone.atCycle 64).queue 2).flushed = [] ∧
    ((vaultDone.atCycle 64).queue 2).level + 1 + 1 ≤ ((vaultDone.atCycle 64).queue 2).cap ∧ Takes up .vault ∧ up.mtCmd.busy = false := by
  decide +kernel

/-! ### Witnesses: queues and windows (10, 16) -/

/-- The module with that queue 1, which the tenant owns and the host may produce into and consume from. -/
def withQ (q : Queue) : State :=
  up.setQueue 1 { q with owner := .tenant, ringLog := 8, hostProd := true, hostCons := true }

/-- SPILL_SEL of page 0 names queue 1. -/
def selected : State := (withQ {}).setReg .spill 0 0x40 1

theorem witness_SpillCommands : Takes selected .spill ∧ Clocked selected ∧ (selected.spillCmdOf 0).busy = false ∧ selected.selQueue 0 = 1 ∧
    (selected.queue 1).owner = .tenant ∧ 200 ≤ (selected.queue 1).cap ∧ (selected.queue 1).lowWm < 200 ∧ (selected.queue 1).highWm = 0 := by
  decide +kernel

/-- An open packet of the host, or of the doorbell. -/
def openOf (src : Producer) : QItem := { kind := .packet, src := src, words := [{ w := 0 }] }

theorem witness_WindowProduction_open : WinOpen (withQ {}) 1 ∧ ((withQ {}).queue 1).hostProd = true ∧
    ((withQ {}).windowed 64).holding = false ∧ ((withQ {}).windowed 2016).holding = true ∧ ((withQ {}).queue 1).unopened ∧
    ((withQ {}).queue 1).level + 2 ≤ ((withQ {}).queue 1).cap := by
  unfold WinOpen Queue.unopened; decide +kernel

theorem witness_WindowProduction_data : WinOpen (withQ { items := [openOf .host] }) 1 ∧
    ((withQ { items := [openOf .host] }).windowed 64).holding = false ∧
    ((withQ { items := [openOf .host] }).queue 1).items = [] ++ [openOf .host] ∧ (openOf .host).words = [{ w := 0 }] ∧
    ((withQ { items := [openOf .host] }).queue 1).level + 1 ≤ ((withQ { items := [openOf .host] }).queue 1).cap ∧
    (openOf .host).dataWords < 65536 := by
  unfold WinOpen; decide +kernel

theorem witness_WindowConsumption : WinOpen (withQ { items := [packet1], handed := 2 }) 1 ∧
    ((withQ { items := [packet1] }).queue 1).nextWord 0 = some (⟨ctrlWord 2 1 32 3 0 0 0 0, false⟩, 1) ∧
    ((withQ {}).queue 1).nextWord ((withQ {}).queue 1).rd = none ∧ (5 : W32).toNat.testBit 31 = false := by
  unfold WinOpen; decide +kernel

/-- A host header of one word (16 R602). -/
def header1 : List Byte := toLe 4 1 ++ List.replicate 28 0

/-- The host's memory is reachable, and the doorbell address is 0x1000. -/
def ringable : State := { withQ { dbAddrLo := 0x1000 } with pcie := { up.pcie with bme := true } }

theorem witness_DoorbellResults_ring : WinOpen ringable 1 ∧ ringable.reef.level ≠ 4 ∧ (ringable.queue 1).hostProd = true ∧
    ((ringable.queue 1).dbAddrLo.toNat + 2 ^ 32 * (0 : W32).toNat) % 64 = 0 ∧ (ringable.queue 1).dbBusy = false ∧
    (ringable.queue 1).unopened ∧ ringable.pcie.bme = true ∧ hostHeaderOk header1 = true ∧ (ringable.windowed 64).holding = false ∧
    (ringable.queue 1).level + 2 ≤ (ringable.queue 1).cap := by
  unfold WinOpen Queue.unopened; decide +kernel

theorem witness_DoorbellResults_done : let s := withQ { dbBusy := true, dbWords := 1, items := [openOf .doorbell] }
    (s.atCycle 64).holding = false ∧ (s.queue 1).items = [] ++ [openOf .doorbell] ∧ (openOf .doorbell).words = [⟨0, false⟩] ∧
    (openOf .doorbell).closed = false ∧ (openOf .doorbell).abandoned = false ∧ (openOf .doorbell).freed = 0 ∧
    (s.queue 1).flushed = [] ∧ (s.queue 1).dbWords = 1 ∧ (s.queue 1).level + 1 ≤ (s.queue 1).cap ∧ (toLe 32 7).length = 32 := by
  decide +kernel

/-! ### Witnesses: Ethernet ports (11) -/

/-- Port 3 up at 400 Gb/s on 4 lanes, with LLDP, Hail and PFC on every priority; XON 0 as at reset. -/
def portUp (x : Port) : State :=
  let s := up.setReg .eth 3 0x40 (BitVec.ofNat 32 (3 + 2 ^ 3 * 2 + 2 ^ 6 + 2 ^ 7 + 2 ^ 12 * 255))
  s.setPort 3 { x with linkUp := true, phyUp := true }

theorem witness_PortResults_up : (portUp {}).portMode ≠ .off ∧ ((portUp {}).port 3).linkUp = true ∧ (portUp {}).portMode.lldp = true ∧
    ((portUp {}).port 3).nbr = none ∧ ((portUp {}).reg .eth 3 0x40).toNat.testBit 6 = true ∧
    (((portUp {}).port 3).fill.put 0 2 100).foldl (fun n (e : Nat × Nat) => n + e.2) 0 ≤ 8192 ∧ (3 : Nat) &&& 4 = 0 := by decide +kernel

theorem witness_PortResults_pfc : let s := { portUp { txPausing := 4, rxPaused := 4 } with ten := { up.ten with claimed := true } }
    (s.port 3).txPausing.testBit 2 = true ∧ (s.port 3).rxPaused.testBit 2 = true ∧ s.portMode.pfc = true ∧
    (s.pfcEn 3).testBit 2 = true ∧ (s.reg .eth 3 0x54).toNat < 9000 := by decide +kernel

theorem witness_PortResults_writes : Takes up .eth ∧ lanesOf (0x13 % 8) (bits 0x13 3 2) ≠ 0 ∧ 0x13 &&& 0xFFF00E00 = 0 ∧
    bits 3 1 2 ≠ 3 ∧ (3 : Nat).testBit 0 = true ∧ ((portUp {}).reg .eth 3 0x40).toNat % 32 = 0x13 ∧ (portUp {}).reg .eth 0 0x40 = up.reg .eth 0 0x40 := by
  decide +kernel

theorem witness_PortResults_link_up : let s := (portUp {}).setPort 3 {}
    s.portMode ≠ .off ∧ (s.port 3).linkUp = false ∧
    lanesOf ((s.reg .eth 3 0x40).toNat % 8) (bits (s.reg .eth 3 0x40).toNat 3 2) ≠ 0 := by decide +kernel

/-! ### Witnesses: Hail (11) -/

/-- Hail runs on port 3 alone; the module is in a state of Hail with one peer, 9. -/
def hailUp (h : Hail) (p : Peer := {}) : State :=
  let s := portUp {}
  { s with ten := { s.ten with claimed := true }, net := { s.net with hail := { h with peers := [(9, p)], expect := 2 } } }

/-- Module id of the state. -/
def me : Nat := up.moduleId

/-- A datagram of a type from the module 9 with a body: CREW_ID 6. -/
def hailMsg (typ sender : Nat) (body : List Byte) : List Byte :=
  bytesAt 40 [(0, 4, 0x4D364841), (4, 1, 1), (5, 1, typ), (6, 2, 40 + body.length), (8, 8, sender), (0x10, 8, 6), (0x18, 8, 12), (0x20, 8, 5)] ++
    body

/-- The same with the HMAC of the pair's key; each message has one body. -/
def hailMac (typ : Nat) (body : List Byte) : List Byte :=
  hailMsg typ 9 (body ++ toLe 32 (match typ with
    | 9 => 0xe0b331b7c6880511bd0abd930a1641cfe72097a1a371c896bab3b067bef2de99
    | 5 => 0x2d1686448cd6992c0716d236620440a50934ed111029b38b9182fc43511ad404
    | 6 => 0x782a83128e95b351f217469d4486dc06b8bece86d448cdc4556041c61aee1dfe
    | 7 => 0xd3b5ec2405eb7a80b9f5a1fa4a08f738786bee203169697d99b556fe426bd45f
    | 8 => 0x32cc5b4259fc391de6e258cabbfd68875e6589308a3c5e98a3690e5034e48be9
    | _ => 0))

/-- A member of a crew of 9 and this module. -/
def crewPeer : Peer := { keyConfirm := toLe 32 5, attested := true, qp := some 0xFF00, port := 3 }
def inCrew9 : State := hailUp { phase := .crew, crewId := 6, members := [9, me], pos := 1 } crewPeer
def forming9 (p : Peer) : State := hailUp { phase := .forming, crewId := 6, candidates := [9] } p

theorem witness_HailMembership_beacons : (∀ q, q < 8 → (hailUp {}).hailPort q = decide (q = 3)) ∧
    hailBad (hailMsg 1 9 (List.replicate 24 0)) = false ∧ beaconBad (hailMsg 1 9 (List.replicate 24 0)) = false ∧
    leAt (hailMsg 1 9 (List.replicate 24 0)) 5 1 = 1 ∧ leAt (hailMsg 1 9 (List.replicate 24 0)) 8 8 ≠ (hailUp {}).moduleId := by
  decide +kernel

/-- A module that may form a crew of 2. -/
def formable : State :=
  let s := ((hailUp { pskWritten := [0, 1, 2, 3, 4, 5, 6, 7] }).setReg .hail 0 0x48 6).setReg .hail 0 0x40 0x200
  { s with stroke := { s.stroke with sync := .lockedPin } }

theorem witness_HailMembership_form : Takes formable .hail ∧ (0x201 : W32).toNat.testBit 0 = true ∧ (0x201 : W32).toNat.testBit 1 = false ∧
    formable.hail.phase = .idle ∧ formable.crewIdReg ≠ 0 ∧ bits (0x201 : W32).toNat 8 9 = 2 ∧ 8 ≤ formable.hail.pskWritten.length ∧
    formable.ten.claimed = true ∧ formable.roundsIdle = true ∧ formable.stroke.sync = .lockedPin := by decide +kernel

theorem witness_HailMembership_crew : Takes inCrew9 .hail ∧ (inCrew9.setReg .hail 0 0x40 0x200).expectReg = bits (0x202 : W32).toNat 8 9 ∧
    LosesMember inCrew9 9 ∧ 9 ∉ inCrew9.hail.seen ∧ HailGiven inCrew9 3 9 64 (hailMac 9 []) 9 ∧
    (inCrew9.atCycle 64).hailBody (hailMac 9 []) 9 = some [] ∧ (forming9 {}).hail.phase = .forming := by decide +kernel

theorem witness_HailFormation_hello : (me > 9) ∧ let m := hailMsg 2 9 (List.replicate 64 1)
    ((forming9 {}).atCycle 64).formingWith m = true ∧ HailGiven (forming9 {}) 3 2 64 m 9 ∧ m.length = 104 ∧ 9 < (forming9 {}).moduleId ∧
      9 ∈ (forming9 {}).hail.candidates ∧ ((forming9 {}).peer 9).refused = false ∧ ((forming9 {}).peer 9).attested = false := by
  decide +kernel

/-- The peer has our nonce and its ephemeral key. -/
def answered : State := forming9 { nonce := toLe 32 3, ephPriv := toLe 32 7, peerEph := toLe 32 11, port := 3 }

/-- Its statement: this module's own fields and the nonce; its Alias key, of the seed 21, and its signature. -/
def peerBody : List Byte :=
  let own := (answered.statementBody 3 0 6 zero32 0).take 128
  own ++ List.replicate 160 0 ++ sha256 (toLe 32 3 ++ toLe 32 11) ++ List.replicate 192 0
def peerKey : List Byte := toLe 32 0xc9036b0ff9cf4285ed3dbecdade5be2c72638ad1b5c01d918e2893a64e9553e
def peerSig : List Byte :=
  toLe 64 0xee32357808d92938ace2fd6f0aa8de3e8b5e37f8f9ca558b8c98a1cb4f394bef5845cc9e1a35a85ef027767283642a8713d91be0da0831bf04822678533e85f
def attestMsg : List Byte :=
  hailMsg 3 9 (zero32 ++ toLe 32 11 ++ List.replicate 16 0 ++ peerBody ++ peerSig ++ [0, 0])

theorem witness_HailFormation_attest : (answered.atCycle 64).formingWith attestMsg = true ∧ HailGiven answered 3 3 64 attestMsg 9 ∧
    attestMsg.length = 40 + 658 + leAt attestMsg 696 2 ∧ (answered.peer 9).nonce ≠ [] ∧ 9 ≤ answered.moduleId ∧
    allZero ((attestMsg.drop 40).take 32) = true ∧ allZero ((attestMsg.drop 104).take 16) = true ∧
    (attestMsg.drop 72).take 32 = (answered.peer 9).peerEph ∧ answered.freeTamrikQp = some 0xFF00 := by decide +kernel

theorem witness_HailFormation_attest_statement : (answered.atCycle 64).statementMatches ((attestMsg.drop 120).take 576)
    (sha256 ((answered.peer 9).nonce ++ (answered.peer 9).peerEph)) (some peerKey) = true := by decide +kernel

/-- CONFIRM of the pair. -/
def confirmMsg : List Byte := hailMsg 4 9 (toLe 4 0xFF0001 ++ hmac (toLe 32 5) (ascii "M6 crew confirm" ++ toLe 8 9))

theorem witness_HailFormation_confirm : ((forming9 crewPeer).atCycle 64).formingWith confirmMsg = true ∧
    HailGiven (forming9 crewPeer) 3 4 64 confirmMsg 9 ∧ confirmMsg.length = 76 ∧
    confirmMsg.drop 44 = hmac ((forming9 crewPeer).peer 9).keyConfirm (ascii "M6 crew confirm" ++ toLe 8 9) := by decide +kernel

/-- Bodies of REPORT, ROSTER, ROSTER_ACK and REFUSE. -/
def reportBody : List Byte := toLe 8 9 ++ toLe 8 0 ++ toLe 8 me ++ toLe 8 0
def rosterBody : List Byte := toLe 2 2 ++ toLe 2 1 ++ toLe 8 5000 ++ toLe 8 0 ++ toLe 8 9 ++ toLe 8 5000 ++ toLe 8 me ++ toLe 8 5000

theorem witness_HailFormation_bodies : ∀ e ∈ [(5, reportBody), (6, rosterBody), (7, []), (8, [])],
    ((forming9 crewPeer).atCycle 64).formingWith (hailMac e.1 e.2) = true ∧ HailGiven (forming9 crewPeer) 3 e.1 64 (hailMac e.1 e.2) 9 ∧
    ((forming9 crewPeer).atCycle 64).hailBody (hailMac e.1 e.2) 9 = some e.2 := by decide +kernel

theorem witness_HailFormation_sets : reportBody.length = 16 * (forming9 crewPeer).hail.expect ∧
    leAt rosterBody 0 2 = (forming9 crewPeer).hail.expect ∧ (chunksOf (rosterBody.length + 1) 16 (rosterBody.drop 20)).length = 2 ∧
    me ∈ (chunksOf (rosterBody.length + 1) 16 (rosterBody.drop 20)).map (fun e => leAt e 0 8) ∧
    (forming9 crewPeer).roundsIdle = true := by decide +kernel

/-! ### Witnesses: Halyard (12) -/

/-- Attributes: path MTU 512, PD 1, SQ 20, CQ 21, RQ 22, MAX_MSG 1,000, timers and retries, and more bits. -/
def qpAttr (more : Nat) : BitVec 512 :=
  BitVec.ofNat 512 (2 ^ 59 * 2 + 2 ^ 64 + 2 ^ 80 * 20 + 2 ^ 96 * 21 + 2 ^ 112 * 22 + 2 ^ 128 * 1000 + 2 ^ 160 * 0x10007 + 2 ^ 448 * 99 +
    2 ^ 480 * 5 + 2 ^ 485 * 3 + 2 ^ 488 * 7 + 2 ^ 496 * 16 + 2 ^ 503 * 16 + more)
def ext : Nat := 2 ^ 36 + 2 ^ 37
def rc (more : Nat) : Qp := { live := true, epoch := 1, state := .rts, attr := qpAttr more }

/-- A key over the region at 0x10000 with every right. -/
def key3 : RKey :=
  { live := true, used := true, pd := 1, localWrite := true, remoteRead := true, remoteWrite := true, remoteAtomic := true
    remoteAcc := true, start := 0x10000, len := 0x1000 }

/-- The module claimed, strokes running, with that queue pair, key 0x300 and its queues; work request `wr` waits on the SQ. -/
def qpUp (i : Nat) (q : Qp) (wr : List QWord := []) : State :=
  let s := claimedUp.setHalyard { claimedUp.halyard with qps := [(i, q)], keys := [(3, key3)], pds := [1] }
  let s := { s with stroke := { s.stroke with now := 1 } }
  ((((s.setQueue 20 { owner := .tenant, ringLog := 8, items := if wr = [] then [] else [{ packet1 with words := wr }] }).setQueue 21
    { owner := .tenant, ringLog := 8 }).setQueue 22 { owner := .tenant, ringLog := 12 }).setQueue (feederOf i)
    { owner := .system, ringLog := 14 })

/-- The two data words of a work request of an operation of 16 bytes, or 8 for an atomic. -/
def wrA (op : Nat) : Nat :=
  let n := if op = 5 ∨ op = 6 then 8 else 16
  2 ^ 248 + op + 2 ^ 8 + 2 ^ 16 * (if 7 ≤ op then 1 else 0) + 2 ^ 24 * 0x300 + 2 ^ 120 * n + (if 2 ≤ op then 2 ^ 152 * 0x500 + 2 ^ 184 * 64 else 0)
def wrB : Nat := 2 ^ 248 + 42
def wrQ (op : Nat) : List QWord := [⟨0, false⟩, ⟨BitVec.ofNat 256 (wrA op), false⟩, ⟨BitVec.ofNat 256 wrB, false⟩]

theorem witness_HalyardRequests : ∀ op ∈ List.range 9, ∃ data, WrReady (qpUp 0 (rc ext) (wrQ op)) 0 op 64 (wrA op) wrB data := by
  intro op ho
  have h0 : (qpUp 0 (rc ext) (wrQ op)).quiet = false ∧ wrOk (rc ext) (wrA op) wrB = true ∧
      ((qpUp 0 (rc ext) (wrQ op)).wrHeld ((qpUp 0 (rc ext) (wrQ op)).qp 0) (wrA op)) = false ∧
      ((qpUp 0 (rc ext) (wrQ op)).headWr ((qpUp 0 (rc ext) (wrQ op)).qp 0).sq) = some { packet1 with words := wrQ op } ∧
      (wrQ op).any (·.bad) = false ∧ wrWords { packet1 with words := wrQ op } = (wrA op, wrB) ∧ bits (wrA op) 0 8 = op ∧
      bits (wrA op) 120 32 ≠ 0 ∧
      (qpUp 0 (rc ext) (wrQ op)).checkKey (rc ext) (bits (wrA op) 24 32)
        (if 2 ≤ reqKind op ∧ reqKind op ≤ 4 then .localWrite else .local) (bits (wrA op) 56 64) (bits (wrA op) 120 32) 1 = .ok key3 0 := by
    revert op; decide +kernel
  have hq : (qpUp 0 (rc ext) (wrQ op)).qp 0 = rc ext := rfl
  obtain ⟨a1, a2, a3, a4, a5, a6, a7, a8, a9⟩ := h0
  refine ⟨if 2 ≤ reqKind op ∧ reqKind op ≤ 4 then [] else
    memRead ((qpUp 0 (rc ext) (wrQ op)).atCycle 64).mem (key3.start + 0) (bits (wrA op) 120 32), by decide, ?_, ⟨a1, a3, ?_⟩,
    ⟨_, a4, rfl, rfl, a5, a6⟩, a7, ?_, .inr ⟨a8, key3, 0, rfl, ?_, ?_⟩⟩
  · rw [hq]; decide +kernel
  · rw [hq]; exact a2
  · rw [hq]; intro r hr; cases hr
  · rw [hq]; exact a9
  · by_cases hk : 2 ≤ reqKind op ∧ reqKind op ≤ 4
    · rw [if_pos hk, if_pos hk]
    · rw [if_neg hk, if_neg hk]
      exact State.readBytes_plain _ _ _ _ (unwatched_of _ rfl) fun w _ _ => ⟨rfl, rfl⟩

/-- A request of an operation on 16 bytes (8 for an atomic) from PSN 5, of which nothing is answered. -/
def asked (op : Nat) (spray : Bool := false) : SentReq :=
  { op := op, wrId := 42, signaled := true, len := if op = 5 ∨ op = 6 then 8 else 16, lkey := 0x300, laddr := 0, rkey := 0x500, raddr := 64
    op0 := 0, op1 := 0, fmt := 0, first := 5, last := 5, spray := spray, own := false }

/-- The queue pair waits for its answer. -/
def waiting (op : Nat) (spray : Bool := false) (from_ : Option Nat := none) : State :=
  qpUp 0 { rc ext with sent := [asked op spray], nextPsn := 6, una := 5, rnrFrom := from_ }

/-- A packet for the queue pair. -/
def packetOf (opcode psn : Nat) (payload : List Byte := []) (va len : Nat := 0) (qpn : Nat := 0x10000) : Packet :=
  { qpn := qpn, psn := psn, opcode := opcode, payload := payload, bad := false, va := va, key := 0x300, len := len, imm := 0, op0 := 7
    op1 := 9, fmt := 1, q := 0, idx := 0, base := 5, qkey := 99, grh := [], ce := false, pages := [], host := [] }

theorem reaches_of (s : State) (p : Packet) (i : Nat) (h : s.inService = true ∧ s.ten.claimed = true ∧ p.qpn ≠ 1 ∧
    s.qpOf p.qpn = some (i, s.qp i) ∧ p.ce = false) : Reaches s p i := ⟨⟨h.1, h.2.1⟩, ⟨h.2.2.1, h.2.2.2.1⟩, h.2.2.2.2⟩

theorem witness_HalyardResponses : ∀ e ∈ [(0, false), (4, false), (5, false), (2, true)], ∀ op ∈ [0x11, 0x10, 0x12, 0xCC, 0xCD],
    Awaits (waiting e.1 e.2) (packetOf op 5 (List.replicate 16 0)) 0 (asked e.1 e.2) := by
  intro e he op ho
  have h : (waiting e.1 e.2).inService = true ∧ (waiting e.1 e.2).ten.claimed = true ∧
      (packetOf op 5 (List.replicate 16 0)).qpn ≠ 1 ∧
      (waiting e.1 e.2).qpOf (packetOf op 5 (List.replicate 16 0)).qpn = some (0, (waiting e.1 e.2).qp 0) ∧
      (packetOf op 5 (List.replicate 16 0)).ce = false := by revert op; revert e; decide +kernel
  have h2 : ((waiting e.1 e.2).qp 0).state = .rts ∧ ((waiting e.1 e.2).qp 0).ud = false ∧ ((waiting e.1 e.2).qp 0).sent = [asked e.1 e.2] ∧
      (asked e.1 e.2).span < 2 ^ 23 ∧ psnSub ((waiting e.1 e.2).qp 0).nextPsn 5 = (asked e.1 e.2).span := by
    clear ho h; revert e; decide +kernel
  exact ⟨reaches_of _ _ _ h, ⟨by decide, ⟨h2.1, h2.2.1⟩, ⟨h2.2.2.1, rfl⟩, rfl⟩, ⟨rfl, rfl⟩, h2.2.2.2⟩

theorem witness_HalyardResponses_more :
    ((asked 0).carries = true ∧ (asked 4).got = 0 ∧ (packetOf 0x10 5 (List.replicate 16 0)).payload.length = (asked 4).len ∧
      (packetOf 0x12 5 (List.replicate 8 0)).payload.length = (asked 5).len ∧
      (waiting 4).checkKey ((waiting 4).qp 0) 0x300 .localWrite 0 16 1 = .ok key3 0 ∧
      (waiting 5).checkKey ((waiting 5).qp 0) 0x300 .localWrite 0 8 1 = .ok key3 0) ∧
    ((asked 2 true).spray = true ∧ reqKind (asked 2 true).op ≠ 2 ∧ (packetOf 0xCC 5).base = (asked 2 true).first ∧
      ofBe (((packetOf 0xCD 5 [0, 0, 0, 5]).payload.take 4).drop 1) = (asked 2 true).first) ∧
    (((waiting 0).qp 0).rnrRetry = 7 ∧ ((waiting 0).qp 0).ackTimeout ≠ 0 ∧ ((waiting 0).qp 0).retries < ((waiting 0).qp 0).retryCnt ∧
      ((waiting 0 false (some 5)).qp 0).rnrFrom = some (asked 0).first ∧ ((waiting 0).qp 0).lastCut = none) ∧
    (((qpUp 0 { rc ext with rate := some 1000 }).qp 0).rate = some 1000 ∧
      ((qpUp 0 { rc ext with stall := some ⟨0x300, 0, true, 5⟩ }).qp 0).stall = some ⟨0x300, 0, true, 5⟩ ∧ Takes up .halyard) := by
  decide +kernel

/-- The packet lands on queue pair `i` at cycle 64. -/
theorem lands_of (s : State) (p : Packet) (i : Nat) (h : (s.inService = true ∧ s.ten.claimed = true ∧ p.qpn ≠ 1 ∧
    s.qpOf p.qpn = some (i, s.qp i) ∧ p.ce = false) ∧ (s.qp i).state = .rts ∧ (s.atCycle 64).holding = false ∧ s.stroke.running = true ∧
    s.tt.halted = false ∧ s.reef.level < 3 ∧ (s.qp i).stall = none) : Lands s p i 64 :=
  ⟨reaches_of _ _ _ h.1, .inr h.2.1, h.2.2.1, h.2.2.2⟩

/-- The packets of each kind at the queue pair: opcode, payload bytes, VA and LEN. -/
def arrivals : List (Nat × Nat × Nat × Nat) := [(4, 30, 0, 0), (0xA, 16, 64, 16), (0xC, 0, 64, 16), (0x13, 0, 64, 8), (0x14, 0, 64, 8),
  (0xC4, 16, 64, 16), (0xC8, 16, 64, 16)]
def arrival (e : Nat × Nat × Nat × Nat) : Packet := packetOf e.1 5 (List.replicate e.2.1 1) e.2.2.1 e.2.2.2
def ready : State := qpUp 0 { rc ext with expPsn := 5 }
def udReady : State := qpUp 65540 { rc (2 ^ 35) with epoch := 255 }

theorem witness_HalyardPackets : ∀ e ∈ arrivals, Lands ready (arrival e) 0 64 ∧ Expected ready (arrival e) 0 := by
  intro e he
  have h : ((ready.inService = true ∧ ready.ten.claimed = true ∧ (arrival e).qpn ≠ 1 ∧
      ready.qpOf (arrival e).qpn = some (0, ready.qp 0) ∧ (arrival e).ce = false) ∧ (ready.qp 0).state = .rts ∧
      (ready.atCycle 64).holding = false ∧ ready.stroke.running = true ∧ ready.tt.halted = false ∧ ready.reef.level < 3 ∧
      (ready.qp 0).stall = none) ∧ Expected ready (arrival e) 0 := by
    revert e; decide +kernel
  exact ⟨lands_of _ _ _ h.1, h.2⟩

theorem witness_HalyardPackets_held : (ready.atCycle 2016).holding = true := by decide +kernel

theorem witness_HalyardPackets_send : ready.landingOf 0 = 22 ∧ (ready.queue 22).unopened ∧ 30 ≤ (ready.qp 0).pmtu ∧
    (ready.queue 22).level + (ready.qp 0).sendRoom ≤ (ready.queue 22).cap := by unfold Queue.unopened; decide +kernel

theorem witness_HalyardPackets_ud : let p := packetOf 0x64 5 (List.replicate 30 1) 0 0 0xFF0004
    Lands udReady p 65540 64 ∧ (udReady.qp 65540).ud = true ∧ p.qkey = (udReady.qp 65540).qkey ∧
    (udReady.queue (udReady.landingOf 65540)).level + max (udReady.qp 65540).sendRoom 5 ≤ (udReady.queue (udReady.landingOf 65540)).cap :=
  ⟨lands_of _ _ _ (by decide +kernel), by decide +kernel⟩

theorem witness_HalyardPackets_keys : ready.checkKey (ready.qp 0) 0x300 .write 64 16 1 = .ok key3 64 ∧
    ready.checkKey (ready.qp 0) 0x300 .read 64 16 1 = .ok key3 64 ∧ ready.checkKey (ready.qp 0) 0x300 .atomic 64 8 8 = .ok key3 64 ∧
    ready.checkKey (ready.qp 0) 0x300 .acc 64 (accSpan 1 16) 1 = .ok key3 64 ∧ accOk 1 0 64 16 = true ∧ (ready.qp 0).ext = true ∧
    (ready.queue (feederOf 0)).unopened ∧ ready.feederRoom (feederOf 0) (16 / 16 + 1) = true ∧ (ready.qp 0).spray = true ∧
    sprayOk (ready.qp 0) (arrival (0xC8, 16, 64, 16)) none = true ∧ ready.sprayOf 0 = [] ∧
    ready.sprayDup 0 (ready.qp 0) (arrival (0xC8, 16, 64, 16)) = false := by unfold Queue.unopened; decide +kernel

theorem witness_HalyardPackets_reads : ∀ n ∈ [8, 16], (ready.atCycle 64).readBytes 5 (key3.start + 64) n =
    (memRead (ready.atCycle 64).mem (key3.start + 64) n, false, ready.atCycle 64) :=
  fun _ _ => State.readBytes_plain _ _ _ _ (unwatched_of _ rfl) fun _ _ _ => ⟨rfl, rfl⟩

theorem witness_HalyardPackets_gaps : let c : SprayCtx := { qp := 0, base := 5, len := 1024, pkts := 2, got := [1], acc := false, imm := none }
    ((ready.setHalyard { ready.halyard with spray := [c] }).sprayOf 0).find? (fun x => decide (x.base = 5) && !x.full) = some c := by
  decide +kernel

/-! ### Witnesses: command registers, tenancy, resets and power (14 to 18, 20) -/

/-- The KEEP page with a message whose type byte is `typ`. -/
def keepMsg (typ : Nat) : State := { up with keep := { up.keep with msg := [(4, BitVec.ofNat 32 (typ * 2 ^ 16))] } }

/-- A weights key, for export and import. -/
def wkey : KeySlot := { typ := 2, dest := 2, usage := 3, lcBind := 0, round := 0, tag := 0, key := toLe 32 5 }

theorem witness_HostCommandsLand : Takes up .bosun ∧ up.bosun.busy = false ∧ Clocked up ∧ Takes up .halyard ∧ up.halyardCmd.busy = false ∧
    Takes up .keep ∧ up.keepCmd.busy = false ∧ up.reg .keep 0 0x50 = 0 ∧
    ({ up with keep := { up.keep with slots := [(3, wkey)] } } : State).keep.slots.find? 3 = some wkey ∧
    (∀ n ∈ [1, 2, 3, 4, 5, 6, 7, 8], ∃ m ∈ [0, 1, 2, 3, 4, 5, 6, 7],
      leAt ({ up with keep := { up.keep with msg := [(m, BitVec.ofNat 32 (n * 2 ^ 16))] } } : State).keep.message 6 1 = n) := by decide +kernel

/-- A claim whose fill ends. -/
def claiming : State := { up with ten := { up.ten with claiming := true } }

theorem witness_TenancyEvents_claim : claiming.ten.claiming = true ∧ claiming.reserveOk [(0x2C00000000, 2 ^ 34, true)] = true := by
  decide +kernel

theorem witness_TenancyEvents_scrub : ({ up with ten := { up.ten with scrubbing := true } } : State).lcHold = false ∧ up.boot.fatal = 0 ∧
    up.power.on = true ∧ (if up.boot.recordB then up.boot.slotB else up.boot.slotA).holds = .valid := by decide +kernel

theorem witness_TenancyEvents_program : ({ up with boot := { up.boot with
    fwState := .programming, staged := { holds := .valid, version := 2 } } } : State).boot.staged.holds = .valid := by decide +kernel

/-- WEIGHTS_IO with a request, a WEIGHTS area, the key in slot 3 and `mem`. -/
def weightsUp (mem : List Host.Cell) : State :=
  let s : State := { claimedUp with
    mem := mem
    stroke := { claimedUp.stroke with now := 1 }
    ten := { claimedUp.ten with guardW := true }
    keep := { up.keep with slots := [(3, wkey)] }
    fabric := { claimedUp.fabric with
      rigs := [(1, { rig1 with func := 2, queues := [] })]
      areas := claimedUp.fabric.areas ++ [{ base := 0x400000, len := 0x10000, tag := 2, owner := .tenant }] }
    weights := { loaded := true, reqQueue := 4, doneQueue := 5 } }
  (s.setQueue 4 { owner := .tenant, ringLog := 8, consumer := .unit, items := [packet1] }).setQueue 5 { owner := .tenant, ringLog := 8 }

/-- The state in which it is performed. -/
def weightsTaken (mem : List Host.Cell) : State := (weightsUp mem).dropHead 4

theorem weights_starts (mem : List Host.Cell) (h : (weightsUp mem).enginesStart = true ∧ (weightsUp mem).weightsHead.isSome = true ∧
    ∃ e ∈ (weightsUp mem).fabric.rigs, e.2.func = 2 ∧ e.2.running = true) : WeightsStarts (weightsUp mem) (weightsTaken mem) :=
  ⟨rfl, h.1, h.2.2, Option.isSome_iff_exists.mp h.2.1, rfl, rfl⟩

theorem witness_TenancyEvents_export : WeightsStarts (weightsUp []) (weightsTaken []) ∧ (weightsUp []).tenantRange 0x400000 32 2 = true ∧
    (weightsUp []).tenantRange 0x10000 (80 + 32) 1 = true ∧ KeyServes (weightsUp []) 3 1 0 wkey ∧
    (weightsUp []).areaOf 0x400000 = some { base := 0x400000, len := 0x10000, tag := 2, owner := .tenant } ∧
    ((weightsTaken []).drawBytes 12).2.readBytes 1 0x400000 32 =
      (memRead ((weightsTaken []).drawBytes 12).2.mem 0x400000 32, false, ((weightsTaken []).drawBytes 12).2) :=
  ⟨weights_starts _ (by decide +kernel), by decide +kernel, by decide +kernel, by decide +kernel, by decide +kernel,
    State.readBytes_plain _ _ _ _ (unwatched_of _ rfl) fun _ _ _ => ⟨rfl, rfl⟩⟩

/-- A record of 32 bytes: its header and its body. -/
def recordHeader : List Byte := weightsHeader 32 0 7 (toLe 12 9)
def recordBody : List Byte := gcmSeal (toLe 32 5) (toLe 12 9) recordHeader (toLe 32 1234)
def recordMem : List Host.Cell := memWrite [] 0x10000 (recordHeader ++ recordBody)

theorem keys5 : (∀ k ∈ aesKeys (toLe 32 5), k.length = 16) ∧ 2 ≤ (aesKeys (toLe 32 5)).length := by decide +kernel

theorem recordBody_length : recordBody.length = 48 := gcmSeal_length _ _ _ _ keys5.1 keys5.2

theorem record_reads : memRead recordMem 0x10000 64 = recordHeader ∧ memRead recordMem (0x10000 + 64) 48 = recordBody := by
  have hb := recordBody_length
  have h := memRead_memWrite_self [] 0x10000 (recordHeader ++ recordBody)
  rw [List.length_append, hb, show recordHeader.length = 64 by decide, memRead_add] at h
  exact List.append_inj h (by rw [memRead_length]; decide)

theorem weights_read (mem : List Host.Cell) (a n : Nat) : (weightsTaken mem).readBytes 1 a n = (memRead mem a n, false, weightsTaken mem) :=
  State.readBytes_plain _ _ _ _ (unwatched_of _ rfl) fun _ _ _ => ⟨rfl, rfl⟩

theorem witness_TenancyEvents_import : WeightsStarts (weightsUp recordMem) (weightsTaken recordMem) ∧
    (weightsUp recordMem).tenantRange 0x10000 64 1 = true ∧
    (weightsTaken recordMem).readBytes 1 0x10000 64 = (recordHeader, false, weightsTaken recordMem) ∧ recordOk recordHeader = true ∧
    leAt recordHeader 8 8 = 32 ∧ (weightsUp recordMem).tenantRange 0x10000 (80 + 32) 1 = true ∧
    (weightsUp recordMem).tenantRange 0x400000 32 2 = true ∧ KeyServes (weightsUp recordMem) 3 1 1 wkey ∧
    (weightsTaken recordMem).readBytes 1 (0x10000 + 64) (32 + 16) = (recordBody, false, weightsTaken recordMem) ∧
    recordBody.length = 32 + 16 ∧ (recordHeader.drop 0x20).take 12 = toLe 12 9 ∧
    gcmOpen wkey.key (toLe 12 9) recordHeader recordBody = some (toLe 32 1234) := by
  refine ⟨weights_starts _ (by decide +kernel), by decide +kernel, ?_, by decide +kernel, by decide +kernel, by decide +kernel,
    by decide +kernel, by decide +kernel, ?_, recordBody_length, by decide +kernel, gcmOpen_gcmSeal _ _ _ _ keys5.1 keys5.2⟩
  · rw [weights_read, record_reads.1]
  · rw [weights_read, record_reads.2]

theorem witness_TenancyEvents_more :
    ({ weightsUp [] with weights := { (weightsUp []).weights with completions := [⟨7, 0, 0, 0⟩] } } : State).weights.completions =
      [⟨7, 0, 0, 0⟩] ∧ ((weightsUp []).queue 5).level + 2 ≤ ((weightsUp []).queue 5).cap ∧
    ({ up with keep := { up.keep with lc := .sealed } } : State).keep.lc = .sealed ∧ up.boot.stage ≠ .keep := by decide +kernel

/-- The module in a stage of start-up. -/
def staged (x : BootStage) : State := { State.reset with boot := { State.reset.boot with stage := x } }

theorem witness_ResetAndStartUp : Takes up .global ∧ up.initializing = false ∧ up.ten.scrubbing = false ∧ up.keep.lc ≠ .tamperLock ∧
    up.boot.fatal = 0 ∧ up.boot.stage = .ready ∧ up.lcHold = false ∧ up.power.on = true ∧ up.power.tripped = false ∧
    up.power.inputOk = true ∧ up.keepCmd.busy = false ∧ up.inService = true ∧ up.fabric.retired.length + 1 ≤ 4096 ∧
    (staged .memtest).boot.stage = .memtest ∧ (staged .memtest).boot.warmKeep = false ∧ (staged .memtest).power.on = true ∧
    (staged .fill).boot.stage = .fill ∧ (staged .fwLoad).boot.stage = .fwLoad ∧
    (if (staged .fwLoad).boot.recordB then (staged .fwLoad).boot.slotB else (staged .fwLoad).boot.slotA).holds = .valid ∧
    (staged .tamrik).boot.stage = .tamrik := by decide +kernel

theorem witness_PowerEvents : (up.reg .reef 0 0x44).toNat.testBit 3 = false ∧ up.power.on = true ∧
    ({ up with reef := { up.reef with exiting := true, level := 2 } } : State).reef.level ≠ 4 ∧
    ({ up with power := { up.power with tripNear := [.plinth] } } : State).power.tripNear = [.plinth] ∧ tempFits .plinth = true ∧
    tempTrips .plinth 130 = true ∧ Takes up .reef ∧ Takes up .stroke ∧ up.pageLocked .stroke 0 = false ∧ up.tt.halted = false ∧
    (up.reg .stroke 0 0x4C).toNat < 16 ∧ up.power.inputOk = true ∧ up.scrubRuns = true ∧
    (match up.place (32 * 5) with | .hbm _ _ => true | _ => false) = true ∧ up.ecc.get 0 5 = 0 ∧ decodeDelta 1 = .corrected 0 1 := by
  decide +kernel

/-! ### Witnesses: the host link, Telltale, completions and queue pair names (12, 16, 19, 00 R722) -/

/-- The PCIe link up, Bus Master Enable and MSI-X enabled, vector 1 unmasked. -/
def linkUp : State :=
  { up with pcie := { up.pcie with linkUp := true, bme := true, msixEn := true, msix := [(1, { addr := 0xFEE00000, data := 1, masked := false })] } }

/-- A page event that vector 1 reports. -/
def evented : State := (linkUp.setReg .global 0 0x14 1).setReg .global 0 0x18 1

theorem witness_HostLinkResults_link : linkUp.power.on = true ∧ linkUp.pcie.linkUp = true ∧ 5 ≤ (linkUp.reg .pcie 0 0x44).toNat % 8 ∧
    ({ linkUp with bosun := { up.bosun with busy := true } } : State).bosun.busy = true ∧
    (∃ v ∈ List.range 68, v < 2048 ∧ evented.vectorHolds v = true) ∧ evented.vectorsHeld = false ∧
    (evented.pcie.msix.get {} 1).masked = false ∧ evented.pcie.funcMask = false ∧ evented.pcie.msixEn = true ∧ evented.pcie.bme = true := by
  decide +kernel

theorem witness_HostLinkResults_pages : Takes linkUp .pcie ∧ linkUp.pageLocked .pcie 0 = false ∧ (0xD : W32).toNat.testBit 3 = true ∧
    (0xD : W32).toNat % 8 = 5 ∧ linkUp.inService = true ∧ linkUp.pcie.d3hot = false ∧ linkUp.reef.level < 2 ∧
    linkUp.bar2Open (linkUp.pcie.bar2Base + 0x10000) = true ∧ (linkUp.pcie.bar2Base + 0x10000) % 32 + 4 ≤ 32 ∧
    (∀ p ∈ [Page.muster, .keep, .bosun, .halyard, .eth, .pcie, .telltale, .hbmc, .mortar, .spill], Takes linkUp p ∧ 0 < p.count) ∧
    Page.eth.pageCtlIgnored = false ∧ pageOf 0x40 = some (.global, 0) ∧
    (findReg .global 0x54).any (fun d => !d.companion && !d.latches) = true := by decide +kernel

theorem witness_HostLinkResults_reads : (linkUp.atCycle 64).readBytes 6 (linkUp.pcie.bar2Base + 0x10000) 4 =
    (memRead (linkUp.atCycle 64).mem (linkUp.pcie.bar2Base + 0x10000) 4, false, linkUp.atCycle 64) :=
  State.readBytes_plain _ _ _ _ (unwatched_of _ rfl) fun _ _ _ => ⟨rfl, rfl⟩

theorem witness_IdcodeReads : up.tapLive = true := by decide +kernel

/-- A token of a signer, signed by the key of the seed 21; the keys and the unlock registers that hold them. -/
def tokenKey : List Byte := toLe 32 0xc9036b0ff9cf4285ed3dbecdade5be2c72638ad1b5c01d918e2893a64e9553e
def tokenMsg (signer : Nat) : List Byte :=
  bytesAt 8 [(0, 4, 0x4D365554), (4, 2, 1), (6, 1, signer)] ++ up.keep.deviceHash ++ toLe 4 1 ++ toLe 4 0 ++ toLe 8 1000 ++ toLe 8 0
def tokenSig (signer : Nat) : List Byte :=
  toLe 64 (if signer = 1 then 0x54b20ecbce85ba6fbb0b6cc3f45b677adfad48ff18672bb90b5398f95c2f64e2e678e0ecc0c3b75725d61e7c1026e9f6be910275ca70acf4c01f6d45c59a666
    else 0x23cf95d7c02dd5195299f620702b806c0a417744ea0b66712909302bf961157f74194ad807ffbb14912c22d6ae302284a06694eb69b9e0e237df33f1c6727c7)
def debugUp (lc : LifeCycle) (tt : Telltale) : State :=
  { up with
    keep := { up.keep with lc := lc, wellothKey := some tokenKey, rootA := { up.keep.rootA with debugKey := tokenKey } }
    tt := tt }
def tokened (lc : LifeCycle) (signer : Nat) : State :=
  debugUp lc { token := (List.range 32).map fun k => (k, BitVec.ofNat 32 (leAt (tokenMsg signer ++ tokenSig signer) (4 * k) 4)) }

theorem witness_TelltaleResults_unlock : ∀ e ∈ [(LifeCycle.returned, 2), (.sealed, 1)], DebugServed (tokened e.1 e.2) ∧
    (tokened e.1 e.2).tokenBytes = tokenMsg e.2 ++ tokenSig e.2 ∧ (tokened e.1 e.2).tt.halted = false := by decide +kernel

theorem witness_TelltaleResults_token : ∀ e ∈ [(LifeCycle.returned, 2), (.sealed, 1)],
    (tokened e.1 e.2).unlockCheck (tokenMsg e.2 ++ tokenSig e.2) = 8 := by decide +kernel

theorem witness_TelltaleResults : (debugUp .opened {}).tapLive = true ∧ DebugServed (debugUp .opened {}) ∧
    DebugServed (debugUp .opened { session := true }) ∧ (debugUp .opened { session := true }).pinsAllowed = true ∧
    (debugUp .opened { session := true }).ttAccess ≠ 0 ∧ Clocked (debugUp .opened { session := true }) ∧
    (debugUp .opened { session := true }).inCrew = false ∧ (debugUp .opened { session := true }).ttMem.busy = false ∧
    dbgPlace 0x44 ≠ .unmapped ∧ (findReg .telltale 0x50).any (fun d => !d.companion && !d.latches) = true ∧
    DebugServed (debugUp .opened { session := true, halted := true }) ∧ up.guarded = false ∧
    (debugUp .opened { session := true, halted := true }).rigOn
      (((debugUp .opened { session := true, halted := true }).reg .telltale 0 0x50).toNat % 2 ^ 13) = some (1, rig1, 0) := by decide +kernel

/-- The block of REGION_ALLOC: 2 MiB of TENANT memory in one Pier. -/
def allocArgs : List W32 := (List.range 64).map fun k => if k = 0 then 0x11 else if k = 2 then 0x200000 else 0

/-- A command in progress on each page. -/
def busyAll : State :=
  { claimedUp with
    muster := { busy := true, op := 7, sub := 0, args := [0, 0x10000, 0] }
    rounds := { blocks := [(0, { round5 .retired with published := true })] }
    bosun := { busy := true, op := 4, args := allocArgs }
    halyardCmd := { busy := true, op := 7 }
    keepCmd := { busy := true, op := 5, sub := 3, args := [0, 0, 0] }
    keep := { up.keep with slots := [(3, wkey)] }
    spillCmd := [(0, { busy := true, op := 1, args := [9, 8] })]
    mtCmd := { busy := true, op := 3 }
    ttMem := { busy := true, op := 2, args := [0x10000, 0, 1, 2, 3, 4, 5, 6, 7, 8] } }

theorem witness_CommandCompletion : busyAll.power.on = true ∧ (busyAll.round 0).published = true ∧
    busyAll.tenantRange 0x10000 (busyAll.round 0).d.slots 1 = true ∧ busyAll.bosunGate 4 (leAt busyAll.bosunArgs 0 1) = none ∧
    busyAll.regionAlloc.1 = 0 ∧ busyAll.keep.slots.find? 3 = some wkey ∧ (busyAll.spillCmdOf 0).busy = true ∧
    busyAll.spillOutcome 1 9 8 = 0 ∧ busyAll.mtCmd.busy = true ∧ busyAll.tagAt 0x10000 = 1 ∧
    (match busyAll.place 0x10000 with | .hbm _ _ => true | _ => false) = true := by decide +kernel

theorem witness_QpnNames : (9 : Nat) < 2 ^ 16 ∧ (0xFF : Nat) < 2 ^ 8 := by decide

/-! ### Ill-formed commands: one for each check of WellFormed -/

theorem test_wf_cycle : (Instr.freeRun 2048).wf = false ∧ (Instr.freeRun 2047).wf = true := by decide
theorem test_wf_port : (Instr.ethLinkUp 8).wf = false := by decide
theorem test_wf_pier : (Instr.pierDmaStart 6).wf = false := by decide
theorem test_wf_course : (Instr.ciLadd 96 false).wf = false := by decide
theorem test_wf_ashlar : (Instr.drainReq 4800 0 64).wf = false ∧ (Instr.drainReq 0 64 64).wf = false := by decide
theorem test_wf_block : (Instr.msDrop 16 64).wf = false := by decide
theorem test_wf_queue : (Instr.winDataRead 16384 64 32).wf = false ∧ (Instr.winDataRead 0 64 0).wf = false := by decide
theorem test_wf_spill_page : (Instr.spConfigure 16 64).wf = false := by decide
theorem test_wf_stack : (Instr.tempMaxClr 12).wf = false := by decide
theorem test_wf_word : (Instr.bedWriteBack (2 ^ 43)).wf = false := by decide
theorem test_wf_mortar : (Instr.mortarAdd 5184 64).wf = false := by decide
theorem test_wf_qp : (Instr.ingressMove 66560).wf = false := by decide
theorem test_wf_prio : (Instr.rxFrame 0 64 0 8 0 0 0 0 true).wf = false := by decide
theorem test_wf_member : (Instr.haDecision 256 []).wf = false := by decide
theorem test_wf_client : (Instr.secretReconstruct 0 false 4194304).wf = false := by decide
theorem test_wf_key_slot : (Instr.kpLoad 64).wf = false := by decide
theorem test_wf_sensor : (Instr.tamperAlarm 7 true).wf = false ∧ (Instr.thermalReading (.hbm 12) 0 false).wf = false := by decide
theorem test_wf_vector : (Instr.msixSend 68).wf = false := by decide
theorem test_wf_bar : (Instr.registerWrite 1 0 4 64 0).wf = false ∧ (Instr.registerWrite 0 0 4097 64 0).wf = false := by decide
theorem test_wf_page : (Instr.evtLatchWrite .eth 8 0x14 0).wf = false ∧ (Instr.evtLatchWrite .eth 7 4096 0).wf = false := by decide
theorem test_wf_link_training : (Instr.pcieLinkUp 7 4 true).wf = false ∧ (Instr.pcieLinkUp 5 3 true).wf = false := by decide
theorem test_wf_fatal : (Instr.fatal 2).wf = false := by decide
theorem test_wf_progress : (Instr.inputOutOfRange 6).wf = false := by decide
theorem test_wf_debug : (Instr.tapExtest (2 ^ 12)).wf = false ∧ (Instr.ttDbgRead 0 64).wf = false ∧ (Instr.ttIsoStep 2048 none).wf = false ∧
    (Instr.ttIsoStep 1 (some 64)).wf = false := by decide
theorem test_wf_link : (Instr.linkDown (.course 0 4)).wf = false ∧ (Instr.linkDown (.plinth 6)).wf = false := by decide
theorem test_wf_slot : (Instr.slNop { u0 with pos := 64 } {}).wf = false ∧ (Instr.slNop { u0 with cycle := 63 } {}).wf = false ∧
    (Instr.slNop u0 { fmt := 16 }).wf = false ∧ (Instr.slNop u0 {}).wf = true := by decide

/-! ### Single slots, worked out by hand from the rules of 04 -/

/-- The first core with registers 4, 5 and 6, and register 1 set to `old`. -/
def regs456 (a b c : BitVec 128) : State :=
  { up with cores := [(coreKey 1 0 0, { g := [(4, a), (5, b), (6, c)] })] }

/-- Register `k` of the first core after a command. -/
def gAfter (i : Instr) (s : State) (k : Nat) : Option Nat := (nextOf (exec i s)).map fun t => ((t.slotCore u0).g.get 0 k).toNat

/-- R184, R185: a sum wraps; SAT clamps the sum of I32 elements to the largest. -/
theorem test_add_wraps : gAfter (.slAdd u0 (abc 1)) (regs456 0x7FFFFFFF 1 0) 1 = some 0x80000000 ∧
    gAfter (.slAdd u0 { abc 2 with sat := true }) (regs456 0x7FFFFFFF 1 0) 1 = some 0x7FFFFFFF := by decide +kernel

/-- R184, R185: SUB of two elements; the difference below the least is clamped under SAT. -/
theorem test_sub_saturates : gAfter (.slSub u0 { abc 2 with sat := true }) (regs456 0x80000000 1 0) 1 = some 0x80000000 ∧
    gAfter (.slSub u0 (abc 1)) (regs456 3 5 0) 1 = some 0xFFFFFFFE := by decide +kernel

/-- R170: only the lanes that LANES names are written. -/
theorem test_lanes : gAfter (.slAdd u0 { abc 1 with lanes := 2 }) (regs456 0x5_00000003 0x7_00000001 0) 1 = some 0xC_00000000 := by
  decide +kernel

/-- R191: the carry-less product of 3 and 3 is 5. -/
theorem test_clmul : gAfter (.slClmul32 u0 (abc 0)) (regs456 3 3 0) 1 = some 5 := by decide +kernel

/-- FIPS 197, section 5.1.1: the S-box takes 0x53 to 0xED, and 0x00 to 0x63. -/
theorem test_sbox : (gAfter (.slSbox8 u0 { abc 0 with srcb := 0, lanes := 1 }) (regs456 0x53 0 0) 1) = some 0x636363ED := by decide +kernel

/-- FIPS 197, section 5.1.3: the column db 13 53 45 becomes 8e 4d a1 bc. -/
theorem test_mixcol : gAfter (.slMixcol u0 { abc 0 with srcb := 0, lanes := 1 }) (regs456 0x455313db 0 0) 1 = some 0xbca14d8e := by
  decide +kernel

/-- IEEE 754: 1.5 + 2.25 is 3.75 in F32; 1 × −2 is −2. -/
theorem test_float : gAfter (.slFadd u0 { abc 5 with lanes := 1 }) (regs456 0x3FC00000 0x40100000 0) 1 = some 0x40700000 ∧
    gAfter (.slFmul u0 { abc 5 with lanes := 1 }) (regs456 0x3F800000 0xC0000000 0) 1 = some 0xC0000000 := by decide +kernel

/-- R184: NOP does nothing, and the core goes on to its next slot. -/
theorem test_nop : (nextOf (exec (.slNop u0 {}) up)).map (fun t => (t.slotCore u0).pc) = some 1 := by decide +kernel

/-! ### The spec's own worked examples -/

/-- 04, "An encoded slot word": MMADQ in all four lanes under P1. -/
theorem test_slot_word : decodeSlot 0x00002F0188241433 =
    some (.mmadq, { fmt := 4, psel := 1, dst := 4, srca := 1, srcb := 2, srcc := 3, lanes := 15, modsel := 2 }) := by decide +kernel

/-- 13: address 0x0030_0000_1000 in PIER mode and in MODULE mode. -/
theorem test_place : placeOf false 0x3000001000 = .hbm 65 0 ∧ placeOf true 0x3000001000 = .hbm 1 0x20000000 := by decide +kernel

/-- 11: the offset of the leader's and the member's strokes from the four stamps. -/
theorem test_stroke_offset : strokeOffset (1000000 * 2048 + 100) (4200000 * 2048 + 988) (4200000 * 2048 + 1500) (1000001 * 2048 + 564) =
    some 3200000 := by decide +kernel

/-- 08: LADD of levels 12 and 9 has level 21, and LSCALE by 5 of level 1 has level 25. -/
theorem test_levels : testLevel 0x01 0 12 9 0 = 21 ∧ testLevel 0x04 5 1 0 0 = 25 := by decide

/-- 16: the page of Ashlar 2,417. -/
theorem test_page : pageOf 0x1971000 = some (.ashlar, 2417) := by decide +kernel

/-- 08: S is 17 for N_g = 4,096 and K = 1. -/
theorem test_span : KeySet.span ⟨0, 0x10, 0, 0, 0, 1, 12, 0, 0⟩ = 17 := by decide

/-! ### Published vectors of the algorithms that the rules name -/

/-- FIPS 180-4: SHA-256 of "abc". -/
theorem test_sha256 : sha256 (ascii "abc") = toBe 32 0xba7816bf8f01cfea414140de5dae2223b00361a396177a9cb410ff61f20015ad := by decide +kernel

/-- FIPS 197, appendix C.3: AES-256. -/
theorem test_aes : aesEnc (aesKeys ((List.range 32).map (BitVec.ofNat 8))) (toBe 16 0x00112233445566778899aabbccddeeff) =
    toBe 16 0x8ea2b7ca516745bfeafc49904b496089 := by decide +kernel

/-- RFC 4231, case 2: HMAC-SHA-256. -/
theorem test_hmac : hmac (ascii "Jefe") (ascii "what do ya want for nothing?") =
    toBe 32 0x5bdcc146bf60754e6a042426089575c75a003f089d2739839dec58b964ec3843 := by decide +kernel

/-- RFC 8439, section 2.3.2: the first words of a ChaCha20 block. -/
theorem test_chacha : (chachaBlock ((List.range 32).map (BitVec.ofNat 8)) 1 (toBe 12 0x000000090000004a00000000)).take 16 =
    toBe 16 0x10f1e7e4d13b5915500fdd1fa32071c4 := by decide +kernel

/-- RFC 8032, section 7.1, test 1: an Ed25519 public key. -/
theorem test_ed25519 : ed25519Pub (toBe 32 0x9d61b19deffd5a60ba844af492ec2cc44449c5697b326919703bac031cae7f60) =
    toBe 32 0xd75a980182b10ab7d54bfed3c964073a0ee172f3daa62325af021a68f707511a := by decide +kernel

/-- 13 R512 to R514: a wrong data byte is found at its place, and the poison pattern is poison. -/
theorem test_ecc : decodeDelta 0 = .clean ∧ decodeDelta 1 = .corrected 0 1 ∧ decodeDelta poisonDelta = .poison := by decide +kernel

end Sys2Proof.Tests
end

section
/-!
PROOFS. Which queue pair a QPN names (12 R461): what its two fields give, case by case over the epoch, and O60.
-/

namespace Sys2Proof.Proofs.Qpn

open Sys2Proof Sys2Proof.Machine

/-- The index and the epoch are the two fields of a QPN. -/
theorem qpSlot_fields {index epoch : Nat} (hi : index < 2 ^ 16) (he : epoch < 2 ^ 8) :
    qpSlot (index + 2 ^ 16 * epoch) =
      if epoch = 0 then none
      else if epoch = 255 then (if index < 1024 then some (65536 + index, epoch) else none)
      else some (index, epoch) := by
  have hindex : (index + 2 ^ 16 * epoch) % 2 ^ 16 = index := by omega
  have hepoch : (index + 2 ^ 16 * epoch) / 2 ^ 16 % 2 ^ 8 = epoch := by omega
  simp only [qpSlot, hindex, hepoch]

theorem qpSlot_epoch_zero {index : Nat} (hi : index < 2 ^ 16) : qpSlot (index + 2 ^ 16 * 0x00) = none := by
  rw [qpSlot_fields hi (by decide), if_pos rfl]

theorem qpSlot_connected {index epoch : Nat} (hi : index < 2 ^ 16) (hlo : 0x01 ≤ epoch) (hhi : epoch ≤ 0xFE) :
    qpSlot (index + 2 ^ 16 * epoch) = some (index, epoch) := by
  rw [qpSlot_fields hi (by omega), if_neg (by omega), if_neg (by omega)]

theorem qpSlot_datagram {index : Nat} (hi : index ≤ 1023) :
    qpSlot (index + 2 ^ 16 * 0xFF) = some (65536 + index, 0xFF) := by
  rw [qpSlot_fields (by omega) (by decide), if_neg (by decide), if_pos rfl, if_pos (by omega)]

theorem qpSlot_datagram_beyond {index : Nat} (hi : index < 2 ^ 16) (hbeyond : 1023 < index) :
    qpSlot (index + 2 ^ 16 * 0xFF) = none := by
  rw [qpSlot_fields hi (by decide), if_neg (by decide), if_pos rfl, if_neg (by omega)]

/-- A QPN that names no slot names no queue pair. -/
theorem qpOf_of_slot_none {s : State} {qpn : Nat} (h : qpSlot qpn = none) : s.qpOf qpn = none := by
  simp only [State.qpOf, h]

/-- A QPN that names a slot names the queue pair there if that one is live and of the QPN's epoch (12 R462). -/
theorem qpOf_of_slot_some {s : State} {qpn slot epoch : Nat} (h : qpSlot qpn = some (slot, epoch)) :
    s.qpOf qpn = if (s.qp slot).live = true ∧ (s.qp slot).epoch = epoch then some (slot, s.qp slot) else none := by
  simp only [State.qpOf, h]

/-- Settles O60, by the slot that the index and the epoch give in each range of the epoch. -/
theorem qpnNames : Obligations.QpnNames := by
  unfold Obligations.QpnNames
  intro s index epoch hindex _
  refine ⟨?none, ?connected, ?datagram, ?beyond⟩
  case none =>
    rintro rfl
    exact qpOf_of_slot_none (qpSlot_epoch_zero hindex)
  case connected =>
    intro hlo hhi
    exact qpOf_of_slot_some (qpSlot_connected hindex hlo hhi)
  case datagram =>
    rintro rfl hle
    exact qpOf_of_slot_some (qpSlot_datagram hle)
  case beyond =>
    rintro rfl hlt
    exact qpOf_of_slot_none (qpSlot_datagram_beyond hindex hlt)

end Sys2Proof.Proofs.Qpn
end

section
/-!
PROOFS. The identification register of the TAP (19 R673): the rules of a TAP row and of an instruction that is allowed, and O57.
-/

namespace Sys2Proof.Proofs.Idcode

open Sys2Proof Sys2Proof.Machine

/-- A TAP row acts while the TAP answers (19 R671). -/
theorem tapRow_of_live {s : State} (h : s.tapLive = true) (f : State → State) : tapRow s f = .next (f s) := by
  rw [tapRow, if_pos h]

/-- An instruction that is allowed is selected, and only the instruction register moves (19 R672). -/
theorem tapSelect_allowed (s : State) (code : Nat) : s.tapSelect code true = { s with tt := { s.tt with ir := code } } :=
  if_pos rfl

/-- What the debug port shifts out does not wait for Bus Master Enable: it is no memory request to the host. -/
theorem emit_debug (s : State) (status : Nat) (data : W32) :
    s.emit (.debug status data) = { s with out := .debug status data :: s.out } :=
  s.emit_plain _ rfl

/-- IDCODE as the dispatch gives it: a TAP row that selects the identification register and shifts it out. -/
theorem exec_tapIdcode (s : State) :
    exec .tapIdcode s = tapRow s fun t => (t.tapSelect 0x02 true).emit (.debug 0 0x16601A6D) := rfl

/-- Version, part number, manufacturer code and bit 0 of the identification register. -/
theorem idcode_fields : bits (0x16601A6D : W32).toNat 28 4 = 0x1 ∧ bits (0x16601A6D : W32).toNat 12 16 = 0x6601 ∧
    bits (0x16601A6D : W32).toNat 1 11 = 0x536 ∧ bits (0x16601A6D : W32).toNat 0 1 = 1 := by decide

/-- Settles O57: the fields of the word, and the word shifted out by a TAP that answers. -/
theorem idcodeReads : Obligations.IdcodeReads := by
  unfold Obligations.IdcodeReads
  obtain ⟨hversion, hpart, hmaker, hone⟩ := idcode_fields
  refine ⟨0x16601A6D, rfl, hversion, hpart, hmaker, hone, fun s hlive => ?_⟩
  rw [exec_tapIdcode, tapRow_of_live hlive, tapSelect_allowed, emit_debug]

end Sys2Proof.Proofs.Idcode
end

section
/-!
PROOFS. The slot word (04 R179): a word is its fields packed one above the other, each field of a packed word reads back, and O29.
-/

namespace Sys2Proof.Proofs.SlotWord

open Sys2Proof Sys2Proof.Machine

/-- Fields of a word, the lowest first: each its width and its value. -/
abbrev Fields := List (Nat × Nat)

/-- The word that packs its fields one above the other. -/
def pack : Fields → Nat
  | [] => 0
  | (w, v) :: r => v + 2 ^ w * pack r

/-- Every value fits its width. -/
def Fits (l : Fields) : Prop := ∀ f ∈ l, f.2 < 2 ^ f.1

theorem bits_zero (v w : Nat) : bits v 0 w = v % 2 ^ w := rfl

/-- Bits above the lowest field are bits of the rest. -/
theorem bits_add_mul {v w : Nat} (h : v < 2 ^ w) (x n m : Nat) : bits (v + 2 ^ w * x) (w + n) m = bits x n m := by
  have hrest : (v + 2 ^ w * x) / 2 ^ w = x := by
    rw [Nat.add_mul_div_left _ _ (Nat.two_pow_pos w), Nat.div_eq_of_lt h, Nat.zero_add]
  simp only [bits, Nat.shiftRight_eq_div_pow, Nat.pow_add, ← Nat.div_div_eq_div_mul, hrest]

/-- Field `i` of a packed word stands above the widths of the fields before it. -/
theorem bits_pack {l : Fields} (hl : Fits l) {i o w v : Nat} (hi : l[i]? = some (w, v))
    (ho : ((l.take i).map Prod.fst).sum = o) : bits (pack l) o w = v := by
  subst ho
  induction l generalizing i with
  | nil => simp at hi
  | cons f r ih =>
    obtain ⟨w₀, v₀⟩ := f
    have hf : v₀ < 2 ^ w₀ := hl (w₀, v₀) List.mem_cons_self
    have hr : Fits r := fun x hx => hl x (List.mem_cons_of_mem _ hx)
    cases i with
    | zero =>
      obtain ⟨rfl, rfl⟩ : w₀ = w ∧ v₀ = v := by simpa using hi
      simp [pack, bits_zero, Nat.mod_eq_of_lt hf]
    | succ i =>
      simp only [List.take_succ_cons, List.map_cons, List.sum_cons, pack]
      rw [bits_add_mul hf]
      exact ih hr (by simpa using hi)

/-- A field of one bit, as the truth value it holds. -/
theorem testBit_of_bits {v i : Nat} {b : Bool} (h : bits v i 1 = b2n b) : v.testBit i = b := by
  rw [Nat.testBit_eq_decide_div_mod_eq]
  simp only [bits, Nat.shiftRight_eq_div_pow, Nat.pow_one] at h
  rw [h]
  cases b <;> rfl

/-- The fields of a slot word under an opcode, with its two reserved fields zero (R179). -/
def slotFields (code : Nat) (w : Slot) : Fields :=
  [(8, code), (4, w.fmt), (2, w.psel), (1, b2n w.pinv), (1, b2n w.bimm), (5, w.dst), (5, w.srca), (5, w.srcb), (5, w.srcc),
   (3, w.acc), (1, 0), (4, w.lanes), (5, w.modsel), (2, w.rnd), (1, b2n w.sat), (2, w.pdst), (2, 0), (8, w.subop),
   (32, w.imm32.toNat), (16, w.addr16), (6, w.qreg), (2, w.idx), (8, w.stride)]

/-- Their widths, the lowest first. -/
def slotWidths : List Nat := [8, 4, 2, 1, 1, 5, 5, 5, 5, 3, 1, 4, 5, 2, 1, 2, 2, 8, 32, 16, 6, 2, 8]

theorem slotFields_widths (code : Nat) (w : Slot) : (slotFields code w).map Prod.fst = slotWidths := rfl

theorem slotFields_fit {code : Nat} {w : Slot} (hc : code < 2 ^ 8) (hw : slotFits w = true) : Fits (slotFields code w) := by
  have hb (b : Bool) : b2n b < 2 ^ 1 := by cases b <;> decide
  simp only [slotFits, Bool.and_eq_true, decide_eq_true_eq] at hw
  have hi := w.imm32.isLt
  simp only [Fits, slotFields, List.forall_mem_cons, List.not_mem_nil, false_imp_iff, implies_true, and_true]
  refine ⟨hc, ?_⟩
  have := hb w.pinv
  have := hb w.bimm
  have := hb w.sat
  omega

/-- The word of an operation packs its fields. -/
theorem encodeSlot_eq_pack {op : Op} {row : OpRow} (h : opRow op = some row) (w : Slot) :
    encodeSlot op w = pack (slotFields row.code w) := by
  simp only [encodeSlot, h, slotFields, pack]
  ring

/-- The opcode of a row fits 8 bits and names no other row. -/
theorem opTable_code {op : Op} {row : OpRow} (h : opRow op = some row) :
    row.op = op ∧ row.code < 2 ^ 8 ∧ opTable.find? (fun r => decide (r.code = row.code)) = some row := by
  have hall : ∀ r ∈ opTable, r.code < 2 ^ 8 ∧ opTable.find? (fun x => decide (x.code = r.code)) = some r := by decide +kernel
  have hop : row.op = op := by simpa using List.find?_some h
  exact ⟨hop, hall row (List.mem_of_find?_eq_some h)⟩

/-- Settles O29: each field of the packed word reads back, and the opcode names the operation's row. -/
theorem slotWordRoundTrip : Obligations.SlotWordRoundTrip := by
  unfold Obligations.SlotWordRoundTrip
  intro op w hop hw
  obtain ⟨row, hrow⟩ := Option.isSome_iff_exists.mp hop
  obtain ⟨hrowOp, hcode, hfind⟩ := opTable_code hrow
  have hfit := slotFields_fit hcode hw
  have hfield (i o : Nat) {n v : Nat} (h : (slotFields row.code w)[i]? = some (n, v)) (ho : (slotWidths.take i).sum = o) :
      bits (pack (slotFields row.code w)) o n = v := bits_pack hfit h (by rwa [List.map_take, slotFields_widths])
  rw [encodeSlot_eq_pack hrow]
  generalize pack (slotFields row.code w) = v at hfield
  have hreserved : ¬ (bits v 39 1 ≠ 0 ∨ bits v 54 2 ≠ 0) := by
    rw [hfield 10 39 rfl rfl, hfield 16 54 rfl rfl]; decide
  have himm : BitVec.ofNat 32 (v >>> 64) = w.imm32 := by
    apply BitVec.eq_of_toNat_eq
    rw [BitVec.toNat_ofNat, ← hfield 18 64 rfl rfl, bits]
  simp only [decodeSlot, if_neg hreserved, himm, hfield 0 0 rfl rfl, hfind, hrowOp, hfield 1 8 rfl rfl, hfield 2 12 rfl rfl,
    testBit_of_bits (hfield 3 14 rfl rfl), testBit_of_bits (hfield 4 15 rfl rfl), hfield 5 16 rfl rfl, hfield 6 21 rfl rfl,
    hfield 7 26 rfl rfl, hfield 8 31 rfl rfl, hfield 9 36 rfl rfl, hfield 11 40 rfl rfl, hfield 12 44 rfl rfl,
    hfield 13 49 rfl rfl, testBit_of_bits (hfield 14 51 rfl rfl), hfield 15 52 rfl rfl, hfield 17 56 rfl rfl,
    hfield 19 96 rfl rfl, hfield 20 112 rfl rfl, hfield 21 118 rfl rfl, hfield 22 120 rfl rfl]

end Sys2Proof.Proofs.SlotWord
end

section
/-!
PROOFS. Rules of the slots that change only their own core (04 R179 to R182): what a valid word says of its fields, the width of an
operand, and when two meanings of a slot agree.
-/

namespace Sys2Proof.Proofs.SlotRules

open Sys2Proof Sys2Proof.Machine

/-! ### Fields of a valid word -/

theorem slotOk_row {op : Op} {w : Slot} (h : slotOk op w = true) : ∃ row, opRow op = some row ∧ row.ok w = true := by
  unfold slotOk at h
  split at h
  · next row hrow => exact ⟨row, hrow, h⟩
  · simp at h

/-- FMT and SUBOP of a valid word are ones that the operation's row lists (R181). -/
theorem slotOk_listed {op : Op} {w : Slot} {row : OpRow} (hrow : opRow op = some row) (h : slotOk op w = true) :
    w.fmt ∈ row.fmts ∧ w.subop ∈ row.subs := by
  obtain ⟨row', hrow', hok⟩ := slotOk_row h
  obtain rfl : row = row' := Option.some.inj (hrow.symm.trans hrow')
  simp only [OpRow.ok, Bool.and_eq_true, List.contains_iff_mem] at hok
  simp only [hok, and_self]

/-- SAT of a valid word is set only in formats that take it. -/
theorem slotOk_sat {op : Op} {w : Slot} {row : OpRow} (hrow : opRow op = some row) (h : slotOk op w = true) :
    w.fmt ∈ row.satFmts ∨ w.sat = false := by
  obtain ⟨row', hrow', hok⟩ := slotOk_row h
  obtain rfl : row = row' := Option.some.inj (hrow.symm.trans hrow')
  simp only [OpRow.ok, Bool.and_eq_true] at hok
  simpa only [Bool.or_eq_true, Bool.not_eq_true', List.contains_iff_mem] using
    (by simp only [hok] : (row.satFmts.contains w.fmt || !w.sat) = true)

/-- The end of a LOOP's body is a slot number (R182). -/
theorem slotOk_loop_addr {w : Slot} (h : slotOk .loop w = true) : w.addr16 < 512 := by
  obtain ⟨row, hrow, hok⟩ := slotOk_row h
  obtain rfl : _ = row := Option.some.inj hrow
  simp only [OpRow.ok, Bool.and_eq_true, if_true] at hok
  exact of_decide_eq_true (by simp only [hok])

/-! ### Widths of the operands -/

theorem bits_lt (v lo w : Nat) : bits v lo w < 2 ^ w := Nat.mod_lt _ (Nat.two_pow_pos w)

theorem lane_lt (c : Core) (r i : Nat) : c.lane r i < 2 ^ 32 := bits_lt _ _ _

theorem opA_lt (c : Core) (w : Slot) (i : Nat) : c.opA w i < 2 ^ 32 := lane_lt c _ i

theorem opB_lt (c : Core) (w : Slot) (i : Nat) : c.opB w i < 2 ^ 32 := by
  unfold Core.opB; split
  · exact w.imm32.isLt
  · exact lane_lt c _ i

theorem opA64_lt (c : Core) (w : Slot) (e : Nat) : c.opA64 w e < 2 ^ 64 := bits_lt _ _ _

theorem accLane_lt (c : Core) (a i : Nat) : c.accLane a i < 2 ^ 64 := bits_lt _ _ _

/-! ### Two meanings of a slot -/

theorem valid_of_issues {s : State} {u : Issue} {op : Op} {w : Slot} {r : Rig} (h : Issues s u op w r) : slotOk op w = true := h.2.2.1

/-- A command whose meaning is a slot of its own core gives what that slot does. -/
theorem slotGives_of_exec {i : Issue → Slot → Instr} {op : Op} {f : Issue → Slot → Rig → Core → Core}
    (hexec : ∀ u w s, exec (i u w) s = coreSlot s u op w (f u w)) : SlotGives i op f :=
  fun u w s _ h => (hexec u w s).trans (coreSlot_of_issues h _)

/-- A slot of its own core, by what it leaves of the core before the core moves on. -/
theorem coreSlot_gives {s : State} {u : Issue} {op : Op} {w : Slot} {r : Rig} (h : Issues s u op w r) {g : Rig → Core → Core} {c : Core}
    (hg : g r (s.slotCore u) = c) : coreSlot s u op w g = .next ((s.issued u r).setCore (slotKey u) c.next) := by
  rw [coreSlot_of_issues h, hg]

/-- Lane writes agree where the values do. -/
theorem writeLanes_congr (c : Core) (w : Slot) {f g : Nat → Nat} (h : ∀ i, f i = g i) : c.writeLanes w f = c.writeLanes w g := by
  rw [funext h]

theorem accLanes_congr (c : Core) (w : Slot) {f g : Nat → Nat} (h : ∀ i, f i = g i) : c.accLanes w f = c.accLanes w g := by
  rw [funext h]

theorem writePairs_congr (c : Core) (w : Slot) {f g : Nat → Nat} (h : ∀ i, f i = g i) : c.writePairs w f = c.writePairs w g := by
  rw [funext h]

theorem writePred_congr (c : Core) (w : Slot) {f g : Nat → Bool} (h : ∀ i, f i = g i) : c.writePred w f = c.writePred w g := by
  rw [funext h]

end Sys2Proof.Proofs.SlotRules
end

section
/-!
PROOFS. Integer slots (04 R184, R185): the model computes on integers and wraps; each result in terms of the patterns, and O2.
-/

namespace Sys2Proof.Proofs.IntegerSlots

open Sys2Proof Sys2Proof.Machine Sys2Proof.Proofs.SlotRules

theorem laneInt_s32 (v : Nat) : laneInt 2 v = s32 v := rfl

theorem laneInt_u32 {fmt : Nat} (h : fmt ≠ 2) (v : Nat) : laneInt fmt v = (v : Int) := if_neg h

theorem s32_range (v : Nat) (h : v < 2 ^ 32) : -(2 ^ 31) ≤ s32 v ∧ s32 v < 2 ^ 31 := by
  unfold s32; split <;> omega

/-- A pattern is its signed value modulo 2^32. -/
theorem s32_emod (v : Nat) : s32 v % 2 ^ 32 = (v : Int) % 2 ^ 32 := by
  unfold s32; split <;> omega

/-- Wrapping an integer keeps its low bits as a pattern. -/
theorem wrapI_eq (n : Nat) (x : Int) : wrapI n x = (x % (2 : Int) ^ n).toNat := by
  simp [wrapI]

theorem wrapI_natCast (n x : Nat) : wrapI n (x : Int) = x % 2 ^ n := by
  unfold wrapI; omega

theorem addSat_add {w : Slot} {a b : Nat} (ha : a < 2 ^ 32) (hb : b < 2 ^ 32) :
    addSat w (laneInt w.fmt a + laneInt w.fmt b) =
      if !w.sat then (a + b) % 2 ^ 32
      else if w.fmt = 2 then (clampI (-(2 ^ 31)) (2 ^ 31 - 1) (s32 a + s32 b) % 2 ^ 32).toNat
      else min (a + b) (2 ^ 32 - 1) := by
  have hsa := s32_emod a
  have hsb := s32_emod b
  cases hsat : w.sat <;> by_cases hf : w.fmt = 2 <;>
    simp [addSat, hsat, hf, laneInt, wrapI_eq, clampI] <;> omega

theorem addSat_sub {w : Slot} {a b : Nat} (ha : a < 2 ^ 32) (hb : b < 2 ^ 32) :
    addSat w (laneInt w.fmt a - laneInt w.fmt b) =
      if !w.sat then (a + 2 ^ 32 - b) % 2 ^ 32
      else if w.fmt = 2 then (clampI (-(2 ^ 31)) (2 ^ 31 - 1) (s32 a - s32 b) % 2 ^ 32).toNat
      else a - b := by
  have hsa := s32_emod a
  have hsb := s32_emod b
  cases hsat : w.sat <;> by_cases hf : w.fmt = 2 <;>
    simp [addSat, hsat, hf, laneInt, wrapI_eq, clampI] <;> omega

/-- The upper half of a 64-bit product. -/
theorem mulhi_eq {fmt a b : Nat} (ha : a < 2 ^ 32) (hb : b < 2 ^ 32) :
    bits (wrapI 64 (laneInt fmt a * laneInt fmt b)) 32 32 =
      if fmt = 2 then (s32 a * s32 b / 2 ^ 32 % 2 ^ 32).toNat else a * b / 2 ^ 32 := by
  by_cases hf : fmt = 2
  · simp only [hf, laneInt_s32, if_true, wrapI_eq, bits, Nat.shiftRight_eq_div_pow]
    generalize s32 a * s32 b = p
    omega
  · have hprod : a * b < 2 ^ 32 * 2 ^ 32 := Nat.mul_lt_mul'' ha hb
    simp only [hf, laneInt_u32 hf, if_false, bits, Nat.shiftRight_eq_div_pow, ← Nat.cast_mul, wrapI_natCast]
    generalize a * b = p at *
    omega

theorem shr_eq {fmt a n : Nat} (ha : a < 2 ^ 32) :
    wrapI 32 (laneInt fmt a / (2 ^ n : Nat)) =
      if fmt = 2 then (s32 a / 2 ^ n % 2 ^ 32).toNat else a / 2 ^ n := by
  by_cases hf : fmt = 2
  · simp [hf, laneInt_s32, wrapI_eq]
  · have hle : a / 2 ^ n ≤ a := Nat.div_le_self _ _
    rw [if_neg hf, laneInt_u32 hf, ← Int.natCast_div, wrapI_natCast, Nat.mod_eq_of_lt (by omega)]

theorem min_eq {fmt a b : Nat} :
    (if laneInt fmt a ≤ laneInt fmt b then a else b) = if fmt = 2 then (if s32 a ≤ s32 b then a else b) else min a b := by
  by_cases hf : fmt = 2
  · simp only [hf, laneInt_s32, if_true]
  · simp only [hf, laneInt_u32 hf, if_false, Nat.cast_le, Nat.min_def]

theorem max_eq {fmt a b : Nat} :
    (if laneInt fmt a ≤ laneInt fmt b then b else a) = if fmt = 2 then (if s32 a ≤ s32 b then b else a) else max a b := by
  by_cases hf : fmt = 2
  · simp only [hf, laneInt_s32, if_true]
  · simp only [hf, laneInt_u32 hf, if_false, Nat.cast_le, Nat.max_def]

/-- An integer operation on lanes or pairs whose lane function agrees with `f`. -/
theorem intOp_eq {c : Core} {w : Slot} {f32' f64 : Nat → Nat → Nat} {f : Nat → Nat}
    (h : ∀ i, f32' (c.opA w i) (c.opB w i) = f i) :
    intOp c w f32' f64 =
      if w.fmt = 3 then c.writePairs w fun e => f64 (c.opA64 w e) (c.opB64 w e) else c.writeLanes w f := by
  simp only [intOp, funext h]

/-- Settles O2, operation by operation, from the results in terms of the patterns. -/
theorem slotIntegerResults : Obligations.SlotIntegerResults := by
  unfold Obligations.SlotIntegerResults
  refine ⟨?add, ?sub, ?mul, ?mulhi, ?mad, ?shl, ?shr, ?min, ?max⟩
  case add =>
    intro u w s r h
    change execSlAdd u w s = _
    rw [execSlAdd, coreSlot_of_issues h, intOp_eq fun i => addSat_add (opA_lt _ w i) (opB_lt _ w i)]
  case sub =>
    intro u w s r h
    change execSlSub u w s = _
    rw [execSlSub, coreSlot_of_issues h, intOp_eq fun i => addSat_sub (opA_lt _ w i) (opB_lt _ w i)]
  case mulhi =>
    intro u w s r h
    change execSlMulhi u w s = _
    rw [execSlMulhi, coreSlot_of_issues h, writeLanes_congr _ w fun i => mulhi_eq (opA_lt _ w i) (opB_lt _ w i)]
  case shr =>
    intro u w s r h
    change execSlShr u w s = _
    rw [execSlShr, coreSlot_of_issues h, intOp_eq fun i => shr_eq (opA_lt _ w i)]
  case min =>
    intro u w s r h
    change execSlMin u w s = _
    rw [execSlMin, coreSlot_of_issues h, intOp_eq fun _ => min_eq]
  case max =>
    intro u w s r h
    change execSlMax u w s = _
    rw [execSlMax, coreSlot_of_issues h, intOp_eq fun _ => max_eq]
  all_goals exact slotGives_of_exec fun _ _ _ => rfl

end Sys2Proof.Proofs.IntegerSlots
end

section
/-!
PROOFS. Bitwise, select, move, special-value and control slots (04 R182, R184, R185), O3 and O4.
-/

namespace Sys2Proof.Proofs.LogicSlots

open Sys2Proof Sys2Proof.Machine Sys2Proof.Proofs.SlotRules

/-- Clearing the bits of `b` in `a` takes their common bits off it. -/
theorem and_xor_ones {a b : Nat} (ha : a < 2 ^ 32) (hb : b < 2 ^ 32) : a &&& (b ^^^ (2 ^ 32 - 1)) = a - (a &&& b) := by
  have hdisjoint (x y : BitVec 32) : (x &&& ~~~y) &&& (x &&& y) = 0#32 := by
    ext i hi; cases hx : x[i] <;> cases hy : y[i] <;> simp [hx, hy]
  have hunion (x y : BitVec 32) : (x &&& ~~~y) ||| (x &&& y) = x := by
    ext i hi; cases hx : x[i] <;> cases hy : y[i] <;> simp [hx, hy]
  have hsum (x y : BitVec 32) : (x &&& ~~~y).toNat + (x &&& y).toNat = x.toNat := by
    rw [← BitVec.toNat_add_of_and_eq_zero (hdisjoint x y), BitVec.add_eq_or_of_and_eq_zero _ _ (hdisjoint x y), hunion]
  have h := hsum (BitVec.ofNat 32 a) (BitVec.ofNat 32 b)
  rw [← BitVec.xor_allOnes] at h
  simp only [BitVec.toNat_and, BitVec.toNat_xor, BitVec.toNat_ofNat, BitVec.toNat_allOnes, Nat.mod_eq_of_lt ha,
    Nat.mod_eq_of_lt hb] at h
  omega

/-- Settles O3. -/
theorem slotLogicResults : Obligations.SlotLogicResults := by
  unfold Obligations.SlotLogicResults
  refine ⟨?and, ?or, ?xor, ?andn, ?sel, ?mov, ?spec⟩
  case andn =>
    intro u w s r h
    change execSlAndn u w s = _
    rw [execSlAndn, coreSlot_of_issues h, writeLanes_congr _ w fun i => and_xor_ones (opA_lt _ w i) (opB_lt _ w i)]
  case spec =>
    intro u w s r h
    change execSlSpec u w s = _
    refine coreSlot_gives h (writeLanes_congr _ w fun i => ?_)
    split <;> simp_all
  all_goals exact slotGives_of_exec fun _ _ _ => rfl

/-- The condition of CMP by its format. -/
theorem cmpLane_eq (c : Core) (w : Slot) (i : Nat) :
    cmpLane c w i =
      if w.fmt = 3 then cmpInt w.subop (c.opA64 w (i / 2)) (c.opB64 w (i / 2))
      else if w.fmt = 5 then cmpF32 w.subop (c.opA w i) (c.opB w i)
      else if w.fmt = 2 then cmpInt w.subop (s32 (c.opA w i)) (s32 (c.opB w i))
      else cmpInt w.subop (c.opA w i) (c.opB w i) := by
  unfold cmpLane laneInt
  split <;> grind

/-- Settles O4: a LOOP's end is a slot number, so that the whole of ADDR16 names it. -/
theorem slotControlResults : Obligations.SlotControlResults := by
  unfold Obligations.SlotControlResults
  refine ⟨?nop, ?cmp, ?plog, ?skip, ?enter, ?stop⟩
  case nop => exact slotGives_of_exec fun _ _ _ => rfl
  case cmp =>
    intro u w s r h
    change execSlCmp u w s = _
    rw [execSlCmp, coreSlot_of_issues h, writePred_congr _ w fun i => cmpLane_eq _ w i]
  case plog =>
    intro u w s r h
    change execSlPlog u w s = _
    refine coreSlot_gives h (writePred_congr _ w fun i => ?_)
    dsimp only
    split <;> simp_all
  case skip =>
    intro u w s r h hcount
    have haddr : w.addr16 % 512 = w.addr16 := Nat.mod_eq_of_lt (slotOk_loop_addr (valid_of_issues h))
    change execSlLoop u w s = _
    rw [execSlLoop, runSlot_of_issues h]
    simp only [hcount, if_true, haddr]
  case enter =>
    intro u w s r h hcount
    have haddr : w.addr16 % 512 = w.addr16 := Nat.mod_eq_of_lt (slotOk_loop_addr (valid_of_issues h))
    change execSlLoop u w s = _
    rw [execSlLoop, runSlot_of_issues h]
    simp only [hcount, if_false, haddr]
  case stop =>
    intro u w s r h
    change execSlEnd u w s = _
    rw [execSlEnd, runSlot_of_issues h]

end Sys2Proof.Proofs.LogicSlots
end

section
/-!
PROOFS. Modular slots (04 R186): powers by repeated squaring, the inverse of 2^64 under an odd modulus, and O5.
-/

namespace Sys2Proof.Proofs.ModularSlots

open Sys2Proof Sys2Proof.Machine Sys2Proof.Proofs.SlotRules

/-- Repeated squaring over enough bits of the exponent gives the power. -/
theorem powModAux_modEq (q : Nat) {fuel : Nat} (b e acc : Nat) (he : e < 2 ^ fuel) :
    powModAux fuel b e q acc ≡ acc * b ^ e [MOD q] := by
  induction fuel generalizing b e acc with
  | zero =>
    obtain rfl : e = 0 := by simpa using he
    simp [powModAux, Nat.ModEq.refl]
  | succ n ih =>
    have hhalf : e / 2 < 2 ^ n := by rw [pow_succ] at he; omega
    have hsquare : (b * b % q) ^ (e / 2) ≡ b ^ (2 * (e / 2)) [MOD q] := by
      rw [pow_mul, sq]
      exact (Nat.mod_modEq _ q).pow _
    refine (ih (b * b % q) (e / 2) _ hhalf).trans ?_
    split
    · next hodd =>
      have hexp : b ^ e = b * b ^ (2 * (e / 2)) := by rw [← pow_succ', show 2 * (e / 2) + 1 = e by omega]
      rw [hexp, ← mul_assoc]
      exact (Nat.mod_modEq _ q).mul hsquare
    · next heven =>
      rw [show b ^ e = b ^ (2 * (e / 2)) by rw [show 2 * (e / 2) = e by omega]]
      exact (Nat.ModEq.refl acc).mul hsquare

theorem powMod_modEq {b e q : Nat} (he : e < 2 ^ 130) : powMod b e q ≡ b ^ e [MOD q] := by
  refine (powModAux_modEq q (b % q) e (1 % q) he).trans ?_
  simpa using (Nat.mod_modEq 1 q).mul ((Nat.mod_modEq b q).pow e)

/-- Under an odd modulus, `inv2p64` is the inverse of 2^64: half of q + 1 is the inverse of 2. -/
theorem inv2p64_mul {q : Nat} (hodd : q % 2 = 1) : inv2p64 q * 2 ^ 64 ≡ 1 [MOD q] := by
  have hhalf : (q + 1) / 2 * 2 = q + 1 := by omega
  have hone : q + 1 ≡ 1 [MOD q] := by simp [Nat.ModEq]
  calc inv2p64 q * 2 ^ 64
      ≡ ((q + 1) / 2) ^ 64 * 2 ^ 64 [MOD q] := (powMod_modEq (by decide)).mul_right _
    _ = (q + 1) ^ 64 := by rw [← mul_pow, hhalf]
    _ ≡ 1 ^ 64 [MOD q] := hone.pow 64
    _ = 1 := one_pow 64

/-- A Montgomery multiply-add, taken back by 2^64, is the product and 2^64 times the addend. -/
theorem montgomery_mul {q : Nat} (hodd : q % 2 = 1) (a b c : Nat) :
    (a * b * inv2p64 q + c) % q * 2 ^ 64 % q = (a * b + c * 2 ^ 64) % q := by
  have h : (a * b * inv2p64 q + c) * 2 ^ 64 ≡ a * b + c * 2 ^ 64 [MOD q] := by
    calc (a * b * inv2p64 q + c) * 2 ^ 64
        = a * b * (inv2p64 q * 2 ^ 64) + c * 2 ^ 64 := by ring
      _ ≡ a * b * 1 + c * 2 ^ 64 [MOD q] := ((inv2p64_mul hodd).mul_left _).add_right _
      _ = a * b + c * 2 ^ 64 := by rw [mul_one]
  exact ((Nat.mod_modEq _ q).mul_right _).trans h

/-- Settles O5. -/
theorem slotModularResults : Obligations.SlotModularResults := by
  unfold Obligations.SlotModularResults
  refine ⟨?add, ?sub, ?mul, ?mad, ?tom, ?red, ?wide, ?lift, ?mulm, ?madm⟩
  case lift =>
    intro u w s r h
    change execSlMlift u w s = _
    rw [execSlMlift, modOp]
    refine coreSlot_gives h (writePairs_congr _ w fun e => ?_)
    dsimp only
    split <;> split <;> omega
  case mulm =>
    refine ⟨fun q a b => a * b * inv2p64 q % q, slotGives_of_exec fun _ _ _ => rfl, fun q a b hodd hq => ⟨Nat.mod_lt _ (by omega), ?_⟩⟩
    simpa using montgomery_mul hodd a b 0
  case madm =>
    refine ⟨fun q a b c => (a * b * inv2p64 q + c) % q, slotGives_of_exec fun _ _ _ => rfl, fun q a b c hodd hq => ?_⟩
    exact ⟨Nat.mod_lt _ (by omega), montgomery_mul hodd a b c⟩
  all_goals exact slotGives_of_exec fun _ _ _ => rfl

end Sys2Proof.Proofs.ModularSlots
end

section
/-!
PROOFS. Float, dot-product, conversion and cryptographic slots (04 R187 to R191): elements of a lane, sums over a lane's elements, and
O6, O7 and O8.
-/

namespace Sys2Proof.Proofs.FloatSlots

open Sys2Proof Sys2Proof.Machine Sys2Proof.Proofs.SlotRules

/-! ### Elements of a lane -/

theorem elem_low (v w : Nat) : elem v w 0 = v % 2 ^ w := by simp [elem, bits]

/-- The upper of two 16-bit elements is the rest of the lane. -/
theorem elem_high {v : Nat} (h : v < 2 ^ 32) : elem v 16 1 = v / 2 ^ 16 := by
  simp only [elem, bits, Nat.shiftRight_eq_div_pow]; omega

theorem opC_lt (c : Core) (w : Slot) (i : Nat) : c.opC w i < 2 ^ 32 := lane_lt c _ i

/-- A float operation of the model writes what `fltLanes` says. -/
theorem fltOp_gives {s : State} {u : Issue} {op : Op} {w : Slot} {r : Rig} (h : Issues s u op w r) (f : FFmt → Nat → Nat → Nat → Nat) :
    fltOp s u op w f = .next ((s.issued u r).setCore (slotKey u) (fltLanes (s.slotCore u) w f).next) := by
  refine coreSlot_gives h (writeLanes_congr _ w fun i => ?_)
  simp only [elem_low, elem_high (opA_lt _ w i), elem_high (opB_lt _ w i), elem_high (opC_lt _ w i)]

/-- Settles O6. -/
theorem slotFloatResults : Obligations.SlotFloatResults := by
  unfold Obligations.SlotFloatResults
  refine ⟨?add, ?sub, ?mul, ?fma, ?min, ?max, ?sgn⟩
  case add => exact fun u w s r h => (fltOp_gives h _ : execSlFadd u w s = _)
  case sub => exact fun u w s r h => (fltOp_gives h _ : execSlFsub u w s = _)
  case mul => exact fun u w s r h => (fltOp_gives h _ : execSlFmul u w s = _)
  case fma => exact fun u w s r h => (fltOp_gives h _ : execSlFma u w s = _)
  case min => exact fun u w s r h => (fltOp_gives h _ : execSlFmin u w s = _)
  case max => exact fun u w s r h => (fltOp_gives h _ : execSlFmax u w s = _)
  case sgn => exact fun u w s r h => (fltOp_gives h _ : execSlFsgn u w s = _)

/-! ### Dot products and conversions -/

theorem dot2_eq {a b : Nat} (ha : a < 2 ^ 32) (hb : b < 2 ^ 32) (rnd acc : Nat) :
    dotFloat rnd acc ((List.range 2).map fun j => exactMul (bf16.decode (elem a 16 j)) (bf16.decode (elem b 16 j))) =
      f32.round rnd (exactSum rnd [f32.decode (acc % 2 ^ 32), exactMul (bf16.decode (a % 2 ^ 16)) (bf16.decode (b % 2 ^ 16)),
        exactMul (bf16.decode (a / 2 ^ 16)) (bf16.decode (b / 2 ^ 16))]) := by
  simp only [List.range_succ, List.range_zero, List.nil_append, List.singleton_append, List.map_cons, List.map_nil, dotFloat,
    elem_low, elem_high ha, elem_high hb]

/-- The second format of DOT4: SUBOP 1 takes the other one of its family. -/
theorem dot4_fmt {w : Slot} (h : slotOk .dot4 w = true) : w.subop.testBit 0 = decide (w.subop = 1) := by
  have hsub : w.subop ∈ upTo 2 := (slotOk_listed rfl h).2
  have hlt : w.subop < 2 := by simpa [upTo] using hsub
  interval_cases w.subop <;> rfl

theorem dot4_int {acc : Nat} (f : Nat → Int) :
    wrapI 64 ((acc : Int) + (List.range 4).foldl (fun t j => t + f j) (0 : Int)) =
      (((acc : Int) + f 0 + f 1 + f 2 + f 3) % 2 ^ 64).toNat := by
  simp only [wrapI, List.range_succ, List.range_zero, List.nil_append, List.cons_append, List.foldl_cons, List.foldl_nil, zero_add,
    ← add_assoc]
  rfl

theorem cvt_elem {w : Slot} (h : slotOk .cvt w = true) : w.subop / 16 % 4 = w.subop / 16 := by
  have hsub : w.subop ∈ upTo 64 := (slotOk_listed rfl h).2
  have hlt : w.subop < 64 := by simpa [upTo] using hsub
  omega

/-- Settles O7. -/
theorem slotDotConvertResults : Obligations.SlotDotConvertResults := by
  unfold Obligations.SlotDotConvertResults
  refine ⟨?dot2, ?dot4, ?cvt⟩
  case dot2 =>
    intro u w s r h
    change execSlDot2 u w s = _
    exact coreSlot_gives h (accLanes_congr _ w fun i => dot2_eq (opA_lt _ w i) (opB_lt _ w i) _ _)
  case dot4 =>
    intro u w s r h
    change execSlDot4 u w s = _
    refine coreSlot_gives h (accLanes_congr _ w fun i => ?_)
    simp only [dot4_fmt (valid_of_issues h), decide_eq_true_eq]
    split
    · rfl
    · exact dot4_int _
  case cvt =>
    intro u w s r h
    change execSlCvt u w s = _
    refine coreSlot_gives h (writeLanes_congr _ w fun i => ?_)
    simp only [cvt_elem (valid_of_issues h)]

/-! ### Cryptographic slots -/

/-- Rotation of a 32-bit pattern. -/
theorem rotl32_eq {v : Nat} (hv : v < 2 ^ 32) (n : Nat) : rotl32 v n = (BitVec.rotateLeft (BitVec.ofNat 32 v) (n % 32)).toNat := by
  have hn : n % 32 < 32 := Nat.mod_lt _ (by decide)
  have hbelow : v / 2 ^ (32 - n % 32) < 2 ^ (n % 32) := by
    rw [Nat.div_lt_iff_lt_mul (Nat.two_pow_pos _), ← pow_add, show n % 32 + (32 - n % 32) = 32 by omega]
    exact hv
  have htop : v * 2 ^ (n % 32) % 2 ^ 32 = v % 2 ^ (32 - n % 32) * 2 ^ (n % 32) := by
    rw [← Nat.mul_mod_mul_right, ← pow_add, show 32 - n % 32 + n % 32 = 32 by omega]
  simp only [rotl32, BitVec.toNat_rotateLeft, BitVec.toNat_ofNat, Nat.mod_eq_of_lt hv, Nat.shiftLeft_eq, Nat.shiftRight_eq_div_pow,
    Nat.mod_mod, htop]
  rw [← Nat.shiftLeft_eq, Nat.shiftLeft_add_eq_or_of_lt hbelow]

theorem lut16_eq (f : Nat → Nat) (i : Nat) :
    (List.range 4).foldl (fun t j => t + 2 ^ (8 * j) * f (4 * i + j)) 0 =
      f (4 * i) + 2 ^ 8 * f (4 * i + 1) + 2 ^ 16 * f (4 * i + 2) + 2 ^ 24 * f (4 * i + 3) := by
  simp [List.range_succ]

/-- Settles O8. -/
theorem slotCryptoResults : Obligations.SlotCryptoResults := by
  unfold Obligations.SlotCryptoResults
  refine ⟨?sbox, ?mixcol, ?rotl, ?clmul, ?lut⟩
  case rotl =>
    intro u w s r h
    change execSlRotl32 u w s = _
    exact coreSlot_gives h (writeLanes_congr _ w fun i => rotl32_eq (opA_lt _ w i) _)
  case lut =>
    intro u w s r h
    change execSlLut16 u w s = _
    exact coreSlot_gives h (writeLanes_congr _ w fun i => lut16_eq (lutByte _ w) i)
  all_goals exact slotGives_of_exec fun _ _ _ => rfl

end Sys2Proof.Proofs.FloatSlots
end

section
/-!
PROOFS. Masked writes (04 R168 to R171): replacing a field of a word bit by bit, a fold of such replacements over the lanes that pass,
and O16.
-/

namespace Sys2Proof.Proofs.LaneMasks

open Sys2Proof Sys2Proof.Machine

/-! ### One field of a word -/

theorem testBit_bits (v lo w i : Nat) : (bits v lo w).testBit i = (decide (i < w) && v.testBit (lo + i)) := by
  rw [bits, Nat.testBit_mod_two_pow, Nat.testBit_shiftRight]

/-- A word is its bits below a field, the field, and its bits above. -/
theorem field_split (v lo w : Nat) : v = 2 ^ lo * (2 ^ w * (v / 2 ^ (lo + w)) + bits v lo w) + v % 2 ^ lo := by
  have hlow := Nat.mod_add_div v (2 ^ lo)
  have hmid := Nat.mod_add_div (v / 2 ^ lo) (2 ^ w)
  rw [Nat.div_div_eq_div_mul, ← pow_add] at hmid
  rw [bits, Nat.shiftRight_eq_div_pow, add_comm (2 ^ w * _), hmid, add_comm, hlow]

/-- A replaced field, with what stands below and above it. -/
theorem setBits_eq (v lo w x : Nat) : setBits v lo w x = 2 ^ lo * (2 ^ w * (v / 2 ^ (lo + w)) + x % 2 ^ w) + v % 2 ^ lo := by
  have hsub : v - bits v lo w * 2 ^ lo = 2 ^ lo * (2 ^ w * (v / 2 ^ (lo + w))) + v % 2 ^ lo := by
    have h := field_split v lo w
    rw [mul_add, mul_comm (2 ^ lo) (bits v lo w)] at h
    omega
  rw [setBits, hsub]
  ring

/-- A replaced field takes the bits of the new value; every other bit stands. -/
theorem testBit_setBits (v lo w x i : Nat) :
    (setBits v lo w x).testBit i = if lo ≤ i ∧ i < lo + w then x.testBit (i - lo) else v.testBit i := by
  rw [setBits_eq, Nat.testBit_two_pow_mul_add _ (Nat.mod_lt _ (Nat.two_pow_pos lo)),
    Nat.testBit_two_pow_mul_add _ (Nat.mod_lt _ (Nat.two_pow_pos w)), Nat.testBit_mod_two_pow, Nat.testBit_mod_two_pow,
    Nat.testBit_div_two_pow]
  by_cases hlo : i < lo
  · rw [if_pos hlo, if_neg (by omega)]; simp [hlo]
  · by_cases hhi : i < lo + w
    · rw [if_neg hlo, if_pos (by omega), if_pos (by omega)]
      simp [show i - lo < w by omega]
    · rw [if_neg hlo, if_neg (by omega), if_neg (by omega)]
      congr 1; omega

theorem bits_setBits_self (v lo w x : Nat) : bits (setBits v lo w x) lo w = x % 2 ^ w := by
  refine Nat.eq_of_testBit_eq fun i => ?_
  rw [testBit_bits, testBit_setBits, Nat.testBit_mod_two_pow]
  by_cases h : i < w
  · rw [if_pos (by omega)]; simp [h]
  · simp [h]

theorem bits_setBits_apart (v lo w x : Nat) {lo' w' : Nat} (h : lo' + w' ≤ lo ∨ lo + w ≤ lo') :
    bits (setBits v lo w x) lo' w' = bits v lo' w' := by
  refine Nat.eq_of_testBit_eq fun i => ?_
  simp only [testBit_bits, testBit_setBits]
  by_cases hi : i < w'
  · rw [if_neg (by omega)]
  · simp [hi]

/-- A field of a word of `n` bits. -/
theorem bits_mod (v : Nat) {lo w n : Nat} (h : lo + w ≤ n) : bits (v % 2 ^ n) lo w = bits v lo w := by
  refine Nat.eq_of_testBit_eq fun i => ?_
  simp only [testBit_bits, Nat.testBit_mod_two_pow]
  by_cases hi : i < w
  · simp [show lo + i < n by omega]
  · simp [hi]

/-! ### Updates of the lanes that pass -/

/-- A fold that updates the entries of a list that pass: an entry `j` reads its new value where it is updated, and stands elsewhere. -/
theorem read_foldl_updates {β : Type} (upd : Nat → Nat → Nat) (read : Nat → β) (new : β) (on : Nat → Bool) (j : Nat) {l : List Nat}
    (hself : ∀ v, j ∈ l → read (upd v j) = new) (hother : ∀ v, ∀ i ∈ l, i ≠ j → read (upd v i) = read v) (v : Nat) :
    read (l.foldl (fun v i => if on i then upd v i else v) v) = if j ∈ l ∧ on j = true then new else read v := by
  induction l generalizing v with
  | nil => simp
  | cons i l ih =>
    have ih := ih (fun v h => hself v (List.mem_cons_of_mem _ h)) fun v k hk => hother v k (List.mem_cons_of_mem _ hk)
    rw [List.foldl_cons, ih]
    by_cases hl : j ∈ l ∧ on j = true
    · rw [if_pos hl, if_pos ⟨List.mem_cons_of_mem _ hl.1, hl.2⟩]
    · rw [if_neg hl]
      by_cases hij : i = j
      · subst hij
        cases hon : on i
        · simp
        · simp [hself v List.mem_cons_self]
      · have hmem : ¬ (j ∈ i :: l ∧ on j = true) := by
          simp only [List.mem_cons, Ne.symm hij, false_or]; exact hl
        rw [if_neg hmem]
        split
        · exact hother v i List.mem_cons_self hij
        · rfl

/-- Fields of `k` bits side by side: a fold that replaces those that pass. -/
theorem bits_foldl_setBits (k n j : Nat) (on : Nat → Bool) (f : Nat → Nat) (v : Nat) (hj : j < n) :
    bits ((List.range n).foldl (fun v i => if on i then setBits v (k * i) k (f i) else v) v) (k * j) k =
      if on j then f j % 2 ^ k else bits v (k * j) k := by
  have h := read_foldl_updates (fun v i => setBits v (k * i) k (f i)) (fun v => bits v (k * j) k) (f j % 2 ^ k) on j (l := List.range n)
    (fun v _ => bits_setBits_self v _ _ _) (fun v i _ hij => bits_setBits_apart v _ _ _ ?_) v
  · simpa [hj] using h
  · rcases Nat.lt_or_gt_of_ne hij with h | h
    · exact Or.inr (by rw [← Nat.mul_succ]; exact Nat.mul_le_mul_left k h)
    · exact Or.inl (by rw [← Nat.mul_succ]; exact Nat.mul_le_mul_left k h)

/-! ### Registers, accumulators and predicates -/

theorem g128_setG_self (c : Core) (r v : Nat) : (c.setG r v).g128 r = v % 2 ^ 128 := by
  simp [Core.g128, Core.setG]

theorem g128_setG_ne (c : Core) {r q : Nat} (v : Nat) (h : q ≠ r) : (c.setG r v).g128 q = c.g128 q := by
  simp [Core.g128, Core.setG, NMap.get_put_ne _ _ _ _ _ h]

theorem accLane_setAcc_ne (c : Core) {a b : Nat} (l : List (Nat × Nat)) (h : b ≠ a) (i : Nat) : (c.setAcc a l).accLane b i = c.accLane b i := by
  simp [Core.accLane, Core.setAcc, NMap.get_put_ne _ _ _ _ _ h]

theorem pred_setPred_ne (c : Core) {k j : Nat} (l : List (Nat × Bool)) (h : j ≠ k) (i : Nat) : (c.setPred k l).pred j i = c.pred j i := by
  simp only [Core.pred, Core.setPred]
  split
  · rfl
  · simp [NMap.get_put_ne _ _ _ _ _ h]

theorem lane_writeLanes (c : Core) (w : Slot) (f : Nat → Nat) {i : Nat} (hi : i < 4) :
    (c.writeLanes w f).lane w.dst i = if c.laneOn w i then f i % 2 ^ 32 else c.lane w.dst i := by
  rw [Core.lane, Core.writeLanes, g128_setG_self, bits_mod _ (by omega), bits_foldl_setBits 32 4 i (c.laneOn w) f _ hi]
  rfl

theorem bits_writePairs (c : Core) (w : Slot) (f : Nat → Nat) {e : Nat} (he : e < 2) :
    bits ((c.writePairs w f).g128 w.dst) (64 * e) 64 = if c.pairOn w e then f e % 2 ^ 64 else bits (c.g128 w.dst) (64 * e) 64 := by
  rw [Core.writePairs, g128_setG_self, bits_mod _ (by omega), bits_foldl_setBits 64 2 e (c.pairOn w) f _ he]

theorem accLane_accLanes (c : Core) (w : Slot) (f : Nat → Nat) {i : Nat} (hi : i < 4) :
    (c.accLanes w f).accLane w.acc i = if c.laneOn w i then f i % 2 ^ 64 else c.accLane w.acc i := by
  have h := bits_foldl_setBits 64 4 i (c.laneOn w) f (c.acc.get 0 w.acc).toNat hi
  rw [← List.foldl_filter] at h
  simp only [Core.accLane, Core.accLanes, Core.setAcc, NMap.get_put_self, BitVec.toNat_ofNat, List.foldl_map]
  rw [bits_mod _ (by omega), h]

/-- The predicate bit that the update of lane `i` gives. -/
theorem testBit_predUpdate {i j : Nat} (hi : i < 4) (hj : j < 4) (b : Bool) (v : Nat) :
    (if b then v ||| 2 ^ i else v &&& (15 - 2 ^ i)).testBit j = if i = j then b else v.testBit j := by
  have hclear : (15 - 2 ^ i).testBit j = decide (i ≠ j) := by
    interval_cases i <;> interval_cases j <;> rfl
  cases b
  · simp only [Bool.false_eq_true, if_false, Nat.testBit_and, hclear]
    by_cases h : i = j <;> simp [h]
  · by_cases h : i = j <;> simp [Nat.testBit_or, Nat.testBit_two_pow, h]

theorem pred_writePred (c : Core) (w : Slot) (f : Nat → Bool) {i : Nat} (hi : i < 4) :
    (c.writePred w f).pred w.pdst i = if w.pdst = 0 then true else if c.lanePass w i then f i else c.pred w.pdst i := by
  by_cases h0 : w.pdst = 0
  · simp [Core.pred, h0]
  · have h := read_foldl_updates (fun v k => if f k then v ||| 2 ^ k else v &&& (15 - 2 ^ k)) (fun v => v.testBit i) (f i) (c.lanePass w) i
      (l := List.range 4) (fun v _ => by rw [testBit_predUpdate hi hi, if_pos rfl])
      (fun v k hk hki => by rw [testBit_predUpdate (List.mem_range.mp hk) hi, if_neg hki]) (c.p.get 0 w.pdst).toNat
    rw [← List.foldl_filter] at h
    simp only [Core.writePred, Core.setPred, Core.pred, h0, if_false, NMap.get_put_self, BitVec.toNat_ofNat, List.foldl_map,
      Nat.testBit_mod_two_pow, hi, decide_true, Bool.true_and, decide_false, Bool.false_or, h, List.mem_range, true_and]

theorem writePred_frame (c : Core) (w : Slot) (f : Nat → Bool) : c.writePred w f = { c with p := (c.writePred w f).p } := by
  unfold Core.writePred Core.setPred
  split <;> rfl

/-- Settles O16. -/
theorem laneWritesMask : Obligations.LaneWritesMask := by
  unfold Obligations.LaneWritesMask
  refine ⟨fun c w f => ⟨fun i hi => lane_writeLanes c w f hi, fun r hr => g128_setG_ne c _ hr, rfl⟩,
    fun c w f => ⟨fun e he => bits_writePairs c w f he, fun r hr => g128_setG_ne c _ hr, rfl⟩,
    fun c w f => ⟨fun i hi => accLane_accLanes c w f hi, fun a ha i => accLane_setAcc_ne c _ ha i, rfl⟩,
    fun c w f => ⟨fun i hi => pred_writePred c w f hi, fun k hk i => pred_setPred_ne c _ hk i, writePred_frame c w f⟩⟩

end Sys2Proof.Proofs.LaneMasks
end

section
/-!
PROOFS. Telltale's comparators and watch windows (19 R691 to R693) change registers of their own page, the debug port, pending vectors
and messages: a relation that every match keeps, the frame of a slot's issue (O17), and what the issue leaves of the state.
-/

namespace Sys2Proof.Proofs.IssueFrame

open Sys2Proof Sys2Proof.Machine

/-! ### What a match can change -/

/-- `t` is `s` but for registers of the TELLTALE page, the debug port, pending vectors and what was sent. -/
def TelltaleOnly (s t : State) : Prop :=
  t = { s with regs := t.regs, tt := t.tt, out := t.out, pcie := { s.pcie with pba := t.pcie.pba } } ∧
  ∀ d a, ¬ (0x5000 ≤ a ∧ a < 0x6000) → t.regs.get d a = s.regs.get d a

theorem TelltaleOnly.refl (s : State) : TelltaleOnly s s := ⟨rfl, fun _ _ _ => rfl⟩

theorem TelltaleOnly.trans {s t v : State} (h : TelltaleOnly s t) (k : TelltaleOnly t v) : TelltaleOnly s v := by
  refine ⟨?_, fun d a ha => (k.2 d a ha).trans (h.2 d a ha)⟩
  rw [k.1, h.1]

theorem TelltaleOnly.foldl {α : Type} {f : State → α → State} {l : List α} (h : ∀ a ∈ l, ∀ s, TelltaleOnly s (f s a)) (s : State) :
    TelltaleOnly s (l.foldl f s) := by
  induction l generalizing s with
  | nil => exact TelltaleOnly.refl s
  | cons a l ih =>
    exact (h a List.mem_cons_self s).trans (ih (fun b hb => h b (List.mem_cons_of_mem _ hb)) (f s a))

theorem telltale_setReg (s : State) {off : Nat} (v : W32) (h : off < 0x1000) : TelltaleOnly s (s.setReg .telltale 0 off v) := by
  refine ⟨rfl, fun d a ha => NMap.get_put_ne' _ _ _ _ _ _ ?_⟩
  have haddr : regAddr .telltale 0 off = 0x5000 + off := by simp [regAddr, Page.base]
  omega

theorem telltale_sendVector (s : State) (v : Nat) (special : Bool) : TelltaleOnly s (s.sendVector v special) := by
  obtain ⟨o, x, h⟩ := s.sendVector_frame v special
  rw [h]
  exact ⟨rfl, fun _ _ _ => rfl⟩

theorem telltale_latchEvt (s : State) (m : Nat) : TelltaleOnly s (s.latchEvt .telltale 0 m) := by
  unfold State.latchEvt
  dsimp only
  split
  · exact (telltale_setReg s _ (by decide)).trans (telltale_sendVector _ _ _)
  · exact telltale_setReg s _ (by decide)

theorem telltale_matchHalt (s : State) (cause hit : Nat) : TelltaleOnly s (s.matchHalt cause hit) := by
  unfold State.matchHalt
  dsimp only
  repeat' split
  all_goals exact ⟨rfl, fun _ _ _ => rfl⟩

/-- A comparator's match, for the comparators there are. -/
theorem telltale_bpHit (s : State) {b : Nat} (h : b < 16) : TelltaleOnly s (s.bpHit b) := by
  have hcount : TelltaleOnly s ((s.bump .telltale 0 (0x10C + 16 * b)).latchEvt .telltale 0 2) :=
    (telltale_setReg s _ (by omega)).trans (telltale_latchEvt _ 2)
  unfold State.bpHit
  dsimp only
  split
  · exact hcount
  · exact hcount.trans (telltale_matchHalt _ _ _)

theorem telltale_wwHit (s : State) {w : Nat} (req : Nat) (h : w < 8) : TelltaleOnly s (s.wwHit w req) := by
  have hrecord (v : W32) (b : Prop) [Decidable b] : TelltaleOnly s (if b then s.setReg .telltale 0 (0x20C + 16 * w) v else s) := by
    split
    · exact telltale_setReg s v (by omega)
    · exact TelltaleOnly.refl s
  unfold State.wwHit
  dsimp only
  split
  · exact (hrecord _ _).trans (telltale_latchEvt _ 4)
  · exact ((hrecord _ _).trans (telltale_latchEvt _ 4)).trans (telltale_matchHalt _ _ _)

theorem telltale_bpMatch (s : State) (kind : Nat) (f : Nat → Bool) : TelltaleOnly s (s.bpMatch kind f) :=
  TelltaleOnly.foldl (fun _ hb t => telltale_bpHit t (List.mem_range.mp (List.mem_filter.mp hb).1)) s

theorem telltale_watched (s : State) (a n kind req : Nat) : TelltaleOnly s (s.watched a n kind req) :=
  TelltaleOnly.foldl (fun _ hw t => telltale_wwHit t req (List.mem_range.mp (List.mem_filter.mp hw).1)) s

/-! ### The issue of a slot -/

theorem telltale_slotIssued (s : State) (r : Rig) (u : Issue) (c : Core) : TelltaleOnly s (s.slotIssued r u c) := by
  unfold State.slotIssued
  split
  · split
    · exact TelltaleOnly.refl s
    · exact telltale_bpMatch s 2 _
  · exact TelltaleOnly.refl s

/-- The issued state is the state at the slot's cycle, but for what a comparator's match changes. -/
theorem telltale_issued (s : State) (u : Issue) (r : Rig) : TelltaleOnly (s.atCycle u.cycle) (s.issued u r) :=
  telltale_slotIssued _ _ _ _

theorem issued_eq (s : State) (u : Issue) (r : Rig) :
    s.issued u r = { s with
      regs := (s.issued u r).regs, tt := (s.issued u r).tt, out := (s.issued u r).out
      stroke := { s.stroke with cycle := (s.issued u r).stroke.cycle }
      pcie := { s.pcie with pba := (s.issued u r).pcie.pba } } := by
  have h := (telltale_issued s u r).1
  obtain ⟨c, hc⟩ := s.atCycle_frame u.cycle
  rw [hc] at h
  rw [h]

theorem issued_regs (s : State) (u : Issue) (r : Rig) (d : W32) {a : Nat} (ha : ¬ (0x5000 ≤ a ∧ a < 0x6000)) :
    (s.issued u r).regs.get d a = s.regs.get d a := by
  obtain ⟨c, hc⟩ := s.atCycle_frame u.cycle
  have h := (telltale_issued s u r).2 d a ha
  rwa [hc] at h

theorem issued_cycle (s : State) (u : Issue) (r : Rig) (h : (s.tt.halted || !s.stroke.running) = false) :
    (s.issued u r).stroke.cycle = u.cycle := by
  have hstroke : (s.issued u r).stroke = (s.atCycle u.cycle).stroke := by rw [(telltale_issued s u r).1]
  rw [hstroke, State.atCycle, h]
  rfl

/-- Settles O17. -/
theorem slotIssueFrame : Obligations.SlotIssueFrame := by
  unfold Obligations.SlotIssueFrame
  exact fun s u r => ⟨issued_eq s u r, fun d _ ha => issued_regs s u r d ha, issued_cycle s u r⟩

/-! ### Parts of the state that the issue leaves -/

@[simp] theorem issued_mem (s : State) (u : Issue) (r : Rig) : (s.issued u r).mem = s.mem := by rw [issued_eq]
@[simp] theorem issued_ecc (s : State) (u : Issue) (r : Rig) : (s.issued u r).ecc = s.ecc := by rw [issued_eq]
@[simp] theorem issued_fabric (s : State) (u : Issue) (r : Rig) : (s.issued u r).fabric = s.fabric := by rw [issued_eq]
@[simp] theorem issued_cores (s : State) (u : Issue) (r : Rig) : (s.issued u r).cores = s.cores := by rw [issued_eq]
@[simp] theorem issued_spill (s : State) (u : Issue) (r : Rig) : (s.issued u r).spill = s.spill := by rw [issued_eq]
@[simp] theorem issued_now (s : State) (u : Issue) (r : Rig) : (s.issued u r).stroke.now = s.stroke.now := by rw [issued_eq]

/-! ### Everything outside the fabric, the cores, registers and memory -/

theorem sameOutside_refl (s : State) : SameOutside s s := rfl

theorem sameOutside_trans {s t v : State} (h : SameOutside s t) (k : SameOutside t v) : SameOutside s v := by
  unfold SameOutside at *
  rw [k, h]

theorem sameOutside_of_telltale {s t : State} (h : TelltaleOnly s t) : SameOutside s t := by
  unfold SameOutside
  rw [h.1]

theorem sameOutside_issued (s : State) (u : Issue) (r : Rig) : SameOutside s (s.issued u r) := by
  unfold SameOutside
  rw [issued_eq]

theorem sameOutside_setCore (s : State) (k : Nat) (c : Core) : SameOutside s (s.setCore k c) := rfl

end Sys2Proof.Proofs.IssueFrame
end

section
/-!
PROOFS. Accumulator slots (04 R192, R195) and O12; words that no slot may have (R181), and O18.
-/

namespace Sys2Proof.Proofs.AccumulatorSlots

open Sys2Proof Sys2Proof.Machine Sys2Proof.Proofs.SlotRules

/-- An operation with the SUBOP values 0 and 1. -/
theorem subop_lt_two {op : Op} {w : Slot} {row : OpRow} (hrow : opRow op = some row) (hsubs : row.subs = upTo 2)
    (h : slotOk op w = true) : w.subop = 0 ∨ w.subop = 1 := by
  have hsub := (slotOk_listed hrow h).2
  rw [hsubs, upTo, List.mem_range] at hsub
  omega

/-- The half of an accumulator that SUBOP names. -/
theorem accHalf_eq {v n : Nat} (hv : v < 2 ^ 64) (hn : n = 0 ∨ n = 1) :
    bits v (32 * (n % 2)) 32 = if n = 0 then v % 2 ^ 32 else v / 2 ^ 32 := by
  simp only [bits, Nat.shiftRight_eq_div_pow]
  rcases hn with rfl | rfl
  · norm_num
  · norm_num; omega

theorem accHalf_set {v x n : Nat} (hv : v < 2 ^ 64) (hx : x < 2 ^ 32) (hn : n = 0 ∨ n = 1) :
    setBits v (32 * (n % 2)) 32 x = if n = 0 then v / 2 ^ 32 * 2 ^ 32 + x else v % 2 ^ 32 + x * 2 ^ 32 := by
  simp only [setBits, bits, Nat.shiftRight_eq_div_pow]
  rcases hn with rfl | rfl
  · norm_num; omega
  · norm_num; omega

/-- A wrapped sum of patterns. -/
theorem wrapI_add_natCast (a b : Nat) : wrapI 64 ((a : Int) + (b : Int)) = (a + b) % 2 ^ 64 := by
  unfold wrapI; omega

theorem wrapI_64 (x : Int) : wrapI 64 x = (x % 2 ^ 64).toNat := by
  unfold wrapI; norm_num

/-- Settles O12. -/
theorem slotAccumulatorResults : Obligations.SlotAccumulatorResults := by
  unfold Obligations.SlotAccumulatorResults
  refine ⟨?clear, ?add, ?mac, ?read, ?write⟩
  case clear => exact slotGives_of_exec fun _ _ _ => rfl
  case add =>
    intro u w s r h
    change execSlAccadd u w s = _
    refine coreSlot_gives h ?_
    dsimp only
    split
    · next hf => simp [hf]
    · next hf => simp [hf]; rfl
    · next hf => simp [hf]
    · next f h3 h4 h5 =>
      rw [if_neg h3, if_neg h4, if_neg h5]
      split
      · next hf => exact accLanes_congr _ w fun i => wrapI_64 _
      · next hf => exact accLanes_congr _ w fun i => wrapI_add_natCast _ _
  case mac =>
    intro u w s r h
    change execSlAccmac u w s = _
    refine coreSlot_gives h ?_
    dsimp only
    split
    · next hf => simp [hf]; rfl
    · next hf => simp [hf]
    · next f h4 h5 =>
      rw [if_neg h4, if_neg h5]
      split
      · next hf => exact accLanes_congr _ w fun i => wrapI_64 _
      · next hf => exact accLanes_congr _ w fun i => by rw [← Nat.cast_mul, wrapI_add_natCast]
  case read =>
    intro u w s r h
    change execSlAccrd u w s = _
    exact coreSlot_gives h (writeLanes_congr _ w fun i => accHalf_eq (accLane_lt _ _ i) (subop_lt_two rfl rfl (valid_of_issues h)))
  case write =>
    intro u w s r h
    change execSlAccwr u w s = _
    exact coreSlot_gives h (accLanes_congr _ w fun i =>
      accHalf_set (accLane_lt _ _ i) (lane_lt _ _ i) (subop_lt_two rfl rfl (valid_of_issues h)))

/-! ### Words that no slot may have -/

/-- A core that the rig does not have stops. -/
theorem runSlot_noCore {s : State} {u : Issue} {op : Op} {w : Slot} {r : Rig} (h : s.rig? u.rig = some r) (hc : r.hasCore u = false)
    (body : State → Rig → Nat → Core → State) : runSlot s u op w body = .fault .noUnit := by
  simp [runSlot, h, hc]

/-- ENQ under another SUBOP than its row's is no data word. -/
theorem execSlEnqData_invalid {s : State} {u : Issue} {w : Slot} {r : Rig} (h : s.rig? u.rig = some r) (hc : r.hasCore u = true)
    (hw : (slotOk .enq w && slotFits w && rigSlotOk r .enq w) = false) : execSlEnqData u w s = .fault .invalidSlot := by
  unfold execSlEnqData
  split
  · rfl
  · exact runSlot_invalid h hc hw _

/-- Settles O18. -/
theorem invalidSlotStops : Obligations.InvalidSlotStops := by
  unfold Obligations.InvalidSlotStops
  refine fun u w s r h => ⟨fun hc => ⟨?add, ?mmulm, ?ldw, ?enq, ?sub⟩, fun hc => ⟨?addCore, ?ldwCore⟩⟩
  case add =>
    intro hw
    change execSlAdd u w s = _
    rw [execSlAdd, coreSlot, runSlot_invalid h hc hw]
  case mmulm =>
    intro hw
    change execSlMmulm u w s = _
    rw [execSlMmulm, modOp, coreSlot, runSlot_invalid h hc hw]
  case ldw => exact fun hw => (runSlot_invalid h hc hw _ : execSlLdw u w s = _)
  case enq => exact fun hw => (execSlEnqData_invalid h hc hw : execSlEnqData u w s = _)
  case sub => exact fun hw => (if_pos hw : execSlEnqData u w s = _)
  case addCore =>
    change execSlAdd u w s = _
    rw [execSlAdd, coreSlot, runSlot_noCore h hc]
  case ldwCore => exact (runSlot_noCore h hc _ : execSlLdw u w s = _)

end Sys2Proof.Proofs.AccumulatorSlots
end

section
/-!
PROOFS. Neighbour links and loads of a core (04 R192, R194, R196): O9 and O10.
-/

namespace Sys2Proof.Proofs.CoreMoves

open Sys2Proof Sys2Proof.Machine Sys2Proof.Proofs.SlotRules Sys2Proof.Proofs.IssueFrame

/-! ### SEND and RECV -/

/-- A neighbour stands at another position. -/
theorem neighbour_ne {p d n : Nat} (h : neighbour p d = some n) : n ≠ p := by
  unfold neighbour at h
  dsimp only at h
  split at h <;> split at h <;> simp only [Option.some.injEq, reduceCtorEq] at h <;> omega

theorem issued_core (s : State) (u : Issue) (r : Rig) (k : Nat) : (s.issued u r).core k = s.core k := by
  rw [State.core, issued_cores, State.core]

theorem issued_queue (s : State) (u : Issue) (r : Rig) (n : Nat) : (s.issued u r).queue n = s.queue n := by
  rw [State.queue, issued_spill, State.queue]

theorem coreKey_ne {rig ord p q : Nat} (h : q ≠ p) : coreKey rig ord q ≠ coreKey rig ord p := by
  unfold coreKey; omega

/-- Settles O9, by the neighbour's core being another one than the sender. -/
theorem slotNeighbourResults : Obligations.SlotNeighbourResults := by
  unfold Obligations.SlotNeighbourResults
  refine ⟨?send, ?sendFull, ?recv, ?recvEmpty⟩
  case send =>
    intro u w s r p h hon hp hroom
    have hother : coreKey u.rig u.ord p ≠ slotKey u := coreKey_ne (neighbour_ne hp)
    change execSlSend u w s = _
    rw [execSlSend, runSlot_of_issues h]
    simp only [hon, hp, issued_core, Bool.not_true, Bool.false_eq_true, if_false, ge_iff_le, Nat.not_le.mpr hroom, State.slotDone,
      State.core_setCore, if_neg hother]
  case sendFull =>
    intro u w s r p h hon hp hfull
    change execSlSend u w s = _
    rw [execSlSend, runSlot_of_issues h]
    simp only [hon, hp, issued_core, Bool.not_true, Bool.false_eq_true, if_false, ge_iff_le, hfull, if_true, State.stall]
  case recv =>
    intro u w s r v l h hon hbuf
    change execSlRecv u w s = _
    rw [execSlRecv, runSlot_of_issues h]
    simp only [hon, hbuf, Bool.not_true, Bool.false_eq_true, if_false, State.slotDone]
  case recvEmpty =>
    intro u w s r h hon hbuf
    change execSlRecv u w s = _
    rw [execSlRecv, runSlot_of_issues h]
    simp only [hon, hbuf, Bool.not_true, Bool.false_eq_true, if_false, State.stall]

/-! ### Loads -/

theorem issued_plainWord {s : State} {x : Nat} (u : Issue) (r : Rig) (h : s.plainWord x) : (s.issued u r).plainWord x := by
  simpa [State.plainWord, State.bedComm] using h

theorem ofLe_append (a b : List Byte) : ofLe (a ++ b) = ofLe a + 2 ^ (8 * a.length) * ofLe b := by
  induction a with
  | nil => simp [ofLe]
  | cons x a ih => simp only [List.cons_append, ofLe, ih, List.length_cons, Nat.mul_succ, pow_add]; ring

theorem ofLe_lt (l : List Byte) : ofLe l < 2 ^ (8 * l.length) := by
  induction l with
  | nil => simp [ofLe]
  | cons x l ih =>
    have hx := x.isLt
    simp only [ofLe, List.length_cons, Nat.mul_succ, pow_add]
    omega

/-- A field of the number that bytes spell is the number that the bytes of the field spell. -/
theorem bits_ofLe (l : List Byte) {o n : Nat} (h : o + n ≤ l.length) : bits (ofLe l) (8 * o) (8 * n) = ofLe ((l.drop o).take n) := by
  have hsplit : l = l.take o ++ ((l.drop o).take n ++ (l.drop o).drop n) := by simp
  have hlow := ofLe_lt (l.take o)
  have hfield := ofLe_lt ((l.drop o).take n)
  rw [List.length_take_of_le (by omega)] at hlow
  rw [List.length_take_of_le (by simp; omega)] at hfield
  conv_lhs => rw [hsplit]
  rw [ofLe_append, ofLe_append, bits, Nat.shiftRight_eq_div_pow, List.length_take_of_le (by omega),
    List.length_take_of_le (by simp; omega), Nat.add_mul_div_left _ _ (Nat.two_pow_pos _), Nat.div_eq_of_lt hlow, Nat.zero_add,
    Nat.add_mul_mod_self_left, Nat.mod_eq_of_lt hfield]

/-- Lane values of 16 bytes read from memory. -/
theorem lane_of_memRead (m : List Host.Cell) (a : Nat) {i : Nat} (hi : i < 4) :
    bits (ofLe (memRead m a 16)) (32 * i) 32 = ofLe (memRead m (a + 4 * i) 4) := by
  rw [show 32 * i = 8 * (4 * i) by omega, show (32 : Nat) = 8 * 4 by rfl, bits_ofLe _ (by rw [memRead_length]; omega),
    drop_take_memRead _ _ _ _ _ (by omega)]

/-- A masked write reads the values of the four lanes only. -/
theorem writeLanes_congr_lt (c : Core) (w : Slot) {f g : Nat → Nat} (h : ∀ i, i < 4 → f i = g i) : c.writeLanes w f = c.writeLanes w g := by
  have hstep : ∀ v, ∀ i ∈ List.range 4, (if c.laneOn w i then setBits v (32 * i) 32 (f i) else v) =
      if c.laneOn w i then setBits v (32 * i) 32 (g i) else v := by
    intro v i hi
    rw [h i (List.mem_range.mp hi)]
  rw [Core.writeLanes, Core.writeLanes, List.foldl_ext _ _ _ fun v i hi => hstep v i hi]

/-- `SUBOP` 0 or 1 is bit 0 of it. -/
theorem subop_testBit {n : Nat} (h : n = 0 ∨ n = 1) : n.testBit 0 = decide (n = 1) := by
  rcases h with rfl | rfl <;> rfl

theorem readBytes_eq {s : State} (req : Nat) {a n : Nat} (hn : n ≠ 0) (hone : (a + n - 1) / 32 = a / 32) (h : s.plainWord (a / 32)) :
    s.readBytes req a n = (memRead s.mem a n, false, s.watched a n 1 req) := by
  have hw := telltale_watched s a n 1 req
  have hplain : (s.watched a n 1 req).ecc.get 0 (a / 32) = 0 ∧ (s.watched a n 1 req).bedComm (a / 32) = none := by
    rw [State.bedComm, hw.1]; exact h
  have hmem : (s.watched a n 1 req).mem = s.mem := by rw [hw.1]
  have hdiv := Nat.div_add_mod a 32
  have hlast := Nat.div_add_mod (a + n - 1) 32
  have hmod := Nat.mod_lt (a + n - 1) (show 0 < 32 by decide)
  rw [State.readBytes, if_neg hn]
  dsimp only
  rw [hone, show a / 32 - a / 32 + 1 = 1 by omega, State.readWords_plain _ req _ 1 (fun k hk => by
    obtain rfl : k = 0 := by omega
    simpa using hplain), hmem, drop_take_memRead _ _ _ _ _ (by omega), hdiv]

/-- Settles O10: a clean word reads as stored, and a lane of 16 bytes is its four bytes. -/
theorem slotLoadResults : Obligations.SlotLoadResults := by
  unfold Obligations.SlotLoadResults
  refine ⟨?ldc, ?ldw⟩
  case ldc =>
    intro u w s r h hplain
    have hread := State.readWord_plain (s.issued u r) 1 _ (issued_plainWord u r hplain)
    have hhalf : coreHalf w < 2 := Nat.mod_lt _ (by decide)
    change execSlLdc u w s = _
    rw [execSlLdc, runSlot_of_issues h]
    simp only [hread, Bool.false_eq_true, if_false, State.slotDone, issued_mem, drop_take_memRead s.mem _ 32 (16 * coreHalf w) 16 (by omega)]
    rw [writeLanes_congr_lt _ w fun i hi => lane_of_memRead s.mem _ hi]
  case ldw =>
    intro u w s r a h hregion halign hplain
    have hsub : w.subop.testBit 0 = decide (w.subop = 1) := by
      have hlt := (slotOk_listed rfl (valid_of_issues h)).2
      simp only [upTo, List.mem_range] at hlt
      exact subop_testBit (by omega)
    have hread := readBytes_eq (s := s.issued u r) 1 (a := a) (n := 16) (by decide) (by omega) (issued_plainWord u r hplain)
    have hwatched := (telltale_watched (s.issued u r) a 16 1 1).1
    refine ⟨((s.issued u r).watched a 16 1 1).slotDone (slotKey u)
      ((s.slotCore u).writeLanes w fun i => ofLe (memRead s.mem (a + 4 * i) 4)), ?_, ?_, ?_, ?_, ?_⟩
    · change execSlLdw u w s = _
      rw [execSlLdw, runSlot_of_issues h]
      simp only [hsub, hregion, hread, Bool.false_eq_true, if_false, issued_mem]
      rw [writeLanes_congr_lt _ w fun i hi => by rw [drop_take_memRead s.mem a 16 (4 * i) 4 (by omega)]]
    · exact sameOutside_trans (sameOutside_issued s u r)
        (sameOutside_trans (sameOutside_of_telltale (telltale_watched _ _ _ _ _)) (sameOutside_setCore _ _ _))
    · rw [State.slotDone, State.setCore_mem, hwatched, issued_mem]
    · rw [State.slotDone, State.setCore_fabric, hwatched, issued_fabric]
    · rw [State.slotDone, State.setCore, hwatched, issued_cores]

end Sys2Proof.Proofs.CoreMoves
end

section
/-!
PROOFS. Stores of a core (04 R170, R192, R197, 13 R518): a masked write of one word changes the bytes that it names and no other word,
and O11.
-/

namespace Sys2Proof.Proofs.CoreStores

open Sys2Proof Sys2Proof.Machine Sys2Proof.Proofs.SlotRules Sys2Proof.Proofs.IssueFrame Sys2Proof.Proofs.CoreMoves

/-! ### Operations on one word -/

/-- `t` is `s` but for the word `w` of memory, its bed entry, and registers and messages of counters and comparators. -/
def WordOnly (w : Nat) (s t : State) : Prop :=
  SameOutside s t ∧ t.cores = s.cores ∧ ∀ a, a / 32 ≠ w → memGet t.mem a = memGet s.mem a

theorem WordOnly.refl (w : Nat) (s : State) : WordOnly w s s := ⟨rfl, rfl, fun _ _ => rfl⟩

theorem WordOnly.trans {w : Nat} {s t v : State} (h : WordOnly w s t) (k : WordOnly w t v) : WordOnly w s v :=
  ⟨sameOutside_trans h.1 k.1, k.2.1.trans h.2.1, fun a ha => (k.2.2 a ha).trans (h.2.2 a ha)⟩

theorem wordOnly_storeWord (s : State) (w : Nat) {l : List Byte} (d : W32) (hl : l.length = 32) : WordOnly w s (s.storeWord w l d) := by
  refine ⟨rfl, rfl, fun a ha => ?_⟩
  rw [State.storeWord, memGet_memWrite, if_neg (by omega)]

theorem wordOnly_telltale {s t : State} (w : Nat) (h : TelltaleOnly s t) : WordOnly w s t :=
  ⟨sameOutside_of_telltale h, by rw [h.1], fun a _ => by rw [h.1]⟩

/-- Counting an error of memory changes registers, messages and pending vectors. -/
def CountsOnly (s t : State) : Prop := ∃ r o x, t = { s with regs := r, out := o, pcie := { s.pcie with pba := x } }

theorem CountsOnly.trans {s t v : State} (h : CountsOnly s t) (k : CountsOnly t v) : CountsOnly s v := by
  obtain ⟨_, _, _, rfl⟩ := h
  obtain ⟨_, _, _, rfl⟩ := k
  exact ⟨_, _, _, rfl⟩

theorem countsOnly_refl (s : State) : CountsOnly s s := ⟨_, _, _, rfl⟩

theorem countsOnly_bump (s : State) (p : Page) (i off : Nat) : CountsOnly s (s.bump p i off) := ⟨_, _, _, rfl⟩

theorem countsOnly_captMem (s : State) (p : Page) (i addr kind q : Nat) (d : W32) : CountsOnly s (s.captMem p i addr kind q d) := by
  obtain ⟨r, h⟩ := s.captMem_frame p i addr kind q d
  exact ⟨r, _, _, h⟩

theorem countsOnly_latchEvt (s : State) (p : Page) (i m : Nat) : CountsOnly s (s.latchEvt p i m) := s.latchEvt_frame p i m

theorem countsOnly_countCorrected (s : State) (a req : Nat) (syn : W32) : CountsOnly s (s.countCorrected a req syn) := by
  have hpier : CountsOnly s (match s.pierOf a with | some p => s.bump .pier p 0x5C | none => s) := by
    split
    · exact countsOnly_bump s _ _ _
    · exact countsOnly_refl s
  unfold State.countCorrected
  dsimp only
  split
  · exact hpier.trans ((countsOnly_bump _ _ _ _).trans ((countsOnly_captMem _ _ _ _ _ _ _).trans (countsOnly_latchEvt _ _ _ _)))
  · exact hpier

theorem countsOnly_countUncorrectable (s : State) (a req : Nat) (syn : W32) : CountsOnly s (s.countUncorrectable a req syn) := by
  have hpier : CountsOnly s (match s.pierOf a with | some p => s.bump .pier p 0x60 | none => s) := by
    split
    · exact countsOnly_bump s _ _ _
    · exact countsOnly_refl s
  unfold State.countUncorrectable
  dsimp only
  split
  · exact hpier.trans ((countsOnly_bump _ _ _ _).trans ((countsOnly_captMem _ _ _ _ _ _ _).trans (countsOnly_latchEvt _ _ _ _)))
  · exact hpier.trans (countsOnly_captMem _ _ _ _ _ _ _)
  · exact hpier

theorem countsOnly_countPoisonRead (s : State) (a req : Nat) : CountsOnly s (s.countPoisonRead a req) := by
  unfold State.countPoisonRead
  split
  · exact (countsOnly_bump _ _ _ _).trans ((countsOnly_captMem _ _ _ _ _ _ _).trans (countsOnly_latchEvt _ _ _ _))
  · exact countsOnly_captMem _ _ _ _ _ _ _
  · exact countsOnly_refl s

theorem wordOnly_counts {s t : State} (w : Nat) (h : CountsOnly s t) : WordOnly w s t := by
  obtain ⟨_, _, _, rfl⟩ := h
  exact ⟨rfl, rfl, fun _ _ => rfl⟩

theorem toLe_length (n v : Nat) : (toLe n v).length = n := by
  have h := toBe_length n v
  rwa [toBe, List.length_reverse] at h

theorem repairBytes_length (l : List Byte) (pos mag : Nat) : (repairBytes l pos mag).length = l.length := by
  unfold repairBytes
  split
  · rfl
  · exact List.length_modify _ _ _

/-- A word read has 32 bytes. -/
theorem readWord_length (s : State) (req w : Nat) : (s.readWord req w).1.length = 32 := by
  unfold State.readWord
  split
  · exact toLe_length _ _
  · dsimp only
    split
    all_goals simp only [memRead_length, repairBytes_length]

/-- Reading a word writes back that word at most. -/
theorem wordOnly_readWord (s : State) (req w : Nat) : WordOnly w s (s.readWord req w).2.2 := by
  have hback {l : List Byte} (hl : l.length = 32) (d : W32) (p : Prop) [Decidable p] : WordOnly w s (if p then s else s.storeWord w l d) := by
    split
    · exact WordOnly.refl w s
    · exact wordOnly_storeWord s w d hl
  unfold State.readWord
  split
  · next v bad _ =>
    cases bad
    · exact WordOnly.refl w s
    · exact wordOnly_counts w (countsOnly_countPoisonRead _ _ _)
  · dsimp only
    split
    · exact WordOnly.refl w s
    · exact wordOnly_counts w (countsOnly_countPoisonRead _ _ _)
    · exact (hback (by rw [repairBytes_length, memRead_length]) _ _).trans (wordOnly_counts w (countsOnly_countCorrected _ _ _ _))
    · exact (hback (memRead_length _ _ _) _ _).trans (wordOnly_counts w (countsOnly_countUncorrectable _ _ _ _))

theorem wordOnly_touchBed (s : State) (w : Nat) : WordOnly w s (s.touchBed w) := by
  have hbed (t : State) (b : NMap BedEntry) : WordOnly w t { t with fabric := { t.fabric with bed := b } } := ⟨rfl, rfl, fun _ _ => rfl⟩
  unfold State.touchBed
  dsimp only
  split
  · exact (wordOnly_storeWord s w _ (toLe_length _ _)).trans (hbed _ _)
  · exact hbed s _

/-- A word that no bed holds stands when a write meets its bed entry, and is plain after it. -/
theorem touchBed_plain {s : State} {w : Nat} (h : s.plainWord w) :
    (s.touchBed w).mem = s.mem ∧ (s.touchBed w).plainWord w := by
  have hcomm : (s.fabric.bed.get {} w).comm = none := h.2
  unfold State.touchBed State.plainWord State.bedComm
  simp only [hcomm, NMap.get_put_self]
  exact ⟨trivial, h.1, trivial⟩

/-! ### A masked write of a word -/

theorem mem_storeWord (s : State) {w k : Nat} {l : List Byte} (d : W32) (hl : l.length = 32) (hk : k < 32) :
    memGet (s.storeWord w l d).mem (32 * w + k) = l.getD k 0 := by
  rw [State.storeWord, memGet_memWrite, if_pos (by omega), show 32 * w + k - 32 * w = k by omega]

theorem wordOnly_writeWord (s : State) (w : Nat) {l : List Byte} (bad : Bool) (hl : l.length = 32) : WordOnly w s (s.writeWord w l bad) :=
  (wordOnly_touchBed s w).trans (wordOnly_storeWord _ _ _ (by simp [padTo, hl]))

theorem mem_writeWord (s : State) {w k : Nat} {l : List Byte} (bad : Bool) (hl : l.length = 32) (hk : k < 32) :
    memGet (s.writeWord w l bad).mem (32 * w + k) = l.getD k 0 := by
  rw [State.writeWord, mem_storeWord _ _ (by simp [padTo, hl]) hk]
  simp [padTo, hl]

/-- A masked write changes its word only. -/
theorem wordOnly_maskedStore (s : State) (req w : Nat) {l : List (Option Byte)} (hl : l.length = 32) :
    WordOnly w s (s.maskedStore req w l) := by
  have hw := wordOnly_telltale w (telltale_watched s (32 * w) 32 2 req)
  unfold State.maskedStore
  dsimp only
  split
  · exact WordOnly.refl w s
  · split
    · exact hw.trans (wordOnly_writeWord _ _ _ (by simp [hl]))
    · exact hw.trans ((wordOnly_touchBed _ w).trans ((wordOnly_readWord _ _ w).trans
        (wordOnly_storeWord _ _ _ (by simp [hl, readWord_length]))))

/-- A byte of a merge: the mask's where it names one, the word's otherwise. -/
theorem getD_merge {l : List (Option Byte)} {m : List Byte} {k : Nat} {o : Option Byte} {x : Byte} (hl : l[k]? = some o)
    (hm : m[k]? = some x) : ((l.zip m).map fun e => e.1.getD e.2).getD k 0 = o.getD x := by
  have hz : (l.zip m)[k]? = some (o, x) := List.getElem?_zip_eq_some.mpr ⟨hl, hm⟩
  simp [hz]

/-- A byte that the mask names is written. -/
theorem maskedStore_some (s : State) (req w : Nat) {l : List (Option Byte)} {k : Nat} {b : Byte} (hl : l.length = 32)
    (hk : l[k]? = some (some b)) : memGet (s.maskedStore req w l).mem (32 * w + k) = b := by
  have hlt : k < 32 := by rw [← hl]; exact (List.getElem?_eq_some_iff.mp hk).1
  have hmem : some b ∈ l := List.mem_of_getElem? hk
  unfold State.maskedStore
  dsimp only
  split
  · next hnone => simpa using List.all_eq_true.mp hnone _ hmem
  · split
    · rw [mem_writeWord _ _ (by simp [hl]) hlt]
      simp [hk]
    · have hread := readWord_length ((s.watched (32 * w) 32 2 req).touchBed w) req w
      rw [mem_storeWord _ _ (by simp [hl, hread]) hlt]
      exact getD_merge hk (List.getElem?_eq_getElem (by omega))

/-- A byte that the mask leaves out of a clean word stands. -/
theorem maskedStore_none {s : State} (req : Nat) {w : Nat} {l : List (Option Byte)} {k : Nat} (hl : l.length = 32)
    (hk : l[k]? = some none) (hplain : s.plainWord w) : memGet (s.maskedStore req w l).mem (32 * w + k) = memGet s.mem (32 * w + k) := by
  have hlt : k < 32 := by rw [← hl]; exact (List.getElem?_eq_some_iff.mp hk).1
  have hmem : none ∈ l := List.mem_of_getElem? hk
  unfold State.maskedStore
  dsimp only
  split
  · rfl
  · split
    · next hall => simpa using List.all_eq_true.mp hall _ hmem
    · have hw := (telltale_watched s (32 * w) 32 2 req).1
      have hplain' : (s.watched (32 * w) 32 2 req).plainWord w := by
        rw [State.plainWord, State.bedComm, hw]; exact hplain
      obtain ⟨hmem', htouched⟩ := touchBed_plain hplain'
      rw [State.readWord_plain _ req w htouched, mem_storeWord _ _ (by simp [hl, memRead_length]) hlt,
        getD_merge hk (by simp [memRead, hlt]; rfl), hmem', hw]
      rfl

/-! ### The bytes of the lanes -/

/-- Byte `j` of a register. -/
def regByte (c : Core) (reg j : Nat) : Byte := BitVec.ofNat 8 (c.g128 reg / 2 ^ (8 * j))

theorem toLe_getElem? (n v : Nat) {j : Nat} (hj : j < n) : (toLe n v)[j]? = some (BitVec.ofNat 8 (v / 2 ^ (8 * j))) := by
  induction n generalizing v j with
  | zero => omega
  | succ n ih =>
    cases j with
    | zero => simp [toLe]
    | succ j =>
      rw [toLe, List.getElem?_cons_succ, ih _ (by omega), Nat.div_div_eq_div_mul, show 256 = 2 ^ 8 by rfl, ← pow_add,
        show 8 + 8 * j = 8 * (j + 1) by omega]

/-- A byte of a lane is a byte of its register. -/
theorem lane_byte (c : Core) (reg i j : Nat) (hj : j < 4) :
    BitVec.ofNat 8 (c.lane reg i / 2 ^ (8 * j)) = regByte c reg (4 * i + j) := by
  apply BitVec.eq_of_toNat_eq
  refine Nat.eq_of_testBit_eq fun k => ?_
  rw [regByte, BitVec.toNat_ofNat, BitVec.toNat_ofNat, Core.lane, bits, Nat.testBit_mod_two_pow, Nat.testBit_mod_two_pow,
    Nat.testBit_div_two_pow, Nat.testBit_mod_two_pow, Nat.testBit_shiftRight, Nat.testBit_div_two_pow]
  by_cases hk : k < 8
  · simp only [hk, decide_true, Bool.true_and, show k + 8 * j < 32 by omega]
    congr 1; omega
  · simp [hk]

/-- Pieces of four, one behind the other. -/
theorem flatMap_four {α : Type} (f : Nat → List α) (hf : ∀ i, (f i).length = 4) (n : Nat) :
    ((List.range n).flatMap f).length = 4 * n ∧ ∀ j, j < 4 * n → ((List.range n).flatMap f)[j]? = (f (j / 4))[j % 4]? := by
  induction n with
  | zero => simp
  | succ n ih =>
    obtain ⟨hlen, hget⟩ := ih
    rw [List.range_succ, List.flatMap_append, List.flatMap_singleton]
    refine ⟨by rw [List.length_append, hlen, hf]; omega, fun j hj => ?_⟩
    by_cases h : j < 4 * n
    · rw [List.getElem?_append_left (by omega), hget j h]
    · rw [List.getElem?_append_right (by omega), hlen, show j / 4 = n by omega, show j - 4 * n = j % 4 by omega]

/-- The mask of one lane. -/
def laneMask (c : Core) (w : Slot) (reg i : Nat) : List (Option Byte) :=
  if c.laneOn w i then (toLe 4 (c.lane reg i)).map some else List.replicate 4 none

theorem laneMask_length (c : Core) (w : Slot) (reg i : Nat) : (laneMask c w reg i).length = 4 := by
  unfold laneMask; split <;> simp [toLe_length]

theorem laneBytes_length (c : Core) (w : Slot) (reg : Nat) : (laneBytes c w reg).length = 16 :=
  (flatMap_four (laneMask c w reg) (laneMask_length c w reg) 4).1

/-- The mask of a 16-byte store: the register's bytes in the lanes that pass. -/
theorem laneBytes_getElem? (c : Core) (w : Slot) (reg : Nat) {j : Nat} (hj : j < 16) :
    (laneBytes c w reg)[j]? = some (if c.laneOn w (j / 4) then some (regByte c reg j) else none) := by
  have h := (flatMap_four (laneMask c w reg) (laneMask_length c w reg) 4).2 j hj
  have hmod : j % 4 < 4 := Nat.mod_lt _ (by decide)
  refine h.trans ?_
  unfold laneMask
  split
  · rw [List.getElem?_map, toLe_getElem? _ _ hmod, Option.map_some, lane_byte _ _ _ _ hmod, show 4 * (j / 4) + j % 4 = j by omega]
  · rw [List.getElem?_replicate, if_pos hmod]

/-- The mask of a store of `n` bytes from byte `o` of a word on: byte `j` of the store in its lane, nothing outside the store. -/
structure MaskOf (c : Core) (w : Slot) (o n : Nat) (l : List (Option Byte)) : Prop where
  length : l.length = 32
  inside : ∀ j, j < n → l[o + j]? = some (if c.laneOn w (j % 16 / 4) then some (regByte c (w.srca + j / 16) (j % 16)) else none)
  outside : ∀ k, k < 32 → k < o ∨ o + n ≤ k → l[k]? = some none

theorem maskOf_half (c : Core) (w : Slot) {half : Nat} (h : half < 2) :
    MaskOf c w (16 * half) 16 (halfMask half (laneBytes c w w.srca)) := by
  have hlen := laneBytes_length c w w.srca
  have hin (j : Nat) (hj : j < 16) : (laneBytes c w w.srca)[j]? =
      some (if c.laneOn w (j % 16 / 4) then some (regByte c (w.srca + j / 16) (j % 16)) else none) := by
    rw [laneBytes_getElem? c w _ hj, Nat.mod_eq_of_lt hj, Nat.div_eq_of_lt hj, Nat.add_zero]
  unfold halfMask
  obtain rfl | rfl : half = 0 ∨ half = 1 := by omega
  · refine ⟨by simp [hlen], fun j hj => ?_, fun k hk hout => ?_⟩
    · rw [if_pos rfl, List.getElem?_append_left (by omega), show 16 * 0 + j = j by omega, hin j hj]
    · rw [if_pos rfl, List.getElem?_append_right (by omega), List.getElem?_replicate, if_pos (by omega)]
  · refine ⟨by simp [hlen], fun j hj => ?_, fun k hk hout => ?_⟩
    · rw [if_neg (by decide), List.getElem?_append_right (by simp), List.length_replicate, show 16 * 1 + j - 16 = j by omega, hin j hj]
    · rw [if_neg (by decide), List.getElem?_append_left (by simp; omega), List.getElem?_replicate, if_pos (by omega)]

theorem maskOf_word (c : Core) (w : Slot) : MaskOf c w 0 32 (laneBytes c w w.srca ++ laneBytes c w (w.srca + 1)) := by
  have hlen := laneBytes_length c w w.srca
  have hlen' := laneBytes_length c w (w.srca + 1)
  refine ⟨by rw [List.length_append, hlen, hlen'], fun j hj => ?_, fun k hk hout => by omega⟩
  rw [Nat.zero_add]
  by_cases h : j < 16
  · rw [List.getElem?_append_left (by omega), laneBytes_getElem? c w _ h, Nat.mod_eq_of_lt h, Nat.div_eq_of_lt h, Nat.add_zero]
  · rw [List.getElem?_append_right (by omega), hlen, laneBytes_getElem? c w _ (by omega), show j % 16 = j - 16 by omega,
      show j / 16 = 1 by omega]

/-- A masked write under the mask of a store is the store. -/
theorem storesAt_maskedStore {s : State} {c : Core} {w : Slot} {x o n : Nat} {l : List (Option Byte)} (req : Nat) (hmask : MaskOf c w o n l)
    (hfit : o + n ≤ 32) (ho : o < 32) : StoresAt s (s.maskedStore req x l) c w (32 * x + o) n := by
  have hword : (32 * x + o) / 32 = x := by omega
  refine ⟨fun a ha => (wordOnly_maskedStore s req x hmask.length).2.2 a (by omega), fun j hj hon => ?_, fun hecc hbed a ha hout => ?_⟩
  · have hin := hmask.inside j hj
    rw [hon, if_pos rfl] at hin
    rw [Nat.add_assoc, maskedStore_some s req x hmask.length hin]
    rfl
  · rw [hword] at hecc hbed ha
    obtain ⟨k, hk, rfl⟩ : ∃ k, k < 32 ∧ a = 32 * x + k := ⟨a % 32, Nat.mod_lt _ (by decide), by omega⟩
    refine maskedStore_none req hmask.length ?_ ⟨hecc, hbed⟩
    by_cases hrange : o ≤ k ∧ k < o + n
    · have hin := hmask.inside (k - o) (by omega)
      have hoff : c.laneOn w ((k - o) % 16 / 4) = false := by
        rw [show 32 * x + k - (32 * x + o) = k - o by omega] at hout
        by_contra hcon
        exact hout ⟨by omega, by omega, by simpa using hcon⟩
      rwa [show o + (k - o) = k by omega, hoff, if_neg (by decide)] at hin
    · exact hmask.outside k hk (by omega)

/-! ### O11 -/

/-- What a store leaves of a state that the issue of the slot made. -/
theorem storesAt_issued {s t : State} {u : Issue} {r : Rig} {c : Core} {w : Slot} {base n : Nat}
    (h : StoresAt (s.issued u r) t c w base n) : StoresAt s t c w base n := by
  simpa [StoresAt, State.bedComm] using h

/-- A store that issues: its masked write, and the core moves on. -/
theorem store_results {s : State} {u : Issue} {w : Slot} {r : Rig} {x o n : Nat} {l : List (Option Byte)} (req : Nat)
    (hmask : MaskOf (s.slotCore u) w o n l) (hfit : o + n ≤ 32) (ho : o < 32) :
    SameOutside s (((s.issued u r).maskedStore req x l).slotDone (slotKey u) (s.slotCore u)) ∧
    (((s.issued u r).maskedStore req x l).slotDone (slotKey u) (s.slotCore u)).cores = s.cores.put {} (slotKey u) (s.slotCore u).next ∧
    StoresAt s (((s.issued u r).maskedStore req x l).slotDone (slotKey u) (s.slotCore u)) (s.slotCore u) w (32 * x + o) n := by
  obtain ⟨hout, hcores, _⟩ := wordOnly_maskedStore (s.issued u r) req x hmask.length
  refine ⟨sameOutside_trans (sameOutside_issued s u r) (sameOutside_trans hout (sameOutside_setCore _ _ _)), ?_, ?_⟩
  · rw [State.slotDone, State.setCore, hcores, issued_cores]
  · exact storesAt_issued (storesAt_maskedStore req hmask hfit ho)

theorem coreHalf_lt (w : Slot) : coreHalf w < 2 := Nat.mod_lt _ (by decide)

theorem subop_bit_of_issues {s : State} {u : Issue} {op : Op} {w : Slot} {r : Rig} {row : OpRow} (hrow : opRow op = some row)
    (hsubs : row.subs = upTo 2) (h : Issues s u op w r) : w.subop.testBit 0 = decide (w.subop = 1) := by
  have hsub := (slotOk_listed hrow (valid_of_issues h)).2
  rw [hsubs, upTo, List.mem_range] at hsub
  exact subop_testBit (by omega)

/-- Settles O11. -/
theorem slotStoreResults : Obligations.SlotStoreResults := by
  unfold Obligations.SlotStoreResults
  refine ⟨?stc, ?stc2, ?stw, ?stw2⟩
  case stc =>
    intro u w s r h
    have hhalf := coreHalf_lt w
    refine ⟨_, ?_, store_results (r := r) 1 (maskOf_half _ w hhalf) (by omega) (by omega)⟩
    change execSlStc u w s = _
    rw [execSlStc, runSlot_of_issues h]
  case stc2 =>
    intro u w s r h
    refine ⟨_, ?_, store_results (r := r) 1 (maskOf_word _ w) (by omega) (by omega)⟩
    change execSlStc2 u w s = _
    rw [execSlStc2, runSlot_of_issues h]
  case stw =>
    intro u w s r a h hregion halign
    have hhalf : a / 16 % 2 < 2 := Nat.mod_lt _ (by decide)
    have haddr : a = 32 * (a / 32) + 16 * (a / 16 % 2) := by omega
    have hstore := store_results (s := s) (u := u) (r := r) (x := a / 32) 1 (maskOf_half _ w hhalf) (by omega) (by omega)
    rw [← haddr] at hstore
    refine ⟨_, ?_, hstore⟩
    change execSlStw u w s = _
    rw [execSlStw, runSlot_of_issues h]
    simp only [subop_bit_of_issues rfl rfl h, hregion]
  case stw2 =>
    intro u w s r a h hregion halign
    have haddr : a = 32 * (a / 32) + 0 := by omega
    have hstore := store_results (s := s) (u := u) (r := r) (x := a / 32) 1 (maskOf_word _ w) (by omega) (by omega)
    rw [← haddr] at hstore
    refine ⟨_, ?_, hstore⟩
    change execSlStw2 u w s = _
    rw [execSlStw2, runSlot_of_issues h]
    simp only [subop_bit_of_issues rfl rfl h, hregion]

end Sys2Proof.Proofs.CoreStores
end

section
/-!
PROOFS. Pushes of a core (04 R198, 05 R209 to R214): an add joins the queue of its unit, through an adder tree that holds no other group
of the rig, and O13.
-/

namespace Sys2Proof.Proofs.CorePushes

open Sys2Proof Sys2Proof.Machine Sys2Proof.Proofs.SlotRules Sys2Proof.Proofs.IssueFrame Sys2Proof.Proofs.CoreStores

/-- An add joins the adds in queue; the unit's page may count it. -/
theorem queueAdd_frame (s : State) (m : MAdd) :
    ∃ fed, CountsOnly { s with fabric := { s.fabric with adds := s.fabric.adds ++ [m], fed := fed } } (s.queueAdd m) := by
  unfold State.queueAdd
  dsimp only
  split
  · split
    · exact ⟨_, (countsOnly_bump _ _ _ _).trans (countsOnly_latchEvt _ _ _ _)⟩
    · exact ⟨_, countsOnly_refl _⟩
  · exact ⟨_, countsOnly_refl _⟩

/-- A push through a tree that holds no other group of its rig joins the adds in queue with its leaf. -/
theorem treePush_alone {s : State} {m : MAdd} (pos : Nat) (h : ∀ x ∈ s.fabric.adds, x.src ≠ m.src) :
    s.treePush pos m = some (s.queueAdd { m with leaves := [(pos, m.data)] }) := by
  unfold State.treePush
  dsimp only
  rw [if_neg, if_neg]
  · simp only [List.any_eq_true, not_exists, not_and, decide_eq_true_eq]
    exact fun x hx hsrc => absurd hsrc (h x hx)
  · simp only [List.any_eq_true, not_exists, not_and, Bool.and_eq_true, decide_eq_true_eq]
    exact fun x hx hsame => absurd hsame.1.1 (h x hx)

/-- How the add of a push is applied. -/
def pushFmt (r : Rig) (w : Slot) : AddFmt :=
  match w.fmt with
  | 3 => .u64
  | 4 => .modq (r.q w)
  | 5 | 6 => .f32
  | _ => .u32

theorem pushFmt_eq (r : Rig) (w : Slot) :
    pushFmt r w = if w.fmt = 3 then AddFmt.u64 else if w.fmt = 4 then AddFmt.modq (r.q w)
      else if w.fmt = 5 ∨ w.fmt = 6 then AddFmt.f32 else AddFmt.u32 := by
  unfold pushFmt
  split <;> simp_all

/-- The add that a push makes. -/
def pushedAdd (u : Issue) (w : Slot) (r : Rig) (c : Core) (a : Nat) : MAdd where
  addr := a
  bytes := if w.fmt = 6 ∧ w.subop.testBit 1 = false then 32 else 16
  fmt := pushFmt r w
  data := BitVec.ofNat 256 (pushData c w)
  poison := w.subop.testBit 1 && c.accBad.get false w.acc
  src := .rig u.rig
  entered := if w.subop.testBit 0 then u.cycle else u.cycle + 24
  tree := if w.subop.testBit 0 then none else some (u.ord, w.fmt, w.qreg, w.modsel)

/-- What a queued add leaves, once the core has moved on. -/
theorem pushed_results {s : State} {u : Issue} {r : Rig} (m : MAdd) :
    (((s.issued u r).queueAdd m).slotDone (slotKey u) (s.slotCore u)).fabric.adds = s.fabric.adds ++ [m] ∧
    (((s.issued u r).queueAdd m).slotDone (slotKey u) (s.slotCore u)).cores = s.cores.put {} (slotKey u) (s.slotCore u).next ∧
    SameOutside s (((s.issued u r).queueAdd m).slotDone (slotKey u) (s.slotCore u)) ∧
    (((s.issued u r).queueAdd m).slotDone (slotKey u) (s.slotCore u)).mem = s.mem := by
  obtain ⟨fed, _, _, _, h⟩ := queueAdd_frame (s.issued u r) m
  rw [h]
  refine ⟨?_, ?_, ?_, ?_⟩
  · simp [State.slotDone]
  · simp [State.slotDone, State.setCore]
  · exact sameOutside_trans (sameOutside_issued s u r) rfl
  · simp [State.slotDone]

/-- Settles O13. -/
theorem slotPushResults : Obligations.SlotPushResults := by
  unfold Obligations.SlotPushResults
  intro u w s r a h hregion htree
  have hwide : (decide (w.fmt = 6) && !w.subop.testBit 1) = decide (w.fmt = 6 ∧ w.subop.testBit 1 = false) := by
    cases w.subop.testBit 1 <;> simp
  have hexec : exec (.slTpush u w) s = .next (((s.issued u r).queueAdd { pushedAdd u w r (s.slotCore u) a with
      leaves := if w.subop.testBit 0 then [] else [(u.pos, (pushedAdd u w r (s.slotCore u) a).data)] }).slotDone (slotKey u)
        (s.slotCore u)) := by
    change execSlTpush u w s = _
    rw [execSlTpush, runSlot_of_issues h]
    simp only [hwide, decide_eq_true_eq, hregion]
    cases hdirect : w.subop.testBit 0
    · rw [treePush_alone u.pos (by rw [issued_fabric]; exact htree hdirect)]
      simp only [pushedAdd, hdirect, Bool.false_eq_true, if_false]
      rfl
    · simp only [pushedAdd, hdirect, if_true, Nat.add_zero]
      rfl
  obtain ⟨hadds, hcores, hout, hmem⟩ := pushed_results (s := s) (u := u) (r := r) { pushedAdd u w r (s.slotCore u) a with
    leaves := if w.subop.testBit 0 then [] else [(u.pos, (pushedAdd u w r (s.slotCore u) a).data)] }
  exact ⟨_, _, hexec, hadds, hcores, hout, hmem, rfl, rfl, rfl, rfl, pushFmt_eq r w, rfl, rfl⟩

end Sys2Proof.Proofs.CorePushes
end

section
/-!
PROOFS. Parts of the state that latching an event, a wake event, the cycle and an emission leave, and the event register that a latch
writes.
-/

namespace Sys2Proof.Proofs.FieldRules

open Sys2Proof Sys2Proof.Machine

variable (s : State)

/-- A register at another address stands. -/
theorem reg_setReg_ne (p q : Page) (i j off o : Nat) (v : W32) (h : regAddr q j o ≠ regAddr p i off) :
    (s.setReg p i off v).reg q j o = s.reg q j o := NMap.get_put_ne' _ _ _ _ _ _ h

/-! ### Events -/

@[simp] theorem latchEvt_mem (p : Page) (i m : Nat) : (s.latchEvt p i m).mem = s.mem := by
  obtain ⟨r, o, x, h⟩ := s.latchEvt_frame p i m
  rw [h]

@[simp] theorem latchEvt_ecc (p : Page) (i m : Nat) : (s.latchEvt p i m).ecc = s.ecc := by
  obtain ⟨r, o, x, h⟩ := s.latchEvt_frame p i m
  rw [h]

@[simp] theorem latchEvt_cores (p : Page) (i m : Nat) : (s.latchEvt p i m).cores = s.cores := by
  obtain ⟨r, o, x, h⟩ := s.latchEvt_frame p i m
  rw [h]

@[simp] theorem latchEvt_fabric (p : Page) (i m : Nat) : (s.latchEvt p i m).fabric = s.fabric := by
  obtain ⟨r, o, x, h⟩ := s.latchEvt_frame p i m
  rw [h]

@[simp] theorem latchEvt_spill (p : Page) (i m : Nat) : (s.latchEvt p i m).spill = s.spill := by
  obtain ⟨r, o, x, h⟩ := s.latchEvt_frame p i m
  rw [h]

@[simp] theorem latchEvt_rounds (p : Page) (i m : Nat) : (s.latchEvt p i m).rounds = s.rounds := by
  obtain ⟨r, o, x, h⟩ := s.latchEvt_frame p i m
  rw [h]

@[simp] theorem latchEvt_net (p : Page) (i m : Nat) : (s.latchEvt p i m).net = s.net := by
  obtain ⟨r, o, x, h⟩ := s.latchEvt_frame p i m
  rw [h]

@[simp] theorem latchEvt_cipher (p : Page) (i m : Nat) : (s.latchEvt p i m).cipher = s.cipher := by
  obtain ⟨r, o, x, h⟩ := s.latchEvt_frame p i m
  rw [h]

@[simp] theorem latchEvt_weights (p : Page) (i m : Nat) : (s.latchEvt p i m).weights = s.weights := by
  obtain ⟨r, o, x, h⟩ := s.latchEvt_frame p i m
  rw [h]

@[simp] theorem latchEvt_keep (p : Page) (i m : Nat) : (s.latchEvt p i m).keep = s.keep := by
  obtain ⟨r, o, x, h⟩ := s.latchEvt_frame p i m
  rw [h]

@[simp] theorem latchEvt_ten (p : Page) (i m : Nat) : (s.latchEvt p i m).ten = s.ten := by
  obtain ⟨r, o, x, h⟩ := s.latchEvt_frame p i m
  rw [h]

@[simp] theorem latchEvt_boot (p : Page) (i m : Nat) : (s.latchEvt p i m).boot = s.boot := by
  obtain ⟨r, o, x, h⟩ := s.latchEvt_frame p i m
  rw [h]

@[simp] theorem latchEvt_power (p : Page) (i m : Nat) : (s.latchEvt p i m).power = s.power := by
  obtain ⟨r, o, x, h⟩ := s.latchEvt_frame p i m
  rw [h]

@[simp] theorem latchEvt_stroke (p : Page) (i m : Nat) : (s.latchEvt p i m).stroke = s.stroke := by
  obtain ⟨r, o, x, h⟩ := s.latchEvt_frame p i m
  rw [h]

/-- The event register holds the old events and the new ones. -/
theorem latchEvt_reg_self (p : Page) (i m : Nat) :
    (s.latchEvt p i m).reg p i 0x14 = s.reg p i 0x14 ||| BitVec.ofNat 32 (m % 2 ^ p.evtBits) := by
  have hset (v : W32) : ((s.setReg p i 0x14 v).sendVector (p.vector i)).reg p i 0x14 = v := by
    obtain ⟨o, x, h⟩ := (s.setReg p i 0x14 v).sendVector_frame (p.vector i) false
    rw [h]
    exact s.reg_setReg_self p i 0x14 v
  unfold State.latchEvt
  dsimp only
  split
  · exact hset _
  · exact s.reg_setReg_self _ _ _ _

/-- Every other register stands. -/
theorem latchEvt_reg_ne (p q : Page) (i j m off : Nat) (h : regAddr q j off ≠ regAddr p i 0x14) :
    (s.latchEvt p i m).reg q j off = s.reg q j off := by
  have hset (v : W32) : (s.setReg p i 0x14 v).reg q j off = s.reg q j off := NMap.get_put_ne' _ _ _ _ _ _ h
  have hsend (v : W32) : ((s.setReg p i 0x14 v).sendVector (p.vector i)).reg q j off = s.reg q j off := by
    obtain ⟨o, x, h⟩ := (s.setReg p i 0x14 v).sendVector_frame (p.vector i) false
    rw [h]
    exact hset v
  unfold State.latchEvt
  dsimp only
  split
  · exact hsend _
  · exact hset _

/-! ### Wake events -/

@[simp] theorem wake_mem (c lo hi : Nat) : (s.wake c lo hi).mem = s.mem := by
  obtain ⟨x, r, o, h⟩ := s.wake_frame c lo hi
  rw [h]

@[simp] theorem wake_ecc (c lo hi : Nat) : (s.wake c lo hi).ecc = s.ecc := by
  obtain ⟨x, r, o, h⟩ := s.wake_frame c lo hi
  rw [h]

@[simp] theorem wake_cores (c lo hi : Nat) : (s.wake c lo hi).cores = s.cores := by
  obtain ⟨x, r, o, h⟩ := s.wake_frame c lo hi
  rw [h]

@[simp] theorem wake_fabric (c lo hi : Nat) : (s.wake c lo hi).fabric = s.fabric := by
  obtain ⟨x, r, o, h⟩ := s.wake_frame c lo hi
  rw [h]

@[simp] theorem wake_spill (c lo hi : Nat) : (s.wake c lo hi).spill = s.spill := by
  obtain ⟨x, r, o, h⟩ := s.wake_frame c lo hi
  rw [h]

@[simp] theorem wake_rounds (c lo hi : Nat) : (s.wake c lo hi).rounds = s.rounds := by
  obtain ⟨x, r, o, h⟩ := s.wake_frame c lo hi
  rw [h]

@[simp] theorem wake_net (c lo hi : Nat) : (s.wake c lo hi).net = s.net := by
  obtain ⟨x, r, o, h⟩ := s.wake_frame c lo hi
  rw [h]

@[simp] theorem wake_cipher (c lo hi : Nat) : (s.wake c lo hi).cipher = s.cipher := by
  obtain ⟨x, r, o, h⟩ := s.wake_frame c lo hi
  rw [h]

@[simp] theorem wake_weights (c lo hi : Nat) : (s.wake c lo hi).weights = s.weights := by
  obtain ⟨x, r, o, h⟩ := s.wake_frame c lo hi
  rw [h]

@[simp] theorem wake_keep (c lo hi : Nat) : (s.wake c lo hi).keep = s.keep := by
  obtain ⟨x, r, o, h⟩ := s.wake_frame c lo hi
  rw [h]

@[simp] theorem wake_ten (c lo hi : Nat) : (s.wake c lo hi).ten = s.ten := by
  obtain ⟨x, r, o, h⟩ := s.wake_frame c lo hi
  rw [h]

@[simp] theorem wake_boot (c lo hi : Nat) : (s.wake c lo hi).boot = s.boot := by
  obtain ⟨x, r, o, h⟩ := s.wake_frame c lo hi
  rw [h]

@[simp] theorem wake_power (c lo hi : Nat) : (s.wake c lo hi).power = s.power := by
  obtain ⟨x, r, o, h⟩ := s.wake_frame c lo hi
  rw [h]

@[simp] theorem wake_stroke (c lo hi : Nat) : (s.wake c lo hi).stroke = s.stroke := by
  obtain ⟨x, r, o, h⟩ := s.wake_frame c lo hi
  rw [h]

/-- A wake event writes no register but the one of REEF that shows its cause. -/
theorem wake_reg_ne (c lo hi : Nat) (q : Page) (j off : Nat) (h : regAddr q j off ≠ regAddr .reef 0 0x4C) :
    (s.wake c lo hi).reg q j off = s.reg q j off := by
  have hemit (t : State) (o : Out) : (t.emit o).regs = t.regs := by
    obtain ⟨x, hx⟩ := t.emit_frame o
    rw [hx]
  have hset (t : State) (v : W32) : (t.setReg .reef 0 0x4C v).reg q j off = t.reg q j off := reg_setReg_ne _ _ _ _ _ _ _ _ h
  have hdwell : (if c = 1 ∨ c = 9 then s else s.breakDwells).regs = s.regs := by split <;> rfl
  unfold State.wake State.startExit
  dsimp only
  split
  · split
    · rfl
    · split
      · rw [State.reg, hemit]
        exact (hset _ _).trans (by rw [State.reg, hdwell, State.reg])
      · exact (hset _ _).trans (by rw [State.reg, hdwell, State.reg])
  · rfl

theorem woken_reg_ne (p q : Page) (j off : Nat) (h : regAddr q j off ≠ regAddr .reef 0 0x4C) :
    (s.woken p).reg q j off = s.reg q j off := by
  unfold State.woken
  split
  · rfl
  · exact wake_reg_ne s 2 2 4 q j off h

theorem woken_queue (p : Page) (n : Nat) : (s.woken p).queue n = s.queue n := by
  unfold State.woken
  split
  · rfl
  · rw [State.queue, wake_spill, State.queue]

/-! ### The cycle -/

@[simp] theorem atCycle_mem (c : Nat) : (s.atCycle c).mem = s.mem := by
  obtain ⟨x, h⟩ := s.atCycle_frame c
  rw [h]

@[simp] theorem atCycle_ecc (c : Nat) : (s.atCycle c).ecc = s.ecc := by
  obtain ⟨x, h⟩ := s.atCycle_frame c
  rw [h]

@[simp] theorem atCycle_cores (c : Nat) : (s.atCycle c).cores = s.cores := by
  obtain ⟨x, h⟩ := s.atCycle_frame c
  rw [h]

@[simp] theorem atCycle_fabric (c : Nat) : (s.atCycle c).fabric = s.fabric := by
  obtain ⟨x, h⟩ := s.atCycle_frame c
  rw [h]

@[simp] theorem atCycle_spill (c : Nat) : (s.atCycle c).spill = s.spill := by
  obtain ⟨x, h⟩ := s.atCycle_frame c
  rw [h]

@[simp] theorem atCycle_rounds (c : Nat) : (s.atCycle c).rounds = s.rounds := by
  obtain ⟨x, h⟩ := s.atCycle_frame c
  rw [h]

@[simp] theorem atCycle_net (c : Nat) : (s.atCycle c).net = s.net := by
  obtain ⟨x, h⟩ := s.atCycle_frame c
  rw [h]

@[simp] theorem atCycle_cipher (c : Nat) : (s.atCycle c).cipher = s.cipher := by
  obtain ⟨x, h⟩ := s.atCycle_frame c
  rw [h]

@[simp] theorem atCycle_weights (c : Nat) : (s.atCycle c).weights = s.weights := by
  obtain ⟨x, h⟩ := s.atCycle_frame c
  rw [h]

@[simp] theorem atCycle_keep (c : Nat) : (s.atCycle c).keep = s.keep := by
  obtain ⟨x, h⟩ := s.atCycle_frame c
  rw [h]

@[simp] theorem atCycle_ten (c : Nat) : (s.atCycle c).ten = s.ten := by
  obtain ⟨x, h⟩ := s.atCycle_frame c
  rw [h]

@[simp] theorem atCycle_boot (c : Nat) : (s.atCycle c).boot = s.boot := by
  obtain ⟨x, h⟩ := s.atCycle_frame c
  rw [h]

@[simp] theorem atCycle_power (c : Nat) : (s.atCycle c).power = s.power := by
  obtain ⟨x, h⟩ := s.atCycle_frame c
  rw [h]

@[simp] theorem atCycle_regs (c : Nat) : (s.atCycle c).regs = s.regs := by
  obtain ⟨x, h⟩ := s.atCycle_frame c
  rw [h]

@[simp] theorem atCycle_out (c : Nat) : (s.atCycle c).out = s.out := by
  obtain ⟨x, h⟩ := s.atCycle_frame c
  rw [h]

@[simp] theorem atCycle_now (c : Nat) : (s.atCycle c).stroke.now = s.stroke.now := by
  obtain ⟨x, h⟩ := s.atCycle_frame c
  rw [h]

/-- Strokes that run count cycles. -/
theorem atCycle_generating {c : Nat} (h : s.generating = true) : s.atCycle c = { s with stroke := { s.stroke with cycle := c } } := by
  have hrun : (s.tt.halted || !s.stroke.running) = false := by
    simp only [State.generating, Bool.and_eq_true, Bool.not_eq_true'] at h
    simp [h.1.2, h.1.1.1]
  rw [State.atCycle, hrun]
  rfl

/-- The cycle decides nothing about an access. -/
theorem takes_atCycle {s : State} {p : Page} (c : Nat) (h : Takes s p) : Takes (s.atCycle c) p := by
  obtain ⟨x, hx⟩ := s.atCycle_frame c
  rw [hx]
  exact h

/-- A generator that counts takes the cycle. -/
theorem atCycle_clocked {s : State} (c : Nat) (h : Clocked s) : s.atCycle c = { s with stroke := { s.stroke with cycle := c } } := by
  obtain ⟨hhalt, hrun⟩ := h
  simp [State.atCycle, hhalt, hrun]

/-- The stroke of effect of what lands in a cycle. -/
theorem effStroke_atCycle {s v : State} {c : Nat} (h : Clocked s) (hv : v.stroke = (s.atCycle c).stroke) : v.effStroke = effAt s c := by
  rw [State.effStroke, hv, atCycle_clocked c h, effAt]

/-! ### Emissions -/

@[simp] theorem emit_mem (o : Out) : (s.emit o).mem = s.mem := by
  obtain ⟨x, h⟩ := s.emit_frame o
  rw [h]

@[simp] theorem emit_ecc (o : Out) : (s.emit o).ecc = s.ecc := by
  obtain ⟨x, h⟩ := s.emit_frame o
  rw [h]

@[simp] theorem emit_cores (o : Out) : (s.emit o).cores = s.cores := by
  obtain ⟨x, h⟩ := s.emit_frame o
  rw [h]

@[simp] theorem emit_fabric (o : Out) : (s.emit o).fabric = s.fabric := by
  obtain ⟨x, h⟩ := s.emit_frame o
  rw [h]

@[simp] theorem emit_spill (o : Out) : (s.emit o).spill = s.spill := by
  obtain ⟨x, h⟩ := s.emit_frame o
  rw [h]

@[simp] theorem emit_rounds (o : Out) : (s.emit o).rounds = s.rounds := by
  obtain ⟨x, h⟩ := s.emit_frame o
  rw [h]

@[simp] theorem emit_net (o : Out) : (s.emit o).net = s.net := by
  obtain ⟨x, h⟩ := s.emit_frame o
  rw [h]

@[simp] theorem emit_cipher (o : Out) : (s.emit o).cipher = s.cipher := by
  obtain ⟨x, h⟩ := s.emit_frame o
  rw [h]

@[simp] theorem emit_weights (o : Out) : (s.emit o).weights = s.weights := by
  obtain ⟨x, h⟩ := s.emit_frame o
  rw [h]

@[simp] theorem emit_keep (o : Out) : (s.emit o).keep = s.keep := by
  obtain ⟨x, h⟩ := s.emit_frame o
  rw [h]

@[simp] theorem emit_ten (o : Out) : (s.emit o).ten = s.ten := by
  obtain ⟨x, h⟩ := s.emit_frame o
  rw [h]

@[simp] theorem emit_boot (o : Out) : (s.emit o).boot = s.boot := by
  obtain ⟨x, h⟩ := s.emit_frame o
  rw [h]

@[simp] theorem emit_power (o : Out) : (s.emit o).power = s.power := by
  obtain ⟨x, h⟩ := s.emit_frame o
  rw [h]

@[simp] theorem emit_stroke (o : Out) : (s.emit o).stroke = s.stroke := by
  obtain ⟨x, h⟩ := s.emit_frame o
  rw [h]

end Sys2Proof.Proofs.FieldRules
end

section
/-!
PROOFS. Events, notices and wakes: what latching an event of a queue, evaluating its zone and finishing one of its items can change, as
one relation that the producers and consumers of every chapter use.
-/

namespace Sys2Proof.Proofs.QueueEvents

open Sys2Proof Sys2Proof.Machine Sys2Proof.Proofs.IssueFrame

/-! ### What was sent only grows -/

/-- Nothing that `s` sent is taken back in `t`. -/
def SentGrows (s t : State) : Prop := ∃ l, t.out = l ++ s.out

theorem SentGrows.refl (s : State) : SentGrows s s := ⟨[], rfl⟩

theorem SentGrows.of_eq {s t : State} (h : t.out = s.out) : SentGrows s t := ⟨[], h⟩

theorem SentGrows.trans {s t v : State} (h : SentGrows s t) (k : SentGrows t v) : SentGrows s v := by
  obtain ⟨l, hl⟩ := h
  obtain ⟨m, hm⟩ := k
  exact ⟨m ++ l, by rw [hm, hl, List.append_assoc]⟩

theorem SentGrows.mem {s t : State} (h : SentGrows s t) {o : Out} (ho : o ∈ s.out) : o ∈ t.out := by
  obtain ⟨l, hl⟩ := h
  rw [hl]
  exact List.mem_append_right l ho

theorem SentGrows.foldl {α : Type} {f : State → α → State} {l : List α} (h : ∀ a ∈ l, ∀ s, SentGrows s (f s a)) (s : State) :
    SentGrows s (l.foldl f s) := by
  induction l generalizing s with
  | nil => exact SentGrows.refl s
  | cons a l ih => exact (h a List.mem_cons_self s).trans (ih (fun b hb => h b (List.mem_cons_of_mem _ hb)) (f s a))

theorem sent_emit (s : State) (o : Out) : SentGrows s (s.emit o) := by
  unfold State.emit
  split
  · exact SentGrows.refl s
  · exact ⟨[o], rfl⟩

theorem sent_sendVector (s : State) (v : Nat) (special : Bool) : SentGrows s (s.sendVector v special) := by
  unfold State.sendVector
  dsimp only
  split
  · exact ⟨[], rfl⟩
  · exact ⟨[.msix v], rfl⟩

theorem sent_latchEvt (s : State) (p : Page) (i m : Nat) : SentGrows s (s.latchEvt p i m) := by
  unfold State.latchEvt
  dsimp only
  split
  · exact (SentGrows.of_eq rfl : SentGrows s (s.setReg p i 0x14 _)).trans (sent_sendVector _ _ _)
  · exact SentGrows.of_eq rfl

theorem sent_matchHalt (s : State) (cause hit : Nat) : SentGrows s (s.matchHalt cause hit) := by
  unfold State.matchHalt
  dsimp only
  repeat' split
  all_goals exact SentGrows.of_eq rfl

theorem sent_bpHit (s : State) (b : Nat) : SentGrows s (s.bpHit b) := by
  have hcount : SentGrows s ((s.bump .telltale 0 (0x10C + 16 * b)).latchEvt .telltale 0 2) :=
    (SentGrows.of_eq rfl : SentGrows s (s.bump .telltale 0 (0x10C + 16 * b))).trans (sent_latchEvt _ _ _ _)
  unfold State.bpHit
  dsimp only
  split
  · exact hcount
  · exact hcount.trans (sent_matchHalt _ _ _)

theorem sent_bpMatch (s : State) (kind : Nat) (f : Nat → Bool) : SentGrows s (s.bpMatch kind f) :=
  SentGrows.foldl (fun b _ t => sent_bpHit t b) s

/-! ### The relation -/

/-- Contents, configuration and marks of a queue: all but its events, notices, packet count, arming and zone. -/
def queueBody (q : Queue) : Queue := { q with evt := 0, notices := 0, packets := 0, armed := false, zone := .low }

/-- `t` is `s` but for registers of the REEF, TELLTALE and SPILL pages, a reef exit that starts, the debug port, pending vectors, what
was sent besides, and the events and notices of queues. -/
structure EventsOnly (s t : State) : Prop where
  frame : t = { s with
    regs := t.regs, tt := t.tt, out := t.out, pcie := { s.pcie with pba := t.pcie.pba }
    reef := { s.reef with exiting := t.reef.exiting, held2 := t.reef.held2, held3 := t.reef.held3, held4 := t.reef.held4 }
    spill := { s.spill with queues := t.spill.queues } }
  regs : ∀ d a, ¬ (0x3000 ≤ a ∧ a < 0x4000) → ¬ (0x5000 ≤ a ∧ a < 0x6000) → ¬ (0x40000 ≤ a ∧ a < 0x50000) →
    t.regs.get d a = s.regs.get d a
  sent : SentGrows s t
  queues : ∀ k, queueBody (t.queue k) = queueBody (s.queue k)

theorem EventsOnly.refl (s : State) : EventsOnly s s := ⟨rfl, fun _ _ _ _ _ => rfl, SentGrows.refl s, fun _ => rfl⟩

theorem EventsOnly.trans {s t v : State} (h : EventsOnly s t) (k : EventsOnly t v) : EventsOnly s v where
  frame := by rw [k.frame, h.frame]
  regs := fun d a h1 h2 h3 => (k.regs d a h1 h2 h3).trans (h.regs d a h1 h2 h3)
  sent := h.sent.trans k.sent
  queues := fun n => (k.queues n).trans (h.queues n)

theorem EventsOnly.of_telltale {s t : State} (h : TelltaleOnly s t) (hs : SentGrows s t) : EventsOnly s t where
  frame := by rw [h.1]
  regs := fun d a _ h2 _ => h.2 d a h2
  sent := hs
  queues := fun k => by rw [State.queue, h.1, State.queue]

/-- A change of one queue that keeps its body. -/
theorem events_setQueue (s : State) (n : Nat) {q : Queue} (h : queueBody q = queueBody (s.queue n)) :
    EventsOnly s (s.setQueue n q) where
  frame := rfl
  regs := fun _ _ _ _ _ => rfl
  sent := SentGrows.of_eq rfl
  queues := fun k => by
    by_cases hk : k = n
    · subst hk
      rw [State.queue_setQueue_self, h]
    · rw [State.queue_setQueue_ne _ _ _ _ hk]

theorem events_setReg (s : State) (p : Page) (i off : Nat) (v : W32)
    (h : 0x3000 ≤ regAddr p i off ∧ regAddr p i off < 0x4000 ∨ 0x40000 ≤ regAddr p i off ∧ regAddr p i off < 0x50000) :
    EventsOnly s (s.setReg p i off v) where
  frame := rfl
  regs := fun _ a _ _ _ => NMap.get_put_ne' _ _ _ _ _ _ (by omega)
  sent := SentGrows.of_eq rfl
  queues := fun _ => rfl

theorem events_sendVector (s : State) (v : Nat) (special : Bool) : EventsOnly s (s.sendVector v special) :=
  .of_telltale (telltale_sendVector s v special) (sent_sendVector s v special)

theorem events_latchSpill (s : State) {k : Nat} (hk : k < 16) (m : Nat) : EventsOnly s (s.latchEvt .spill k m) := by
  have hset (v : W32) : EventsOnly s (s.setReg .spill k 0x14 v) :=
    events_setReg s _ _ _ v (Or.inr (by simp only [regAddr, Page.base]; omega))
  unfold State.latchEvt
  dsimp only
  split
  · exact (hset _).trans (events_sendVector _ _ _)
  · exact hset _

theorem events_bpQueue (s : State) (n bit : Nat) : EventsOnly s (s.bpQueue n bit) :=
  .of_telltale (telltale_bpMatch s 1 _) (sent_bpMatch s 1 _)

theorem events_emit (s : State) (o : Out) : EventsOnly s (s.emit o) := by
  unfold State.emit
  split
  · exact .refl s
  · exact ⟨rfl, fun _ _ _ _ _ => rfl, ⟨[o], rfl⟩, fun _ => rfl⟩

/-- The start of a reef exit. -/
theorem events_startExit (s : State) (cause : Nat) : EventsOnly s (s.startExit cause) := by
  have hbreak : EventsOnly s (if cause = 1 ∨ cause = 9 then s else s.breakDwells) := by
    split
    · exact .refl s
    · exact ⟨rfl, fun _ _ _ _ _ => rfl, SentGrows.of_eq rfl, fun _ => rfl⟩
  unfold State.startExit
  split
  · exact .refl s
  · generalize (if cause = 1 ∨ cause = 9 then s else s.breakDwells) = s0 at hbreak ⊢
    have hexit : EventsOnly s0 ({ s0 with reef := { s0.reef with exiting := true } } : State) :=
      ⟨rfl, fun _ _ _ _ _ => rfl, SentGrows.of_eq rfl, fun _ => rfl⟩
    have hreg := hbreak.trans (hexit.trans (events_setReg _ .reef 0 0x4C (BitVec.ofNat 32 (cause + 16 * s.reef.level))
      (Or.inl (by simp only [regAddr, Page.base]; omega))))
    dsimp only
    split
    · exact hreg.trans (events_emit _ _)
    · exact hreg

theorem events_wake (s : State) (cause lo hi : Nat) : EventsOnly s (s.wake cause lo hi) := by
  unfold State.wake
  split
  · exact events_startExit s cause
  · exact .refl s

theorem events_woken (s : State) (p : Page) : EventsOnly s (s.woken p) := by
  unfold State.woken
  split
  · exact .refl s
  · exact events_wake s 2 2 4

/-! ### Events of a queue -/

theorem events_queueEvt (s : State) (n bit : Nat) : EventsOnly s (s.queueEvt n bit) := by
  have hset := events_setQueue s n (q := { s.queue n with evt := (s.queue n).evt ||| BitVec.ofNat 6 (2 ^ bit) }) rfl
  unfold State.queueEvt
  dsimp only
  split
  · exact hset
  · next hn => exact hset.trans ((events_latchSpill _ (by omega) _).trans (events_bpQueue _ n bit))

theorem events_evalZone (s : State) (n : Nat) : EventsOnly s (s.evalZone n) := by
  have hset := events_setQueue s n (q := { s.queue n with zone := (s.queue n).zoneOf (s.queue n).level }) rfl
  unfold State.evalZone
  dsimp only
  split
  · exact hset
  · split
    · exact hset.trans (events_queueEvt _ n 1)
    · exact hset.trans (events_queueEvt _ n 2)
    · exact hset

theorem events_disarm (s : State) (n : Nat) : EventsOnly s (s.setQueue n { s.queue n with armed := false }) :=
  events_setQueue s n rfl

theorem events_notice (s : State) (n : Nat) : EventsOnly s (s.notice n) := by
  have hcount := (events_setQueue s n (q := { s.queue n with
    notices := min ((s.queue n).notices + 1) 0xFFFFFF, packets := min ((s.queue n).packets + 1) 0xFFFFFFFF }) rfl).trans
    (events_queueEvt _ n 0)
  unfold State.notice
  dsimp only
  split
  · exact hcount.trans ((events_disarm _ n).trans (events_sendVector _ _ _))
  · exact hcount

theorem events_itemDone (s : State) (n : Nat) : EventsOnly s (s.itemDone n) := by
  have hnotice := (events_notice s n).trans (events_evalZone _ n)
  unfold State.itemDone
  dsimp only
  split
  · exact hnotice.trans (events_wake _ 4 2 4)
  · exact hnotice.trans (events_wake _ 4 2 4)
  · exact hnotice

/-! ### What the relation keeps -/

section
variable {s t : State} (h : EventsOnly s t)
include h

theorem EventsOnly.mem : t.mem = s.mem := by rw [h.frame]
theorem EventsOnly.ecc : t.ecc = s.ecc := by rw [h.frame]
theorem EventsOnly.cores : t.cores = s.cores := by rw [h.frame]
theorem EventsOnly.fabric : t.fabric = s.fabric := by rw [h.frame]
theorem EventsOnly.rounds : t.rounds = s.rounds := by rw [h.frame]
theorem EventsOnly.net : t.net = s.net := by rw [h.frame]
theorem EventsOnly.cipher : t.cipher = s.cipher := by rw [h.frame]
theorem EventsOnly.weights : t.weights = s.weights := by rw [h.frame]
theorem EventsOnly.stroke : t.stroke = s.stroke := by rw [h.frame]
theorem EventsOnly.keep : t.keep = s.keep := by rw [h.frame]
theorem EventsOnly.ten : t.ten = s.ten := by rw [h.frame]
theorem EventsOnly.held : t.spill.held = s.spill.held := by rw [h.frame]
theorem EventsOnly.holding : t.holding = s.holding := by rw [State.holding, h.stroke, State.holding]

/-- A register outside the three pages. -/
theorem EventsOnly.reg {p : Page} {i off : Nat} (h1 : ¬ (0x3000 ≤ regAddr p i off ∧ regAddr p i off < 0x4000))
    (h2 : ¬ (0x5000 ≤ regAddr p i off ∧ regAddr p i off < 0x6000))
    (h3 : ¬ (0x40000 ≤ regAddr p i off ∧ regAddr p i off < 0x50000)) : t.reg p i off = s.reg p i off :=
  h.regs _ _ h1 h2 h3

theorem EventsOnly.items (n : Nat) : (t.queue n).items = (s.queue n).items :=
  (congrArg Queue.items (h.queues n) : (queueBody _).items = (queueBody _).items)

theorem EventsOnly.rd (n : Nat) : (t.queue n).rd = (s.queue n).rd :=
  (congrArg Queue.rd (h.queues n) : (queueBody _).rd = (queueBody _).rd)

theorem EventsOnly.inPlace (n : Nat) : (t.queue n).inPlace = (s.queue n).inPlace :=
  (congrArg Queue.inPlace (h.queues n) : (queueBody _).inPlace = (queueBody _).inPlace)

end

end Sys2Proof.Proofs.QueueEvents
end

section
/-!
PROOFS. Production into a spill queue (10 R387 to R392): what each operation puts at the end of the queue, for an operation that is
accepted. Cores, windows, doorbells, engines and the transport use these.
-/

namespace Sys2Proof.Proofs.QueueRules

open Sys2Proof Sys2Proof.Machine Sys2Proof.Proofs.QueueEvents

/-! ### The parts of an operation -/

/-- The queue with other items, and some count of words in the head window. -/
def withItems (q : Queue) (l : List QItem) (k : Nat) : Queue := { q with items := l, inPlace := k }

/-- Queue `n` of `t` holds the items `l`; else `t` is `s` but for events and the head window. -/
def QueueHolds (s t : State) (n : Nat) (l : List QItem) : Prop := ∃ k, EventsOnly (s.setQueue n (withItems (s.queue n) l k)) t

theorem grow_eq (q : Queue) (k : Nat) : ∃ j, q.grow k = { q with inPlace := j } := by
  unfold Queue.grow
  dsimp only
  split <;> exact ⟨_, rfl⟩

theorem openItem_last {q : Queue} {l : List QItem} {x : QItem} (h : q.items = l ++ [x]) :
    q.openItem = if x.closed then none else some x := by
  simp [Queue.openItem, h]

theorem modifyLast_last {q : Queue} {l : List QItem} {x : QItem} (h : q.items = l ++ [x]) (f : QItem → QItem) :
    q.modifyLast f = { q with items := l ++ [f x] } := by
  simp [Queue.modifyLast, h]

theorem ownOpen_unopened {q : Queue} (h : q.openItem = none) (hf : q.flushed = []) (p : Producer) : q.ownOpen p = false := by
  simp [Queue.ownOpen, h, hf]

theorem otherOpen_unopened {q : Queue} (h : q.openItem = none) (p : Producer) : q.otherOpen p = false := by
  simp [Queue.otherOpen, h]

/-- The queue written last stands. -/
theorem events_setQueue_twice (s : State) (n : Nat) (a b : Queue) : EventsOnly (s.setQueue n b) ((s.setQueue n a).setQueue n b) where
  frame := rfl
  regs := fun _ _ _ _ _ => rfl
  sent := SentGrows.refl _
  queues := fun k => by
    by_cases hk : k = n
    · subst hk
      rw [State.queue_setQueue_self, State.queue_setQueue_self]
    · simp only [State.queue_setQueue_ne _ _ _ _ hk]

section
variable {s t : State} {n : Nat} {l : List QItem} (h : QueueHolds s t n l)
include h

theorem QueueHolds.items : (t.queue n).items = l := by
  obtain ⟨k, h⟩ := h
  rw [h.items, State.queue_setQueue_self]
  rfl

theorem QueueHolds.mem : t.mem = s.mem := h.elim fun _ h => h.mem
theorem QueueHolds.ecc : t.ecc = s.ecc := h.elim fun _ h => h.ecc
theorem QueueHolds.cores : t.cores = s.cores := h.elim fun _ h => h.cores
theorem QueueHolds.fabric : t.fabric = s.fabric := h.elim fun _ h => h.fabric
theorem QueueHolds.rounds : t.rounds = s.rounds := h.elim fun _ h => h.rounds
theorem QueueHolds.net : t.net = s.net := h.elim fun _ h => h.net
theorem QueueHolds.cipher : t.cipher = s.cipher := h.elim fun _ h => h.cipher
theorem QueueHolds.weights : t.weights = s.weights := h.elim fun _ h => h.weights
theorem QueueHolds.stroke : t.stroke = s.stroke := h.elim fun _ h => h.stroke
theorem QueueHolds.keep : t.keep = s.keep := h.elim fun _ h => h.keep
theorem QueueHolds.held : t.spill.held = s.spill.held := h.elim fun _ h => h.held

theorem QueueHolds.events {v : State} (k : EventsOnly t v) : QueueHolds s v n l := h.elim fun j h => ⟨j, h.trans k⟩

end

/-- A queue of other items, grown by some words. -/
theorem holds_setQueue_grow (s : State) (n : Nat) (l : List QItem) (k : Nat) :
    QueueHolds s (s.setQueue n (({ s.queue n with items := l } : Queue).grow k)) n l := by
  obtain ⟨j, hj⟩ := grow_eq { s.queue n with items := l } k
  rw [hj]
  exact ⟨j, EventsOnly.refl _⟩

theorem holds_setQueue (s : State) (n : Nat) (l : List QItem) : QueueHolds s (s.setQueue n { s.queue n with items := l }) n l :=
  ⟨(s.queue n).inPlace, EventsOnly.refl _⟩

/-- A second change of the items, after the first. -/
theorem QueueHolds.setQueue {s t : State} {n : Nat} {l : List QItem} (h : QueueHolds s t n l) (m : List QItem) :
    QueueHolds s (t.setQueue n { t.queue n with items := m }) n m := by
  obtain ⟨k, h⟩ := h
  refine ⟨k, ?_, h.regs, h.sent, fun j => ?_⟩
  · exact congrArg (fun v : State => v.setQueue n { t.queue n with items := m }) h.frame
  · have hj := h.queues j
    by_cases hjn : j = n
    · subst hjn
      rw [State.queue_setQueue_self] at hj ⊢
      rw [State.queue_setQueue_self]
      exact congrArg (fun q : Queue => { q with items := m }) hj
    · rw [State.queue_setQueue_ne _ _ _ _ hjn] at hj ⊢
      rw [State.queue_setQueue_ne _ _ _ _ hjn, hj]

/-- What the end of an item adds for a producer that is no core. -/
theorem QueueHolds.ifDone {s t : State} {n : Nat} {l : List QItem} (h : QueueHolds s t n l) (b : Bool) :
    QueueHolds s (if b then t else t.itemDone n) n l := by
  split
  · exact h
  · exact h.events (events_itemDone t n)

/-! ### The operations -/

/-- A data word of the producer's open packet. -/
theorem pushData_accepts {s : State} {n : Nat} {l : List QItem} {x : QItem} (d : QWord) (hitems : (s.queue n).items = l ++ [x])
    (hopen : x.closed = false) (habandoned : x.abandoned = false) (hroom : (s.queue n).level + 1 ≤ (s.queue n).cap)
    (hwords : x.dataWords < 65536) :
    ∃ t, s.pushData n d = (.accepted, t) ∧ QueueHolds s t n (l ++ [{ x with words := x.words ++ [d] }]) := by
  refine ⟨_, ?_, holds_setQueue_grow s n _ 1⟩
  simp [State.pushData, openItem_last hitems, hopen, habandoned, Nat.not_lt.mpr hroom, hwords, modifyLast_last hitems]

/-- The close of the producer's open packet: its control word, its stroke, and whether it is complete. -/
theorem closeOpen_accepts {s : State} {n : Nat} {l : List QItem} {x : QItem} {h : QWord} {d : List QWord}
    (hitems : (s.queue n).items = l ++ [x]) (hopen : x.closed = false) (habandoned : x.abandoned = false) (hwords : x.words = h :: d)
    (hfreed : x.freed = 0) :
    ∃ t, s.closeOpen n = (.accepted, t) ∧ ∀ v m, QueueHolds v s n m → QueueHolds v t n (l ++ [{ x with
      words := { w := ctrlWord 2 d.length x.bytes x.src.code x.decision s.stroke.now x.qpn 0 } :: d
      closed := true, complete := !x.src.isCore, stroke := s.stroke.now }]) := by
  have hcount : x.dataWords = d.length := by simp [QItem.dataWords, hwords, hfreed]
  refine ⟨_, ?_, fun v m hv => (hv.setQueue _).ifDone x.src.isCore⟩
  simp only [State.closeOpen, openItem_last hitems, hopen, habandoned, modifyLast_last hitems, hwords, hcount, Bool.false_eq_true, if_false]

/-- An opened packet with its first word. -/
theorem openPacket_accepts {s : State} {n : Nat} (p : Producer) (w : QWord) (hopen : (s.queue n).openItem = none)
    (hflushed : (s.queue n).flushed = []) (hroom : (s.queue n).level + 2 ≤ (s.queue n).cap) :
    ∃ t, s.openPacket n p w = (.accepted, t) ∧
      QueueHolds s t n ((s.queue n).items ++ [{ kind := .packet, src := p, words := [{ w := 0 }, w] }]) := by
  refine ⟨_, ?_, holds_setQueue_grow s n _ 2⟩
  simp [State.openPacket, ownOpen_unopened hopen hflushed, otherOpen_unopened hopen, Nat.not_lt.mpr hroom]

/-- A lone marker. -/
theorem putMarker_accepts {s : State} {n : Nat} (p : Producer) (w : QWord) (hopen : (s.queue n).openItem = none)
    (hflushed : (s.queue n).flushed = []) (hroom : (s.queue n).level + 1 ≤ (s.queue n).cap) :
    ∃ t, s.putMarker n p w = (.accepted, t) ∧ QueueHolds s t n ((s.queue n).items ++
      [{ kind := .marker, src := p, words := [w], closed := true, complete := !p.isCore, stroke := s.stroke.now }]) := by
  refine ⟨_, ?_, (holds_setQueue_grow s n _ 1).ifDone p.isCore⟩
  simp [State.putMarker, ownOpen_unopened hopen hflushed, otherOpen_unopened hopen, Nat.not_lt.mpr hroom]

/-- A whole packet of a Plinth unit. -/
theorem putPacket_accepts {s : State} {n : Nat} (p : Producer) (words : List W256) (bytes qpn decision : Nat)
    (hopen : (s.queue n).openItem = none) (hflushed : (s.queue n).flushed = [])
    (hroom : (s.queue n).level + words.length + 1 ≤ (s.queue n).cap) :
    ∃ t, s.putPacket n p words bytes qpn decision = (.accepted, t) ∧ QueueHolds s t n ((s.queue n).items ++ [{
      kind := .packet, src := p, closed := true, complete := true, decision := decision, stroke := s.stroke.now, qpn := qpn, bytes := bytes
      words := { w := ctrlWord 2 words.length bytes p.code decision s.stroke.now qpn 0 } :: words.map fun w => { w := tagWord 1 w } }]) := by
  refine ⟨_, ?_, (holds_setQueue_grow s n _ (words.length + 1)).events (events_itemDone _ n)⟩
  simp [State.putPacket, ownOpen_unopened hopen hflushed, otherOpen_unopened hopen, Nat.not_lt.mpr hroom]

/-! ### The production operations of ENQ, windows and doorbells -/

theorem produce_data {s : State} {n : Nat} {l : List QItem} {x : QItem} {p : Producer} (w : W256) (bad : Bool)
    (hitems : (s.queue n).items = l ++ [x]) (hopen : x.closed = false) (habandoned : x.abandoned = false) (hsrc : x.src = p)
    (hflushed : (s.queue n).flushed = []) (hroom : (s.queue n).level + 1 ≤ (s.queue n).cap) (hwords : x.dataWords < 65536) :
    ∃ t, s.produce n p 0 w bad = (.accepted, t) ∧
      QueueHolds s t n (l ++ [{ x with words := x.words ++ [{ w := tagWord 1 w, bad := bad }] }]) := by
  obtain ⟨t, ht, hq⟩ := pushData_accepts { w := tagWord 1 w, bad := bad } hitems hopen habandoned hroom hwords
  refine ⟨t, ?_, hq⟩
  simp [State.produce, openItem_last hitems, hopen, hflushed, hsrc, ht]

theorem produce_open {s : State} {n : Nat} (p : Producer) (w : W256) (bad : Bool) (hopen : (s.queue n).openItem = none)
    (hflushed : (s.queue n).flushed = []) (hroom : (s.queue n).level + 2 ≤ (s.queue n).cap) :
    ∃ t, s.produce n p 1 w bad = (.accepted, t) ∧ QueueHolds s t n
      ((s.queue n).items ++ [{ kind := .packet, src := p, words := [{ w := 0 }, { w := tagWord 1 w, bad := bad }] }]) :=
  openPacket_accepts p _ hopen hflushed hroom

theorem produce_close {s : State} {n : Nat} {l : List QItem} {x : QItem} {h : QWord} {d : List QWord} {p : Producer} (w : W256)
    (bad : Bool) (hitems : (s.queue n).items = l ++ [x]) (hopen : x.closed = false) (habandoned : x.abandoned = false)
    (hsrc : x.src = p) (hw : x.words = h :: d) (hfreed : x.freed = 0) (hflushed : (s.queue n).flushed = [])
    (hroom : (s.queue n).level + 1 ≤ (s.queue n).cap) (hwords : x.dataWords < 65536) :
    ∃ t, s.produce n p 2 w bad = (.accepted, t) ∧ QueueHolds s t n (l ++ [{ x with
      words := { w := ctrlWord 2 (d.length + 1) x.bytes p.code x.decision s.stroke.now x.qpn 0 } ::
        d ++ [{ w := tagWord 1 w, bad := bad }]
      closed := true, complete := !p.isCore, stroke := s.stroke.now }]) := by
  subst hsrc
  obtain ⟨u, hu, hq⟩ := pushData_accepts { w := tagWord 1 w, bad := bad } hitems hopen habandoned hroom hwords
  obtain ⟨t, ht, hclose⟩ := closeOpen_accepts (s := u) (n := n) (h := h) (d := d ++ [{ w := tagWord 1 w, bad := bad }])
    hq.items hopen habandoned (by rw [hw]; rfl) hfreed
  refine ⟨t, ?_, ?_⟩
  · simp [State.produce, openItem_last hitems, hopen, hflushed, hu, ht]
  · have hdone := hclose s _ hq
    rwa [hq.stroke, List.length_append] at hdone

theorem produce_single {s : State} {n : Nat} (p : Producer) (w : W256) (bad : Bool) (hopen : (s.queue n).openItem = none)
    (hflushed : (s.queue n).flushed = []) (hroom : (s.queue n).level + 2 ≤ (s.queue n).cap) :
    ∃ t, s.produce n p 3 w bad = (.accepted, t) ∧ QueueHolds s t n ((s.queue n).items ++ [{
      kind := .packet, src := p, closed := true, complete := !p.isCore, stroke := s.stroke.now
      words := [{ w := ctrlWord 2 1 0 p.code 0 s.stroke.now 0 0 }, { w := tagWord 1 w, bad := bad }] }]) := by
  obtain ⟨u, hu, hq⟩ := openPacket_accepts p { w := tagWord 1 w, bad := bad } hopen hflushed hroom
  obtain ⟨t, ht, hclose⟩ := closeOpen_accepts (s := u) (n := n) (d := [{ w := tagWord 1 w, bad := bad }]) hq.items rfl rfl rfl rfl
  refine ⟨t, ?_, ?_⟩
  · simp [State.produce, hu, ht]
  · have hdone := hclose s _ hq
    rwa [hq.stroke] at hdone

theorem produce_marker {s : State} {n : Nat} (p : Producer) (w : W256) (bad : Bool) (hopen : (s.queue n).openItem = none)
    (hflushed : (s.queue n).flushed = []) (hroom : (s.queue n).level + 1 ≤ (s.queue n).cap) :
    ∃ t, s.produce n p 4 w bad = (.accepted, t) ∧ QueueHolds s t n ((s.queue n).items ++ [{
      kind := .marker, src := p, words := [{ w := tagWord 3 w, bad := bad }], closed := true, complete := !p.isCore
      stroke := s.stroke.now }]) :=
  putMarker_accepts p _ hopen hflushed hroom

end Sys2Proof.Proofs.QueueRules
end

section
/-!
PROOFS. Queue operations of a core (04 R199 to R205): O14 and O15.
-/

namespace Sys2Proof.Proofs.CoreQueue

open Sys2Proof Sys2Proof.Machine Sys2Proof.Proofs.SlotRules Sys2Proof.Proofs.IssueFrame Sys2Proof.Proofs.CoreMoves
  Sys2Proof.Proofs.QueueEvents Sys2Proof.Proofs.QueueRules

/-! ### ENQ -/

/-- An accepted operation of a core is the end of its ENQ: the word is counted, and the core has its answer. -/
theorem enqueued_of_produce {s t : State} {u : Issue} {w : Slot} {r : Rig} {b : RigQueue} {l : List QItem} {op : Nat}
    (h : Issues s u .enq w r) (hmay : MayEnqueue s u w r b)
    (hturn : op ≠ 0 ∧ op ≠ 2 → (s.queue b.queue).otherOpen (.core (slotKey u)) = false)
    (hput : (s.issued u r).produce b.queue (.core (slotKey u)) op ((s.slotCore u).enqWord w) = (.accepted, t))
    (hitems : QueueHolds (s.issued u r) t b.queue l) :
    ∃ v, runSlot s u .enq w (fun s1 r k c => s1.enq u op r k c w) = .next v ∧ Enqueued s v u w r ∧ (v.queue b.queue).items = l := by
  obtain ⟨hon, hqueue, hcount⟩ := hmay
  have hwait : ¬ (op ≠ 0 ∧ op ≠ 2 ∧ (s.queue b.queue).otherOpen (.core (slotKey u)) = true ∧
      (s.queue b.queue).ownOpen (.core (slotKey u)) = false) := by
    rintro ⟨h0, h2, hother, -⟩
    rw [hturn ⟨h0, h2⟩] at hother
    cases hother
  refine ⟨(t.setRig u.rig (r.put w.qreg)).setCore (slotKey u) (((s.slotCore u).setPred w.pdst
    (((List.range 4).filter ((s.slotCore u).laneOn w)).map fun i => (i, true))).next), ?_, ⟨?_, ?_, ?_⟩, ?_⟩
  · rw [runSlot_of_issues h]
    simp only [State.enq, hon, hqueue, issued_queue, hput, Bool.not_true, Bool.false_eq_true, if_false, ge_iff_le,
      Nat.not_le.mpr hcount, decide_true, if_true, State.enqEnd]
    simp only [ne_eq, Bool.not_eq_true'] at hwait ⊢
    rw [if_neg (by tauto)]
  · exact State.rig?_setRig_self _ _ _
  · exact hitems.mem.trans (issued_mem s u r)
  · change t.cores.put _ _ _ = _
    rw [hitems.cores, issued_cores]
  · exact hitems.items

/-- Settles O14, operation by operation: what the queue gets is the operation's rule, at the issued state. -/
theorem slotEnqueueResults : Obligations.SlotEnqueueResults := by
  unfold Obligations.SlotEnqueueResults
  refine ⟨?data, ?opened, ?close, ?single, ?marker⟩
  case data =>
    intro u w s r b l x h hop hmay hitems hopen habandoned hsrc hflushed hroom hwords
    rw [← issued_queue s u r] at hitems hflushed hroom
    obtain ⟨t, hput, hq⟩ := produce_data ((s.slotCore u).enqWord w) false hitems hopen habandoned hsrc hflushed hroom hwords
    change ∃ t, execSlEnqData u w s = _ ∧ _
    rw [execSlEnqData, if_neg (not_not.mpr hop)]
    exact enqueued_of_produce h hmay (fun hne => absurd rfl hne.1) hput hq
  case opened =>
    intro u w s r b h hop hmay hopen hflushed hroom
    have hturn := otherOpen_unopened hopen (.core (slotKey u))
    rw [← issued_queue s u r] at hopen hflushed hroom
    obtain ⟨t, hput, hq⟩ := produce_open (.core (slotKey u)) ((s.slotCore u).enqWord w) false hopen hflushed hroom
    rw [issued_queue] at hq
    change ∃ t, execSlEnqOpen u w s = _ ∧ _
    rw [execSlEnqOpen, if_neg (not_not.mpr hop)]
    exact enqueued_of_produce h hmay (fun _ => hturn) hput hq
  case close =>
    intro u w s r b l x hd d h hop hmay hitems hopen habandoned hsrc hw hfreed hflushed hroom hwords
    rw [← issued_queue s u r] at hitems hflushed hroom
    obtain ⟨t, hput, hq⟩ := produce_close ((s.slotCore u).enqWord w) false hitems hopen habandoned hsrc hw hfreed hflushed hroom hwords
    rw [issued_now] at hq
    change ∃ t, execSlEnqClose u w s = _ ∧ _
    rw [execSlEnqClose, if_neg (not_not.mpr hop)]
    exact enqueued_of_produce h hmay (fun hne => absurd rfl hne.2) hput hq
  case single =>
    intro u w s r b h hop hmay hopen hflushed hroom
    have hturn := otherOpen_unopened hopen (.core (slotKey u))
    rw [← issued_queue s u r] at hopen hflushed hroom
    obtain ⟨t, hput, hq⟩ := produce_single (.core (slotKey u)) ((s.slotCore u).enqWord w) false hopen hflushed hroom
    rw [issued_queue, issued_now] at hq
    change ∃ t, execSlEnqSingle u w s = _ ∧ _
    rw [execSlEnqSingle, if_neg (not_not.mpr hop)]
    exact enqueued_of_produce h hmay (fun _ => hturn) hput hq
  case marker =>
    intro u w s r b h hop hmay hopen hflushed hroom
    have hturn := otherOpen_unopened hopen (.core (slotKey u))
    rw [← issued_queue s u r] at hopen hflushed hroom
    obtain ⟨t, hput, hq⟩ := produce_marker (.core (slotKey u)) ((s.slotCore u).enqWord w) false hopen hflushed hroom
    rw [issued_queue, issued_now] at hq
    change ∃ t, execSlEnqMarker u w s = _ ∧ _
    rw [execSlEnqMarker, if_neg (not_not.mpr hop)]
    exact enqueued_of_produce h hmay (fun _ => hturn) hput hq

/-! ### DEQ, QMARK and QREL -/

/-- A consume slot that passes does its change of the queue. -/
theorem consumeOp_passes {s : State} {r : Rig} {k : Nat} {c : Core} {w : Slot} {b : RigQueue} (f : Queue → Queue)
    (hon : c.wholeOn w = true) (hqueue : r.queue? w.qreg = some b) :
    s.consumeOp r k c w f = (s.setQueue b.queue (f (s.queue b.queue))).setCore k c.next := by
  simp [State.consumeOp, hon, hqueue]

/-- Settles O15. -/
theorem slotConsumeResults : Obligations.SlotConsumeResults := by
  unfold Obligations.SlotConsumeResults
  refine ⟨?deq, ?deqEmpty, ?mark, ?rewind, ?rel⟩
  case deq =>
    intro u w s r b d q h hon hqueue hdeq
    change execSlDeq u w s = _
    rw [execSlDeq, runSlot_of_issues h]
    simp only [hon, hqueue, issued_queue, hdeq, Bool.not_true, Bool.false_eq_true, if_false]
  case deqEmpty =>
    intro u w s r b h hon hqueue hdeq
    change execSlDeq u w s = _
    rw [execSlDeq, runSlot_of_issues h]
    simp only [hon, hqueue, issued_queue, hdeq, Bool.not_true, Bool.false_eq_true, if_false]
  case mark =>
    intro u w s r b h hop hon hqueue
    change execSlQmarkSet u w s = _
    rw [execSlQmarkSet, if_neg (not_not.mpr hop), runSlot_of_issues h, consumeOp_passes _ hon hqueue, issued_queue]
  case rewind =>
    intro u w s r b h hop hon hqueue
    change execSlQmarkRewind u w s = _
    rw [execSlQmarkRewind, if_neg (not_not.mpr hop), runSlot_of_issues h, consumeOp_passes _ hon hqueue, issued_queue]
  case rel =>
    intro u w s r b h hon hqueue
    change execSlQrel u w s = _
    rw [execSlQrel, runSlot_of_issues h, consumeOp_passes _ hon hqueue, issued_queue]

end Sys2Proof.Proofs.CoreQueue
end

section
/-!
PROOFS. The block's step (O1) and the state after reset (O27).
-/

namespace Sys2Proof.Proofs.Block

open Sys2Proof Sys2Proof.Machine

theorem step_front {c : Instr} {q : List Instr} {s : State} (h : s.pending = c :: q) : step s = exec c { s with pending := q } := by
  rw [step, h]

theorem step_idle {s : State} (h : s.pending = []) : step s = .next s := by
  rw [step, h]

/-- Settles O1. -/
theorem stepRunsFront : Obligations.StepRunsFront := by
  unfold Obligations.StepRunsFront
  exact ⟨fun _ _ _ h => step_front h, fun _ h => step_idle h⟩

theorem reset_reg (p : Page) (i off : Nat) : State.reset.reg p i off = regReset (regAddr p i off) := rfl

/-- Settles O27, by the field values of the state that reset leaves. -/
theorem resetState : Obligations.ResetState := by
  unfold Obligations.ResetState
  refine ⟨rfl, rfl, rfl, rfl, rfl, rfl, rfl, rfl, rfl, rfl, rfl, rfl, rfl, rfl, rfl, rfl, rfl, rfl, rfl, rfl, ?canonical, reset_reg⟩
  case canonical => exact ⟨rfl, rfl⟩

end Sys2Proof.Proofs.Block
end

section
/-!
PROOFS. Alignment to the pin and to PTP, and adoption (02 R96 to R101, R107, R723, 11 R429, R439): O22.
-/

namespace Sys2Proof.Proofs.Alignment

open Sys2Proof Sys2Proof.Machine Sys2Proof.Proofs.FieldRules

/-! ### The mode of SYNC_STATE -/

theorem setSync_stroke (s : State) (x : SyncState) (held : Bool) :
    (s.setSync x held).stroke = { s.stroke with sync := x, fallback := s.stroke.fallback && decide (x = .lockedPtp) } := by
  unfold State.setSync
  dsimp only
  split
  · rfl
  · cases x <;> simp

/-- SYNC_MODE is a register of its own. -/
theorem syncMode_setReg (s : State) (p : Page) (i off : Nat) (v : W32) (h : regAddr .stroke 0 0x4C ≠ regAddr p i off) :
    (s.setReg p i off v).syncMode = s.syncMode := by
  rw [State.syncMode, reg_setReg_ne _ _ _ _ _ _ _ _ h, State.syncMode]

theorem setSync_mem (s : State) (x : SyncState) (held : Bool) : (s.setSync x held).mem = s.mem := by
  unfold State.setSync
  dsimp only
  split
  · rfl
  · cases x <;> simp

/-! ### Edges of the pin -/

/-- The state at a cycle. -/
def atEdge (s : State) (cycle : Nat) : State := { s with stroke := { s.stroke with cycle := cycle } }

theorem exec_syncEdge {s : State} {cycle : Nat} (hc : cycle < 2048) (hg : s.generating = true) :
    exec (.strokeSyncInEdge cycle) s = .next ((atEdge s cycle).syncEdge cycle) := by
  change execStrokeSyncInEdge cycle s = _
  rw [execStrokeSyncInEdge, if_neg (Nat.not_le.mpr hc), atCycle_generating s hg]
  rfl

/-- An edge that comes early is ignored. -/
theorem syncEdge_early {s : State} {cycle l : Nat} (hg : s.generating = true) (hl : s.stroke.lastEdge = some l)
    (hearly : (atEdge s cycle).time < l + 1844) : (atEdge s cycle).syncEdge cycle = (atEdge s cycle).ignoreEdge := by
  have hg' : (atEdge s cycle).generating = true := hg
  have hl' : (atEdge s cycle).stroke.lastEdge = some l := hl
  simp [State.syncEdge, hg', hl', hearly]

/-- An edge in time is accepted where the module is not locked to the pin. -/
theorem syncEdge_accepts {s : State} {cycle : Nat} (hg : s.generating = true)
    (htime : ∀ l, s.stroke.lastEdge = some l → l + 1844 ≤ (atEdge s cycle).time) (hsync : s.stroke.sync ≠ .lockedPin) :
    (atEdge s cycle).syncEdge cycle = (atEdge s cycle).acceptEdge (s.phaseOf cycle) := by
  have hg' : (atEdge s cycle).generating = true := hg
  have hsync' : (atEdge s cycle).stroke.sync ≠ .lockedPin := hsync
  have hlate : (atEdge s cycle).stroke.lastEdge.any (fun l => decide ((atEdge s cycle).time < l + 1844)) = false := by
    rw [Option.any_eq_false]
    intro l hl
    simpa using htime l hl
  have hphase : (atEdge s cycle).phaseOf cycle = s.phaseOf cycle := rfl
  simp [State.syncEdge, hg', hlate, hsync', hphase]

/-- Where SYNC_MODE does not follow the pin an accepted edge is only recorded. -/
theorem acceptEdge_unpinned {s : State} (e : Int) (hmode : s.pinMode = false) (hl : s.stroke.lastEdge = none) :
    s.acceptEdge e = ({ s with stroke := { s.stroke with lastEdge := some s.time, edgeSince := s.time, edgeRun := 1 } } : State).setReg
      .stroke 0 0x54 (BitVec.ofNat 32 (e % 65536).toNat) := by
  simp only [State.acceptEdge, hl, hmode, Option.any_none, Bool.false_eq_true, if_false, Bool.not_false, if_true]

/-- The 16th edge in a row that is spaced and near locks the module. -/
theorem acceptEdge_locks {s : State} {l : Nat} {e : Int} (hmode : s.pinMode = true) (hsync : s.stroke.sync = .acquiring)
    (hl : s.stroke.lastEdge = some l) (hrun : s.stroke.edgeRun = 15) (hfrom : l + 2040 ≤ s.time) (hto : s.time ≤ l + 2056)
    (hlow : -40 ≤ e) (hhigh : e ≤ 40) : (s.acceptEdge e).stroke.sync = .lockedPin := by
  simp [State.acceptEdge, hl, hfrom, hto, hrun, hmode, hlow, hhigh, hsync, setSync_stroke]

/-- Four strokes without an edge end the alignment. -/
theorem edgesLost_ends {s : State} (hg : s.generating = true) (hmode : s.pinMode = true) (htime : s.stroke.edgeSince + 4 * 2048 ≤ s.time)
    (hfallback : s.stroke.fallback = false) (hsync : s.stroke.sync ≠ .freeRun) :
    s.edgesLost.stroke.sync = (if s.syncMode = 3 ∧ s.stroke.ptpLocked = true then .lockedPtp else .freeRun) ∧
      s.edgesLost.stroke.fallback = decide (s.syncMode = 3 ∧ s.stroke.ptpLocked = true) := by
  have hdue : ¬ (!s.generating ∨ !s.pinMode ∨ s.time < s.stroke.edgeSince + 4 * 2048 ∨ s.stroke.fallback ∨ s.stroke.sync = .freeRun) := by
    simpa [hg, hmode, hfallback, hsync] using htime
  rw [State.edgesLost, if_neg hdue]
  by_cases hptp : s.syncMode = 3 ∧ s.stroke.ptpLocked = true
  · simp [hptp, setSync_stroke]
  · rw [if_neg hptp, if_neg hptp]
    simp [hptp, setSync_stroke]

/-! ### PTP -/

/-- What a lock leaves: STROKE_EPOCH at the first lock outside a crew, and SYNC_STATE in mode 2. -/
theorem ptpLock_results (s : State) (start : Int) :
    (s.ptpLock start).stroke.ptpLocked = true ∧
      (s.stroke.epochSet = false → s.inCrew = false → (s.ptpLock start).stroke.epoch = start - 1024 * s.stroke.now) ∧
      (s.syncMode = 2 → (s.ptpLock start).stroke.sync = .lockedPtp) := by
  unfold State.ptpLock
  dsimp only
  split
  · next hmode => exact ⟨by rw [setSync_stroke], fun h1 h2 => by simp [setSync_stroke, h1, h2], fun _ => by rw [setSync_stroke]⟩
  · next hmode => exact ⟨rfl, fun h1 h2 => by simp [h1, h2], fun h => absurd h hmode⟩

/-- The 16th good message locks the servo. -/
theorem ptpSync_locks {s : State} {port : Nat} {offset start : Int} (hen : (s.reg .eth port 0x58).toNat.testBit 0 = true)
    (hscrub : s.ten.scrubbing = false) (hpower : s.power.on = true) (hreef : s.reef.level ≠ 4) (hup : (s.port port).linkUp = true)
    (hunlocked : s.stroke.ptpLocked = false) (hgood : s.stroke.ptpGood = 15) (hlow : -50 ≤ offset) (hhigh : offset ≤ 50) :
    ∃ b v, s.ptpSync port offset start =
      (({ s with stroke := { s.stroke with ptpGood := 16, ptpBad := b } } : State).setReg .eth port 0x5C v).ptpLock start := by
  refine ⟨if offset < -200 ∨ 200 < offset then s.stroke.ptpBad + 1 else 0,
    BitVec.ofNat 32 ((clampI (-(2 ^ 31)) (2 ^ 31 - 1) offset) % 2 ^ 32).toNat, ?_⟩
  simp only [State.ptpSync, hen, hscrub, hpower, hreef, hup, hunlocked, hgood, hlow, hhigh, Bool.not_true, Bool.false_eq_true,
    or_self, if_false, and_self, if_true, Bool.not_false, ge_iff_le, Nat.reduceAdd, Nat.le_refl]

theorem ptpDrop_stroke (s : State) :
    s.ptpDrop.stroke.ptpLocked = false ∧ (s.stroke.sync = .lockedPtp → s.ptpDrop.stroke.sync = .freeRun) ∧
      (s.stroke.sync ≠ .lockedPtp → s.ptpDrop.stroke.sync = s.stroke.sync) := by
  unfold State.ptpDrop
  dsimp only
  split
  · next h => exact ⟨by rw [setSync_stroke], fun _ => by rw [setSync_stroke], fun hne => absurd h hne⟩
  · next h => exact ⟨rfl, fun he => absurd he h, fun _ => rfl⟩

/-! ### Adoption -/

/-- Where no round is live the module adopts the crew's stroke number. -/
theorem adoption_adopts {s : State} (hphase : s.hail.phase = .forming) (hat : s.hail.adoptAt = some s.stroke.now)
    (hidle : s.roundsIdle = true) :
    s.adoption.stroke.nextStroke = some s.hail.adoptV ∧ s.adoption.stroke.epoch = s.hail.adoptEpoch ∧
      s.adoption.hail.phase = .crew ∧ s.adoption.hail.formResult = 1 ∧ s.adoption.mem = s.mem := by
  have hjoin : ¬ (s.hail.phase ≠ .forming ∨ s.hail.adoptAt ≠ some s.stroke.now) := by simp [hphase, hat]
  rw [State.adoption, if_neg hjoin]
  simp [hidle, State.hail, State.setHail]

/-- Settles O22, an event at a time. -/
theorem alignmentResults : Obligations.AlignmentResults := by
  unfold Obligations.AlignmentResults
  refine ⟨?first, ?locks, ?early, ?lost, ?ptp, ?timeout, ?adopt⟩
  case first =>
    intro s cycle hc hg hl hsync hmode
    refine ⟨_, exec_syncEdge hc hg, ?_⟩
    rw [syncEdge_accepts hg (fun l h => by rw [hl] at h; cases h) hsync, acceptEdge_unpinned (s := atEdge s cycle) _ hmode hl]
    exact ⟨rfl, rfl, rfl, rfl⟩
  case locks =>
    intro s cycle l hc hg hmode hsync hl hrun hfrom hto hlow hhigh
    refine ⟨_, exec_syncEdge hc hg, ?_⟩
    have htime : (atEdge s cycle).time = 2048 * s.stroke.now + cycle + s.stroke.extra := rfl
    rw [syncEdge_accepts hg (fun m hm => ?_) (by rw [hsync]; decide)]
    · exact acceptEdge_locks (s := atEdge s cycle) hmode hsync hl hrun hfrom hto hlow hhigh
    · rw [hl] at hm
      cases hm
      omega
  case early =>
    intro s cycle l hc hg hl hearly
    refine ⟨_, exec_syncEdge hc hg, ?_⟩
    rw [syncEdge_early (cycle := cycle) hg hl hearly, State.ignoreEdge, latchEvt_stroke]
    rfl
  case lost =>
    intro s cycle hc hg hmode htime hfallback hsync
    refine ⟨(atEdge s cycle).edgesLost, ?_, edgesLost_ends (s := atEdge s cycle) hg hmode htime hfallback hsync⟩
    change execFreeRun cycle s = _
    rw [execFreeRun, if_neg (Nat.not_le.mpr hc), atCycle_generating s hg]
    rfl
  case ptp =>
    intro s port offset start hport hen hscrub hpower hreef hup hunlocked hgood hlow hhigh
    obtain ⟨b, v, hsync⟩ := ptpSync_locks (start := start) hen hscrub hpower hreef hup hunlocked hgood hlow hhigh
    refine ⟨s.ptpSync port offset start, ?_, ?_⟩
    · change execPtpSync port offset start s = _
      rw [execPtpSync, if_neg (Nat.not_le.mpr hport)]
    · obtain ⟨hlock, hepoch, hmode⟩ := ptpLock_results (({ s with stroke := { s.stroke with ptpGood := 16, ptpBad := b } } : State).setReg .eth port 0x5C v) start
      rw [← hsync] at hlock hepoch hmode
      refine ⟨hlock, hepoch, fun h => hmode ?_⟩
      · rw [syncMode_setReg _ _ _ _ _ (by simp only [regAddr, Page.base]; omega)]
        exact h
  case timeout =>
    intro s hlock hscrub
    change ∃ t, execPtpSyncTimeout s = _ ∧ _
    have hhold : (!s.stroke.ptpLocked || s.ten.scrubbing) = false := by simp [hlock, hscrub]
    rw [execPtpSyncTimeout, hhold]
    simp only [Bool.false_eq_true, if_false]
    split
    · refine ⟨_, rfl, ?_⟩
      simpa [State.ptpLose] using ptpDrop_stroke (s.latchEvt .eth _ 32)
    · exact ⟨_, rfl, ptpDrop_stroke s⟩
  case adopt =>
    intro s hg hphase hat hidle
    refine ⟨s.adoption, ?_, adoption_adopts hphase hat hidle⟩
    change execAdoption s = _
    rw [execAdoption, if_pos hg]

end Sys2Proof.Proofs.Alignment
end

section
/-!
PROOFS. Intake, the write-back of a bed and a Mortar add (02 R73, 05 R214 to R216, 10 R395): O21.
-/

namespace Sys2Proof.Proofs.Intake

open Sys2Proof Sys2Proof.Machine Sys2Proof.Proofs.IssueFrame Sys2Proof.Proofs.FieldRules Sys2Proof.Proofs.CoreStores
  Sys2Proof.Proofs.CorePushes

/-! ### Rigs run -/

/-- An entry of a map that is found is in it. -/
theorem mem_of_find? {α : Type} {m : NMap α} {k : Nat} {v : α} (h : m.find? k = some v) : (k, v) ∈ m := by
  induction m with
  | nil => cases h
  | cons e m ih =>
    simp only [NMap.find?] at h
    split at h
    · next hk => cases h; simp [← hk]
    · exact List.mem_cons_of_mem _ (ih h)

/-- Another key's entry stands. -/
theorem find?_insertAt_ne {α : Type} (m : NMap α) {k j : Nat} (v : α) (h : j ≠ k) : (m.insertAt k v).find? j = m.find? j := by
  induction m with
  | nil => simp [NMap.insertAt, NMap.find?, h.symm]
  | cons e m ih =>
    simp only [NMap.insertAt]
    split
    · simp [NMap.find?, h.symm]
    · split
      · next hk => simp [NMap.find?, h.symm, hk ▸ h.symm]
      · simp [NMap.find?, ih]

/-- Rig `id` runs in this stroke. -/
def RunsRig (s : State) (id : Nat) : Prop := ∃ y, s.rig? id = some y ∧ y.active = true

/-- `t` is `s` but for rigs that have become active, queues, adds, the dwells and counts of errors. -/
structure IntakeOnly (s t : State) : Prop where
  mem : t.mem = s.mem
  cores : t.cores = s.cores
  stroke : t.stroke = s.stroke
  runs : ∀ id, RunsRig s id → RunsRig t id

theorem IntakeOnly.trans {s t v : State} (h : IntakeOnly s t) (k : IntakeOnly t v) : IntakeOnly s v :=
  ⟨k.mem.trans h.mem, k.cores.trans h.cores, k.stroke.trans h.stroke, fun id hr => k.runs id (h.runs id hr)⟩

/-- A change that leaves the rigs. -/
theorem IntakeOnly.of_rigs {s t : State} (hmem : t.mem = s.mem) (hcores : t.cores = s.cores) (hstroke : t.stroke = s.stroke)
    (hrigs : t.fabric.rigs = s.fabric.rigs) : IntakeOnly s t :=
  ⟨hmem, hcores, hstroke, fun id h => by rwa [RunsRig, State.rig?, hrigs]⟩

theorem IntakeOnly.refl (s : State) : IntakeOnly s s := .of_rigs rfl rfl rfl rfl

theorem IntakeOnly.foldl {α : Type} {f : State → α → State} (h : ∀ s a, IntakeOnly s (f s a)) (l : List α) (s : State) :
    IntakeOnly s (l.foldl f s) := by
  induction l generalizing s with
  | nil => exact .refl s
  | cons a l ih => exact (h s a).trans (ih (f s a))

theorem intakeOnly_setRig (s : State) (id : Nat) {r : Rig} (h : r.active = true) :
    IntakeOnly s (s.setRig id r) ∧ RunsRig (s.setRig id r) id := by
  refine ⟨⟨rfl, rfl, rfl, fun k hk => ?_⟩, r, State.rig?_setRig_self _ _ _, h⟩
  by_cases hkid : k = id
  · subst hkid
    exact ⟨r, State.rig?_setRig_self _ _ _, h⟩
  · obtain ⟨y, hy, hactive⟩ := hk
    exact ⟨y, (find?_insertAt_ne _ _ hkid).trans hy, hactive⟩

/-- The consume queues of a rig leave the rigs. -/
theorem intakeOnly_queues (s : State) (l : List RigQueue) :
    IntakeOnly s (l.foldl (fun (t : State) b =>
      if b.role = 1 then
        let q := (t.queue b.queue).intake t.stroke.now (min b.allowance b.perStroke)
        let t1 := t.setQueue b.queue q
        if q.handedItems > 0 then t1.breakDwells else t1
      else t) s) := by
  refine IntakeOnly.foldl (fun t b => ?_) l s
  dsimp only
  repeat' split
  all_goals exact .of_rigs rfl rfl rfl rfl

theorem intakeRig_runs (s : State) (id : Nat) (r : Rig) :
    IntakeOnly s (s.intakeRig id r) ∧ (r.running = true → RunsRig (s.intakeRig id r) id) := by
  unfold State.intakeRig
  split
  · next h => exact ⟨.refl s, fun hr => by simp [hr] at h⟩
  · obtain ⟨hset, hruns⟩ := intakeOnly_setRig s id
      (r := { r with active := true, queues := r.queues.map fun b => { b with putCount := 0 } }) rfl
    have hqueues := intakeOnly_queues (s.setRig id
      { r with active := true, queues := r.queues.map fun b => { b with putCount := 0 } }) r.queues
    exact ⟨hset.trans hqueues, fun _ => hqueues.runs id hruns⟩

/-- Every rig of the list that may run runs after the intake of all. -/
theorem intakeRigs_run (l : List (Nat × Rig)) (s : State) {id : Nat} {r : Rig} (h : (id, r) ∈ l) (hr : r.running = true) :
    RunsRig (l.foldl (fun t e => t.intakeRig e.1 e.2) s) id := by
  induction l generalizing s with
  | nil => cases h
  | cons e l ih =>
    rw [List.foldl_cons]
    rcases List.mem_cons.mp h with he | hl
    · have hrest := IntakeOnly.foldl (fun t (e : Nat × Rig) => (intakeRig_runs t e.1 e.2).1) l (s.intakeRig e.1 e.2)
      subst he
      exact hrest.runs id ((intakeRig_runs s id r).2 hr)
    · exact ih _ hl

theorem intakeOnly_queueAdd (s : State) (m : MAdd) : IntakeOnly s (s.queueAdd m) := by
  obtain ⟨fed, r, o, x, h⟩ := queueAdd_frame s m
  rw [h]
  exact .of_rigs rfl rfl rfl rfl

theorem intakeOnly_feeder (s : State) (n : Nat) : IntakeOnly s (s.intakeFeeder n) := by
  unfold State.intakeFeeder
  refine IntakeOnly.trans ?_ (IntakeOnly.foldl (fun t m => intakeOnly_queueAdd t m) _ _)
  repeat' split
  all_goals exact .of_rigs rfl rfl rfl rfl

/-- The state in which intake begins: its stroke is marked. -/
def intakeMarked (s : State) : State := { s with stroke := { s.stroke with intakeAt := some s.stroke.now } }

/-- An intake that is due. -/
theorem intake_due {s : State} (hg : s.generating = true) (hgated : s.gated = false) (hat : s.stroke.intakeAt ≠ some s.stroke.now) :
    IntakeOnly (intakeMarked s) s.intake ∧ ∀ id r, s.rig? id = some r → r.running = true → RunsRig s.intake id := by
  have hdue : ¬ (!s.generating ∨ s.gated ∨ s.stroke.intakeAt = some s.stroke.now) := by simp [hg, hgated, hat]
  have hrigs := IntakeOnly.foldl (fun t (e : Nat × Rig) => (intakeRig_runs t e.1 e.2).1) s.fabric.rigs (intakeMarked s)
  have hfeeders (v : State) := IntakeOnly.foldl (fun t n => intakeOnly_feeder t n) v.feeders v
  rw [State.intake, if_neg hdue]
  exact ⟨hrigs.trans (hfeeders _), fun id r h hr => (hfeeders _).runs id (intakeRigs_run _ _ (mem_of_find? h) hr)⟩

/-! ### Beds and Mortar -/

/-- A committed bed entry goes to its word of memory. -/
theorem writeBack_results {s : State} {x : Nat} {v : W256} {bad : Bool} (h : s.bedComm x = some (v, bad)) :
    memRead (s.writeBack x).mem (32 * x) 32 = toLe 32 v.toNat ∧ (s.writeBack x).bedComm x = none ∧
      (∀ a, a / 32 ≠ x → memGet (s.writeBack x).mem a = memGet s.mem a) ∧
      s.writeBack x = { s with
        mem := (s.writeBack x).mem, ecc := (s.writeBack x).ecc, fabric := { s.fabric with bed := (s.writeBack x).fabric.bed } } := by
  have hback : s.writeBack x = { s.storeWord x (toLe 32 v.toNat) (if bad then poisonDelta else 0) with
      fabric := { s.fabric with bed := s.fabric.bed.put {} x { s.fabric.bed.get {} x with comm := none } } } := by
    rw [State.bedComm] at h
    simp only [State.writeBack, h]
    rfl
  rw [hback]
  refine ⟨?_, ?_, ?_, rfl⟩
  · have hself := memRead_memWrite_self s.mem (32 * x) (toLe 32 v.toNat)
    rwa [toLe_length] at hself
  · exact congrArg BedEntry.comm (NMap.get_put_self s.fabric.bed {} { s.fabric.bed.get {} x with comm := none } x)
  · intro a ha
    exact (wordOnly_storeWord s x (if bad then poisonDelta else 0) (toLe_length 32 v.toNat)).2.2 a ha

/-- The first add of a unit's queue is served, where its word is in the bed. -/
theorem serveMortar_first {s : State} {unit cycle : Nat} {m : MAdd} {l : List MAdd} (hadds : s.fabric.adds = m :: l)
    (hunit : s.mortarUnit m.addr = unit) (hentered : m.entered ≤ cycle) (hserve : s.canServe m = true) :
    ∃ held, s.serveMortar unit cycle =
      ({ s with fabric := { s.fabric with adds := l, held1920 := held } } : State).applyAdd m := by
  have htake : takeAdd (fun m => decide (s.mortarUnit m.addr = unit ∧ m.entered ≤ cycle) && s.canServe m) s.fabric.adds =
      some (m, l) := by
    simp [hadds, takeAdd, hunit, hentered, hserve]
  refine ⟨if m.entered ≤ 1920 ∧ cycle > 1920 then s.fabric.held1920.modify 0 unit (· + 1) else s.fabric.held1920, ?_⟩
  simp only [State.serveMortar, htake]

/-- An add to a word with a provisional value changes that value. -/
theorem applyAdd_provisional {s : State} {m : MAdd} {v : W256} {bad : Bool}
    (h : (s.fabric.bed.get {} (m.addr / 32)).prov = some (v, bad)) :
    (s.applyAdd m).fabric.adds = s.fabric.adds ∧ (s.applyAdd m).mem = s.mem ∧ (s.applyAdd m).cores = s.cores ∧
      ((s.applyAdd m).fabric.bed.get {} (m.addr / 32)).prov = some (BitVec.ofNat 256 (setBits v.toNat (8 * (m.addr % 32)) (8 * m.bytes)
        (m.fmt.apply m.bytes (bits v.toNat (8 * (m.addr % 32)) (8 * m.bytes)) m.data.toNat)), bad || m.poison) := by
  have hwatch := (telltale_watched s m.addr m.bytes 3 2).1
  have hprov : (s.watched m.addr m.bytes 3 2).provValue (m.addr / 32) = (v, bad, s.watched m.addr m.bytes 3 2) := by
    have hbed : (s.watched m.addr m.bytes 3 2).fabric = s.fabric := by rw [hwatch]
    simp only [State.provValue, hbed, h]
  rw [State.applyAdd, hprov]
  dsimp only
  rw [hwatch]
  split
  · split
    · simp
    · simp
  · simp

/-- Settles O21. -/
theorem intakeBedMortarResults : Obligations.IntakeBedMortarResults := by
  unfold Obligations.IntakeBedMortarResults
  refine ⟨?intake, ?bed, ?mortar⟩
  case intake =>
    intro s hg hgated hat
    obtain ⟨hmarked, hruns⟩ := intake_due (s := s.atCycle 0) (by rw [atCycle_generating s hg]; exact hg)
      (by rw [atCycle_generating s hg]; exact hgated) (by rw [atCycle_generating s hg]; exact hat)
    rw [atCycle_generating s hg] at hmarked hruns
    refine ⟨_, rfl, ?_⟩
    rw [atCycle_generating s hg]
    exact ⟨by rw [hmarked.stroke]; rfl, by rw [hmarked.stroke]; rfl, hmarked.mem, hmarked.cores, hruns⟩
  case bed =>
    intro s x v bad h
    exact ⟨s.writeBack x, rfl, writeBack_results h⟩
  case mortar =>
    intro s unit cycle m l v bad hlt hadds hunit hentered hprov
    have hfabric : (s.atCycle cycle).fabric = s.fabric := atCycle_fabric s cycle
    have hplace : (s.atCycle cycle).mortarUnit m.addr = s.mortarUnit m.addr := by
      obtain ⟨c, hc⟩ := s.atCycle_frame cycle
      rw [hc]
      rfl
    obtain ⟨held, hserved⟩ := serveMortar_first (s := s.atCycle cycle) (by rw [hfabric, hadds]) (hplace.trans hunit) hentered
      (by simp [State.canServe, hfabric, hprov])
    refine ⟨(s.atCycle cycle).serveMortar unit cycle, ?_, ?_⟩
    · change execMortarAdd unit cycle s = _
      rw [execMortarAdd, if_neg (Nat.not_le.mpr hlt)]
    · obtain ⟨hl, hmem, hcores, hvalue⟩ := applyAdd_provisional
        (s := { s.atCycle cycle with fabric := { (s.atCycle cycle).fabric with adds := l, held1920 := held } }) (m := m) (v := v)
        (bad := bad) (by rw [hfabric]; exact hprov)
      rw [hserved]
      exact ⟨hl, hmem.trans (atCycle_mem s cycle), hcores.trans (atCycle_cores s cycle), hvalue⟩

end Sys2Proof.Proofs.Intake
end

section
/-!
PROOFS. Items of the Plinth units (10 R387 to R390): what writing one can change, and what the queue gets.
-/

namespace Sys2Proof.Proofs.UnitItems

open Sys2Proof Sys2Proof.Machine Sys2Proof.Proofs.QueueEvents Sys2Proof.Proofs.QueueRules

/-- `t` is `s` but for the queues and the writes held for them, and what events and notices change. -/
structure SpillOnly (s t : State) : Prop where
  frame : t = { s with
    regs := t.regs, tt := t.tt, out := t.out, pcie := { s.pcie with pba := t.pcie.pba }
    reef := { s.reef with exiting := t.reef.exiting, held2 := t.reef.held2, held3 := t.reef.held3, held4 := t.reef.held4 }
    spill := t.spill }
  regs : ∀ d a, ¬ (0x3000 ≤ a ∧ a < 0x4000) → ¬ (0x5000 ≤ a ∧ a < 0x6000) → ¬ (0x40000 ≤ a ∧ a < 0x50000) →
    t.regs.get d a = s.regs.get d a
  sent : SentGrows s t

theorem SpillOnly.of_events {s t : State} (h : EventsOnly s t) : SpillOnly s t :=
  ⟨by rw [h.frame], h.regs, h.sent⟩

theorem SpillOnly.refl (s : State) : SpillOnly s s := .of_events (.refl s)

theorem SpillOnly.trans {s t v : State} (h : SpillOnly s t) (k : SpillOnly t v) : SpillOnly s v where
  frame := by rw [k.frame, h.frame]
  regs := fun d a h1 h2 h3 => (k.regs d a h1 h2 h3).trans (h.regs d a h1 h2 h3)
  sent := h.sent.trans k.sent

theorem spill_setQueue (s : State) (n : Nat) (q : Queue) : SpillOnly s (s.setQueue n q) :=
  ⟨rfl, fun _ _ _ _ _ => rfl, SentGrows.refl s⟩

section
variable {s t : State} (h : SpillOnly s t)
include h

theorem SpillOnly.mem : t.mem = s.mem := by rw [h.frame]
theorem SpillOnly.ecc : t.ecc = s.ecc := by rw [h.frame]
theorem SpillOnly.cores : t.cores = s.cores := by rw [h.frame]
theorem SpillOnly.fabric : t.fabric = s.fabric := by rw [h.frame]
theorem SpillOnly.rounds : t.rounds = s.rounds := by rw [h.frame]
theorem SpillOnly.net : t.net = s.net := by rw [h.frame]
theorem SpillOnly.cipher : t.cipher = s.cipher := by rw [h.frame]
theorem SpillOnly.weights : t.weights = s.weights := by rw [h.frame]
theorem SpillOnly.stroke : t.stroke = s.stroke := by rw [h.frame]
theorem SpillOnly.keep : t.keep = s.keep := by rw [h.frame]
theorem SpillOnly.ten : t.ten = s.ten := by rw [h.frame]

/-- A register outside the three pages. -/
theorem SpillOnly.reg {p : Page} {i off : Nat} (h1 : ¬ (0x3000 ≤ regAddr p i off ∧ regAddr p i off < 0x4000))
    (h2 : ¬ (0x5000 ≤ regAddr p i off ∧ regAddr p i off < 0x6000))
    (h3 : ¬ (0x40000 ≤ regAddr p i off ∧ regAddr p i off < 0x50000)) : t.reg p i off = s.reg p i off :=
  h.regs _ _ h1 h2 h3

end

theorem spill_queueOverrun (s : State) (n : Nat) : SpillOnly s (s.queueOverrun n) := by
  unfold State.queueOverrun
  exact (spill_setQueue s n _).trans (.of_events (events_queueEvt _ n 3))

theorem spill_putPacket (s : State) (n : Nat) (p : Producer) (words : List W256) (bytes qpn decision : Nat) :
    SpillOnly s (s.putPacket n p words bytes qpn decision).2 := by
  unfold State.putPacket
  dsimp only
  split
  · exact .refl s
  · split
    · exact .refl s
    · exact (spill_setQueue s n _).trans (.of_events (events_itemDone _ n))

theorem spill_unitItem (s : State) (n : Nat) (p : Producer) (words : List W256) (bytes qpn decision : Nat) :
    SpillOnly s (s.unitItem n p words bytes qpn decision) := by
  have hput := spill_putPacket s n p words bytes qpn decision
  unfold State.unitItem
  dsimp only
  split
  · exact ⟨rfl, fun _ _ _ _ _ => rfl, SentGrows.refl s⟩
  · split
    · exact hput.trans (spill_queueOverrun _ n)
    · exact hput

/-- A unit's item from a state whose queue, time and held writes are those of `s`. -/
theorem unitPut_unitItem {s v : State} {n : Nat} (p : Producer) (words : List W256) (hqueue : v.queue n = s.queue n)
    (hstroke : v.stroke = s.stroke) (hheld : v.spill.held = s.spill.held) : UnitPut s (v.unitItem n p words 0 0 0) n p words := by
  have hholding : v.holding = s.holding := by rw [State.holding, hstroke, State.holding]
  refine ⟨fun h => ?_, fun h hopen hflushed hroom => ?_⟩
  · simp [State.unitItem, hholding, h, hheld]
  · rw [← hqueue] at hopen hflushed hroom
    obtain ⟨t, ht, hq⟩ := putPacket_accepts p words 0 0 0 hopen hflushed hroom
    have hitem : v.unitItem n p words 0 0 0 = t := by simp [State.unitItem, hholding, h, hopen, ht]
    rw [hitem, hq.items, hqueue, hstroke]

end Sys2Proof.Proofs.UnitItems
end

section
/-!
PROOFS. Drains and Pier DMA (03 R148, R149, R153, 05 R222 to R225): O25 and O26.
-/

namespace Sys2Proof.Proofs.Drains

open Sys2Proof Sys2Proof.Machine Sys2Proof.Proofs.IssueFrame Sys2Proof.Proofs.FieldRules Sys2Proof.Proofs.CoreStores
  Sys2Proof.Proofs.QueueEvents Sys2Proof.Proofs.UnitItems

/-! ### Whole words of memory -/

/-- `t` is `s` but for memory with its check symbols and beds, registers, the debug port, pending vectors and messages. -/
def MemOnly (s t : State) : Prop :=
  t = { s with
    regs := t.regs, mem := t.mem, ecc := t.ecc, fabric := { s.fabric with bed := t.fabric.bed }, tt := t.tt, out := t.out
    pcie := { s.pcie with pba := t.pcie.pba } }

theorem MemOnly.refl (s : State) : MemOnly s s := rfl

theorem MemOnly.trans {s t v : State} (h : MemOnly s t) (k : MemOnly t v) : MemOnly s v := by
  unfold MemOnly at *
  rw [k, h]

theorem memOnly_telltale {s t : State} (h : TelltaleOnly s t) : MemOnly s t := by
  unfold MemOnly
  rw [h.1]

theorem memOnly_writeWord (s : State) (w : Nat) (l : List Byte) (bad : Bool) : MemOnly s (s.writeWord w l bad) := by
  unfold State.writeWord State.touchBed
  dsimp only
  split <;> rfl

theorem MemOnly.cores {s t : State} (h : MemOnly s t) : t.cores = s.cores := by rw [h]

theorem MemOnly.rig? {s t : State} (h : MemOnly s t) (id : Nat) : t.rig? id = s.rig? id := by rw [State.rig?, h, State.rig?]

/-- A write leaves every other word plain. -/
theorem plainWord_writeWord {s : State} {w x : Nat} (l : List Byte) (bad : Bool) (h : x ≠ w) (hplain : s.plainWord x) :
    (s.writeWord w l bad).plainWord x := by
  obtain ⟨hecc, hbed⟩ := hplain
  rw [State.bedComm] at hbed
  unfold State.plainWord State.bedComm State.writeWord State.touchBed
  dsimp only
  split
  · simpa [State.storeWord, NMap.get_put_ne _ _ _ _ _ h, hbed] using hecc
  · simpa [State.storeWord, NMap.get_put_ne _ _ _ _ _ h, hbed] using hecc

theorem plainWord_telltale {s t : State} {x : Nat} (h : TelltaleOnly s t) (hplain : s.plainWord x) : t.plainWord x := by
  have hecc : t.ecc = s.ecc := by rw [h.1]
  have hfabric : t.fabric = s.fabric := by rw [h.1]
  rwa [State.plainWord, State.bedComm, hecc, hfabric]

/-- The first word of a copy: what stands after it, and that the rest goes on from there. -/
theorem copyWords_first {s : State} {req src dst : Nat} (n : Nat) (hplain : s.plainWord src) :
    ∃ v, s.copyWords req src dst (n + 1) = v.copyWords req (src + 1) (dst + 1) n ∧ MemOnly s v ∧
      (∀ j, j < 32 → memGet v.mem (32 * dst + j) = memGet s.mem (32 * src + j)) ∧
      (∀ a, a / 32 ≠ dst → memGet v.mem a = memGet s.mem a) ∧ ∀ x, x ≠ dst → s.plainWord x → v.plainWord x := by
  have hlen : (memRead s.mem (32 * src) 32).length = 32 := memRead_length _ _ _
  have hwatch := telltale_watched s (32 * src) 32 1 req
  have hread : (s.watched (32 * src) 32 1 req).readWord req src =
      (memRead s.mem (32 * src) 32, false, s.watched (32 * src) 32 1 req) := by
    rw [State.readWord_plain _ _ _ (plainWord_telltale hwatch hplain), show (s.watched (32 * src) 32 1 req).mem = s.mem by rw [hwatch.1]]
  have htell := hwatch.trans (telltale_watched (s.watched (32 * src) 32 1 req) (32 * dst) 32 2 req)
  have hcopy : s.copyWords req src dst (n + 1) = (((s.watched (32 * src) 32 1 req).watched (32 * dst) 32 2 req).writeWord dst
      (memRead s.mem (32 * src) 32) false).copyWords req (src + 1) (dst + 1) n := by
    simp only [State.copyWords, hread, Bool.false_or]
  refine ⟨_, hcopy, (memOnly_telltale htell).trans (memOnly_writeWord _ _ _ _), fun j hj => ?_, fun a ha => ?_, fun x hx hp => ?_⟩
  · rw [mem_writeWord _ _ hlen hj]
    simp [memRead, hj]
  · rw [(wordOnly_writeWord _ dst false hlen).2.2 a ha, htell.1]
  · exact plainWord_writeWord _ _ hx (plainWord_telltale htell hp)

/-- The words of a copy are read and written one after the other; the ranges are apart. -/
theorem copyWords_plain (req n : Nat) : ∀ (s : State) (src dst : Nat), src + n ≤ dst ∨ dst + n ≤ src →
    (∀ k, k < n → s.plainWord (src + k)) →
    (s.copyWords req src dst n).1 = false ∧ MemOnly s (s.copyWords req src dst n).2 ∧
      (∀ k j, k < n → j < 32 →
        memGet (s.copyWords req src dst n).2.mem (32 * (dst + k) + j) = memGet s.mem (32 * (src + k) + j)) ∧
      ∀ a, a / 32 < dst ∨ dst + n ≤ a / 32 → memGet (s.copyWords req src dst n).2.mem a = memGet s.mem a := by
  induction n with
  | zero => exact fun s src dst _ _ => ⟨rfl, .refl s, fun k j hk => by omega, fun a _ => rfl⟩
  | succ n ih =>
    intro s src dst hapart hplain
    obtain ⟨v, hcopy, hmemOnly, hword, hother, hkeeps⟩ := copyWords_first (req := req) (src := src) (dst := dst) n (hplain 0 (by omega))
    obtain ⟨hgood, hrest, hwords, hothers⟩ := ih v (src + 1) (dst + 1) (by omega) fun k hk =>
      hkeeps _ (by omega) (by rw [Nat.add_assoc, Nat.add_comm 1]; exact hplain (k + 1) (by omega))
    rw [hcopy]
    refine ⟨hgood, hmemOnly.trans hrest, fun k j hk hj => ?_, fun a ha => ?_⟩
    · cases k with
      | zero =>
        rw [hothers _ (by omega)]
        exact hword j hj
      | succ k =>
        have hk' := hwords k j (by omega) hj
        rw [Nat.add_assoc dst, Nat.add_comm 1, Nat.add_assoc src, Nat.add_comm 1] at hk'
        rw [hk', hother _ (by omega)]
    · rw [hothers a (by omega), hother a (by omega)]

/-- The `n` words from `w` on hold the values of `f`, and the rest of memory stands. -/
def WordsWritten (s t : State) (w n : Nat) (f : Nat → List Byte) : Prop :=
  MemOnly s t ∧ (∀ k j, k < n → j < 32 → memGet t.mem (32 * (w + k) + j) = (f k).getD j 0) ∧
    ∀ a, a / 32 < w ∨ w + n ≤ a / 32 → memGet t.mem a = memGet s.mem a

/-- Words written one after the other. -/
theorem writeWords_results {g : State → Nat → State} {f : Nat → List Byte} (bad : Nat → Bool) {w : Nat}
    (hstep : ∀ s k, g s k = s.writeWord (w + k) (f k) (bad k)) (hlen : ∀ k, (f k).length = 32) (s : State) (n : Nat) :
    WordsWritten s ((List.range n).foldl g s) w n f := by
  induction n with
  | zero => exact ⟨.refl s, fun k j hk => by omega, fun a _ => rfl⟩
  | succ n ih =>
    obtain ⟨honly, hwords, hothers⟩ := ih
    rw [List.range_succ, List.foldl_append, List.foldl_cons, List.foldl_nil, hstep]
    generalize (List.range n).foldl g s = v at honly hwords hothers
    have hkeep := (wordOnly_writeWord v (w + n) (bad n) (hlen n)).2.2
    refine ⟨honly.trans (memOnly_writeWord _ _ _ _), fun k j hk hj => ?_, fun a ha => ?_⟩
    · by_cases hkn : k = n
      · rw [hkn, mem_writeWord v (bad n) (hlen n) hj]
      · rw [hkeep _ (by omega), hwords k j (by omega) hj]
    · rw [hkeep a (by omega), hothers a (by omega)]

/-! ### Drains -/

/-- What a drain stores in word `k`: the accumulator that was captured, or zeros. -/
def drainValue (copy : List (Nat × W256 × Bool)) (k : Nat) : List Byte :=
  ((copy.find? fun e => decide (e.1 = k)).map fun e => toLe 32 e.2.1.toNat).getD (List.replicate 32 0)

theorem drainValue_length (copy : List (Nat × W256 × Bool)) (k : Nat) : (drainValue copy k).length = 32 := by
  unfold drainValue
  cases copy.find? fun e => decide (e.1 = k) with
  | none => rfl
  | some e => exact toLe_length 32 _

theorem drainWords_results (s : State) {base : Nat} (copy : List (Nat × W256 × Bool)) (n : Nat) (hbase : base % 32 = 0) :
    MemOnly s (s.drainWords base copy n) ∧
      (∀ k, k < n → memRead (s.drainWords base copy n).mem (base + 32 * k) 32 = drainValue copy k) ∧
      ∀ x, x < base ∨ base + 32 * n ≤ x → memGet (s.drainWords base copy n).mem x = memGet s.mem x := by
  have hwatch := telltale_watched s base (32 * n) 2 0
  have hwritten : WordsWritten (s.watched base (32 * n) 2 0) (s.drainWords base copy n) (base / 32) n (drainValue copy) := by
    refine writeWords_results (fun k => ((copy.find? fun e => decide (e.1 = k)).map (·.2.2)).getD false) (fun v k => ?_)
      (drainValue_length copy) _ n
    unfold drainValue
    cases copy.find? fun e => decide (e.1 = k) <;> rfl
  obtain ⟨honly, hwords, hothers⟩ := hwritten
  refine ⟨(memOnly_telltale hwatch).trans honly, fun k hk => ?_, fun x hx => ?_⟩
  · refine List.ext_getElem (by rw [memRead_length, drainValue_length]) fun j hj hj' => ?_
    rw [memRead_length] at hj
    have hbyte := hwords k j hk hj
    rw [List.getD_eq_getElem _ _ hj', show 32 * (base / 32 + k) + j = base + 32 * k + j by omega] at hbyte
    simpa [memRead] using hbyte
  · rw [hothers x (by omega), hwatch.1]

/-- A request that the rig can take is pending. -/
theorem drainReq_pending {s : State} {a region id o b : Nat} {r : Rig} (hrig : s.rigOn a = some (id, r, o))
    (hphase : r.drain.phase = .idle ∨ r.drain.phase = .finished) (hopen : r.sealed = false)
    (hrange : r.drainRange region (s.reg .ashlar a 0x94).toNat = some b) :
    ∃ v, s.drainReq a region = (s.setReg .ashlar a 0x90 v).setRig id { r with drain := { r.drain with
      phase := .pending, region := region, base := (s.reg .ashlar a 0x94).toNat, fromStroke := s.effStroke } } := by
  have hrig' (v : W32) : (s.setReg .ashlar a 0x90 v).rigOn a = some (id, r, o) := hrig
  have hbusy : ¬ (r.drain.phase = .pending ∨ r.drain.phase = .copying) := by
    rcases hphase with h | h <;> simp [h]
  refine ⟨BitVec.ofNat 32 (2 * (region % 64)), ?_⟩
  simp only [State.drainReq, hrig', if_neg hbusy, hopen, hrange, Option.isNone_some, Bool.false_eq_true, if_false]
  rfl

/-- Settles O25. -/
theorem drainResults : Obligations.DrainResults := by
  unfold Obligations.DrainResults
  refine ⟨?req, ?capture, ?copy, ?marker⟩
  case req =>
    intro s a region cycle id o b r ha htakes hclock hrig hregion hphase hopen hrange
    have hwoken := events_woken (s.atCycle cycle) .ashlar
    have hreg : ((s.atCycle cycle).woken .ashlar).reg .ashlar a 0x94 = s.reg .ashlar a 0x94 := by
      rw [hwoken.reg (by simp only [regAddr, Page.base]; omega) (by simp only [regAddr, Page.base]; omega)
        (by simp only [regAddr, Page.base]; omega), State.reg, atCycle_regs, State.reg]
    have hrig' : ((s.atCycle cycle).woken .ashlar).rigOn a = some (id, r, o) := by
      rw [State.rigOn, hwoken.fabric, atCycle_fabric]
      exact hrig
    obtain ⟨v, hreq⟩ := drainReq_pending (region := region) (b := b) hrig' hphase hopen (by rw [hreg]; exact hrange)
    refine ⟨((s.atCycle cycle).woken .ashlar).drainReq a region, ?_, ?_⟩
    · change execDrainReq a region cycle s = _
      rw [execDrainReq, onAshlar, if_neg (Nat.not_le.mpr ha), State.onPage_takes _ _ _ _ _ _ (takes_atCycle cycle htakes)]
    · rw [hreq, hreg, effStroke_atCycle hclock hwoken.stroke]
      exact ⟨hwoken.mem.trans (atCycle_mem s cycle), hwoken.cores.trans (atCycle_cores s cycle), State.rig?_setRig_self _ _ _⟩
  case capture =>
    intro s id r hrig hdue hcommits
    have hoverran : (s.atCycle 2041).overran = false := by
      obtain ⟨c, hc⟩ := s.atCycle_frame 2041
      rw [hc]
      exact hcommits
    have hrig' : (s.atCycle 2041).rig? id = some r := by rw [State.rig?, atCycle_fabric]; exact hrig
    have hcapture : (s.atCycle 2041).capture id r = s.capture id r := by
      obtain ⟨c, hc⟩ := s.atCycle_frame 2041
      rw [hc]
      rfl
    refine ⟨(s.atCycle 2041).drainCapture id, ?_, ?_⟩
    · change execDrainCapture id s = _
      simp only [execDrainCapture, onRig, hrig]
    · simp only [State.drainCapture, hrig', atCycle_now, hdue, hoverran, Bool.not_false, Bool.and_self, if_true, hcapture,
        State.setRig_mem, State.setRig_cores, atCycle_mem, atCycle_cores, State.rig?_setRig_self, and_self]
  case copy =>
    intro s id a r hrig hphase hrange halign hwhole
    obtain ⟨honly, hwords, hothers⟩ := drainWords_results s r.drain.copy (512 * r.ashlars.length) halign
    have hdone : s.drainDone id = (s.drainWords a r.drain.copy (512 * r.ashlars.length)).setRig id { r with drain := { r.drain with
        phase := .finished, result := if r.drain.copy.any (·.2.2) then 5 else 1, copy := [] } } := by
      simp only [State.drainDone, hrig, hphase, ne_eq, not_true_eq_false, if_false, hrange, hwhole, Bool.false_eq_true]
    refine ⟨s.drainDone id, ?_, ?_⟩
    · change execDrainCopyDone id s = _
      simp only [execDrainCopyDone, onRig, hrig]
    · rw [hdone]
      exact ⟨honly.cores, State.rig?_setRig_self _ _ _, hwords, fun x hx => hothers x (by omega)⟩
  case marker =>
    intro s a ha htakes
    refine ⟨(s.woken .ashlar).markerMaxClr a, ?_, ?_⟩
    · change execMarkerMaxClr a s = _
      rw [execMarkerMaxClr, onAshlar, if_neg (Nat.not_le.mpr ha), State.onPage_takes _ _ _ _ _ _ htakes]
    · have hwoken := events_woken s .ashlar
      have hashlar : (s.woken .ashlar).ashlar a = s.ashlar a := by rw [State.ashlar, hwoken.fabric, State.ashlar]
      rw [State.markerMaxClr, State.ashlar_setAshlar, if_pos rfl, hashlar]
      exact ⟨rfl, hwoken.mem⟩

/-! ### Pier DMA -/

/-- The end of a request writes counters, and the completion word to its queue. -/
theorem dmaEnd_results (s : State) (p : Nat) (r : Rig) (d : DmaWord) (status bytes : Nat) :
    (s.dmaEnd p r d status bytes).mem = s.mem ∧ (s.dmaEnd p r d status bytes).cores = s.cores ∧
      (s.dmaEnd p r d status bytes).fabric = s.fabric := by
  have hcount : ∃ v, (v.mem = s.mem ∧ v.cores = s.cores ∧ v.fabric = s.fabric) ∧
      (v = if status = 0 then (s.bump64 .pier p 0x4C bytes).bump .pier p 0x54
        else ((s.bump64 .pier p 0x4C bytes).bump .pier p 0x58).latchEvt .pier p 2) := by
    refine ⟨_, ?_, rfl⟩
    split
    · exact ⟨rfl, rfl, rfl⟩
    · simp only [latchEvt_mem, latchEvt_cores, latchEvt_fabric]
      exact ⟨rfl, rfl, rfl⟩
  obtain ⟨v, hv, heq⟩ := hcount
  unfold State.dmaEnd
  dsimp only
  rw [← heq]
  split
  · next done _ =>
    split
    · have hitem := spill_unitItem v done.queue (.pierDma p) [BitVec.ofNat 256 (d.cookie + 2 ^ 32 * status)] 0 0 0
      exact ⟨hitem.mem.trans hv.1, hitem.cores.trans hv.2.1, hitem.fabric.trans hv.2.2⟩
    · exact hv
  · exact hv

/-- The engine's request that has moved its words. -/
theorem dmaComplete_copies {s : State} {p a b : Nat} {q : DmaReq} {l : List DmaReq} {r : Rig} (hdma : s.fabric.dma.get [] p = q :: l)
    (hrig : s.rig? q.rig = some r) (hrange : r.dmaRange (dmaWord q.word) = some (a, b)) :
    ∃ status, s.dmaComplete p = ((({ s with fabric := { s.fabric with dma := s.fabric.dma.put [] p l } } : State).copyWords 3 (a / 32)
      (b / 32) ((dmaWord q.word).len / 32)).2.dmaEnd p r (dmaWord q.word) status (dmaWord q.word).len) := by
  have hrig' : ({ s with fabric := { s.fabric with dma := s.fabric.dma.put [] p l } } : State).rig? q.rig = some r := hrig
  refine ⟨if (({ s with fabric := { s.fabric with dma := s.fabric.dma.put [] p l } } : State).copyWords 3 (a / 32) (b / 32)
    ((dmaWord q.word).len / 32)).1 then 2 else 0, ?_⟩
  simp only [State.dmaComplete, hdma, hrig', hrange]

/-- The lengths and offsets of a request are whole words. -/
theorem dmaRange_len {r : Rig} {d : DmaWord} {x : Nat × Nat} (h : r.dmaRange d = some x) : d.len % 32 = 0 := by
  unfold Rig.dmaRange at h
  split at h
  · cases h
  · next hok =>
    by_contra hlen
    exact hok (Or.inr (Or.inr (Or.inr (Or.inl hlen))))

/-- Settles O26. -/
theorem pierDmaResults : Obligations.PierDmaResults := by
  unfold Obligations.PierDmaResults
  refine ⟨?start, ?complete⟩
  case start =>
    intro s p id n pos w hp hstart hfind
    refine ⟨s.dmaStart p, ?_, ?_⟩
    · change execPierDmaStart p s = _
      rw [execPierDmaStart, if_neg (Nat.not_le.mpr hp), if_pos hstart]
    · simp only [State.dmaStart, hfind]
      refine ⟨rfl, rfl, NMap.get_put_self _ _ _ _, ?_⟩
      exact congrArg Queue.rd (s.queue_setQueue_self n _)
  case complete =>
    intro s p a b q l r hp hdma hrig hrange ha hb hapart hplain
    have hlen := dmaRange_len hrange
    obtain ⟨status, hdone⟩ := dmaComplete_copies hdma hrig hrange
    generalize hv : ({ s with fabric := { s.fabric with dma := s.fabric.dma.put [] p l } } : State) = v at hdone
    have hvmem : v.mem = s.mem := by rw [← hv]
    obtain ⟨-, honly, hwords, hothers⟩ := copyWords_plain 3 ((dmaWord q.word).len / 32) v (a / 32) (b / 32) (by omega)
      (by rw [← hv]; exact hplain)
    obtain ⟨hmem, hcores, hfabric⟩ := dmaEnd_results (v.copyWords 3 (a / 32) (b / 32) ((dmaWord q.word).len / 32)).2 p r (dmaWord q.word)
      status (dmaWord q.word).len
    refine ⟨s.dmaComplete p, ?_, ?_⟩
    · change execPierDmaComplete p s = _
      rw [execPierDmaComplete, if_neg (Nat.not_le.mpr hp)]
    · rw [hdone, hmem, hcores, hfabric]
      refine ⟨?_, ?_, fun j hj => ?_, fun x hx => ?_⟩
      · rw [honly, ← hv]
        exact NMap.get_put_self _ _ _ _
      · rw [honly.cores, ← hv]
      · have hword := hwords (j / 32) (j % 32) (by omega) (by omega)
        rwa [show 32 * (b / 32 + j / 32) + j % 32 = b + j by omega, show 32 * (a / 32 + j / 32) + j % 32 = a + j by omega, hvmem] at hword
      · rw [hothers x (by omega), hvmem]

end Sys2Proof.Proofs.Drains
end

section
/-!
PROOFS. Commands of the BOSUN, HALYARD and KEEP pages land with their arguments (12 R501, 14 R554, R564, 16 R622): O52.
-/

namespace Sys2Proof.Proofs.Commands

open Sys2Proof Sys2Proof.Machine Sys2Proof.Proofs.FieldRules Sys2Proof.Proofs.QueueEvents

/-- A command word written to a page that takes it lands in the state of the access. -/
theorem onPage_lands {s : State} {p : Page} (i off : Nat) (v : W32) (f : State → State) (h : Takes s p) :
    (Host.Outcome.next (s.onPage p i off v f) : Res) = .next (f (s.woken p)) := by
  rw [State.onPage_takes _ _ _ _ _ _ h]

/-- The argument registers of BOSUN stand through a wake event and the cycle. -/
theorem bosunRegs_woken {s v : State} (h : EventsOnly s v) :
    ((List.range 64).map fun k => v.reg .bosun 0 (0x100 + 4 * k)) = (List.range 64).map fun k => s.reg .bosun 0 (0x100 + 4 * k) := by
  refine List.map_congr_left fun k hk => ?_
  have hk := List.mem_range.mp hk
  exact h.reg (by simp only [regAddr, Page.base]; omega) (by simp only [regAddr, Page.base]; omega)
    (by simp only [regAddr, Page.base]; omega)

theorem halyardBlock_woken {s v : State} (h : EventsOnly s v) : v.halyardBlock = s.halyardBlock := by
  refine List.map_congr_left fun k hk => ?_
  have hk := List.mem_range.mp hk
  exact h.reg (by simp only [regAddr, Page.base]; omega) (by simp only [regAddr, Page.base]; omega)
    (by simp only [regAddr, Page.base]; omega)

/-- BOSUN takes a command where none is in progress. -/
theorem landBosun_idle {s v : State} (op : Nat) (h : EventsOnly s v) (hidle : s.bosun.busy = false) :
    v.landBosun op = { v with bosun := { s.bosun with
      busy := true, op := op, eff := s.effStroke, ready := false, bad := false
      args := (List.range 64).map fun k => s.reg .bosun 0 (0x100 + 4 * k) } } := by
  have hbosun : v.bosun = s.bosun := by rw [h.frame]
  have heff : v.effStroke = s.effStroke := by rw [State.effStroke, h.stroke, State.effStroke]
  rw [State.landBosun, hbosun, hidle, bosunRegs_woken h, heff]
  rfl

theorem bosunCommand_lands {s : State} (op : Nat) (htakes : Takes s .bosun) (hidle : s.bosun.busy = false) :
    bosunCommand op s = .next { s.woken .bosun with bosun := { s.bosun with
      busy := true, op := op, eff := s.effStroke, ready := false, bad := false
      args := (List.range 64).map fun k => s.reg .bosun 0 (0x100 + 4 * k) } } := by
  rw [bosunCommand, onPage_lands _ _ _ _ htakes, landBosun_idle op (events_woken s .bosun) hidle]

/-- The same at a cycle of the stroke. -/
theorem bosunCommand_atCycle {s : State} (op cycle : Nat) (htakes : Takes s .bosun) (hclock : Clocked s) (hidle : s.bosun.busy = false) :
    bosunCommand op (s.atCycle cycle) = .next { (s.atCycle cycle).woken .bosun with bosun := { s.bosun with
      busy := true, op := op, eff := effAt s cycle, ready := false, bad := false
      args := (List.range 64).map fun k => s.reg .bosun 0 (0x100 + 4 * k) } } := by
  have hbosun : (s.atCycle cycle).bosun = s.bosun := by rw [atCycle_clocked cycle hclock]
  rw [bosunCommand_lands op (takes_atCycle cycle htakes) (by rw [hbosun]; exact hidle), hbosun, effStroke_atCycle hclock rfl]
  simp only [State.reg, atCycle_regs]

theorem halyardCommand_lands {s : State} (op : Nat) (htakes : Takes s .halyard) (hidle : s.halyardCmd.busy = false) :
    halyardCommand op s = .next { s.woken .halyard with
      halyardCmd := { s.halyardCmd with busy := true, op := op, args := s.halyardBlock } } := by
  have hwoken := events_woken s .halyard
  have hcmd : (s.woken .halyard).halyardCmd = s.halyardCmd := by rw [hwoken.frame]
  rw [halyardCommand, onPage_lands _ _ _ _ htakes, State.landHalyard, hcmd, hidle, halyardBlock_woken hwoken]
  rfl

/-- A KEEP command other than UNLOAD. -/
theorem keepCommand_lands {s : State} {op : Nat} (slot : Nat) (hop : op ≠ 5) (htakes : Takes s .keep) (hidle : s.keepCmd.busy = false) :
    keepCommand op slot s = .next { s with keepCmd := { s.keepCmd with
      busy := true, op := op, sub := slot, args := [s.reg .keep 0 0x54, s.reg .keep 0 0x58, s.reg .keep 0 0x50] } } := by
  rw [keepCommand, onPage_lands _ _ _ _ htakes]
  change Host.Outcome.next (s.landKeep op slot) = _
  simp only [State.landKeep, hidle, Bool.false_eq_true, if_false, if_neg (fun h : op = 5 ∧ _ => hop h.1)]

/-- UNLOAD with a clean argument marks the slot as leaving. -/
theorem keepUnload_lands {s : State} {slot : Nat} {k : KeySlot} (htakes : Takes s .keep) (hidle : s.keepCmd.busy = false) (hlt : slot < 56)
    (harg : s.reg .keep 0 0x50 = 0) (hslot : s.keep.slots.find? slot = some k) :
    keepCommand 5 slot s = .next { s with
      keepCmd := { s.keepCmd with
        busy := true, op := 5, sub := slot, args := [s.reg .keep 0 0x54, s.reg .keep 0 0x58, s.reg .keep 0 0x50] }
      keep := { s.keep with slots := s.keep.slots.insertAt slot { k with leaving := true } } } := by
  rw [keepCommand, onPage_lands _ _ _ _ htakes]
  change Host.Outcome.next (s.landKeep 5 slot) = _
  rw [State.landKeep, hidle]
  simp only [Bool.false_eq_true, if_false, hlt, harg, and_self, if_true, hslot]
  rfl

theorem updateRow_lands {s : State} {kind : Nat} (hkind : leAt s.keep.message 6 1 = kind) (htakes : Takes s .keep)
    (hidle : s.keepCmd.busy = false) :
    updateRow kind s = .next { s with keepCmd := { s.keepCmd with
      busy := true, op := 6, sub := 0, args := [s.reg .keep 0 0x54, s.reg .keep 0 0x58, s.reg .keep 0 0x50] } } := by
  rw [updateRow, if_pos hkind, keepCommand_lands 0 (by decide) htakes hidle]

/-- Settles O52, page by page. -/
theorem hostCommandsLand : Obligations.HostCommandsLand := by
  unfold Obligations.HostCommandsLand
  refine ⟨?bosun, ?halyard, ?keep, ?unload⟩
  case bosun =>
    intro s htakes hidle
    refine ⟨fun cycle i op hclock hrow => ?_, fun i op hrow => ?_⟩
    · have hland (op : Nat) := bosunCommand_atCycle op cycle htakes hclock hidle
      simp only [List.mem_cons, Prod.mk.injEq, List.not_mem_nil, or_false] at hrow
      rcases hrow with ⟨rfl, rfl⟩ | ⟨rfl, rfl⟩ | ⟨rfl, rfl⟩ | ⟨rfl, rfl⟩ <;> exact hland _
    · have hland (op : Nat) := bosunCommand_lands op htakes hidle
      simp only [List.mem_cons, Prod.mk.injEq, List.not_mem_nil, or_false] at hrow
      rcases hrow with ⟨rfl, rfl⟩ | ⟨rfl, rfl⟩ | ⟨rfl, rfl⟩ | ⟨rfl, rfl⟩ | ⟨rfl, rfl⟩ | ⟨rfl, rfl⟩ | ⟨rfl, rfl⟩ | ⟨rfl, rfl⟩ | ⟨rfl, rfl⟩ <;>
        exact hland _
  case halyard =>
    intro s htakes hidle i op hrow
    have hland (op : Nat) := halyardCommand_lands op htakes hidle
    simp only [List.mem_cons, Prod.mk.injEq, List.not_mem_nil, or_false] at hrow
    rcases hrow with ⟨rfl, rfl⟩ | ⟨rfl, rfl⟩ | ⟨rfl, rfl⟩ | ⟨rfl, rfl⟩ | ⟨rfl, rfl⟩ | ⟨rfl, rfl⟩ | ⟨rfl, rfl⟩ | ⟨rfl, rfl⟩ | ⟨rfl, rfl⟩ | ⟨rfl, rfl⟩ |
      ⟨rfl, rfl⟩ <;> exact hland _
  case keep =>
    intro s htakes hidle i op slot hslot hrow
    have hupdate {kind : Nat} (hkind : leAt s.keep.message 6 1 = kind) := updateRow_lands hkind htakes hidle
    simp only [List.mem_cons, Prod.mk.injEq, List.not_mem_nil, or_false] at hrow
    rcases hrow with hcommand | hmessage
    · rcases hcommand with ⟨rfl, rfl, rfl⟩ | ⟨rfl, rfl, rfl⟩ | ⟨rfl, rfl, rfl⟩ | ⟨rfl, rfl, -⟩
      · exact keepCommand_lands 0 (by decide) htakes hidle
      · exact keepCommand_lands 0 (by decide) htakes hidle
      · exact keepCommand_lands 0 (by decide) htakes hidle
      · change execKpLoad slot s = _
        rw [execKpLoad, if_neg (Nat.not_le.mpr hslot), keepCommand_lands slot (by decide) htakes hidle]
    · rcases hmessage with ⟨hkind, rfl, rfl, rfl⟩ | ⟨hkind, rfl, rfl, rfl⟩ | ⟨hkind, rfl, rfl, rfl⟩ | ⟨hkind, rfl, rfl, rfl⟩ |
        ⟨hkind, rfl, rfl, rfl⟩ | ⟨hkind, rfl, rfl, rfl⟩ | ⟨hkind, rfl, rfl, rfl⟩ | ⟨hkind, rfl, rfl, rfl⟩ <;> exact hupdate hkind
  case unload =>
    intro s slot k htakes hidle hlt harg hslot
    change execKpUnload slot s = _
    rw [execKpUnload, if_neg (by omega), keepUnload_lands htakes hidle hlt harg hslot]

end Sys2Proof.Proofs.Commands
end

section
/-!
PROOFS. Commands, selection and watermarks of the SPILL pages (10 R404, R411, R412, R416): O42.
-/

namespace Sys2Proof.Proofs.SpillPages

open Sys2Proof Sys2Proof.Machine Sys2Proof.Proofs.FieldRules Sys2Proof.Proofs.QueueEvents

/-- The state in which a write of a SPILL page takes effect. -/
def spillAccess (s : State) (cycle : Nat) : State := (s.atCycle cycle).woken .spill

section
variable (s : State) (cycle : Nat)

theorem spillAccess_reg (k off : Nat) : (spillAccess s cycle).reg .spill k off = s.reg .spill k off := by
  rw [spillAccess, woken_reg_ne _ _ _ _ _ (by simp only [regAddr, Page.base]; omega), State.reg, atCycle_regs, State.reg]

theorem spillAccess_selQueue (k : Nat) : (spillAccess s cycle).selQueue k = s.selQueue k := by
  rw [State.selQueue, spillAccess_reg, State.selQueue]

theorem spillAccess_queue (n : Nat) : (spillAccess s cycle).queue n = s.queue n := by
  rw [spillAccess, woken_queue, State.queue, atCycle_spill, State.queue]

theorem spillAccess_stands : FabricStands s (spillAccess s cycle) := by
  have hcycle : FabricStands s (s.atCycle cycle) := by
    obtain ⟨x, hx⟩ := s.atCycle_frame cycle
    rw [hx]
    exact FabricStands.refl _
  exact hcycle.trans (State.woken_stands _ _)

end

theorem onSpillPage_takes {s : State} {k : Nat} (off : Nat) (v : W32) (cycle : Nat) (f : State → State) (hk : k < 16)
    (htakes : Takes s .spill) : onSpillPage s k off v cycle f = .next (f (spillAccess s cycle)) := by
  rw [onSpillPage, if_neg (Nat.not_le.mpr hk), State.onPage_takes _ _ _ _ _ _ (takes_atCycle cycle htakes), spillAccess]

/-- A command lands where none of the page is in progress. -/
theorem landSpill_idle {s : State} {k cycle : Nat} (op : Nat) (hclock : Clocked s) (hidle : (s.spillCmdOf k).busy = false) :
    (spillAccess s cycle).landSpill k op = { spillAccess s cycle with
      spillCmd := s.spillCmd.put {} k { s.spillCmdOf k with
        busy := true, op := op, eff := effAt s cycle, args := [BitVec.ofNat 32 (s.selQueue k), s.reg .spill k 0x44] } } := by
  have hwoken := events_woken (s.atCycle cycle) .spill
  have hcmd : (spillAccess s cycle).spillCmd = s.spillCmd := by
    rw [spillAccess, hwoken.frame, atCycle_clocked cycle hclock]
  have heff : (spillAccess s cycle).effStroke = effAt s cycle := effStroke_atCycle hclock hwoken.stroke
  have hof : (spillAccess s cycle).spillCmdOf k = s.spillCmdOf k := by rw [State.spillCmdOf, hcmd, State.spillCmdOf]
  simp only [State.landSpill, hof, hidle, hcmd, heff, spillAccess_selQueue, spillAccess_reg, Bool.false_eq_true, if_false]

/-- The ten bits of a selection. -/
theorem select_toNat (v : W32) : (v &&& 0x3FF).toNat = v.toNat % 1024 := by
  rw [BitVec.toNat_and]
  exact Nat.and_two_pow_sub_one_eq_mod v.toNat 10

theorem spillSel_results (s : State) (k : Nat) (v : W32) :
    (s.spillSel k v).reg .spill k 0x40 = v &&& 0x3FF ∧ (s.spillSel k v).selQueue k = 1024 * k + v.toNat % 1024 ∧
      (s.spillSel k v).reg .spill k 0x44 = (s.queue (1024 * k + v.toNat % 1024)).cfgWord := by
  have hsel : (s.setReg .spill k 0x40 (v &&& 0x3FF)).selQueue k = 1024 * k + v.toNat % 1024 := by
    rw [State.selQueue, State.reg_setReg_self, select_toNat, Nat.mod_mod]
  have hreg : (s.spillSel k v).reg .spill k 0x40 = v &&& 0x3FF := by
    rw [State.spillSel, reg_setReg_ne _ _ _ _ _ _ _ _ (by simp only [regAddr, Page.base]; omega), State.reg_setReg_self]
  refine ⟨hreg, ?_, ?_⟩
  · rw [State.selQueue, hreg, select_toNat, Nat.mod_mod]
  · rw [State.spillSel, State.reg_setReg_self, hsel]
    rfl

/-- A watermark that R412 allows. -/
theorem watermark_allowed {s : State} {k : Nat} {high : Bool} {v : W32} {h l : Nat}
    (hh : h = if high then v.toNat % 2 ^ 23 else (s.queue (s.selQueue k)).highWm)
    (hl : l = if high then (s.queue (s.selQueue k)).lowWm else v.toNat % 2 ^ 23)
    (howner : (s.queue (s.selQueue k)).owner = .tenant) (horder : h = 0 ∨ l < h) (hhigh : h ≤ (s.queue (s.selQueue k)).cap)
    (hlow : l ≤ (s.queue (s.selQueue k)).cap) :
    s.watermark k high v = s.setQueue (s.selQueue k) { s.queue (s.selQueue k) with highWm := h, lowWm := l } := by
  have hok : (decide ((s.queue (s.selQueue k)).owner ≠ .tenant) || (decide (h ≠ 0) && decide (h ≤ l)) ||
      decide (h > (s.queue (s.selQueue k)).cap) || decide (l > (s.queue (s.selQueue k)).cap)) = false := by
    simp only [howner, Bool.or_eq_false_iff, Bool.and_eq_false_iff, decide_eq_false_iff_not]
    exact ⟨⟨⟨not_not.mpr rfl, by omega⟩, by omega⟩, by omega⟩
  simp only [State.watermark, ← hh, ← hl, hok, Bool.false_eq_true, if_false]

/-- Settles O42. -/
theorem spillCommands : Obligations.SpillCommands := by
  unfold Obligations.SpillCommands
  refine ⟨?commands, ?select, ?highMark, ?lowMark⟩
  case commands =>
    intro s k cycle op i hk htakes hclock hidle hrow
    have hland (op : Nat) (v : W32) : onSpillPage s k 0x70 v cycle (fun s1 => s1.landSpill k op) = _ :=
      (onSpillPage_takes 0x70 v cycle _ hk htakes).trans (congrArg _ (landSpill_idle op hclock hidle))
    simp only [List.mem_cons, Prod.mk.injEq, List.not_mem_nil, or_false] at hrow
    rcases hrow with ⟨rfl, rfl⟩ | ⟨rfl, rfl⟩ | ⟨rfl, rfl⟩ <;> exact hland _ _
  case select =>
    intro s k v hk htakes
    obtain ⟨hreg, hsel, hcfg⟩ := spillSel_results (spillAccess s s.stroke.cycle) k v
    refine ⟨_, onSpillPage_takes 0x40 v s.stroke.cycle (fun s1 => s1.spillSel k v) hk htakes, hreg, hsel, ?_, ?_⟩
    · rw [hcfg, spillAccess_queue]
    · exact (spillAccess_stands s s.stroke.cycle).trans ⟨rfl, rfl, rfl, rfl, rfl⟩
  case highMark =>
    intro s k v hk htakes howner hhigh horder hlow
    refine (onSpillPage_takes 0x48 v s.stroke.cycle (fun s1 => s1.watermark k true v) hk htakes).trans (congrArg _ ?_)
    rw [watermark_allowed (s := spillAccess s s.stroke.cycle) (k := k) (high := true) (v := v) rfl rfl
      (by rwa [spillAccess_selQueue, spillAccess_queue]) (by rwa [spillAccess_selQueue, spillAccess_queue])
      (by rwa [spillAccess_selQueue, spillAccess_queue]) (by rwa [spillAccess_selQueue, spillAccess_queue]),
      spillAccess_selQueue, spillAccess_queue]
    rfl
  case lowMark =>
    intro s k v hk htakes howner hlow hhigh horder
    refine (onSpillPage_takes 0x4C v s.stroke.cycle (fun s1 => s1.watermark k false v) hk htakes).trans (congrArg _ ?_)
    rw [watermark_allowed (s := spillAccess s s.stroke.cycle) (k := k) (high := false) (v := v) rfl rfl
      (by rwa [spillAccess_selQueue, spillAccess_queue]) (by rwa [spillAccess_selQueue, spillAccess_queue])
      (by rwa [spillAccess_selQueue, spillAccess_queue]) (by rwa [spillAccess_selQueue, spillAccess_queue]),
      spillAccess_selQueue, spillAccess_queue]
    rfl

end Sys2Proof.Proofs.SpillPages
end

section
/-!
PROOFS. What reading memory and sending messages of the crew channel can change: one relation for each.
-/

namespace Sys2Proof.Proofs.Carriage

open Sys2Proof Sys2Proof.Machine Sys2Proof.Proofs.IssueFrame Sys2Proof.Proofs.FieldRules Sys2Proof.Proofs.CoreStores

/-! ### Reads of memory -/

/-- `t` is `s` but for memory with its check symbols, which a read may correct, and registers, the debug port, pending vectors and
messages. -/
def ReadsOnly (s t : State) : Prop :=
  t = { s with
    regs := t.regs, mem := t.mem, ecc := t.ecc, tt := t.tt, out := t.out, pcie := { s.pcie with pba := t.pcie.pba } }

theorem ReadsOnly.refl (s : State) : ReadsOnly s s := rfl

theorem ReadsOnly.trans {s t v : State} (h : ReadsOnly s t) (k : ReadsOnly t v) : ReadsOnly s v := by
  unfold ReadsOnly at *
  rw [k, h]

theorem readsOnly_telltale {s t : State} (h : TelltaleOnly s t) : ReadsOnly s t := by
  unfold ReadsOnly
  rw [h.1]

theorem readsOnly_counts {s t : State} (h : CountsOnly s t) : ReadsOnly s t := by
  obtain ⟨r, o, x, rfl⟩ := h
  rfl

theorem readsOnly_readWord (s : State) (req w : Nat) : ReadsOnly s (s.readWord req w).2.2 := by
  have hback (l : List Byte) (d : W32) (p : Prop) [Decidable p] : ReadsOnly s (if p then s else s.storeWord w l d) := by
    split <;> rfl
  unfold State.readWord
  split
  · next v bad _ =>
    cases bad
    · exact .refl s
    · exact readsOnly_counts (countsOnly_countPoisonRead _ _ _)
  · dsimp only
    split
    · exact .refl s
    · exact readsOnly_counts (countsOnly_countPoisonRead _ _ _)
    · exact (hback _ _ _).trans (readsOnly_counts (countsOnly_countCorrected _ _ _ _))
    · exact (hback _ _ _).trans (readsOnly_counts (countsOnly_countUncorrectable _ _ _ _))

theorem readsOnly_readWords (req n : Nat) : ∀ (s : State) (w : Nat), ReadsOnly s (s.readWords req w n).2.2 := by
  induction n with
  | zero => exact fun s _ => .refl s
  | succ n ih => exact fun s w => (readsOnly_readWord s req w).trans (ih _ (w + 1))

theorem readsOnly_readBytes (s : State) (req a n : Nat) : ReadsOnly s (s.readBytes req a n).2.2 := by
  unfold State.readBytes
  split
  · exact .refl s
  · exact (readsOnly_telltale (telltale_watched s a n 1 req)).trans (readsOnly_readWords _ _ _ _)

/-! ### Messages to the crew -/

/-- `t` is `s` but for the records of peers, and messages. -/
def CarryOnly (s t : State) : Prop :=
  t = { s with net := { s.net with hail := { s.net.hail with peers := t.net.hail.peers } }, out := t.out }

theorem CarryOnly.refl (s : State) : CarryOnly s s := rfl

theorem CarryOnly.trans {s t v : State} (h : CarryOnly s t) (k : CarryOnly t v) : CarryOnly s v := by
  unfold CarryOnly at *
  rw [k, h]

theorem CarryOnly.foldl {α : Type} {f : State → α → State} (h : ∀ s a, CarryOnly s (f s a)) (l : List α) (s : State) :
    CarryOnly s (l.foldl f s) := by
  induction l generalizing s with
  | nil => exact .refl s
  | cons a l ih => exact (h s a).trans (ih (f s a))

theorem carryOnly_emit (s : State) (o : Out) : CarryOnly s (s.emit o) := by
  obtain ⟨x, h⟩ := s.emit_frame o
  rw [h]
  rfl

theorem carryOnly_carry1 (s : State) (pos kind round : Nat) (body : List Byte) : CarryOnly s (s.carry1 pos kind round body) := by
  unfold State.carry1
  dsimp only
  split
  · exact .refl s
  · exact CarryOnly.trans (s := s)
      (t := s.setPeer (s.memberId pos) { s.peer (s.memberId pos) with seqTx := (s.peer (s.memberId pos)).seqTx + 1 }) rfl
      (carryOnly_emit _ _)

theorem carryOnly_carry (s : State) (pos kind round size : Nat) (records : List (List Byte)) :
    CarryOnly s (s.carry pos kind round size records) :=
  CarryOnly.foldl (fun t _ => carryOnly_carry1 t _ _ _ _) _ s

theorem carryOnly_carryAll (s : State) (kind round size : Nat) (records : List (List Byte)) :
    CarryOnly s (s.carryAll kind round size records) :=
  CarryOnly.foldl (fun t _ => carryOnly_carry t _ _ _ _ _) _ s

theorem carryOnly_sendDecision (s : State) (round pos : Nat) (d : Decision) : CarryOnly s (s.sendDecision round pos d) :=
  (carryOnly_carry s pos 0x10 round 16 _).trans (carryOnly_carry _ pos 0x16 round 16 _)

/-- A decision is held in the round, and sent. -/
theorem carryOnly_nameDecision (s : State) (b : Nat) (d : Decision) :
    CarryOnly (s.modRound b fun r => { r with decisions := r.decisions ++ [d] }) (s.nameDecision b d) :=
  CarryOnly.foldl (fun t _ => carryOnly_sendDecision t _ _ _) _ _

end Sys2Proof.Proofs.Carriage
end

section
/-!
PROOFS. MUSTER commands land for their commit (01 R33 to R36, 06 R267 to R269): O30.
-/

namespace Sys2Proof.Proofs.MusterLand

open Sys2Proof Sys2Proof.Machine Sys2Proof.Proofs.FieldRules Sys2Proof.Proofs.QueueEvents Sys2Proof.Proofs.Carriage

/-- What the judgement of a landing command leaves: the cores, the fabric, the tenancy and the Keep. -/
structure LandKeeps (s t : State) : Prop where
  cores : t.cores = s.cores
  fabric : t.fabric = s.fabric
  ten : t.ten = s.ten
  keep : t.keep = s.keep

theorem LandKeeps.refl (s : State) : LandKeeps s s := ⟨rfl, rfl, rfl, rfl⟩

theorem LandKeeps.trans {s t v : State} (h : LandKeeps s t) (k : LandKeeps t v) : LandKeeps s v :=
  ⟨k.cores.trans h.cores, k.fabric.trans h.fabric, k.ten.trans h.ten, k.keep.trans h.keep⟩

theorem landKeeps_reads {s t : State} (h : ReadsOnly s t) : LandKeeps s t := by
  rw [h]
  exact ⟨rfl, rfl, rfl, rfl⟩

theorem landKeeps_carry {s t : State} (h : CarryOnly s t) : LandKeeps s t := by
  rw [h]
  exact ⟨rfl, rfl, rfl, rfl⟩

/-- The same command, with another judgement and copied data. -/
def SameCmd (c d : CmdSt) : Prop := d.busy = c.busy ∧ d.op = c.op ∧ d.sub = c.sub ∧ d.eff = c.eff ∧ d.args = c.args

theorem SameCmd.refl (c : CmdSt) : SameCmd c c := ⟨rfl, rfl, rfl, rfl, rfl⟩

theorem landOpen_keeps (s : State) (c : CmdSt) : SameCmd c (s.landOpen c).1 ∧ LandKeeps s (s.landOpen c).2 := by
  unfold State.landOpen
  dsimp only
  split
  · exact ⟨.refl c, .refl s⟩
  · have hhead := landKeeps_reads (readsOnly_readBytes s 7 s.musterAddr 256)
    split
    · exact ⟨.refl c, hhead⟩
    · exact ⟨.refl c, hhead.trans (landKeeps_reads (readsOnly_readBytes _ _ _ _))⟩

theorem landDrop_keeps (s : State) (c : CmdSt) : SameCmd c (s.landDrop c).1 ∧ LandKeeps s (s.landDrop c).2 := by
  have hlist := landKeeps_reads (readsOnly_readBytes s 7 s.musterAddr (4 * s.musterArg))
  unfold State.landDrop
  dsimp only
  generalize s.readBytes 7 s.musterAddr (4 * s.musterArg) = x at hlist
  generalize (c.eff + if (s.round c.sub).crew = true then 64 else 0) = e
  have hround (f : Round → Round) : LandKeeps x.2.2 (x.2.2.modRound c.sub f) := ⟨rfl, rfl, rfl, rfl⟩
  split
  · exact ⟨.refl c, .refl s⟩
  · split
    · exact ⟨.refl c, .refl s⟩
    · split
      · exact ⟨.refl c, hlist⟩
      · split
        · exact ⟨.refl c, hlist⟩
        · split
          · exact ⟨.refl c, hlist⟩
          · split
            · exact ⟨.refl c, hlist⟩
            · split
              · exact ⟨.refl c, (hlist.trans (hround _)).trans (landKeeps_carry (carryOnly_nameDecision x.2.2 _ _))⟩
              · exact ⟨.refl c, hlist.trans (hround fun y => { y with dropPend := y.dropPend ++ [(e, (wordsOf 4 x.1).eraseDups)] })⟩

/-- The state in which a command of MUSTER lands. -/
def musterAccess (s : State) (cycle : Nat) : State := (s.atCycle cycle).woken .muster

/-- The command as it lands, before it is judged. -/
def landing (s : State) (op blk cycle : Nat) : CmdSt :=
  { s.muster with
    busy := true, op := op, sub := blk, eff := effAt s cycle, staged := 0, data := [], bad := false, ready := false
    args := [BitVec.ofNat 32 s.musterArg, BitVec.ofNat 32 s.musterAddr, BitVec.ofNat 32 (s.musterAddr / 2 ^ 32)] }

theorem musterAccess_arg (s : State) (cycle : Nat) :
    (musterAccess s cycle).musterArg = s.musterArg ∧ (musterAccess s cycle).musterAddr = s.musterAddr := by
  have hreg (off : Nat) (hoff : off < 0x1000) : (musterAccess s cycle).reg .muster 0 off = s.reg .muster 0 off := by
    rw [musterAccess, woken_reg_ne _ _ _ _ _ (by simp only [regAddr, Page.base]; omega), State.reg, atCycle_regs, State.reg]
  simp only [State.musterArg, State.musterAddr, hreg _ (by decide : 0x40 < 0x1000), hreg _ (by decide : 0x44 < 0x1000),
    hreg _ (by decide : 0x48 < 0x1000), and_self]

/-- Where no command is in progress one lands; only OPEN and DROP do more than wait for their commit. -/
theorem landMuster_idle {s : State} {cycle : Nat} (op blk : Nat) (hclock : Clocked s) (hidle : s.muster.busy = false) :
    ∃ d u, (musterAccess s cycle).landMuster op blk = { u with muster := d } ∧ SameCmd (landing s op blk cycle) d ∧
      LandKeeps (musterAccess s cycle) u ∧
      (op ≠ 1 → op ≠ 2 → u.rounds = (musterAccess s cycle).rounds ∧ u.mem = (musterAccess s cycle).mem) := by
  have hwoken := events_woken (s.atCycle cycle) .muster
  have hmuster : (musterAccess s cycle).muster = s.muster := by rw [musterAccess, hwoken.frame, atCycle_clocked cycle hclock]
  have heff : (musterAccess s cycle).effStroke = effAt s cycle := effStroke_atCycle hclock hwoken.stroke
  obtain ⟨harg, haddr⟩ := musterAccess_arg s cycle
  simp only [State.landMuster, hmuster, hidle, harg, haddr, heff, Bool.false_eq_true, if_false]
  have hpair : LandKeeps (musterAccess s cycle)
    ((musterAccess s cycle).setPair .muster 0 0x58 ((musterAccess s cycle).musterEff op blk)) := ⟨rfl, rfl, rfl, rfl⟩
  change ∃ d u, _ ∧ SameCmd (landing s op blk cycle) d ∧ _
  split
  · obtain ⟨hcmd, hkeeps⟩ := landOpen_keeps ((musterAccess s cycle).setPair .muster 0 0x58 ((musterAccess s cycle).musterEff 1 blk))
      (landing s 1 blk cycle)
    exact ⟨_, _, rfl, hcmd, hpair.trans hkeeps, fun h => absurd rfl h⟩
  · obtain ⟨hcmd, hkeeps⟩ := landDrop_keeps ((musterAccess s cycle).setPair .muster 0 0x58 ((musterAccess s cycle).musterEff 2 blk))
      (landing s 2 blk cycle)
    exact ⟨_, _, rfl, hcmd, hpair.trans hkeeps, fun _ h => absurd rfl h⟩
  · exact ⟨_, _, rfl, ⟨rfl, rfl, rfl, rfl, rfl⟩, hpair, fun _ _ => ⟨rfl, rfl⟩⟩
  · exact ⟨_, _, rfl, .refl _, hpair, fun _ _ => ⟨rfl, rfl⟩⟩

/-- A MUSTER command row. -/
theorem musterCommand_lands {s : State} {blk : Nat} (op cycle : Nat) (hblk : blk < 16) (htakes : Takes s .muster) (hclock : Clocked s)
    (hidle : s.muster.busy = false) :
    ∃ t, musterCommand op blk cycle s = .next t ∧ MusterLanded s t op blk cycle ∧
      (op ≠ 1 → op ≠ 2 → t.rounds = s.rounds ∧ t.mem = s.mem) := by
  obtain ⟨d, u, hland, ⟨hbusy, hop, hsub, heff, hargs⟩, hkeeps, hwait⟩ := landMuster_idle (cycle := cycle) op blk hclock hidle
  have hwoken := events_woken (s.atCycle cycle) .muster
  refine ⟨{ u with muster := d }, ?_, ⟨hbusy, hop, hsub, heff, hargs, ?_, ?_, ?_, ?_⟩, fun h1 h2 => ?_⟩
  · rw [musterCommand, if_neg (Nat.not_le.mpr hblk)]
    dsimp only
    rw [State.onPage_takes _ _ _ _ _ _ (takes_atCycle cycle htakes)]
    exact congrArg _ hland
  · exact hkeeps.cores.trans (hwoken.cores.trans (atCycle_cores s cycle))
  · exact hkeeps.fabric.trans (hwoken.fabric.trans (atCycle_fabric s cycle))
  · exact hkeeps.ten.trans (hwoken.ten.trans (atCycle_ten s cycle))
  · exact hkeeps.keep.trans (hwoken.keep.trans (atCycle_keep s cycle))
  · obtain ⟨hrounds, hmem⟩ := hwait h1 h2
    exact ⟨hrounds.trans (hwoken.rounds.trans (atCycle_rounds s cycle)), hmem.trans (hwoken.mem.trans (atCycle_mem s cycle))⟩

/-- Settles O30. -/
theorem musterLanding : Obligations.MusterLanding := by
  unfold Obligations.MusterLanding
  intro s blk cycle hblk htakes hclock hidle
  have hland (op b : Nat) (hb : b < 16) := musterCommand_lands op cycle hb htakes hclock hidle
  have hwaits (op b : Nat) (hb : b < 16) (h1 : op ≠ 1) (h2 : op ≠ 2) :
      ∃ t, musterCommand op b cycle s = .next t ∧ MusterLanded s t op b cycle ∧ t.rounds = s.rounds ∧ t.mem = s.mem := by
    obtain ⟨t, ht, hlanded, hrest⟩ := hland op b hb
    exact ⟨t, ht, hlanded, hrest h1 h2⟩
  have hjudged (op b : Nat) (hb : b < 16) : ∃ t, musterCommand op b cycle s = .next t ∧ MusterLanded s t op b cycle := by
    obtain ⟨t, ht, hlanded, -⟩ := hland op b hb
    exact ⟨t, ht, hlanded⟩
  exact ⟨hjudged 1 0 (by decide), hjudged 2 blk hblk, hwaits 3 blk hblk (by decide) (by decide), hwaits 4 blk hblk (by decide) (by decide),
    hwaits 5 blk hblk (by decide) (by decide), hwaits 6 0 (by decide) (by decide) (by decide), hwaits 7 blk hblk (by decide) (by decide)⟩

end Sys2Proof.Proofs.MusterLand
end

section
/-!
PROOFS. Host windows and doorbells (10 R388 to R409, 16 R602 to R604): O43, O44 and O45.
-/

namespace Sys2Proof.Proofs.Windows

open Sys2Proof Sys2Proof.Machine Sys2Proof.Proofs.FieldRules Sys2Proof.Proofs.QueueEvents Sys2Proof.Proofs.QueueRules

/-! ### The state of a window access -/

section
variable (s : State) (cycle n : Nat)

theorem windowed_events : EventsOnly (s.atCycle cycle) (s.windowed cycle) := events_wake _ 3 2 4

theorem windowed_queue : (s.windowed cycle).queue n = s.queue n := by
  rw [State.queue, State.windowed, wake_spill, atCycle_spill, State.queue]

theorem windowed_spill : (s.windowed cycle).spill = s.spill := by rw [State.windowed, wake_spill, atCycle_spill]

theorem windowed_mem : (s.windowed cycle).mem = s.mem := by rw [State.windowed, wake_mem, atCycle_mem]

theorem windowed_now : (s.windowed cycle).stroke.now = s.stroke.now := by rw [State.windowed, wake_stroke, atCycle_now]

end

/-- An access of an open window takes effect. -/
theorem onQueue_open {s : State} {n : Nat} (cycle : Nat) (f : State → State) (h : WinOpen s n) :
    onQueue s n cycle f = .next (f (s.windowed cycle)) := by
  obtain ⟨hn, hlink, hservice⟩ := h
  obtain ⟨x, hx⟩ := s.atCycle_frame cycle
  have hlink' : (s.atCycle cycle).pcie.d3hot = false := by rw [hx]; exact hlink
  have hservice' : (s.atCycle cycle).inService = true := by rw [hx]; exact hservice
  simp only [onQueue, if_neg (Nat.not_le.mpr hn), hlink', hservice', Bool.false_eq_true, if_false, if_true]
  rfl

/-! ### Production -/

theorem prodOp_holds {s : State} {n cycle : Nat} (op : Nat) (hprod : (s.queue n).hostProd = true)
    (hholding : (s.windowed cycle).holding = true) :
    (s.windowed cycle).prodOp n op = { s.windowed cycle with spill := { s.spill with
      held := s.spill.held ++ [.hostProd n op (s.queue n).staged] } } := by
  simp only [State.prodOp, windowed_queue, hprod, hholding, Bool.not_true, Bool.false_eq_true, if_false, if_true, windowed_spill]

/-- An accepted operation sets LAST to 0 and leaves memory. -/
theorem prodOp_accepts {s u : State} {n cycle op : Nat} {l : List QItem} (h : WinOpen s n) (hprod : (s.queue n).hostProd = true)
    (hholding : (s.windowed cycle).holding = false) (hown : op = 4 → (s.queue n).ownOpen .host = false)
    (hput : (s.windowed cycle).produce n .host op (s.queue n).staged = (.accepted, u)) (hitems : QueueHolds (s.windowed cycle) u n l) :
    ∃ t, onQueue s n cycle (fun s1 => s1.prodOp n op) = .next t ∧ t.mem = s.mem ∧ (t.queue n).last = 0 ∧ (t.queue n).items = l := by
  have hown' : ¬ (op = 4 ∧ (s.queue n).ownOpen .host = true) := fun ⟨h4, hopen⟩ => by
    rw [hown h4] at hopen
    cases hopen
  refine ⟨u.setQueue n { u.queue n with last := 0 }, ?_, ?_, ?_, ?_⟩
  · rw [onQueue_open cycle _ h]
    simp only [State.prodOp, State.winProd, windowed_queue, hprod, hholding, Bool.not_true, Bool.false_eq_true, if_false,
      if_neg hown', hput]
    rfl
  · exact hitems.mem.trans (windowed_mem s cycle)
  · rw [State.queue_setQueue_self]
  · rw [State.queue_setQueue_self]
    exact hitems.items

/-- Settles O43. -/
theorem windowProduction : Obligations.WindowProduction := by
  unfold Obligations.WindowProduction
  intro s n cycle h hprod
  refine ⟨?stage, ?held, fun hholding => ⟨?ofOpen, ?unopened⟩⟩
  case stage =>
    intro off l hfits hsize halign
    have hok : ¬ (off + l.length > 32 ∨ ¬ [1, 2, 4, 8, 16, 32].contains l.length ∨ off % l.length ≠ 0) := by
      simp only [List.contains_eq_mem, hsize, decide_true, not_true_eq_false, halign, ne_eq, false_or, or_false]
      omega
    change execWinDataWrite n off cycle l s = _
    rw [execWinDataWrite, onQueue_open cycle _ h]
    simp only [windowed_queue, hprod, Bool.not_true, Bool.false_eq_true, if_false, if_neg hok, stageBytes]
  case held =>
    intro op i hrow hholding
    have hheld (op : Nat) : onQueue s n cycle (fun s1 => s1.prodOp n op) = _ :=
      (onQueue_open cycle _ h).trans (congrArg _ (prodOp_holds op hprod hholding))
    simp only [List.mem_cons, Prod.mk.injEq, List.not_mem_nil, or_false] at hrow
    rcases hrow with ⟨rfl, rfl⟩ | ⟨rfl, rfl⟩ | ⟨rfl, rfl⟩ | ⟨rfl, rfl⟩ | ⟨rfl, rfl⟩ <;> exact hheld _
  case ofOpen =>
    intro l y hitems hopen habandoned hsrc hflushed hroom hwords
    rw [← windowed_queue s cycle n] at hitems hflushed hroom
    refine ⟨?_, fun hd d hw hfreed => ?_⟩
    · obtain ⟨u, hput, hq⟩ := produce_data (s.queue n).staged false hitems hopen habandoned hsrc hflushed hroom hwords
      exact prodOp_accepts h hprod hholding (fun h4 => absurd h4 (by decide)) hput hq
    · obtain ⟨u, hput, hq⟩ := produce_close (s.queue n).staged false hitems hopen habandoned hsrc hw hfreed hflushed hroom hwords
      rw [windowed_now] at hq
      exact prodOp_accepts h hprod hholding (fun h4 => absurd h4 (by decide)) hput hq
  case unopened =>
    rintro ⟨hopen, hflushed⟩ hroom
    have hown := ownOpen_unopened hopen hflushed .host
    rw [← windowed_queue s cycle n] at hopen hflushed hroom
    refine ⟨?_, ?_, ?_⟩
    · obtain ⟨u, hput, hq⟩ := produce_open .host (s.queue n).staged false hopen hflushed hroom
      rw [windowed_queue] at hq
      exact prodOp_accepts h hprod hholding (fun h4 => absurd h4 (by decide)) hput hq
    · obtain ⟨u, hput, hq⟩ := produce_single .host (s.queue n).staged false hopen hflushed hroom
      rw [windowed_queue, windowed_now] at hq
      exact prodOp_accepts h hprod hholding (fun h4 => absurd h4 (by decide)) hput hq
    · obtain ⟨u, hput, hq⟩ := produce_marker .host (s.queue n).staged false hopen hflushed (by omega)
      rw [windowed_queue, windowed_now] at hq
      exact prodOp_accepts h hprod hholding (fun _ => hown) hput hq

/-! ### Consumption -/

theorem winTake_word {q : Queue} {d : QWord} {p : Nat} (h : q.nextWord q.rd = some (d, p)) (hgood : d.bad = false) :
    q.winTake = { q with latch := d.w, rd := p } := by
  simp [Queue.winTake, h, hgood]

theorem winTake_empty {q : Queue} (h : q.nextWord q.rd = none) : q.winTake = { q with latch := 0 } := by
  simp [Queue.winTake, h]

/-- A read of the window shows the latch. -/
theorem winDataRead_latch {s : State} {n : Nat} (cycle len : Nat) (h : WinOpen s n) (hcons : (s.queue n).hostCons = true) :
    exec (.winDataRead n cycle len) s = .next (((s.windowed cycle).setQueue n (s.queue n).winTake).emit
      (.completion ((toLe 32 (s.queue n).winTake.latch.toNat).take len) false)) := by
  change execWinDataRead n cycle len s = _
  rw [execWinDataRead, onQueue_open cycle _ h]
  simp only [windowed_queue, hcons, Bool.not_true, Bool.false_eq_true, if_false]

/-- An acknowledgement without ARM. -/
theorem noticeAck_unarmed {s : State} {n : Nat} {v : W32} (h : (s.queue n).hostProd = true ∨ (s.queue n).hostCons = true)
    (harm : v.toNat.testBit 31 = false) :
    s.noticeAck n v = s.setQueue n { s.queue n with notices := (s.queue n).notices - v.toNat % 2 ^ 24 } := by
  have hactive : (!(s.queue n).hostProd && !(s.queue n).hostCons) = false := by
    rcases h with h | h <;> simp [h]
  simp only [State.noticeAck, hactive, harm, Bool.false_eq_true, if_false, Bool.false_and, Bool.or_false]

/-- Settles O44. -/
theorem windowConsumption : Obligations.WindowConsumption := by
  unfold Obligations.WindowConsumption
  refine ⟨?word, ?empty, ?marks, ?ack, ?burst⟩
  case word =>
    intro s n cycle len d p h hcons hnext hgood
    rw [winDataRead_latch cycle len h hcons, winTake_word hnext hgood]
  case empty =>
    intro s n cycle len h hcons hnext
    have hzero : toLe 32 (0 : W256).toNat = List.replicate 32 0 := rfl
    rw [winDataRead_latch cycle len h hcons, winTake_empty hnext, hzero]
  case marks =>
    intro s n cycle h hcons
    have hop (c : Nat) : onQueue s n cycle (fun s1 => s1.consOp n c) = .next ((s.windowed cycle).consOp n c) :=
      onQueue_open cycle _ h
    refine ⟨(hop 1).trans ?_, (hop 2).trans ?_, (hop 3).trans ?_⟩ <;>
      simp only [State.consOp, windowed_queue, hcons, Bool.not_true, Bool.false_eq_true, if_false, windowed_now]
  case ack =>
    intro s n v h hactive harm
    change execWinNoticeAck n v s = _
    rw [execWinNoticeAck, onQueue_open s.stroke.cycle _ h, noticeAck_unarmed (by rwa [windowed_queue]) harm, windowed_queue]
  case burst =>
    intro s n hn
    refine ⟨_, if_neg (Nat.not_le.mpr hn), rfl, ?_⟩
    rw [State.queue_setQueue_self]

/-! ### Doorbells -/

/-- The packet of a doorbell with its length slot. -/
theorem doorOpen_accepts {s : State} {n : Nat} (hopen : (s.queue n).openItem = none) (hroom : (s.queue n).level + 2 ≤ (s.queue n).cap) :
    QueueHolds s (s.doorOpen n) n ((s.queue n).items ++ [{ kind := .packet, src := .doorbell, words := [{ w := 0 }] }]) ∧
      (s.doorOpen n).out = s.out ∧ ((s.doorOpen n).queue n).dbBusy = (s.queue n).dbBusy ∧
      ((s.doorOpen n).queue n).dbWords = (s.queue n).dbWords := by
  have hdoor : s.doorOpen n = s.setQueue n (({ s.queue n with
      items := (s.queue n).items ++ [{ kind := .packet, src := .doorbell, words := [{ w := 0 }] }] } : Queue).grow 1) := by
    simp [State.doorOpen, otherOpen_unopened hopen, Nat.not_lt.mpr hroom]
  rw [hdoor]
  refine ⟨holds_setQueue_grow s n _ 1, rfl, ?_, ?_⟩ <;>
    obtain ⟨j, hj⟩ := grow_eq { s.queue n with
      items := (s.queue n).items ++ [{ kind := .packet, src := .doorbell, words := [{ w := 0 }] }] } 1 <;>
    rw [State.queue_setQueue_self, hj]

/-- A valid ring reads the header and the words from host memory, and opens the packet. -/
theorem ring_opens {s : State} {n : Nat} {hi : W32} {h : List Byte} (hprod : (s.queue n).hostProd = true)
    (halign : ((s.queue n).dbAddrLo.toNat + 2 ^ 32 * hi.toNat) % 64 = 0) (hidle : (s.queue n).dbBusy = false)
    (hunopened : (s.queue n).unopened) (hbme : s.pcie.bme = true) (hheader : hostHeaderOk h = true) (hholding : s.holding = false) :
    s.ring n hi (some h) = ((({ s with
      out := .hostRead ((s.queue n).dbAddrLo.toNat + 2 ^ 32 * hi.toNat + 32) (32 * leAt h 0 4) ::
        .hostRead ((s.queue n).dbAddrLo.toNat + 2 ^ 32 * hi.toNat) 32 :: s.out } : State).setQueue n
          { s.queue n with dbBusy := true, dbWords := leAt h 0 4 }).doorOpen n) := by
  obtain ⟨hopen, hflushed⟩ := hunopened
  have hemit (t : State) (a k : Nat) (ht : t.pcie.bme = true) : t.emit (.hostRead a k) = { t with out := .hostRead a k :: t.out } := by
    simp [State.emit, ht]
  have hnow : ¬ s.holding = true := by simp [hholding]
  simp only [State.ring, hprod, halign, hidle, ownOpen_unopened hopen hflushed, otherOpen_unopened hopen, hbme, hheader, hemit,
    Bool.not_true, ne_eq, not_true_eq_false, decide_false, Bool.or_false, Bool.false_eq_true, if_false, if_true]
  exact if_neg hnow

/-- A doorbell's one word is written, and its packet closed. -/
theorem doorEnd_closes {s : State} {n : Nat} {l : List QItem} {y : QItem} {h : QWord} {data : List Byte}
    (hbusy : (s.queue n).dbBusy = true) (hcount : (s.queue n).dbWords = 1) (hitems : (s.queue n).items = l ++ [y])
    (hopen : y.closed = false) (habandoned : y.abandoned = false) (hsrc : y.src = .doorbell) (hwords : y.words = [h]) (hfreed : y.freed = 0)
    (hflushed : (s.queue n).flushed = []) (hroom : (s.queue n).level + 1 ≤ (s.queue n).cap) (hlen : data.length = 32) :
    ∃ t, s.doorEnd n (some data) = t.doorLast n 0 ∧ QueueHolds s t n (l ++ [{ y with
      closed := true, complete := true, stroke := s.stroke.now
      words := [{ w := ctrlWord 2 1 y.bytes 2 y.decision s.stroke.now y.qpn 0 },
        { w := tagWord 1 (BitVec.ofNat 256 (ofLe data)) }] }]) := by
  have hown : (s.queue n).ownOpen .doorbell = true := by simp [Queue.ownOpen, openItem_last hitems, hopen, hsrc]
  have hpad : padTo (32 * 1) data = data := by simp [padTo, hlen]
  have hne : data ≠ [] := List.ne_nil_of_length_pos (by omega)
  have hchunk : chunksOf 1 32 data = [data] := by
    simp only [chunksOf, List.isEmpty_iff, hne, if_false, List.take_of_length_le (Nat.le_of_eq hlen)]
  have hcode : y.src.code = 2 := by rw [hsrc]; rfl
  have hcore : y.src.isCore = false := by rw [hsrc]; rfl
  obtain ⟨u, hu, hq⟩ := pushData_accepts { w := tagWord 1 (BitVec.ofNat 256 (ofLe data)) } hitems hopen habandoned hroom
    (by simp [QItem.dataWords, hwords, hfreed])
  obtain ⟨t, ht, hclose⟩ := closeOpen_accepts (s := u) (n := n) (h := h) (d := [{ w := tagWord 1 (BitVec.ofNat 256 (ofLe data)) }])
    hq.items hopen habandoned (by rw [hwords]; rfl) hfreed
  have hdone := hclose s _ hq
  rw [hcode, hcore, hq.stroke] at hdone
  refine ⟨t, ?_, hdone⟩
  simp only [State.doorEnd, hbusy, hown, hflushed, hcount, hpad, hchunk, State.doorWords, List.foldl_cons, List.foldl_nil, hu, ht,
    Bool.not_true, Bool.false_eq_true, if_false, List.contains_nil, if_true]

/-- Settles O45. -/
theorem doorbellResults : Obligations.DoorbellResults := by
  unfold Obligations.DoorbellResults
  refine ⟨?ring, ?fetched⟩
  case ring =>
    intro s n cycle hi h hwin hreef hprod halign hidle hunopened hbme hheader hholding hroom
    have hlevel : (s.windowed cycle).reef.level ≠ 4 := by
      rw [(windowed_events s cycle).frame]
      obtain ⟨x, hx⟩ := s.atCycle_frame cycle
      rw [hx]
      exact hreef
    have hlink : (s.windowed cycle).pcie.bme = true := by
      rw [(windowed_events s cycle).frame]
      obtain ⟨x, hx⟩ := s.atCycle_frame cycle
      rw [hx]
      exact hbme
    have hring := ring_opens (s := s.windowed cycle) (n := n) (hi := hi) (h := h) (by rwa [windowed_queue]) (by rwa [windowed_queue])
      (by rwa [windowed_queue]) (by rwa [windowed_queue]) hlink hheader hholding
    rw [windowed_queue] at hring
    generalize hv : ({ s.windowed cycle with
      out := .hostRead ((s.queue n).dbAddrLo.toNat + 2 ^ 32 * hi.toNat + 32) (32 * leAt h 0 4) ::
        .hostRead ((s.queue n).dbAddrLo.toNat + 2 ^ 32 * hi.toNat) 32 :: (s.windowed cycle).out } : State) = v at hring
    have hqueue := v.queue_setQueue_self n { s.queue n with dbBusy := true, dbWords := leAt h 0 4 }
    obtain ⟨hitems, hout, hbusy, hcount⟩ := doorOpen_accepts (s := v.setQueue n { s.queue n with dbBusy := true, dbWords := leAt h 0 4 })
      (n := n) (by rw [hqueue]; exact hunopened.1) (by rw [hqueue]; exact hroom)
    refine ⟨(s.windowed cycle).ring n hi (some h), ?_, ?_⟩
    · change execDoorbellRing n cycle hi (some h) s = _
      rw [execDoorbellRing, onQueue_open cycle _ hwin, if_neg hlevel]
    · rw [hring, hitems.mem, hitems.items, hout, hbusy, hcount, hqueue, ← hv]
      exact ⟨windowed_mem s cycle, rfl, rfl, rfl, rfl⟩
  case fetched =>
    intro s n cycle l y h data hn hholding hbusy hcount hitems hopen habandoned hsrc hwords hfreed hflushed hroom hlen
    have hqueue : (s.atCycle cycle).queue n = s.queue n := by rw [State.queue, atCycle_spill, State.queue]
    rw [← hqueue] at hbusy hcount hitems hflushed hroom
    obtain ⟨t, hend, hq⟩ := doorEnd_closes hbusy hcount hitems hopen habandoned hsrc hwords hfreed hflushed hroom hlen
    rw [atCycle_now] at hq
    refine ⟨t.doorLast n 0, ?_, hq.mem.trans (atCycle_mem s cycle), ?_, ?_, ?_⟩
    · change execDoorbellFetchDone n cycle (some data) s = _
      simp only [execDoorbellFetchDone, if_neg (Nat.not_le.mpr hn), hholding, Bool.false_eq_true, if_false, hend]
    · rw [State.doorLast, State.queue_setQueue_self]
    · rw [State.doorLast, State.queue_setQueue_self]
    · rw [State.doorLast, State.queue_setQueue_self]
      exact hq.items

end Sys2Proof.Proofs.Windows
end

section
/-!
PROOFS. Writes of byte ranges of memory: what they can change.
-/

namespace Sys2Proof.Proofs.MemWrites

open Sys2Proof Sys2Proof.Machine Sys2Proof.Proofs.IssueFrame Sys2Proof.Proofs.Drains Sys2Proof.Proofs.Carriage

theorem memOnly_reads {s t : State} (h : ReadsOnly s t) : MemOnly s t := by
  unfold MemOnly
  rw [h]

theorem memOnly_storeWord (s : State) (w : Nat) (l : List Byte) (d : W32) : MemOnly s (s.storeWord w l d) := rfl

theorem memOnly_touchBed (s : State) (w : Nat) : MemOnly s (s.touchBed w) := by
  unfold State.touchBed
  dsimp only
  split <;> rfl

theorem memOnly_mergeWord (s : State) (req w o : Nat) (l : List Byte) (bad : Bool) : MemOnly s (s.mergeWord req w o l bad) :=
  (memOnly_touchBed s w).trans ((memOnly_reads (readsOnly_readWord _ req w)).trans (memOnly_storeWord _ _ _ _))

theorem memOnly_writeFuel (fuel req : Nat) (bad : Bool) : ∀ (s : State) (a : Nat) (l : List Byte), MemOnly s (s.writeFuel fuel req a l bad) := by
  induction fuel with
  | zero => exact fun s _ _ => .refl s
  | succ fuel ih =>
    intro s a l
    unfold State.writeFuel
    split
    · exact .refl s
    · refine MemOnly.trans ?_ (ih _ _ _)
      split
      · exact memOnly_writeWord _ _ _ _
      · exact memOnly_mergeWord _ _ _ _ _ _

theorem memOnly_writeBytes (s : State) (req a : Nat) (l : List Byte) (bad : Bool) : MemOnly s (s.writeBytes req a l bad) :=
  (memOnly_telltale (telltale_watched s a l.length 2 req)).trans (memOnly_writeFuel _ _ _ _ _ _)

end Sys2Proof.Proofs.MemWrites
end

section
/-!
PROOFS. The Vaults: a transform of one polynomial, its completion, and the commands of the modulus table (09 R358 to R366, R379): O41.
-/

namespace Sys2Proof.Proofs.Vaults

open Sys2Proof Sys2Proof.Machine Sys2Proof.Proofs.FieldRules Sys2Proof.Proofs.Drains Sys2Proof.Proofs.MemWrites
  Sys2Proof.Proofs.QueueEvents Sys2Proof.Proofs.UnitItems

/-- A request at the head of the input is not discarded. -/
theorem vaultDiscard_request {s : State} {c : Nat} {it : QItem} {l : List QItem} (fuel : Nat)
    (hitems : (s.queue (16384 + c)).items = it :: l) (hlen : it.words.length = 2) (hdeliver : it.deliverable = true) :
    State.vaultDiscard (fuel + 1) c s = s := by
  simp [State.vaultDiscard, hitems, hlen, hdeliver]

/-- The transform of a request. -/
def transform (q : VaultReq) (p : Nat) (data : List Byte) : List Nat :=
  if q.op = 1 then nttForward p q.m q.nega (coeffs data) else nttInverse p q.m q.nega q.scale (coeffs data)

/-- A request of one transform whose source is clean and whose check holds. -/
theorem vaultDo_one {u : State} {c id p a b : Nat} {r : Rig} {q : VaultReq} {data : List Byte}
    (hvault : u.fabric.vaults.get {} c = {}) (hform : q.malformed = false) (hbatch : q.batch = 1) (hmod : u.vaultModulus q = some p)
    (hranges : u.vaultRanges r q = some (a, b, none)) (hread : u.readBytes 4 a (8 * 2 ^ q.m) = (data, false, u)) :
    u.vaultDo c id r q [] = ({}, u.writeBytes 4 b (coeffBytes (transform q p data))) := by
  have hone : u.vaultBatch c p a b (8 * 2 ^ q.m) q [] = ({}, u.writeBytes 4 b (coeffBytes (transform q p data))) := by
    simp only [State.vaultBatch, hbatch, List.range_one, List.foldl_cons, List.foldl_nil, State.vaultOne, Nat.zero_mul, Nat.add_zero,
      hread, transform, List.find?_nil]
    rfl
  simp only [State.vaultDo, hvault, hform, hmod, hranges, hone]
  rfl

/-- The Vault takes the request, writes its transform and holds its completion. -/
theorem vaultTake_transforms {s u : State} {c id p a b : Nat} {r : Rig} {it : QItem} {l : List QItem} {x h : QWord} {data : List Byte}
    {q : VaultReq} {d : RigQueue} (hvault : s.fabric.vaults.get {} c = {}) (hitems : (s.queue (16384 + c)).items = it :: l)
    (hdeliver : it.deliverable = true) (hwords : it.words = [h, x]) (hrig : s.vaultRig c = some (id, r)) (hreq : vaultReq x.w = q)
    (hform : q.malformed = false) (hbatch : q.batch = 1) (hmod : s.vaultModulus q = some p)
    (hranges : s.vaultRanges r q = some (a, b, none)) (hdone : r.queues[q.doneQueue]? = some d) (hrole : d.role = 1)
    (hu : u = s.setQueue (16384 + c) { s.queue (16384 + c) with items := l })
    (hread : u.readBytes 4 a (8 * 2 ^ q.m) = (data, false, u)) :
    ((s.vaultTake c q.op []).queue (16384 + c)).items = l ∧
      (s.vaultTake c q.op []).mem = (u.writeBytes 4 b (coeffBytes (transform q p data))).mem ∧
      ((s.vaultTake c q.op []).fabric.vaults.get {} c).completion = some (d.queue, BitVec.ofNat 256 q.cookie) := by
  have hdo := vaultDo_one (u := u) (c := c) (id := id) (by rw [hu]; exact hvault) hform hbatch (by rw [hu]; exact hmod)
    (by rw [hu]; exact hranges) hread
  have hhead : s.vaultHead c = some x.w := by simp [State.vaultHead, hitems, hdeliver, hwords]
  have hdrop : (s.queue (16384 + c)).items.drop 1 = l := by rw [hitems]; rfl
  have hword : vaultWord q {} = BitVec.ofNat 256 q.cookie := by simp [vaultWord]
  have htake : s.vaultTake c q.op [] = ({ (u.writeBytes 4 b (coeffBytes (transform q p data))).bump64 .vault c 0x44 q.batch with
      fabric := { (u.writeBytes 4 b (coeffBytes (transform q p data))).fabric with
        vaults := (u.writeBytes 4 b (coeffBytes (transform q p data))).fabric.vaults.modify {} c fun v =>
          { v with completion := some (d.queue, BitVec.ofNat 256 q.cookie) } } } : State) := by
    have hcompletion : (s.fabric.vaults.get {} c).completion.isSome = false := by rw [hvault]; rfl
    simp only [State.vaultTake, vaultDiscard_request 299 hitems (by rw [hwords]; rfl) hdeliver, hcompletion, hhead, hrig, hreq,
      ne_eq, not_true_eq_false, false_and, hdrop, if_false, Bool.false_eq_true, ← hu, hdo, hdone, hrole, if_true, hword]
    rfl
  have honly := memOnly_writeBytes u 4 b (coeffBytes (transform q p data)) false
  rw [htake]
  generalize u.writeBytes 4 b (coeffBytes (transform q p data)) = v at honly
  refine ⟨?_, rfl, ?_⟩
  · change (v.queue (16384 + c)).items = l
    rw [State.queue, honly]
    change (u.queue (16384 + c)).items = l
    rw [hu, State.queue_setQueue_self]
  · exact congrArg Vault.completion (NMap.get_put_self _ _ _ _)

/-- A Vault whose engine may start takes its next request. -/
theorem vaultStart_takes {s : State} {c : Nat} (op : Nat) (hc : c < 96) (hstart : s.enginesStart = true) :
    vaultStart c op [] s = .next (s.vaultTake c op []) := by
  rw [vaultStart, if_neg (Nat.not_le.mpr hc), if_pos hstart]

/-- The completion word that waits is written to its queue. -/
theorem vaultComplete_writes {s : State} {c n : Nat} {w : W256} (h : (s.fabric.vaults.get {} c).completion = some (n, w)) :
    ((s.vaultComplete c).fabric.vaults.get {} c).completion = none ∧ (s.vaultComplete c).mem = s.mem ∧
      UnitPut s (s.vaultComplete c) n (.vault c) [w] := by
  have hcomplete : s.vaultComplete c = ({ s with fabric := { s.fabric with
      vaults := s.fabric.vaults.modify {} c fun v => { v with completion := none } } } : State).unitItem n (.vault c) [w] 0 0 0 := by
    simp only [State.vaultComplete, h]
  have hitem := spill_unitItem ({ s with fabric := { s.fabric with
    vaults := s.fabric.vaults.modify {} c fun v => { v with completion := none } } } : State) n (.vault c) [w] 0 0 0
  rw [hcomplete, hitem.fabric, hitem.mem]
  exact ⟨congrArg Vault.completion (NMap.get_put_self _ _ _ _), rfl, unitPut_unitItem _ _ rfl rfl rfl⟩

/-- A command of the modulus table lands where none is in progress. -/
theorem mtCommand_lands {s : State} {c : Nat} (op : Nat) (hc : c < 96) (htakes : Takes s .vault) (hidle : s.mtCmd.busy = false) :
    mtCommand c op s = .next { s.woken .vault with mtCmd := { s.mtCmd with
      busy := true, op := op, sub := c, args := [s.reg .vault 0 0x80, s.reg .vault 0 0x84, s.reg .vault 0 0x88] } } := by
  have hcmd : (s.woken .vault).mtCmd = s.mtCmd := by rw [(events_woken s .vault).frame]
  have hreg (off : Nat) : (s.woken .vault).reg .vault 0 off = s.reg .vault 0 off :=
    woken_reg_ne _ _ _ _ _ (by simp only [regAddr, Page.base]; omega)
  rw [mtCommand, if_neg (Nat.not_le.mpr hc), State.onPage_takes _ _ _ _ _ _ htakes, State.landMt, hcmd, hidle, hreg, hreg, hreg]
  rfl

/-- Settles O41. -/
theorem vaultResults : Obligations.VaultResults := by
  unfold Obligations.VaultResults
  refine ⟨?transforms, ?completion, ?table⟩
  case transforms =>
    intro s u c id p a b r it l x h data q d hc hstart hvault hitems hdeliver hwords hrig hreq hform hbatch hmod hranges hdone hrole hu
      hread
    have htake := vaultTake_transforms hvault hitems hdeliver hwords hrig hreq hform hbatch hmod hranges hdone hrole hu hread
    refine ⟨fun hop => ?_, fun hop => ?_⟩
    · rw [hop, transform, if_pos hop] at htake
      exact ⟨_, vaultStart_takes 1 hc hstart, htake⟩
    · rw [hop, transform, if_neg (by rw [hop]; decide)] at htake
      exact ⟨_, vaultStart_takes 2 hc hstart, htake⟩
  case completion =>
    intro s c cycle n w hc hcompletion
    obtain ⟨hnone, hmem, hput⟩ := vaultComplete_writes (s := s.atCycle cycle) (by rw [atCycle_fabric]; exact hcompletion)
    exact ⟨_, if_neg (Nat.not_le.mpr hc), hnone, hmem.trans (atCycle_mem s cycle), hput⟩
  case table =>
    intro s c hc htakes hidle op i hrow
    have hland (op : Nat) := mtCommand_lands op hc htakes hidle
    simp only [List.mem_cons, Prod.mk.injEq, List.not_mem_nil, or_false] at hrow
    rcases hrow with ⟨rfl, rfl⟩ | ⟨rfl, rfl⟩ | ⟨rfl, rfl⟩ <;> exact hland _

end Sys2Proof.Proofs.Vaults
end

section
/-!
PROOFS. Operations on encrypted bits (08 R322 to R334): the engine performs the request at the head of its queue, and a ready request
writes its result. O38 and O39.
-/

namespace Sys2Proof.Proofs.CipherOps

open Sys2Proof Sys2Proof.Machine

/-! ### The request at the head of the queue -/

/-- A row of the engine performs the head request of its operation. -/
theorem cipherRow_performs {s : State} {op course : Nat} (vf : Bool) {r : CReq} (h : CipherStarts s op course r) :
    cipherRow op course vf s = .next (s.cipherTaken.cipherRequest ⟨course, vf⟩ r) := by
  obtain ⟨hcourse, hloaded, hstart, hop, ⟨e, hrig, hrun, hvault⟩, i, hhead, hkind, hgood, hparse⟩ := h
  have hrow : ¬ (r.op ≠ op ∧ (cOp r.op).isSome = true) := fun hne => hne.1 hop
  simp only [cipherRow, if_neg (Nat.not_le.mpr hcourse), hloaded, hrig, hstart, hrun, hvault, State.cipherTake, hhead, hkind, hgood,
    hparse, Bool.not_true, Bool.not_false, Bool.and_self, Bool.false_eq_true, if_false, if_true, ne_eq, not_true_eq_false]
  rw [if_neg hrow]
  rfl

/-- An operation on bits is neither a key set command, an export nor STATUS. -/
theorem cipherRequest_lwe {v : State} {on : RunOn} {r : CReq} {o : COp} (hform : r.formOk = true) (hrow : cOp r.op = some o)
    (hop : r.op ≠ 0x30 ∧ r.op ≠ 0x31 ∧ r.op ≠ 0x40 ∧ r.op ≠ 0x41) : v.cipherRequest on r = v.lweRequest on r o := by
  obtain ⟨h1, h2, h3, h4⟩ := hop
  simp only [State.cipherRequest, hform, hrow, Bool.not_true, Bool.false_eq_true, if_false]

/-! ### A ready request -/

/-- What is written once the operation is performed: the result, or OUT poisoned. -/
def lweFinish (x : RefreshRes × Nat × State) (r : CReq) (os : List Obj) : State :=
  match x.1 with
  | .failed e => x.2.2.poisonOut r (outHdr r.op os) e x.2.1
  | .ok body => x.2.2.lweDone r os body x.2.1

/-- Inputs that fit need no automatic refresh. -/
theorem autoRefresh_fits {s : State} {op maxL : Nat} {c : Int} {os : List Obj} (fuel : Nat) (on : RunOn)
    (h : testLevel op c (lv os 0) (lv os 1) (lv os 2) ≤ maxL) : s.autoRefresh (fuel + 1) on op c maxL os = (os, 0, none, s) := by
  rw [State.autoRefresh, if_pos h]

/-- A ready request is performed, and finished. -/
theorem lweRequest_ready {v : State} {on : RunOn} {r : CReq} {o : COp} {os : List Obj} (h : LweReady v r o os) :
    v.lweRequest on r o = lweFinish (v.perform on r (hdr0 os) os) r os := by
  obtain ⟨hform, hrow, hinputs, hreads, htypes, hclean, hwidth, hranges, ⟨hout, hopen⟩, k, b, hkey, hset, hkeys, hlevel⟩ := h
  have hhead : (os.map (·.h)).headD (parseHdr []) = hdr0 os := rfl
  have hins : ([r.in0, r.in1, r.in2].take o.inputs).any (fun a => !v.objRange a 32) = false := by
    simpa [List.any_eq_false] using hinputs
  have hseal : (os.map (·.h)).any (fun x => x.flags.testBit 1) = false := by
    simpa [List.any_eq_false] using fun x hx => (hclean x hx).2
  have hpoison : os.any (·.poison) = false := by simpa [List.any_eq_false] using fun x hx => (hclean x hx).1
  have htyp : (os.map (·.h)).any (fun x => !(hdr0 os).typeOk x o) = false := by simpa [List.any_eq_false] using htypes
  have hrange : (([r.in0, r.in1, r.in2].take o.inputs).zip (os.map (·.h))).any
      (fun e => !v.objRange e.1 (32 + objLen e.2.param e.2.typ 0)) = false := by
    rw [List.any_eq_false]
    intro e he
    simp [(hranges e he).1]
  have hclash : (([r.in0, r.in1, r.in2].take o.inputs).zip (os.map (·.h))).any (fun e =>
      State.lweRequest.overlapsRange e.1 (32 + objLen e.2.param e.2.typ 0) r.out (32 + (outHdr r.op os).len)) = false := by
    rw [List.any_eq_false]
    intro e he
    simpa [State.lweRequest.overlapsRange] using (hranges e he).2
  have hlen : objLen (hdr0 os).param (if r.op = 0x1A then 2 else 1) (hdr0 os).len = (outHdr r.op os).len := rfl
  have hauto (p : Bool) : (if p then v.autoRefresh 4 on r.op r.c b.levelMax os else (os, 0, none, v)) = (os, 0, none, v) := by
    split
    · exact autoRefresh_fits 3 on hlevel
    · rfl
  simp only [State.lweRequest, hreads, hhead, hins, hseal, hpoison, htyp, hlen, hrange, hclash, hout, hopen, hset, hwidth, hkey, hkeys,
    hauto, Bool.not_true, Bool.and_false, Bool.false_and, Bool.or_false, Bool.or_self, Bool.false_eq_true, if_false,
    Nat.not_lt.mpr hlevel, gt_iff_lt, Nat.zero_add, Option.isSome_some]
  rfl

/-- The rows of the operations on bits. -/
theorem row_finishes {s : State} {op course : Nat} (vf : Bool) {r : CReq} {o : COp} {os : List Obj} (h : CipherStarts s op course r)
    (hready : LweReady s.cipherTaken r o os) (hop : op ≠ 0x30 ∧ op ≠ 0x31 ∧ op ≠ 0x40 ∧ op ≠ 0x41) :
    cipherRow op course vf s = .next (lweFinish (s.cipherTaken.perform ⟨course, vf⟩ r (hdr0 os) os) r os) := by
  have hreq : r.op = op := h.2.2.2.1
  rw [cipherRow_performs vf h, cipherRequest_lwe hready.form hready.row (by rwa [hreq]), lweRequest_ready hready]

/-! ### Linear operations -/

/-- An operation without a refresh writes its linear step. -/
theorem linear_row {s : State} {op course : Nat} (vf : Bool) {r : CReq} {o : COp} {os : List Obj} (h : CipherStarts s op course r)
    (hready : LweReady s.cipherTaken r o os) (hop : op ≠ 0x30 ∧ op ≠ 0x31 ∧ op ≠ 0x40 ∧ op ≠ 0x41) (hlinear : refreshing op = false) :
    cipherRow op course vf s = .next (s.cipherTaken.lweDone r os (linStep op (hdr0 os).w r.c os) 0) := by
  have hreq : r.op = op := h.2.2.2.1
  have hperform : s.cipherTaken.perform ⟨course, vf⟩ r (hdr0 os) os = (.ok (linStep op (hdr0 os).w r.c os), 0, s.cipherTaken) := by
    simp only [State.perform, hreq, hlinear, Bool.not_false, if_true]
  rw [row_finishes vf h hready hop, hperform]
  rfl

/-- Settles O38: each row writes the linear step of its operation. -/
theorem cipherLinear : Obligations.CipherLinear := by
  unfold Obligations.CipherLinear
  refine ⟨?add, ?sub, ?neg, ?scale, ?addc, ?not, ?copy⟩
  case add =>
    intro s course vf r o os h hready
    refine (linear_row vf h hready (by decide) rfl).trans ?_
    simp only [linStep, linBody, Nat.one_mul, t32]
  case sub =>
    intro s course vf r o os h hready
    refine (linear_row vf h hready (by decide) rfl).trans ?_
    simp only [linStep, linBody, Nat.one_mul, t32, negOne]
  case neg => exact fun s course vf r o os h hready => linear_row vf h hready (by decide) rfl
  case scale => exact fun s course vf r o os h hready => linear_row vf h hready (by decide) rfl
  case addc => exact fun s course vf r o os h hready => linear_row vf h hready (by decide) rfl
  case not => exact fun s course vf r o os h hready => linear_row vf h hready (by decide) rfl
  case copy => exact fun s course vf r o os h hready => linear_row vf h hready (by decide) rfl

/-! ### Operations that refresh -/

/-- The table of an operation's refresh. -/
def rowLut (o : COp) (r : CReq) : Nat := if o.useLut then r.lut else o.table

/-- The refresh of an operation with one refresh ends the operation. -/
theorem perform_once {v : State} {on : RunOn} {r : CReq} {o : COp} {h : ObjHdr} {os : List Obj} {x : RefreshRes × State}
    (hrow : cOp r.op = some o) (hrefresh : refreshing r.op = true) (hone : r.op ≠ 0x19)
    (hx : v.refresh on h (linStep r.op h.w r.c os) (rowLut o r) (decide (r.op = 0x1A)) = x) :
    lweFinish (v.perform on r h os) r os = lweEnd x r os 0 id := by
  obtain ⟨res, u⟩ := x
  rw [rowLut] at hx
  simp only [State.perform, hrefresh, hrow, hx, Bool.not_true, Bool.false_eq_true, if_false, ne_eq, hone, not_false_eq_true, if_true]
  cases res <;> rfl

/-- An operation with one refresh. -/
theorem refresh_row {s : State} {op course : Nat} (vf : Bool) {r : CReq} {o : COp} {os : List Obj} (h : CipherStarts s op course r)
    (hready : LweReady s.cipherTaken r o os) (hop : op ≠ 0x30 ∧ op ≠ 0x31 ∧ op ≠ 0x40 ∧ op ≠ 0x41) (hrefresh : refreshing op = true)
    (hone : op ≠ 0x19) :
    cipherRow op course vf s = .next (lweEnd (s.cipherTaken.refresh ⟨course, vf⟩ (hdr0 os) (linStep op (hdr0 os).w r.c os) (rowLut o r)
      (decide (op = 0x1A))) r os 0 id) := by
  have hreq : r.op = op := h.2.2.2.1
  rw [row_finishes vf h hready hop, perform_once hready.row (by rwa [hreq]) (by rwa [hreq]) rfl, hreq]

/-- A row of one refresh is what its table and linear step make of the inputs. -/
theorem refreshGives_row {i : Nat → Bool → Instr} {op : Nat} {table : Option Nat} {f : Nat → List Nat → List Nat → List Nat}
    (hexec : ∀ course vf s, exec (i course vf) s = cipherRow op course vf s) (hop : op ≠ 0x30 ∧ op ≠ 0x31 ∧ op ≠ 0x40 ∧ op ≠ 0x41)
    (hrefresh : refreshing op = true) (hone : op ≠ 0x19) (hlut : ∀ o r, cOp op = some o → rowLut o r = table.getD r.lut)
    (hstep : ∀ w c os, linStep op w c os = f w (bodyOf os 0) (bodyOf os 1)) : RefreshGives i op table f := by
  intro s course vf r o os h hready
  have hreq : r.op = op := h.2.2.2.1
  have hrow : cOp op = some o := by rw [← hreq]; exact hready.row
  rw [hexec, refresh_row vf h hready hop hrefresh hone, hlut o r hrow, hstep]

/-- MUX: a first refresh that fails ends the operation. -/
theorem perform_mux_first {v u : State} {on : RunOn} {r : CReq} {h : ObjHdr} {os : List Obj} {e : Nat} (hop : r.op = 0x19)
    (hx : v.refresh on h (linBody 2 (bodyOf os 0) 1 (bodyOf os 1)) 0x1000 false = (.failed e, u)) :
    v.perform on r h os = (.failed e, 0, u) := by
  have hstep : linStep 0x19 h.w r.c os = linBody 2 (bodyOf os 0) 1 (bodyOf os 1) := rfl
  have hrefresh : refreshing 0x19 = true := rfl
  have hrow : cOp 0x19 = some { inputs := 3, table := 0x1000, bitIn := true, auto := true } := rfl
  have hlast : decide (0x19 = 0x1A) = false := rfl
  simp only [State.perform, hop, hrefresh, hrow, hstep, hlast, hx, Bool.not_true, Bool.false_eq_true, if_false]

/-- MUX: the second refresh ends the operation, with the sum of the two results. -/
theorem perform_mux_second {v u : State} {on : RunOn} {r : CReq} {h : ObjHdr} {os : List Obj} {x : List Nat} {y : RefreshRes × State}
    (hop : r.op = 0x19) (hx : v.refresh on h (linBody 2 (bodyOf os 0) 1 (bodyOf os 1)) 0x1000 false = (.ok x, u))
    (hy : u.refresh on h (muxStep h.w os) 0x1000 false = y) :
    lweFinish (v.perform on r h os) r os = lweEnd y r os 1 fun b => linBody 1 x 1 b := by
  have hstep : linStep 0x19 h.w r.c os = linBody 2 (bodyOf os 0) 1 (bodyOf os 1) := rfl
  have hrefresh : refreshing 0x19 = true := rfl
  have hrow : cOp 0x19 = some { inputs := 3, table := 0x1000, bitIn := true, auto := true } := rfl
  have hlast : decide (0x19 = 0x1A) = false := rfl
  obtain ⟨res, w⟩ := y
  simp only [State.perform, hop, hrefresh, hrow, hstep, hlast, hx, hy, Bool.not_true, Bool.false_eq_true, if_false, ne_eq,
    not_true_eq_false]
  cases res <;> rfl

/-- Settles O39: but for MUX the rows differ in the table and the linear step alone. -/
theorem cipherGates : Obligations.CipherGates := by
  unfold Obligations.CipherGates
  refine ⟨?_, ?_, ?_, ?_, ?_, ?_, ?_, ?_, ?_, ?_, ?mux⟩
  case mux =>
    intro s course vf r o os h hready
    have hreq : r.op = 0x19 := h.2.2.2.1
    refine (row_finishes vf h hready (by decide)).trans ?_
    generalize hx : s.cipherTaken.refresh ⟨course, vf⟩ (hdr0 os) (linBody 2 (bodyOf os 0) 1 (bodyOf os 1)) 0x1000 false = first
    obtain ⟨res, u⟩ := first
    cases res with
    | failed e =>
      rw [perform_mux_first hreq hx]
      rfl
    | ok x =>
      rw [perform_mux_second hreq hx rfl]
  all_goals
    exact refreshGives_row (fun _ _ _ => rfl) (by decide) rfl (by decide) (fun o r h => by cases h; rfl) fun _ _ _ => rfl

end Sys2Proof.Proofs.CipherOps
end

section
/-!
PROOFS. Muster's decision of a landed contribution (06 R244 to R250): O33.
-/

namespace Sys2Proof.Proofs.Admission

open Sys2Proof Sys2Proof.Machine

/-- A decided item in its queue. -/
theorem modItem_getElem? {s : State} {n i : Nat} {it : QItem} (f : QItem → QItem) (h : (s.queue n).items[i]? = some it) :
    ((s.modItem n i f).queue n).items[i]? = some (f it) := by
  rw [State.modItem, State.queue_setQueue_self]
  simp [h]

/-- One undecided item is decided. -/
theorem musterDecision_one {s : State} {k qp n i : Nat} {b : Option Nat} (h : s.undecided = [(k, qp, n, i, b)]) :
    exec .musterDecision s = .next (s.decideItem qp n i b) := by
  change execMusterDecision s = _
  rw [execMusterDecision, h, List.mergeSort_singleton]
  rfl

section
variable {s : State} {n i b : Nat} {it : QItem} (qp : Nat) (hitem : (s.queue n).items[i]? = some it) (hnew : it.judged = false)
  (hdone : it.complete = true) (hkept : it.abandoned = false) (hkind : it.kind = .packet)
include hitem hnew hdone hkept hkind

/-- A packet that passes every check is taken in. -/
theorem decideItem_admits (hpass : s.judge (some b) it.stream it.hasBad it.stroke = 0) :
    s.decideItem qp n i (some b) = (s.modItem n i fun x => { x with judged := true, decision := 0 }).takeIn b it.stream := by
  simp [State.decideItem, hitem, hnew, hdone, hkept, hkind, hpass]

/-- A packet that fails a check is refused with its code. -/
theorem decideItem_refuses {c : Nat} (hfail : s.judge (some b) it.stream it.hasBad it.stroke = c) (hc : c ≠ 0) :
    s.decideItem qp n i (some b) =
      (s.modItem n i fun x => { x with judged := true, decision := c }).refuse qp c (some b) it.stream it.stroke := by
  simp [State.decideItem, hitem, hnew, hdone, hkept, hkind, hfail, hc]

end

/-- Admission writes the round and counters. -/
theorem takeIn_frame (s : State) (b : Nat) (e : List Byte) : ∃ r, s.takeIn b e =
    { s.setRound b (((s.round b).setEntry (leAt e 8 4)
      (((s.round b).entry (leAt e 8 4)).takeIn (leAt e 0xC 4) ((leAt e 0x12 2).testBit 0))).addCount (leAt e 0xC 4) 1) with regs := r } := by
  unfold State.takeIn
  dsimp only
  split <;> exact ⟨_, rfl⟩

/-- A report joins the list of its queue pair, where there is room. -/
theorem addReport_room {s : State} {qp : Nat} (r : Report) (h : (s.rounds.reports.get [] qp).length < 4096) :
    s.addReport qp r = { s with rounds := { s.rounds with
      reports := s.rounds.reports.put [] qp (s.rounds.reports.get [] qp ++ [r]) } } := by
  simp only [State.addReport, ge_iff_le, Nat.not_le.mpr h, if_false]

/-- Refusal writes counters and a report, where there is room for one. -/
theorem refuse_frame {s : State} {qp : Nat} (code b : Nat) (e : List Byte) (stroke : Nat)
    (hroom : (s.rounds.reports.get [] qp).length < 4096) : ∃ r, s.refuse qp code (some b) e stroke =
      { s with
        regs := r
        rounds := { s.rounds with reports := s.rounds.reports.put [] qp (s.rounds.reports.get [] qp ++ [{
          round := leAt (padTo 64 e) 0 8, slot := leAt (padTo 64 e) 8 4, chunk := leAt (padTo 64 e) 0xC 4
          tag := leAt (padTo 64 e) 0x18 4, reason := code, stroke := stroke }]) } } := by
  unfold State.refuse
  dsimp only
  rw [addReport_room _ (by simpa only [State.bump_rounds] using hroom)]
  exact ⟨_, rfl⟩

/-- Counting adds to the count of the chunk. -/
theorem counts_addCount (r : Round) (c n : Nat) : (r.addCount c n).counts.get 0 c = r.counts.get 0 c + n :=
  NMap.get_put_self _ _ _ _

/-- Settles O33. -/
theorem roundAdmission : Obligations.RoundAdmission := by
  unfold Obligations.RoundAdmission
  refine ⟨?admits, ?refuses⟩
  case admits =>
    intro s k qp n i b it hundecided hitem hnew hdone hkept hkind hpass
    refine ⟨_, musterDecision_one hundecided, ?_⟩
    rw [decideItem_admits qp hitem hnew hdone hkept hkind hpass]
    have hmod := modItem_getElem? (fun x => { x with judged := true, decision := 0 }) hitem
    obtain ⟨r, hr⟩ := takeIn_frame (s.modItem n i fun x => { x with judged := true, decision := 0 }) b it.stream
    rw [hr]
    generalize hround : ((((s.modItem n i _).round b).setEntry _ _).addCount _ 1) = y
    have hy : ((s.modItem n i fun x => { x with judged := true, decision := 0 }).setRound b y).round b = y :=
      (State.round_setRound _ _ _ _).trans (if_pos rfl)
    refine ⟨rfl, rfl, hmod, ?_, ?_⟩
    · refine (congrArg (fun x => Round.entry x _) hy).trans ?_
      rw [← hround]
      exact NMap.get_put_self (α := REntry) _ _ _ _
    · refine (congrArg (fun x : Round => x.counts.get 0 _) hy).trans ?_
      rw [← hround]
      exact counts_addCount _ _ _
  case refuses =>
    intro s k qp n i b c it hundecided hitem hnew hdone hkept hkind hfail hc hroom
    refine ⟨_, musterDecision_one hundecided, ?_⟩
    rw [decideItem_refuses qp hitem hnew hdone hkept hkind hfail hc]
    have hmod := modItem_getElem? (fun x => { x with judged := true, decision := c }) hitem
    obtain ⟨r, hr⟩ := refuse_frame (s := s.modItem n i fun x => { x with judged := true, decision := c }) c b it.stream it.stroke hroom
    rw [hr]
    exact ⟨rfl, rfl, rfl, hmod, NMap.get_put_self _ _ _ _⟩

end Sys2Proof.Proofs.Admission
end

section
/-!
PROOFS. What leaves a landing queue: the read position passes over handled items, and an item that passed its checks is copied to the
queue that feeds its round (06 R249, R724, 07 R725).
-/

namespace Sys2Proof.Proofs.Landings

open Sys2Proof Sys2Proof.Machine Sys2Proof.Proofs.QueueEvents Sys2Proof.Proofs.QueueRules

/-- Queue `n` of `s` with its head passed up to position `p`, to be released at the next commit. -/
def passedTo (s : State) (n p : Nat) : State :=
  s.setQueue n { s.queue n with rd := p, relPend := some p, relFrom := s.stroke.now }

theorem passedTo_rd (s : State) (n p : Nat) : ((passedTo s n p).queue n).rd = p := by
  rw [passedTo, State.queue_setQueue_self]

theorem passedTo_relPend (s : State) (n p : Nat) : ((passedTo s n p).queue n).relPend = some p := by
  rw [passedTo, State.queue_setQueue_self]

theorem passedTo_items (s : State) (n p : Nat) : ((passedTo s n p).queue n).items = (s.queue n).items := by
  rw [passedTo, State.queue_setQueue_self]

theorem passedTo_queue_ne (s : State) (p : Nat) {n m : Nat} (h : m ≠ n) : (passedTo s n p).queue m = s.queue m :=
  State.queue_setQueue_ne _ _ _ _ h

theorem itemAt_first {it : QItem} (l : List QItem) (h : it.words ≠ []) : itemAt (it :: l) 0 = some (it, 0) :=
  if_pos (List.length_pos_of_ne_nil h)

/-- A landing queue whose one item is passed has no further head. -/
theorem drainLanding_end {s : State} {n : Nat} {it : QItem} (fuel : Nat) (f : State → QItem → Option State)
    (hitems : (s.queue n).items = [it]) : State.drainLanding fuel n f (passedTo s n it.words.length) =
      passedTo s n it.words.length := by
  cases fuel with
  | zero => rfl
  | succ k =>
    have hnone : itemAt ((passedTo s n it.words.length).queue n).items ((passedTo s n it.words.length).queue n).rd = none := by
      rw [passedTo_items, passedTo_rd, hitems, itemAt, if_neg (Nat.lt_irrefl _), itemAt]
    simp only [State.drainLanding, hnone]

section
variable {s : State} {n : Nat} {it : QItem} (fuel : Nat) (f : State → QItem → Option State) (hitems : (s.queue n).items = [it])
  (hrd : (s.queue n).rd = 0) (hwords : it.words ≠ []) (hdone : it.complete = true) (hkept : it.abandoned = false)
  (hjudged : it.judged = true)
include hitems hrd hwords hdone hkept hjudged

/-- A refused item is passed over. -/
theorem drainLanding_refused (hrefused : it.decision ≠ 0) :
    State.drainLanding (fuel + 1) n f s = passedTo s n it.words.length := by
  have hpos : (s.queue n).rd + it.words.length = it.words.length := by rw [hrd, Nat.zero_add]
  rw [State.drainLanding, hitems, hrd, itemAt_first _ hwords]
  simp only [hdone, hkept, hjudged, Bool.not_true, Bool.false_eq_true, if_false, hrefused, ne_eq, not_false_eq_true, if_true, hpos]
  exact drainLanding_end fuel f hitems

/-- An item that `f` takes is passed in the state that `f` leaves. -/
theorem drainLanding_taken {t : State} (hadmitted : it.decision = 0) (htakes : f s it = some t)
    (hitems' : (t.queue n).items = [it]) (hrd' : (t.queue n).rd = 0) :
    State.drainLanding (fuel + 1) n f s = passedTo t n it.words.length := by
  have hpos : (t.queue n).rd + it.words.length = it.words.length := by rw [hrd', Nat.zero_add]
  rw [State.drainLanding, hitems, hrd, itemAt_first _ hwords]
  simp only [hdone, hkept, hjudged, Bool.not_true, Bool.false_eq_true, if_false, hadmitted, ne_eq, not_true_eq_false, htakes, hpos]
  exact drainLanding_end fuel f hitems'

end

/-- A queue other than the one that takes items keeps its body. -/
theorem QueueHolds.body_ne {s t : State} {n m : Nat} {l : List QItem} (h : QueueHolds s t n l) (hne : m ≠ n) :
    queueBody (t.queue m) = queueBody (s.queue m) := by
  obtain ⟨k, h⟩ := h
  rw [h.queues, State.queue_setQueue_ne _ _ _ _ hne]

/-- An item that fits is copied. -/
theorem copyItem_fits {s : State} {n : Nat} {it : QItem} (hroom : (s.queue n).level + it.words.length ≤ (s.queue n).cap) :
    ∃ t, s.copyItem n it = some t ∧ QueueHolds s t n ((s.queue n).items ++ [it]) := by
  refine ⟨_, ?_, (holds_setQueue_grow s n ((s.queue n).items ++ [it]) it.words.length).events (events_itemDone _ n)⟩
  rw [State.copyItem, if_neg (by omega)]

/-- A landing queue with one item that is copied to another queue, as the drain leaves it. -/
theorem drainLanding_copies {s : State} {n m : Nat} {it : QItem} (fuel : Nat) (f : State → QItem → Option State)
    (hitems : (s.queue n).items = [it]) (hrd : (s.queue n).rd = 0) (hwords : it.words ≠ []) (hdone : it.complete = true)
    (hkept : it.abandoned = false) (hjudged : it.judged = true) (hadmitted : it.decision = 0) (hne : m ≠ n)
    (hf : f s it = s.copyItem m { it with judged := false }) (hroom : (s.queue m).level + it.words.length ≤ (s.queue m).cap) :
    ∃ t, State.drainLanding (fuel + 1) n f s = passedTo t n it.words.length ∧
      QueueHolds s t m ((s.queue m).items ++ [{ it with judged := false }]) ∧ (t.queue n).items = [it] := by
  obtain ⟨t, ht, hholds⟩ := copyItem_fits (it := { it with judged := false }) hroom
  have hbody := QueueHolds.body_ne hholds hne.symm
  have hitems' : (t.queue n).items = [it] := (congrArg Queue.items hbody : (queueBody _).items = (queueBody _).items).trans hitems
  have hrd' : (t.queue n).rd = 0 := (congrArg Queue.rd hbody : (queueBody _).rd = (queueBody _).rd).trans hrd
  exact ⟨t, drainLanding_taken fuel f hitems hrd hwords hdone hkept hjudged hadmitted (hf.trans ht) hitems' hrd', hholds, hitems'⟩

/-! ### Ingress moves -/

/-- An admitted packet moves to the ingress queue of its slot. -/
theorem ingressMove_moves {s : State} {qp b n : Nat} {bd : Bind} {it : QItem} (hqp : qp < 65536) (hbind : s.bind? qp = some bd)
    (hrole : bd.role = .contribution) (hround : bd.round = some b) (hended : ∀ e ∈ s.rounds.ended, e.1 ≠ qp)
    (hitems : (s.queue bd.landing).items = [it]) (hrd : (s.queue bd.landing).rd = 0) (hdone : it.complete = true)
    (hkept : it.abandoned = false) (hjudged : it.judged = true) (hadmitted : it.decision = 0) (hwords : it.words ≠ [])
    (hworking : (s.round b).state.working = true)
    (hingress : (s.round b).ingress[leAt it.stream 8 4 % max 1 (s.round b).ingress.length]? = some n) (hne : n ≠ bd.landing)
    (hroom : (s.queue n).level + it.words.length ≤ (s.queue n).cap) :
    ∃ t, exec (.ingressMove qp) s = .next (passedTo t bd.landing it.words.length) ∧
      QueueHolds s t n ((s.queue n).items ++ [{ it with judged := false }]) ∧ (t.queue bd.landing).items = [it] := by
  obtain ⟨t, hdrain, hholds, hitems'⟩ := drainLanding_copies 1 (fun t it =>
    match bd.round with
    | none => some t
    | some b =>
      let r := t.round b
      let slot := leAt it.stream 8 4
      if !r.state.working then some t
      else match r.ingress[slot % max 1 r.ingress.length]? with
        | some n => t.copyItem n { it with judged := false }
        | none => none) hitems hrd hwords hdone hkept hjudged hadmitted hne
    (by simp only [hround, hworking, Bool.not_true, Bool.false_eq_true, if_false, hingress]) hroom
  have hmove : s.moveItems bd = passedTo t bd.landing it.words.length := by
    rw [State.moveItems, hitems]
    exact hdrain
  refine ⟨t, ?_, hholds, hitems'⟩
  have hended' : (passedTo t bd.landing it.words.length).rounds.ended.filter (fun e => decide (e.1 = qp)) = [] := by
    rw [show (passedTo t bd.landing it.words.length).rounds = s.rounds from hholds.rounds, List.filter_eq_nil_iff]
    simpa using hended
  change execIngressMove qp s = _
  rw [execIngressMove, if_neg (Nat.not_le.mpr hqp), hbind]
  simp only [hrole, if_true, hmove, hended', List.foldl_nil]

end Sys2Proof.Proofs.Landings
end

section
/-!
PROOFS. Share envelopes (07 R287, R288, R725): the decision of a landed envelope, its move to the feed queue, and its opening: O35.
-/

namespace Sys2Proof.Proofs.Envelopes

open Sys2Proof Sys2Proof.Machine Sys2Proof.Proofs.FieldRules Sys2Proof.Proofs.QueueEvents Sys2Proof.Proofs.QueueRules
  Sys2Proof.Proofs.Carriage Sys2Proof.Proofs.Admission Sys2Proof.Proofs.Landings

/-! ### Refusal -/

/-- The report of a refused envelope. -/
def envReport (n : Nat) (glwe : Bool) (e : List Byte) (stroke : Nat) : Report :=
  { round := leAt e 8 8, slot := envSender glwe e, chunk := 0xFFFFFFFF, tag := envTag glwe e, reason := 0x20 + n, stroke := stroke }

/-- A refused envelope is counted and latched, and reported where there is room. -/
theorem envRefuse_room {s : State} {qp : Nat} (n : Nat) (glwe : Bool) (e : List Byte) (stroke : Nat)
    (hroom : (s.rounds.reports.get [] qp).length < 4096) : ∃ u, s.envRefuse qp n glwe e stroke = u ∧ u.mem = s.mem ∧
      u.spill = s.spill ∧ u.stroke = s.stroke ∧ u.rounds = { s.rounds with
        reports := s.rounds.reports.put [] qp (s.rounds.reports.get [] qp ++ [envReport n glwe e stroke]) } := by
  refine ⟨_, rfl, ?_⟩
  have hrounds : ((s.bump .keystone 0 (0x80 + 4 * (n - 1))).latchEvt .keystone 0 1).rounds = s.rounds := by simp
  rw [State.envRefuse, addReport_room _ (by rw [hrounds]; exact hroom), hrounds]
  simp [envReport]

/-! ### Deciding -/

section
variable {s : State} {qp b : Nat} {bd : Bind} {it : QItem} (hbinds : s.rounds.binds = [(qp, bd)]) (hended : s.rounds.ended = [])
  (hrole : bd.role = .envelope) (hround : bd.round = some b) (hitems : (s.queue bd.landing).items = [it])
  (hrd : (s.queue bd.landing).rd = 0)

include hbinds hended hrole in
/-- The one binding of the envelope role. -/
theorem envBinds_one : s.envBinds = [(qp, bd)] := by
  simp [State.envBinds, hbinds, hended, hrole]

include hbinds hended hrole hitems hrd in
/-- The one landed envelope is the next to move. -/
theorem envOrder_one : s.envOrder = [(it.stroke * 2048 + it.cycle, qp, bd)] := by
  simp [State.envOrder, envBinds_one hbinds hended hrole, hitems, hrd]

include hbinds hended hrole in
/-- With one binding, its landing queue is decided and then moved. -/
theorem envelopeDecide_one {t : State} (ht : s.decideEnvs qp bd = t) {k : Nat} (horder : t.envOrder = [(k, qp, bd)]) :
    exec .envelopeDecide s = .next (t.moveEnvsUpTo 1 bd) := by
  change execEnvelopeDecide s = _
  simp only [execEnvelopeDecide, envBinds_one hbinds hended hrole, List.foldl_cons, List.foldl_nil, ht, horder]

variable (hnew : it.judged = false) (hdone : it.complete = true) (hlanded : it.stroke < s.stroke.now)
include hround hitems hnew hdone hlanded

/-- An envelope that fails check `c` is refused. -/
theorem decideEnvs_fails {c : Nat} (hc : s.envChecks (some b) it.stream it.stroke = c) (hfail : c ≠ 0) :
    ∃ g, s.decideEnvs qp bd = (s.modItem bd.landing 0 fun x => { x with judged := true, decision := 0x20 + c }).envRefuse qp c g
      it.stream it.stroke := by
  refine ⟨(s.modItem bd.landing 0 fun x => { x with judged := true, decision := 0x20 + c }).boundGlwe (some b), ?_⟩
  simp only [State.decideEnvs, hitems, List.length_singleton, List.range_one, List.foldl_cons, List.foldl_nil, List.getElem?_cons_zero,
    hnew, hdone, Bool.not_true, Bool.or_self, Bool.false_or, ge_iff_le, Nat.not_le.mpr hlanded, decide_false, Bool.false_eq_true,
    if_false, hround, hc, hfail, false_and]

/-- An envelope that passes every check of a round at work is admitted. -/
theorem decideEnvs_passes (hc : s.envChecks (some b) it.stream it.stroke = 0) (hworking : (s.round b).state.working = true) :
    s.decideEnvs qp bd = s.modItem bd.landing 0 fun x => { x with judged := true, decision := 0 } := by
  simp only [State.decideEnvs, hitems, List.length_singleton, List.range_one, List.foldl_cons, List.foldl_nil, List.getElem?_cons_zero,
    hnew, hdone, Bool.not_true, Bool.or_self, Bool.false_or, ge_iff_le, Nat.not_le.mpr hlanded, decide_false, Bool.false_eq_true,
    if_false, hround, hc, State.roundOver, Option.any_some, hworking, and_false, if_true]

end

/-- A landing queue with one item, that item changed. -/
theorem modItem_first {s : State} {n : Nat} {it : QItem} (f : QItem → QItem) (h : (s.queue n).items = [it]) :
    ((s.modItem n 0 f).queue n).items = [f it] := by
  rw [State.modItem, State.queue_setQueue_self]
  simp [h]

theorem modItem_rd (s : State) (n i : Nat) (f : QItem → QItem) : ((s.modItem n i f).queue n).rd = (s.queue n).rd := by
  rw [State.modItem, State.queue_setQueue_self]

/-- What the queue holds where its queues are those of another state. -/
theorem queue_of_spill {s t : State} (h : t.spill = s.spill) (n : Nat) : t.queue n = s.queue n := by
  rw [State.queue, h, State.queue]

/-- An envelope that fails a check stays in its landing queue, judged and passed, with its report. -/
theorem envelopeDecide_refuses {s : State} {qp b c : Nat} {bd : Bind} {it : QItem} (hbinds : s.rounds.binds = [(qp, bd)])
    (hended : s.rounds.ended = []) (hrole : bd.role = .envelope) (hround : bd.round = some b)
    (hitems : (s.queue bd.landing).items = [it]) (hrd : (s.queue bd.landing).rd = 0) (hwords : it.words ≠ []) (hnew : it.judged = false)
    (hdone : it.complete = true) (hkept : it.abandoned = false) (hlanded : it.stroke < s.stroke.now)
    (hc : s.envChecks (some b) it.stream it.stroke = c) (hfail : c ≠ 0) (hroom : (s.rounds.reports.get [] qp).length < 4096) :
    ∃ u g, exec .envelopeDecide s = .next (passedTo u bd.landing it.words.length) ∧ u.mem = s.mem ∧
      (u.queue bd.landing).items = [{ it with judged := true, decision := 0x20 + c }] ∧
      u.rounds = { s.rounds with
        reports := s.rounds.reports.put [] qp (s.rounds.reports.get [] qp ++ [envReport c g it.stream it.stroke]) } := by
  obtain ⟨g, hdecide⟩ := decideEnvs_fails (qp := qp) hround hitems hnew hdone hlanded hc hfail
  obtain ⟨u, hu, hmem, hspill, hstroke, hrounds⟩ := envRefuse_room
    (s := s.modItem bd.landing 0 fun x => { x with judged := true, decision := 0x20 + c }) (qp := qp) c g it.stream it.stroke hroom
  have hqueue : u.queue bd.landing = (s.modItem bd.landing 0 fun x => { x with judged := true, decision := 0x20 + c }).queue
    bd.landing := queue_of_spill hspill _
  have hitems' : (u.queue bd.landing).items = [{ it with judged := true, decision := 0x20 + c }] := by
    rw [hqueue, modItem_first _ hitems]
  have hrd' : (u.queue bd.landing).rd = 0 := by rw [hqueue, modItem_rd, hrd]
  have hpassed : u.moveEnvsUpTo 1 bd = passedTo u bd.landing it.words.length :=
    drainLanding_refused (it := { it with judged := true, decision := 0x20 + c }) 0 _ hitems' hrd' hwords hdone hkept rfl (by simp)
  refine ⟨u, g, ?_, hmem, hitems', hrounds⟩
  rw [envelopeDecide_one hbinds hended hrole (hdecide.trans hu)
    (envOrder_one (hrounds ▸ hbinds) (hrounds ▸ hended) hrole hitems' hrd'), hpassed]

/-- An envelope that passes every check goes to the feed queue. -/
theorem envelopeDecide_moves {s : State} {qp b n : Nat} {bd : Bind} {it : QItem} (hbinds : s.rounds.binds = [(qp, bd)])
    (hended : s.rounds.ended = []) (hrole : bd.role = .envelope) (hround : bd.round = some b)
    (hitems : (s.queue bd.landing).items = [it]) (hrd : (s.queue bd.landing).rd = 0) (hwords : it.words ≠ []) (hnew : it.judged = false)
    (hdone : it.complete = true) (hkept : it.abandoned = false) (hlanded : it.stroke < s.stroke.now)
    (hc : s.envChecks (some b) it.stream it.stroke = 0) (hworking : (s.round b).state.working = true)
    (hfeed : (s.round b).envQueue = some n) (hne : n ≠ bd.landing) (hroom : (s.queue n).level + it.words.length ≤ (s.queue n).cap) :
    ∃ u t, exec .envelopeDecide s = .next (passedTo t bd.landing it.words.length) ∧ u.mem = s.mem ∧ u.rounds = s.rounds ∧
      QueueHolds u t n ((s.queue n).items ++ [{ it with judged := false, decision := 0 }]) := by
  have hdecide := decideEnvs_passes (qp := qp) hround hitems hnew hdone hlanded hc hworking
  generalize hu : (s.modItem bd.landing 0 fun x => { x with judged := true, decision := 0 }) = u at hdecide
  have hrounds : u.rounds = s.rounds := by rw [← hu]; rfl
  have hmem : u.mem = s.mem := by rw [← hu]; rfl
  have hitems' : (u.queue bd.landing).items = [{ it with judged := true, decision := 0 }] := by rw [← hu, modItem_first _ hitems]
  have hrd' : (u.queue bd.landing).rd = 0 := by rw [← hu, modItem_rd, hrd]
  have hqueue : u.queue n = s.queue n := by rw [← hu]; exact State.queue_setQueue_ne _ _ _ _ hne
  have hfeed' : (u.round b).envQueue = some n := by rw [State.round, hrounds]; exact hfeed
  obtain ⟨t, hdrain, hholds, -⟩ := drainLanding_copies (it := { it with judged := true, decision := 0 }) 0 (fun t it =>
    match bd.round with
    | none => some t
    | some b =>
      match (t.round b).envQueue with
      | some n => t.copyItem n { it with judged := false }
      | none => some t) hitems' hrd' hwords hdone hkept rfl rfl hne (by simp only [hround, hfeed']) (by rw [hqueue]; exact hroom)
  refine ⟨u, t, ?_, hmem, hrounds, hqueue ▸ hholds⟩
  rw [envelopeDecide_one hbinds hended hrole hdecide (envOrder_one (hrounds ▸ hbinds) (hrounds ▸ hended) hrole hitems' hrd')]
  exact congrArg _ hdrain

/-! ### Opening -/

/-- What routing shares of a round keeps: memory, the queues and the count of the envelopes accepted. -/
structure RoutesOnly (b : Nat) (s t : State) : Prop where
  mem : t.mem = s.mem
  spill : t.spill = s.spill
  accepted : (t.round b).envAccepted = (s.round b).envAccepted

theorem RoutesOnly.trans {b : Nat} {s t v : State} (h : RoutesOnly b s t) (k : RoutesOnly b t v) : RoutesOnly b s v :=
  ⟨k.mem.trans h.mem, k.spill.trans h.spill, k.accepted.trans h.accepted⟩

theorem routesOnly_storeShare (s : State) (b : Nat) (sh : Share) : RoutesOnly b s (s.storeShare b sh) := by
  have hstore (l : List Share) (m : Nat) : RoutesOnly b s (s.setRound b { s.round b with shares := l, mismatch := m }) :=
    ⟨rfl, rfl, by rw [State.round_setRound, if_pos rfl]⟩
  unfold State.storeShare
  dsimp only
  split
  · exact hstore _ _
  · exact (hstore _ _).trans ⟨latchEvt_mem _ _ _ _, latchEvt_spill _ _ _ _, 
      congrArg (fun r : Rounds => (r.blocks.get {} b).envAccepted) (latchEvt_rounds _ _ _ _)⟩

theorem routesOnly_carry (s : State) (b pos kind round size : Nat) (records : List (List Byte)) :
    RoutesOnly b s (s.carry pos kind round size records) := by
  have h := carryOnly_carry s pos kind round size records
  unfold CarryOnly at h
  rw [h]
  exact ⟨rfl, rfl, rfl⟩

theorem routesOnly_routeShare (s : State) (b : Nat) (sh : Share) : RoutesOnly b s (s.routeShare b sh) := by
  unfold State.routeShare
  dsimp only
  split
  · exact routesOnly_storeShare s b sh
  · exact routesOnly_carry s b _ _ _ _ _

theorem routesOnly_shares (b slot : Nat) (l : List (Nat × Nat × Nat × Nat)) (s : State) : RoutesOnly b s
    (l.foldl (fun t x => t.routeShare b { owner := x.1, holder := slot, self := x.2.2.1, pair := x.2.2.2 }) s) := by
  induction l generalizing s with
  | nil => exact ⟨rfl, rfl, rfl⟩
  | cons x l ih => exact (routesOnly_routeShare s b _).trans (ih _)

/-- An opened envelope counts once, and leaves memory and the queues. -/
theorem openEnv_opens {s u : State} {b : Nat} {e : List Byte} {bad : Bool} (h : s.openEnv b e bad = (0, u)) :
    u.mem = s.mem ∧ u.spill = s.spill ∧ (u.round b).envAccepted = min ((s.round b).envAccepted + 1) 0xFFFFFFFF := by
  have hstore (r : Round) (k : RoutesOnly b (s.setRound b r) u) (hr : r.envAccepted = min ((s.round b).envAccepted + 1) 0xFFFFFFFF) :
      u.mem = s.mem ∧ u.spill = s.spill ∧ (u.round b).envAccepted = min ((s.round b).envAccepted + 1) 0xFFFFFFFF :=
    ⟨k.mem, k.spill, by rw [k.accepted, State.round_setRound, if_pos rfl, hr]⟩
  unfold State.openEnv at h
  -- the decryption becomes a variable: the kernel would run it to compare two branches
  obtain ⟨decrypt, hdecrypt⟩ : ∃ f, f = hpkeOpen := ⟨_, rfl⟩
  rw [← hdecrypt] at h
  dsimp only at h
  generalize (if (s.round b).d.glwe = true then _ else _) = c at h
  have hfails (n : Nat) (hn : n ≠ 0) (hne : (n, s) = (0, u)) : False := hn (Prod.mk.inj hne).1
  split at h
  · exact (hfails 5 (by decide) h).elim
  split at h
  · exact (hfails 6 (by decide) h).elim
  split at h
  · exact (hfails 7 (by decide) h).elim
  split at h
  · exact (hfails 7 (by decide) h).elim
  split at h
  · split at h
    · exact (hfails 8 (by decide) h).elim
    · obtain ⟨-, rfl⟩ := Prod.mk.inj h
      exact hstore _ ⟨rfl, rfl, rfl⟩ rfl
  · split at h
    · exact (hfails 8 (by decide) h).elim
    · obtain ⟨-, rfl⟩ := Prod.mk.inj h
      exact hstore _ (routesOnly_shares b _ _ _) rfl

/-- Settles O35. -/
theorem roundEnvelopes : Obligations.RoundEnvelopes := by
  unfold Obligations.RoundEnvelopes
  refine ⟨?refused, ?moved, ?opened⟩
  case refused =>
    intro s qp b c bd it hbinds hended hrole hround hitems hrd hwords hnew hdone hkept hlanded hc hfail hroom
    obtain ⟨u, g, hexec, hmem, hitems', hrounds⟩ := envelopeDecide_refuses hbinds hended hrole hround hitems hrd hwords hnew hdone hkept
      hlanded hc hfail hroom
    refine ⟨_, hexec, hmem, ?_, (passedTo_items _ _ _).trans hitems', passedTo_rd _ _ _, envReport c g it.stream it.stroke, ?_, rfl,
      rfl, rfl⟩
    · change u.rounds.blocks.get {} b = _
      rw [hrounds, State.round]
    · change u.rounds.reports.get [] qp = _
      rw [hrounds, NMap.get_put_self]
  case moved =>
    intro s qp b n bd it hbinds hended hrole hround hitems hrd hwords hnew hdone hkept hlanded hc hworking hfeed hne hroom
    obtain ⟨u, t, hexec, hmem, hrounds, hholds⟩ := envelopeDecide_moves hbinds hended hrole hround hitems hrd hwords hnew hdone hkept
      hlanded hc hworking hfeed hne hroom
    exact ⟨_, hexec, hholds.mem.trans hmem, hholds.rounds.trans hrounds,
      (congrArg Queue.items (passedTo_queue_ne t _ hne)).trans hholds.items, passedTo_rd _ _ _⟩
  case opened =>
    intro s u b n it l hb hfeed hitems hworking hopen
    obtain ⟨hmem, hspill, haccepted⟩ := openEnv_opens hopen
    refine ⟨?_, ?_, hmem, haccepted⟩
    · change execEnvelopeOpen b s = _
      rw [execEnvelopeOpen, if_neg (Nat.not_le.mpr hb)]
      have hworking' : ((s.setQueue n { s.queue n with items := l }).round b).state.working = true := hworking
      simp only [hfeed, hitems, hworking', Bool.not_true, Bool.false_eq_true, if_false, hopen, if_true]
    · rw [queue_of_spill hspill, State.queue_setQueue_self]

end Sys2Proof.Proofs.Envelopes
end

section
/-!
PROOFS. Halyard as requester (12 R468 to R470, R488): what sending a request changes, the work requests (O49), and the reports and moves of
Muster that use it (O34).
-/

namespace Sys2Proof.Proofs.Sends

open Sys2Proof Sys2Proof.Machine Sys2Proof.Proofs.FieldRules Sys2Proof.Proofs.QueueEvents Sys2Proof.Proofs.UnitItems
  Sys2Proof.Proofs.QueueRules Sys2Proof.Proofs.Landings

/-! ### Packets -/

/-- Packet `k` of a request as queue pair `q` sends it. -/
def packetFrom (q : Qp) (r : SentReq) (data : List Byte) (k : Nat) : Out :=
  .rdma q.dest (if q.ud then 0x64 else bthOp r.op r.spray k r.span) (psnAdd r.first k) (if q.ud then [q.qkey] else r.fields k)
    (if r.carries then (data.drop (k * q.pmtu)).take q.pmtu else [])

/-- Packets that leave add to what was sent, and change nothing else. -/
theorem sendPackets_eq (s : State) (i : Nat) (r : SentReq) (data : List Byte) (l : List Nat) :
    s.sendPackets i r data l = { s with out := (l.map (packetFrom (s.qp i) r data)).reverse ++ s.out } := by
  induction l generalizing s with
  | nil => rfl
  | cons k l ih =>
    have hone : s.sendPacket i r data k = { s with out := packetFrom (s.qp i) r data k :: s.out } := s.emit_plain _ rfl
    rw [State.sendPackets, List.foldl_cons, hone, ← State.sendPackets, ih]
    simp only [List.map_cons, List.reverse_cons, List.append_assoc, List.singleton_append]
    rfl

theorem sendPackets_sends {s : State} {i : Nat} {r : SentReq} {data : List Byte} {l : List Nat} {k : Nat} (h : k ∈ l) :
    packetFrom (s.qp i) r data k ∈ (s.sendPackets i r data l).out := by
  rw [sendPackets_eq]
  exact List.mem_append_left _ (List.mem_reverse.mpr (List.mem_map_of_mem h))

/-- What a connected queue pair sends. -/
theorem packetFrom_connected {s : State} {i : Nat} (h : (s.qp i).ud = false) (r : SentReq) (data : List Byte) (k : Nat) :
    packetFrom (s.qp i) r data k = s.packetOf i r data k := by
  simp [packetFrom, State.packetOf, h]

/-! ### Requests -/

theorem qp_modQp (s : State) (i : Nat) (f : Qp → Qp) : (s.modQp i f).qp i = f (s.qp i) := by
  rw [State.modQp, State.qp_setQp, if_pos rfl]

/-- Requests in order wait for the first of them. -/
theorem completions_waiting {s : State} {i : Nat} (h : ∀ r, (s.qp i).sent.head? = some r → r.done = none) :
    s.completions i = s := by
  rw [State.completions, State.flushDone]
  rcases hsent : (s.qp i).sent with _ | ⟨r, l⟩
  · rfl
  · have hr : r.done = none := h r (by rw [hsent]; rfl)
    simp only [hr]

/-- The state in which a request waits, before its packets leave. -/
def withReq (s : State) (i : Nat) (r : SentReq) : State :=
  s.modQp i fun q => { q with nextPsn := psnAdd r.last 1, sent := q.sent ++ [r] }

/-- A connected queue pair whose requests all wait sends one more. -/
theorem startReq_sends {s : State} {i : Nat} {r : SentReq} (data : List Byte) (hud : (s.qp i).ud = false) (hr : r.done = none)
    (horder : ∀ r, (s.qp i).sent.head? = some r → r.done = none) :
    s.startReq i r data = (withReq s i r).sendPackets i r data (if reqKind r.op = 2 then [0] else List.range r.span) := by
  unfold State.startReq
  simp only [hud, Bool.false_eq_true, if_false]
  refine completions_waiting fun x hx => ?_
  rw [sendPackets_eq] at hx
  have hsent : (s.qp i).sent ++ [r] = ((withReq s i r).qp i).sent := by rw [withReq, qp_modQp]
  have hx' : ((s.qp i).sent ++ [r]).head? = some x := by rw [hsent]; exact hx
  rcases hl : (s.qp i).sent with _ | ⟨y, l⟩
  · rw [hl] at hx'
    exact (Option.some.inj hx' : r = x) ▸ hr
  · rw [hl] at hx'
    exact horder x (by rw [hl]; exact hx')

section
variable {s : State} {i : Nat} {r : SentReq} (data : List Byte) (hud : (s.qp i).ud = false) (hr : r.done = none)
  (horder : ∀ r, (s.qp i).sent.head? = some r → r.done = none)
include hud hr horder

theorem startReq_mem : (s.startReq i r data).mem = s.mem := by
  rw [startReq_sends data hud hr horder, sendPackets_eq]
  rfl

theorem startReq_cores : (s.startReq i r data).cores = s.cores := by
  rw [startReq_sends data hud hr horder, sendPackets_eq]
  rfl

theorem startReq_rounds : (s.startReq i r data).rounds = s.rounds := by
  rw [startReq_sends data hud hr horder, sendPackets_eq]
  rfl

theorem startReq_qp : (s.startReq i r data).qp i = { s.qp i with nextPsn := psnAdd r.last 1, sent := (s.qp i).sent ++ [r] } := by
  rw [startReq_sends data hud hr horder, sendPackets_eq]
  exact qp_modQp s i fun q => { q with nextPsn := psnAdd r.last 1, sent := q.sent ++ [r] }

theorem startReq_packet {k : Nat} (hk : k < if reqKind r.op = 2 then 1 else r.span) :
    s.packetOf i r data k ∈ (s.startReq i r data).out := by
  have hmem : k ∈ if reqKind r.op = 2 then [0] else List.range r.span := by
    by_cases h : reqKind r.op = 2
    · simpa [h] using hk
    · simpa [h] using hk
  rw [startReq_sends data hud hr horder, ← packetFrom_connected hud]
  have hsame : packetFrom (s.qp i) r data k = packetFrom ((withReq s i r).qp i) r data k := by
    rw [withReq, qp_modQp]
    rfl
  rw [hsame]
  exact sendPackets_sends hmem

end

/-! ### Reports -/

/-- The bytes of a list of reports, of which the first says whether any was lost. -/
theorem reports_bytes (lost : Bool) (x : Report) (l : List Report) :
    (((List.range (x :: l).length).zip (x :: l)).flatMap fun e => e.2.bytes (lost && e.1 == 0)) =
      x.bytes lost ++ l.flatMap fun y => y.bytes false := by
  have htail (k : Nat) (m : List Report) :
      (((List.range m.length).map (· + (k + 1))).zip m).flatMap (fun e => e.2.bytes (lost && e.1 == 0)) =
        m.flatMap fun y => y.bytes false := by
    induction m generalizing k with
    | nil => rfl
    | cons y m ih =>
      have hstep := ih (k + 1)
      rw [List.length_cons, List.range_succ_eq_map, List.map_cons, List.zip_cons_cons, List.flatMap_cons, List.flatMap_cons,
        List.map_map, ← hstep]
      have hadd : ((· + (k + 1)) ∘ Nat.succ) = fun n : Nat => n + (k + 1 + 1) := by
        funext n
        simp only [Function.comp_apply]
        omega
      simp [hadd]
  rw [List.length_cons, List.range_succ_eq_map, List.zip_cons_cons, List.flatMap_cons]
  have h := htail 0 l
  simp only [beq_self_eq_true, Bool.and_true]
  exact congrArg _ h

/-- The request that carries `l` reports. -/
def reportReq (s : State) (i : Nat) (x : Report) (l : List Report) : SentReq :=
  let data := x.bytes (s.rounds.lost.contains i) ++ l.flatMap fun y => y.bytes false
  { op := 1, wrId := 0, signaled := false, len := data.length, lkey := 0, laddr := 0, rkey := 0, raddr := 0, op0 := 0
    op1 := l.length + 1, fmt := 0, first := (s.qp i).nextPsn, last := psnAdd (s.qp i).nextPsn ((s.qp i).packets data.length - 1)
    spray := false, own := true, data := data }

/-- Fewer than 129 reports leave in one request. -/
theorem sendReports_all {s : State} {i : Nat} {x : Report} {l : List Report} (hlist : s.rounds.reports.get [] i = x :: l)
    (hlen : l.length < 128) (hlive : (s.qp i).live = true) (hrts : (s.qp i).state = .rts) (hud : (s.qp i).ud = false)
    (hquiet : s.quiet = false) (hroom : s.outstanding < 16384) :
    s.sendReports i = State.startReq { s with rounds := { s.rounds with
      reports := s.rounds.reports.put [] i [], lost := s.rounds.lost.filter (· ≠ i) } } i (reportReq s i x l) (reportReq s i x l).data := by
  have htake : (x :: l).take 128 = x :: l := List.take_of_length_le (by simpa using hlen)
  have hdrop : (x :: l).drop 128 = [] := List.drop_of_length_le (by simpa using hlen)
  unfold State.sendReports
  simp only [hlist, hlive, hrts, hud, hquiet, List.isEmpty_cons, Bool.not_true, Bool.false_eq_true, ne_eq, not_true_eq_false, or_self,
    false_or, ge_iff_le, Nat.not_le.mpr hroom, if_false, htake, hdrop, reports_bytes]
  rfl

/-- Settles O34. -/
theorem roundMovesAndReports : Obligations.RoundMovesAndReports := by
  unfold Obligations.RoundMovesAndReports
  refine ⟨?moves, ?reports⟩
  case moves =>
    intro s qp b n bd it hqp hbind hrole hround hended hitems hrd hdone hkept hjudged hadmitted hwords hworking hingress hne hroom
    obtain ⟨t, hexec, hholds, hitems'⟩ := ingressMove_moves hqp hbind hrole hround hended hitems hrd hdone hkept hjudged hadmitted hwords
      hworking hingress hne hroom
    exact ⟨_, hexec, hholds.mem, hholds.rounds, (congrArg Queue.items (passedTo_queue_ne t _ hne)).trans hholds.items, passedTo_rd _ _ _,
      (passedTo_items _ _ _).trans hitems', passedTo_relPend _ _ _⟩
  case reports =>
    intro s i x l hi hlist hlen hlive hrts hud horder hquiet hroom
    have hexec : exec (.refusalReportSend i) s = .next (s.sendReports i) := by
      change execRefusalReportSend i s = _
      rw [execRefusalReportSend, if_neg (Nat.not_le.mpr hi)]
    have horder' : ∀ r, (s.qp i).sent.head? = some r → r.done = none := fun r hr => horder r (List.mem_of_head? hr)
    rw [hexec, sendReports_all hlist hlen hlive hrts hud hquiet hroom]
    generalize hs1 : ({ s with rounds := { s.rounds with
      reports := s.rounds.reports.put [] i [], lost := s.rounds.lost.filter fun x => decide (x ≠ i) } } : State) = s1
    have hqp : s1.qp i = s.qp i := by rw [← hs1]; rfl
    have hmem : s1.mem = s.mem := by rw [← hs1]
    have hlist' : s1.rounds.reports.get [] i = [] := by rw [← hs1]; exact NMap.get_put_self s.rounds.reports [] [] i
    rw [← hqp] at hud horder'
    refine ⟨_, reportReq s i x l, rfl, ?_, ?_, ?_, rfl, rfl, rfl, rfl, rfl⟩
    · rw [startReq_rounds _ hud rfl horder', hlist']
    · rw [startReq_mem _ hud rfl horder', hmem]
    · rw [startReq_qp _ hud rfl horder', hqp]

/-! ### Work requests -/

/-- A request removed from the SQ. -/
theorem spill_takeWr (s : State) (n : Nat) : SpillOnly s (s.takeWr n) :=
  (spill_setQueue s n _).trans (.of_events (events_evalZone _ n))

theorem SpillOnly.qp {s t : State} (h : SpillOnly s t) (i : Nat) : t.qp i = s.qp i :=
  congrArg (fun n : Net => n.halyard.qps.get {} i) h.net

theorem checkKey_of_net {s t : State} (h : t.net = s.net) (q : Qp) (key : Nat) (right : Right) (va n al : Nat) :
    t.checkKey q key right va n al = s.checkKey q key right va n al := by
  have hkey : t.rkey (key / 256 % 2 ^ 24) = s.rkey (key / 256 % 2 ^ 24) := by
    simp only [State.rkey, State.halyard, h]
  simp only [State.checkKey, hkey]

/-- What module memory and the key give the request, for any right that the request needs. -/
structure Sourced (s : State) (q : Qp) (a : Nat) (data : List Byte) : Prop where
  source : (bits a 120 32 = 0 ∧ data = []) ∨
    (bits a 120 32 ≠ 0 ∧ ∃ k off, k.host = false ∧ s.checkKey q (bits a 24 32)
      (if 2 ≤ reqKind (bits a 0 8) ∧ reqKind (bits a 0 8) ≤ 4 then .localWrite else .local) (bits a 56 64) (bits a 120 32) 1 = .ok k off ∧
      if 2 ≤ reqKind (bits a 0 8) ∧ reqKind (bits a 0 8) ≤ 4 then data = []
      else s.readBytes 5 (k.start + off) (bits a 120 32) = (data, false, s))

/-- A request that keeps its rules is taken and sent. -/
theorem runWr_sends {s : State} {i a b : Nat} {data : List Byte} (pages : List (Nat × Nat)) (host : List Byte)
    (hok : wrOk (s.qp i) a b = true) (hsource : Sourced s (s.qp i) a data) :
    s.runWr i a b pages host = (s.takeWr (s.qp i).sq).startReq i (sentOf (s.qp i) a b []) data := by
  unfold State.runWr
  simp only [hok, Bool.not_true, Bool.false_eq_true, if_false]
  rcases hsource with ⟨hlen, rfl⟩ | ⟨hlen, k, off, hhost, hkey, hdata⟩
  · simp only [hlen, if_true]
  · simp only [hlen, if_false]
    by_cases hkind : 2 ≤ reqKind (bits a 0 8) ∧ reqKind (bits a 0 8) ≤ 4
    · rw [if_pos hkind] at hdata
      simp only [hkind, and_self, if_true] at hkey ⊢
      simp only [hkey, hhost, Bool.false_eq_true, if_false, State.missing, Bool.not_false, if_true, hdata]
    · rw [if_neg hkind] at hdata
      simp only [hkind, if_false] at hkey ⊢
      simp only [hkey, hhost, Bool.false_eq_true, if_false, State.missing, Bool.not_false, if_true, State.regionRead, hdata,
        reduceCtorEq]

/-- A work-request row that finds its request takes it up. -/
theorem wrRow_runs {s : State} {i op a b : Nat} {it : QItem} {cycle : Nat} (pages : List (Nat × Nat)) (host : List Byte) {v : State}
    (hv : s.atCycle cycle = v) (hslot : i < 66560) (hlive : (v.qp i).live = true) (hbound : (v.qp i).bound = true)
    (hrts : (v.qp i).state = .rts) (hquiet : v.quiet = false) (hhead : v.headWr (v.qp i).sq = some it) (hkind : it.kind = .packet)
    (hlen : it.words.length = 3) (hclean : it.words.any (·.bad) = false) (hwords : wrWords it = (a, b)) (hcode : bits a 0 8 = op)
    (hheld : v.wrHeld (v.qp i) a = false) : wrRow op i cycle pages host s = .next (v.runWr i a b pages host) := by
  unfold wrRow
  simp only [Nat.not_le.mpr hslot, ge_iff_le, if_false, hv, hlive, hbound, hquiet, Bool.not_true, Bool.false_eq_true, or_self, hhead,
    hwords, hrts, reduceCtorEq, ne_eq, not_true_eq_false, hkind, hcode, false_and, hlen, hclean, hheld]

/-- The cycle decides nothing about a request. -/
theorem quiet_atCycle (s : State) (c : Nat) : (s.atCycle c).quiet = s.quiet := by
  unfold State.atCycle
  split <;> rfl

/-- The row of operation `op` takes its request and sends it. -/
theorem wrRow_gives {s : State} {i op cycle a b : Nat} {data : List Byte} (pages : List (Nat × Nat)) (host : List Byte)
    (h : WrReady s i op cycle a b data) :
    ∃ t, wrRow op i cycle pages host s = .next t ∧ t.mem = s.mem ∧ t.cores = s.cores ∧
      (t.qp i).sent = (s.qp i).sent ++ [sentOf (s.qp i) a b []] ∧
      (t.qp i).nextPsn = psnAdd (sentOf (s.qp i) a b []).last 1 ∧
      ∀ k, k < (if reqKind op = 2 then 1 else (sentOf (s.qp i) a b []).span) → s.packetOf i (sentOf (s.qp i) a b []) data k ∈ t.out := by
  obtain ⟨hslot, ⟨hlive, hbound, hud, hrts⟩, ⟨hquiet, hheld, hok⟩, ⟨it, hhead, hkind, hlen, hclean, hwords⟩, rfl, horder, hsource⟩ := h
  obtain ⟨c, hc⟩ := s.atCycle_frame cycle
  generalize hv : s.atCycle cycle = v at hc hsource
  have hqp : v.qp i = s.qp i := by rw [hc]; rfl
  have hnet : v.net = s.net := by rw [hc]
  have hquiet' : v.quiet = false := by rw [← hv, quiet_atCycle, hquiet]
  have hhead' : v.headWr (v.qp i).sq = some it := by rw [hqp, ← hhead, hc]; rfl
  have hheld' : v.wrHeld (v.qp i) a = false := by rw [hqp, ← hheld, hc]; rfl
  have hsource' : Sourced v (v.qp i) a data := ⟨by simpa only [hqp, checkKey_of_net hnet] using hsource⟩
  rw [wrRow_runs pages host hv hslot (by rw [hqp, hlive]) (by rw [hqp, hbound]) (by rw [hqp, hrts]) hquiet' hhead' hkind hlen hclean
    hwords rfl hheld', runWr_sends pages host (by rw [hqp, hok]) hsource', hqp]
  have htake := spill_takeWr v (s.qp i).sq
  generalize v.takeWr (s.qp i).sq = u at htake ⊢
  have huqp : u.qp i = s.qp i := (SpillOnly.qp htake i).trans hqp
  rw [← huqp] at hud horder
  refine ⟨_, rfl, ?_, ?_, ?_, ?_, fun k hk => ?_⟩
  · rw [startReq_mem _ hud rfl horder, htake.mem, hc]
  · rw [startReq_cores _ hud rfl horder, htake.cores, hc]
  · rw [startReq_qp _ hud rfl horder, huqp]
  · rw [startReq_qp _ hud rfl horder]
  · have hpacket := startReq_packet data hud (r := sentOf (s.qp i) a b []) rfl horder hk
    simpa only [State.packetOf, huqp] using hpacket

/-- Settles O49. -/
theorem halyardRequests : Obligations.HalyardRequests := by
  unfold Obligations.HalyardRequests WrGives
  exact ⟨fun _ _ _ _ _ pages host _ h => wrRow_gives pages host h, fun _ _ _ _ _ pages host _ h => wrRow_gives pages host h,
    fun _ _ _ _ _ pages host _ h => wrRow_gives pages host h, fun _ _ _ _ _ pages host _ h => wrRow_gives pages host h,
    fun _ _ _ _ _ pages host _ h => wrRow_gives pages host h, fun _ _ _ _ _ pages host _ h => wrRow_gives pages host h,
    fun _ _ _ _ _ pages host _ h => wrRow_gives pages host h, fun _ _ _ _ _ pages host _ h => wrRow_gives pages host h,
    fun _ _ _ _ _ pages host _ h => wrRow_gives pages host h⟩

end Sys2Proof.Proofs.Sends
end

section
/-!
PROOFS. A read of memory returns what memory, its check symbols and the beds hold, whatever the registers, the queues and the network are
(13 R513 to R517): a request that is sent again reads the same bytes (12 R486).
-/

namespace Sys2Proof.Proofs.Rereads

open Sys2Proof Sys2Proof.Machine Sys2Proof.Proofs.Carriage Sys2Proof.Proofs.IssueFrame

/-- Memory, check symbols, beds and the memory map of two states are the same. -/
structure SameStore (s t : State) : Prop where
  mem : t.mem = s.mem
  ecc : t.ecc = s.ecc
  fabric : t.fabric = s.fabric
  ten : t.ten = s.ten

theorem SameStore.trans {s t v : State} (h : SameStore s t) (k : SameStore t v) : SameStore s v :=
  ⟨k.mem.trans h.mem, k.ecc.trans h.ecc, k.fabric.trans h.fabric, k.ten.trans h.ten⟩

theorem SameStore.symm {s t : State} (h : SameStore s t) : SameStore t s := ⟨h.mem.symm, h.ecc.symm, h.fabric.symm, h.ten.symm⟩

/-- Counting an error leaves what is stored. -/
theorem sameStore_counts {s t : State} (h : CoreStores.CountsOnly s t) : SameStore s t := by
  obtain ⟨r, o, x, rfl⟩ := h
  exact ⟨rfl, rfl, rfl, rfl⟩

theorem sameStore_telltale {s t : State} (h : TelltaleOnly s t) : SameStore s t := by
  rw [h.1]
  exact ⟨rfl, rfl, rfl, rfl⟩

theorem sameStore_storeWord {s t : State} (h : SameStore s t) (w : Nat) (l : List Byte) (d : W32) :
    SameStore (s.storeWord w l d) (t.storeWord w l d) :=
  ⟨by simp only [State.storeWord, h.mem], by simp only [State.storeWord, h.ecc], h.fabric, h.ten⟩

section
variable {s t : State} (h : SameStore s t)
include h

theorem SameStore.bedComm (w : Nat) : t.bedComm w = s.bedComm w := by rw [State.bedComm, h.fabric, State.bedComm]

theorem SameStore.place (a : Nat) : t.place a = s.place a := by rw [State.place, h.ten, State.place]

/-- Two counts of an error on what is the same. -/
theorem sameStore_counted {u v : State} (hu : CoreStores.CountsOnly s u) (hv : CoreStores.CountsOnly t v) : SameStore u v :=
  (sameStore_counts hu).symm.trans (h.trans (sameStore_counts hv))

/-- A word reads the same. -/
theorem readWord_same (req w : Nat) : (t.readWord req w).1 = (s.readWord req w).1 ∧ (t.readWord req w).2.1 = (s.readWord req w).2.1 ∧
    SameStore (s.readWord req w).2.2 (t.readWord req w).2.2 := by
  have hstored (l : List Byte) (d : W32) : SameStore (if s.place (32 * w) = .coreStore then s else s.storeWord w l d)
      (if s.place (32 * w) = .coreStore then t else t.storeWord w l d) := by
    split
    · exact h
    · exact sameStore_storeWord h w l d
  simp only [State.readWord, h.bedComm, h.place, h.mem, h.ecc]
  split
  · next v bad _ =>
    cases bad
    · exact ⟨rfl, rfl, h⟩
    · exact ⟨rfl, rfl, sameStore_counted h (CoreStores.countsOnly_countPoisonRead _ _ _) (CoreStores.countsOnly_countPoisonRead _ _ _)⟩
  · split
    · exact ⟨rfl, rfl, h⟩
    · exact ⟨rfl, rfl, sameStore_counted h (CoreStores.countsOnly_countPoisonRead _ _ _) (CoreStores.countsOnly_countPoisonRead _ _ _)⟩
    · exact ⟨rfl, rfl, sameStore_counted (hstored _ _) (CoreStores.countsOnly_countCorrected _ _ _ _)
        (CoreStores.countsOnly_countCorrected _ _ _ _)⟩
    · exact ⟨rfl, rfl, sameStore_counted (hstored _ _) (CoreStores.countsOnly_countUncorrectable _ _ _ _)
        (CoreStores.countsOnly_countUncorrectable _ _ _ _)⟩

end

theorem readWords_same (req n : Nat) : ∀ {s t : State} (_ : SameStore s t) (w : Nat),
    (t.readWords req w n).1 = (s.readWords req w n).1 ∧ (t.readWords req w n).2.1 = (s.readWords req w n).2.1 ∧
      SameStore (s.readWords req w n).2.2 (t.readWords req w n).2.2 := by
  induction n with
  | zero => exact fun h _ => ⟨rfl, rfl, h⟩
  | succ n ih =>
    intro s t h w
    obtain ⟨hdata, hbad, hrest⟩ := readWord_same h req w
    obtain ⟨hdata', hbad', hrest'⟩ := ih hrest (w + 1)
    simp only [State.readWords, hdata, hbad, hdata', hbad', true_and]
    exact hrest'

theorem sameStore_watched {s t : State} (h : SameStore s t) (a n kind req : Nat) :
    SameStore (s.watched a n kind req) (t.watched a n kind req) :=
  (sameStore_telltale (telltale_watched s a n kind req)).symm.trans (h.trans (sameStore_telltale (telltale_watched t a n kind req)))

theorem readBytes_same {s t : State} (h : SameStore s t) (req a n : Nat) : (t.readBytes req a n).1 = (s.readBytes req a n).1 ∧
    (t.readBytes req a n).2.1 = (s.readBytes req a n).2.1 ∧ SameStore (s.readBytes req a n).2.2 (t.readBytes req a n).2.2 := by
  by_cases hn : n = 0
  · simp only [State.readBytes, hn, if_true, true_and]
    exact h
  · obtain ⟨hdata, hbad, hrest⟩ := readWords_same req ((a + n - 1) / 32 - a / 32 + 1) (sameStore_watched h a n 1 req) (a / 32)
    simp only [State.readBytes, hn, if_false, hdata, hbad, true_and]
    exact hrest

/-! ### Writes -/

theorem sameStore_touchBed {s t : State} (h : SameStore s t) (w : Nat) : SameStore (s.touchBed w) (t.touchBed w) := by
  have hbed (u v : State) (k : SameStore u v) (e : BedEntry) : SameStore
      { u with fabric := { u.fabric with bed := u.fabric.bed.put {} w e } }
      { v with fabric := { v.fabric with bed := v.fabric.bed.put {} w e } } :=
    ⟨k.mem, k.ecc, by simp only [k.fabric], k.ten⟩
  unfold State.touchBed
  simp only [h.fabric]
  split
  · exact hbed _ _ (sameStore_storeWord h _ _ _) _
  · exact hbed _ _ h _

theorem sameStore_writeWord {s t : State} (h : SameStore s t) (w : Nat) (l : List Byte) (bad : Bool) :
    SameStore (s.writeWord w l bad) (t.writeWord w l bad) :=
  sameStore_storeWord (sameStore_touchBed h w) _ _ _

theorem sameStore_mergeWord {s t : State} (h : SameStore s t) (req w o : Nat) (l : List Byte) (bad : Bool) :
    SameStore (s.mergeWord req w o l bad) (t.mergeWord req w o l bad) := by
  obtain ⟨hdata, hbad, hrest⟩ := readWord_same (sameStore_touchBed h w) req w
  simp only [State.mergeWord, hdata, hbad]
  exact sameStore_storeWord hrest _ _ _

theorem sameStore_writeFuel (fuel req : Nat) (bad : Bool) : ∀ {s t : State} (_ : SameStore s t) (a : Nat) (l : List Byte),
    SameStore (s.writeFuel fuel req a l bad) (t.writeFuel fuel req a l bad) := by
  induction fuel with
  | zero => exact fun h _ _ => h
  | succ f ih =>
    intro s t h a l
    unfold State.writeFuel
    split
    · exact h
    · refine ih ?_ _ _
      split
      · exact sameStore_writeWord h _ _ _
      · exact sameStore_mergeWord h _ _ _ _ _

/-- Two states that store the same store the same after a write. -/
theorem writeBytes_same {s t : State} (h : SameStore s t) (req a : Nat) (l : List Byte) (bad : Bool) :
    SameStore (s.writeBytes req a l bad) (t.writeBytes req a l bad) :=
  sameStore_writeFuel _ _ _ (sameStore_watched h _ _ _ _) _ _

/-! ### Keys and requests -/

theorem checkKey_congr {s t : State} {q q' : Qp} (hkeys : t.halyard.keys = s.halyard.keys) (hpd : q'.pd = q.pd) (key : Nat)
    (right : Right) (va n al : Nat) : t.checkKey q' key right va n al = s.checkKey q key right va n al := by
  have hkey : t.rkey (key / 256 % 2 ^ 24) = s.rkey (key / 256 % 2 ^ 24) := by rw [State.rkey, hkeys, State.rkey]
  simp only [State.checkKey, hkey, hpd]

/-- The payload of a request that is sent again depends on the store and its key alone. -/
theorem resendData_same {s t : State} {i : Nat} (h : SameStore s t) (hkeys : t.halyard.keys = s.halyard.keys)
    (hpd : (t.qp i).pd = (s.qp i).pd) (r : SentReq) : t.resendData i r = s.resendData i r := by
  unfold State.resendData
  simp only [checkKey_congr hkeys hpd]
  split
  · rfl
  split
  · next k off _ =>
    by_cases hhost : k.host = true
    · simp only [hhost, if_true]
    · simp only [hhost, Bool.false_eq_true, if_false, State.regionRead]
      exact (readBytes_same h 5 _ _).1
  · rfl

end Sys2Proof.Proofs.Rereads
end

section
/-!
PROOFS. Completions of a queue pair and its way into ERROR (12 R464, R470): what they change, and what the completion queue gets.
-/

namespace Sys2Proof.Proofs.Completions

open Sys2Proof Sys2Proof.Machine Sys2Proof.Proofs.FieldRules Sys2Proof.Proofs.QueueEvents Sys2Proof.Proofs.UnitItems
  Sys2Proof.Proofs.Sends

/-- `t` is `s` but for the queues, what events change, and the requests of queue pair `i`. -/
structure RequestsOnly (i : Nat) (s t : State) : Prop where
  frame : t = { s with
    regs := t.regs, tt := t.tt, out := t.out, pcie := { s.pcie with pba := t.pcie.pba }
    reef := { s.reef with exiting := t.reef.exiting, held2 := t.reef.held2, held3 := t.reef.held3, held4 := t.reef.held4 }
    spill := t.spill, net := { s.net with halyard := { s.net.halyard with qps := t.net.halyard.qps } } }
  regs : ∀ d a, ¬ (0x3000 ≤ a ∧ a < 0x4000) → ¬ (0x5000 ≤ a ∧ a < 0x6000) → ¬ (0x40000 ≤ a ∧ a < 0x50000) →
    t.regs.get d a = s.regs.get d a
  sent : SentGrows s t
  pair : t.qp i = { s.qp i with sent := (t.qp i).sent }

theorem RequestsOnly.of_spill {i : Nat} {s t : State} (h : SpillOnly s t) : RequestsOnly i s t where
  frame := by rw [h.frame]
  regs := h.regs
  sent := h.sent
  pair := by rw [SpillOnly.qp h]

theorem RequestsOnly.refl (i : Nat) (s : State) : RequestsOnly i s s := .of_spill (.refl s)

theorem RequestsOnly.trans {i : Nat} {s t v : State} (h : RequestsOnly i s t) (k : RequestsOnly i t v) : RequestsOnly i s v where
  frame := by rw [k.frame, h.frame]
  regs := fun d a h1 h2 h3 => (k.regs d a h1 h2 h3).trans (h.regs d a h1 h2 h3)
  sent := h.sent.trans k.sent
  pair := by rw [k.pair, h.pair]

section
variable {i : Nat} {s t : State} (h : RequestsOnly i s t)
include h

theorem RequestsOnly.mem : t.mem = s.mem := by rw [h.frame]
theorem RequestsOnly.cores : t.cores = s.cores := by rw [h.frame]
theorem RequestsOnly.state : (t.qp i).state = (s.qp i).state := by rw [h.pair]
theorem RequestsOnly.stall : (t.qp i).stall = (s.qp i).stall := by rw [h.pair]

/-- A register outside the three pages. -/
theorem RequestsOnly.reg {p : Page} {j off : Nat} (h1 : ¬ (0x3000 ≤ regAddr p j off ∧ regAddr p j off < 0x4000))
    (h2 : ¬ (0x5000 ≤ regAddr p j off ∧ regAddr p j off < 0x6000))
    (h3 : ¬ (0x40000 ≤ regAddr p j off ∧ regAddr p j off < 0x50000)) : t.reg p j off = s.reg p j off :=
  h.regs _ _ h1 h2 h3

end

/-- Queue pair `i` with other requests. -/
def withSent (s : State) (i : Nat) (l : List SentReq) : State := s.modQp i fun q => { q with sent := l }

theorem withSent_qp (s : State) (i : Nat) (l : List SentReq) : (withSent s i l).qp i = { s.qp i with sent := l } := qp_modQp _ _ _

theorem requests_withSent (s : State) (i : Nat) (l : List SentReq) : RequestsOnly i s (withSent s i l) :=
  ⟨rfl, fun _ _ _ _ _ => rfl, SentGrows.refl s, by rw [withSent_qp]⟩

/-! ### Completions -/

theorem spill_writeCq (s : State) (i : Nat) (r : SentReq) (status : Nat) : SpillOnly s (s.writeCq i r status) := by
  unfold State.writeCq
  dsimp only
  split
  · exact .refl s
  · exact spill_unitItem _ _ _ _ _ _ _

theorem requests_flushDone (fuel i : Nat) : ∀ s : State, RequestsOnly i s (State.flushDone fuel i s) := by
  induction fuel with
  | zero => exact fun s => .refl i s
  | succ f ih =>
    intro s
    rw [State.flushDone]
    split
    · exact .refl i s
    · next r rest _ =>
      split
      · exact .refl i s
      · exact ((requests_withSent s i rest).trans (.of_spill (spill_writeCq _ _ _ _))).trans (ih _)

theorem requests_completions (s : State) (i : Nat) : RequestsOnly i s (s.completions i) := requests_flushDone _ i s

/-- Requests that are all done are all completed. -/
theorem flushDone_all (i : Nat) (l : List SentReq) : ∀ (fuel : Nat) (s : State), (s.qp i).sent = l → l.length < fuel →
    (∀ r ∈ l, r.done ≠ none) → ((State.flushDone fuel i s).qp i).sent = [] := by
  induction l with
  | nil =>
    intro fuel s hsent hfuel _
    obtain ⟨f, rfl⟩ := Nat.exists_eq_add_one_of_ne_zero (Nat.pos_iff_ne_zero.mp hfuel)
    rw [State.flushDone]
    simp only [hsent]
  | cons r l ih =>
    intro fuel s hsent hfuel hdone
    obtain ⟨f, rfl⟩ := Nat.exists_eq_add_one_of_ne_zero (Nat.ne_of_gt (Nat.lt_of_le_of_lt (Nat.zero_le _) hfuel))
    obtain ⟨st, hst⟩ := Option.ne_none_iff_exists'.mp (hdone r List.mem_cons_self)
    rw [State.flushDone]
    simp only [hsent, hst]
    refine ih f _ ?_ (by simpa using hfuel) fun x hx => hdone x (List.mem_cons_of_mem _ hx)
    change (((withSent s i l).writeCq i r st).qp i).sent = l
    rw [SpillOnly.qp (spill_writeCq _ _ _ _), withSent_qp]

theorem completions_all {s : State} {i : Nat} (h : ∀ r ∈ (s.qp i).sent, r.done ≠ none) : ((s.completions i).qp i).sent = [] :=
  flushDone_all i _ _ s rfl (Nat.lt_succ_self _) h

/-- One request that is done is completed. -/
theorem completions_one {s : State} {i st : Nat} {r : SentReq} (hsent : (s.qp i).sent = [r]) (hdone : r.done = some st) :
    s.completions i = (withSent s i []).writeCq i r st := by
  have hrest : ((withSent s i []).writeCq i r st).qp i = { s.qp i with sent := [] } := by
    rw [SpillOnly.qp (spill_writeCq _ _ _ _), withSent_qp]
  rw [State.completions, hsent, State.flushDone]
  simp only [hsent, hdone]
  change State.flushDone 1 i ((withSent s i []).writeCq i r st) = _
  rw [State.flushDone]
  simp only [hrest]

/-- A signalled request that ends well is completed, from a state whose queues and time are those of `s`. -/
theorem completed_one {s v : State} {i : Nat} {r r' : SentReq} (hsent : (v.qp i).sent = [r']) (hdone : r'.done = some 0)
    (hown : r.own = false) (hsignaled : r.signaled = true)
    (hsame : r'.own = r.own ∧ r'.signaled = r.signaled ∧ r'.wrId = r.wrId ∧ r'.op = r.op ∧ r'.len = r.len)
    (hpair : (v.qp i).attr = (s.qp i).attr ∧ (v.qp i).epoch = (s.qp i).epoch) (hspill : v.spill = s.spill)
    (hstroke : v.stroke = s.stroke) : Completed s (v.completions i) i r := by
  obtain ⟨howns, hsignals, hwr, hop, hlen⟩ := hsame
  obtain ⟨hattr, hepoch⟩ := hpair
  have hqp := withSent_qp v i []
  have hcq : ((withSent v i []).qp i).cq = (s.qp i).cq := by rw [hqp]; simp only [Qp.cq, Qp.field, hattr]
  have hqpn : ((withSent v i []).qp i).qpn i = (s.qp i).qpn i := by rw [hqp]; simp only [Qp.qpn, hepoch]
  have hitem : (withSent v i []).writeCq i r' 0 = (withSent v i []).unitItem (s.qp i).cq (.halyard ((s.qp i).qpn i))
      [cqWord r.wrId 0 r.op ((s.qp i).qpn i) r.len s.stroke.now] 0 0 0 := by
    have hnow : (withSent v i []).stroke.now = s.stroke.now := congrArg StrokeUnit.now hstroke
    simp only [State.writeCq, howns, hown, hsignals, hsignaled, hcq, hqpn, hwr, hop, hlen, hnow, Bool.not_true, Bool.and_false,
      Bool.or_self, Bool.false_eq_true, if_false, if_true]
  rw [completions_one hsent hdone, hitem]
  refine ⟨?_, unitPut_unitItem _ _ ?_ hstroke ?_⟩
  · rw [SpillOnly.qp (spill_unitItem _ _ _ _ _ _ _), hqp]
  · have hspill' : (withSent v i []).spill = s.spill := hspill
    rw [State.queue, hspill', State.queue]
  · exact congrArg Spill.held hspill

/-! ### The error state -/

theorem spill_closeOpen (s : State) (n : Nat) : SpillOnly s (s.closeOpen n).2 := by
  have hdone (q : Queue) (b : Bool) : SpillOnly s (if b then s.setQueue n q else (s.setQueue n q).itemDone n) := by
    split
    · exact spill_setQueue s n q
    · exact (spill_setQueue s n q).trans (.of_events (events_itemDone _ n))
  unfold State.closeOpen
  dsimp only
  split
  · exact .refl s
  · split
    · exact hdone _ _
    · exact hdone _ _

theorem spill_producerStops (s : State) (n : Nat) (p : Producer) : SpillOnly s (s.producerStops n p) := by
  unfold State.producerStops
  dsimp only
  split
  · split
    · exact (spill_setQueue s n _).trans ((spill_setQueue _ n _).trans ((SpillOnly.of_events (events_queueEvt _ n 5)).trans
        (spill_closeOpen _ n)))
    · exact spill_setQueue s n _
  · exact spill_setQueue s n _

theorem spill_flushSq (fuel i : Nat) : ∀ s : State, SpillOnly s (State.flushSq fuel i s) := by
  induction fuel with
  | zero => exact fun s => .refl s
  | succ f ih =>
    intro s
    rw [State.flushSq]
    split
    · exact .refl s
    · refine SpillOnly.trans (t := _) ?_ (ih _)
      split
      · exact (spill_takeWr s _).trans (spill_writeCq _ _ _ _)
      · exact spill_takeWr s _

/-- What the error state leaves of `s`: memory, and what was sent; the cause of the error is held in a register. -/
structure Failed (i cause : Nat) (s t : State) : Prop where
  mem : t.mem = s.mem
  sent : SentGrows s t
  state : (t.qp i).state = .error
  stall : (t.qp i).stall = none
  done : (t.qp i).sent = []
  cause : t.reg .halyard 0 0xC4 = BitVec.ofNat 32 ((s.qp i).qpn i + 2 ^ 24 * cause)

/-- The queue pair as it enters ERROR, with its requests flushed. -/
def failedPair (q : Qp) : Qp :=
  { q with
    state := .error, sent := q.sent.map (fun r => if r.done.isNone then { r with done := some 0xB } else r)
    rx := none, stall := none, rnrFrom := none }

/-- The state in which the queue pair is in ERROR and its cause is held, before its completions. -/
def enterError (s : State) (i cause : Nat) : State :=
  let s1 := s.setQp i (failedPair (s.qp i))
  (s1.setHalyard { s1.halyard with
    spray := s1.halyard.spray.filter fun c => decide (c.qp ≠ i)
    notices := s1.halyard.notices.filter fun n => decide (n.qp ≠ i) || decide (n.kind = 3) }).setReg .halyard 0 0xC4
      (BitVec.ofNat 32 ((s.qp i).qpn i + 2 ^ 24 * cause))

theorem enterError_qp (s : State) (i cause : Nat) : (enterError s i cause).qp i = failedPair (s.qp i) :=
  (State.qp_setQp s i i _).trans (if_pos rfl)

theorem failedPair_done (q : Qp) : ∀ r ∈ (failedPair q).sent, r.done ≠ none := by
  intro r hr
  obtain ⟨x, -, rfl⟩ := List.mem_map.mp hr
  split
  · simp
  · next h => simpa using h

/-- The error state is entered, its completions are written, and its event is latched. -/
theorem failed_latched (s : State) (i cause : Nat) :
    Failed i cause s (((enterError s i cause).completions i).latchEvt .halyard 0 2) := by
  have hpair := enterError_qp s i cause
  have hreq := requests_completions (enterError s i cause) i
  have hqp (v : State) : (v.latchEvt .halyard 0 2).qp i = v.qp i :=
    congrArg (fun n : Net => n.halyard.qps.get {} i) (latchEvt_net _ _ _ _)
  refine ⟨?_, ?_, ?_, ?_, ?_, ?_⟩
  · rw [latchEvt_mem, hreq.mem]
    rfl
  · exact (SentGrows.of_eq rfl : SentGrows s (enterError s i cause)).trans (hreq.sent.trans (sent_latchEvt _ _ _ _))
  · rw [hqp, hreq.state, hpair]
    rfl
  · rw [hqp, hreq.stall, hpair]
    rfl
  · rw [hqp]
    exact completions_all (hpair ▸ failedPair_done _)
  · rw [latchEvt_reg_ne _ _ _ _ _ _ _ (by decide), hreq.reg (by decide) (by decide) (by decide)]
    exact State.reg_setReg_self _ _ _ _ _

/-- What the queues take afterwards keeps the error state. -/
theorem Failed.spill {i cause : Nat} {s t v : State} (h : Failed i cause s t) (k : SpillOnly t v) : Failed i cause s v :=
  ⟨k.mem.trans h.mem, h.sent.trans k.sent, by rw [SpillOnly.qp k, h.state], by rw [SpillOnly.qp k, h.stall],
    by rw [SpillOnly.qp k, h.done], (k.reg (by decide) (by decide) (by decide)).trans h.cause⟩

/-- The last steps of the error of queue pair `i` of `s`, from `u`: its work requests are flushed, and its open packet is closed. -/
def stopsIn (s : State) (i : Nat) (u : State) : State :=
  let v := if !(s.qp i).bound then u else State.flushSq ((u.queue (s.qp i).sq).items.length + 1) i u
  if s.holdsFor i then v.modQp i fun x => { x with rx := (s.qp i).rx }
  else v.producerStops (v.landingOf i) (.halyard ((s.qp i).qpn i))

/-- A queue pair enters ERROR. -/
theorem qpError_failed {s : State} {i : Nat} (cause : Nat) (h : (s.qp i).state ≠ .error) : Failed i cause s (s.qpError i cause) := by
  have hlatched := failed_latched s i cause
  unfold State.qpError
  simp only [h, if_false]
  change Failed i cause s (stopsIn s i (((enterError s i cause).completions i).latchEvt .halyard 0 2))
  generalize ((enterError s i cause).completions i).latchEvt .halyard 0 2 = u at hlatched ⊢
  have hflushed : Failed i cause s (if !(s.qp i).bound then u else State.flushSq ((u.queue (s.qp i).sq).items.length + 1) i u) := by
    split
    · exact hlatched
    · exact hlatched.spill (spill_flushSq _ _ _)
  unfold stopsIn
  generalize (if !(s.qp i).bound then u else State.flushSq ((u.queue (s.qp i).sq).items.length + 1) i u) = v at hflushed ⊢
  dsimp only
  split
  · exact ⟨hflushed.mem, hflushed.sent.trans (SentGrows.of_eq rfl), by rw [qp_modQp]; exact hflushed.state,
      by rw [qp_modQp]; exact hflushed.stall, by rw [qp_modQp]; exact hflushed.done, hflushed.cause⟩
  · exact hflushed.spill (spill_producerStops _ _ _)

end Sys2Proof.Proofs.Completions
end

section
/-!
PROOFS. Responses, timers and rates of the requester (12 R470, R486, R493 to R495, R498): O50.
-/

namespace Sys2Proof.Proofs.Responses

open Sys2Proof Sys2Proof.Machine Sys2Proof.Proofs.FieldRules Sys2Proof.Proofs.QueueEvents Sys2Proof.Proofs.UnitItems
  Sys2Proof.Proofs.Drains Sys2Proof.Proofs.MemWrites Sys2Proof.Proofs.Sends Sys2Proof.Proofs.Rereads Sys2Proof.Proofs.Completions

/-! ### Sequence numbers -/

theorem psnSub_self (a : Nat) : psnSub a a = 0 := by
  simp only [psnSub, psnMod, Nat.reducePow]
  omega

theorem span_ne_zero (r : SentReq) : r.span ≠ 0 := by
  rw [SentReq.span]
  exact Nat.add_one_ne_zero _

theorem covers_first (r : SentReq) : r.covers r.first = true := by
  simp [SentReq.covers, psnSub_self, SentReq.span]

/-! ### Reception -/

/-- The packet reaches its queue pair. -/
theorem receive_reaches {s : State} {p : Packet} {i : Nat} (h : Reaches s p i)
    (hstate : (s.qp i).state = .rtr ∨ (s.qp i).state = .rts) : s.receive p false = (some (i, s.qp i), s) := by
  obtain ⟨⟨hserving, hclaimed⟩, ⟨hqpn, hnamed⟩, hce⟩ := h
  have hreset : (s.qp i).state ≠ .reset := by rcases hstate with h | h <;> simp [h]
  have hinit : (s.qp i).state ≠ .init := by rcases hstate with h | h <;> simp [h]
  have herror : (s.qp i).state ≠ .error := by rcases hstate with h | h <;> simp [h]
  simp [State.receive, hserving, hclaimed, hqpn, hnamed, hce, hreset, hinit, herror]

/-- A response row runs on a connected queue pair. -/
theorem onResponse_runs {s : State} {p : Packet} {i : Nat} (h : Reaches s p i) (hstate : (s.qp i).state = .rts)
    (f : State → Nat → Qp → State) : onResponse p s f = .next (f s i (s.qp i)) := by
  simp only [onResponse, receive_reaches h (.inr hstate), hstate, if_true]

/-! ### Requests that wait -/

/-- The one request that waits, with a change of its record. -/
theorem map_one {l : List SentReq} {r : SentReq} (h : l = [r]) (f : SentReq → SentReq) : l.map f = [f r] := by
  rw [h, List.map_singleton]

/-- A change of a queue pair that changes its requests alone. -/
theorem modQp_sent {s : State} {i : Nat} {f : Qp → Qp} {l : List SentReq} (h : f (s.qp i) = { s.qp i with sent := l }) :
    s.modQp i f = withSent s i l := by
  rw [State.modQp, h]
  rfl

section
variable {s : State} {i : Nat} {r : SentReq} (hsent : (s.qp i).sent = [r]) (hwait : r.done = none)
include hsent hwait

/-- The request a PSN names. -/
theorem reqAt_first : (s.qp i).reqAt r.first = some r := by
  rw [Qp.reqAt, hsent]
  simp [hwait, covers_first]

/-- The oldest request is sent again from its first packet on. -/
theorem resendFrom_one : s.resendFrom i r.first = s.resendReq i r ((List.range r.span).map (0 + ·)) := by
  have hoff : (if psnSub r.first r.first < 2 ^ 23 then psnSub r.first r.first else 0) = 0 := by rw [psnSub_self, ite_self]
  have hspan : ¬ 0 ≥ r.span := Nat.not_le.mpr (Nat.pos_of_ne_zero (span_ne_zero r))
  unfold State.resendFrom
  rw [hsent, List.foldl_cons, List.foldl_nil, hwait]
  simp only [hoff, hspan, Option.isSome_none, Bool.false_eq_true, if_false, Nat.sub_zero]

/-- A request that ends well is completed. -/
theorem endReq_well : s.endReq i r.first 0 = (withSent s i [{ r with done := some 0 }]).completions i := by
  simp only [State.endReq, true_or, if_true]
  rw [modQp_sent (l := [{ r with done := some 0 }]) (by simp [hsent, hwait])]

/-- A request that fails takes its queue pair to ERROR. -/
theorem endReq_fails {cause : Nat} (h0 : cause ≠ 0) (hB : cause ≠ 0xB) :
    s.endReq i r.first cause = ((withSent s i [{ r with done := some cause }]).qpError i cause).completions i := by
  simp only [State.endReq, h0, hB, or_self, if_false]
  rw [modQp_sent (l := [{ r with done := some cause }]) (by simp [hsent, hwait])]

end

/-- Packets that leave are sent, and change nothing else. -/
theorem sendPackets_frame (s : State) (i : Nat) (r : SentReq) (data : List Byte) (l : List Nat) :
    ∃ o, s.sendPackets i r data l = { s with out := o } ∧ ∀ k ∈ l, packetFrom (s.qp i) r data k ∈ o :=
  ⟨_, sendPackets_eq s i r data l, fun _ hk => List.mem_append_left _ (List.mem_reverse.mpr (List.mem_map_of_mem hk))⟩

/-- A request whose payload is carried, sent again. -/
theorem resendReq_carried (s : State) (i : Nat) {r : SentReq} {l : List Nat} (hkind : reqKind r.op ≠ 2) (hl : l ≠ []) :
    s.resendReq i r l = (s.sendPackets i r (s.resendData i r) l).bumpBy .halyard 0 0x15C l.length := by
  rw [State.resendReq, if_neg (by simpa using hl), if_neg hkind]

/-- What a state must share with `s` for its requests to be sent again as those of `s`. -/
structure ResendsAs (s v : State) (i : Nat) : Prop where
  store : SameStore s v
  keys : v.halyard.keys = s.halyard.keys
  attr : (v.qp i).attr = (s.qp i).attr

theorem ResendsAs.packet {s v : State} {i : Nat} (h : ResendsAs s v i) (hud : (s.qp i).ud = false) (r : SentReq) (k : Nat) :
    packetFrom (v.qp i) r (v.resendData i r) k = s.packetOf i r (s.resendData i r) k := by
  have hpd : (v.qp i).pd = (s.qp i).pd := by simp only [Qp.pd, Qp.field, h.attr]
  have hdata := resendData_same h.store h.keys hpd r
  have hud' : (v.qp i).ud = false := by
    rw [← hud, Qp.ud, Qp.field, h.attr, Qp.ud, Qp.field]
  rw [packetFrom_connected hud', hdata]
  simp only [State.packetOf, Qp.dest, Qp.pmtu, Qp.field, h.attr]

theorem setReg_qp (s : State) (p : Page) (j off : Nat) (v : W32) (i : Nat) : (s.setReg p j off v).qp i = s.qp i :=
  congrArg (fun n : Net => n.halyard.qps.get {} i) (State.setReg_net ..)

/-- Every packet of the request has been sent again. -/
theorem resendFrom_resent {s v : State} {i : Nat} {r : SentReq} (hv : ResendsAs s v i) (hud : (s.qp i).ud = false)
    (hsent : (v.qp i).sent = [r]) (hwait : r.done = none) (hkind : reqKind r.op ≠ 2)
    (hreg : v.reg .halyard 0 0x15C = s.reg .halyard 0 0x15C) :
    (v.resendFrom i r.first).mem = v.mem ∧ (v.resendFrom i r.first).cores = v.cores ∧
      (v.resendFrom i r.first).qp i = v.qp i ∧ Resent s (v.resendFrom i r.first) i r := by
  have hlen : ((List.range r.span).map (0 + ·)).length = r.span := by rw [List.length_map, List.length_range]
  have hl : (List.range r.span).map (0 + ·) ≠ [] := fun h => span_ne_zero r (by rw [← hlen, h, List.length_nil])
  rw [resendFrom_one hsent hwait, resendReq_carried v i hkind hl, hlen, State.bumpBy]
  obtain ⟨o, ho, hout⟩ := sendPackets_frame v i r (v.resendData i r) ((List.range r.span).map (0 + ·))
  rw [ho]
  refine ⟨State.setReg_mem .., State.setReg_cores .., setReg_qp .., fun k hk => ?_, ?_⟩
  · rw [State.setReg_out, ← hv.packet hud r k]
    exact hout k (List.mem_map.mpr ⟨k, List.mem_range.mpr hk, Nat.zero_add k⟩)
  · rw [State.reg_setReg_self, ← hreg]
    rfl

/-! ### Responses that complete -/

/-- The state in which the one request of queue pair `i` ends well, as its completion leaves it. -/
theorem endReq_completed {s v : State} {i : Nat} {r r' : SentReq} (hsent : (v.qp i).sent = [r']) (hwait : r'.done = none)
    (hsignaled : r.own = false ∧ r.signaled = true)
    (hsame : r'.own = r.own ∧ r'.signaled = r.signaled ∧ r'.wrId = r.wrId ∧ r'.op = r.op ∧ r'.len = r.len)
    (hpair : (v.qp i).attr = (s.qp i).attr ∧ (v.qp i).epoch = (s.qp i).epoch) (hspill : v.spill = s.spill)
    (hstroke : v.stroke = s.stroke) : (v.endReq i r'.first 0).mem = v.mem ∧ Completed s (v.endReq i r'.first 0) i r := by
  rw [endReq_well hsent hwait]
  refine ⟨(requests_completions _ _).mem, completed_one (r' := { r' with done := some 0 }) ?_ rfl hsignaled.1 hsignaled.2 hsame ?_ hspill
    hstroke⟩
  · rw [withSent_qp]
  · rw [withSent_qp]
    exact hpair

/-- An acknowledgement of what is outstanding. -/
theorem ackUpTo_inside {s : State} {i psn : Nat}
    (h : ¬ (psnSub psn (s.qp i).una ≥ 2 ^ 23 ∨ psnSub psn (s.qp i).una ≥ psnSub (s.qp i).nextPsn (s.qp i).una)) :
    s.ackUpTo i psn = (s.setQp i { s.qp i with
      una := psnAdd psn 1, retries := 0, rnrTries := 0
      sent := (s.qp i).sent.map fun r =>
        if r.done.isNone ∧ r.carries ∧ !r.spray ∧ r.upTo psn then { r with done := some 0 } else r }).completions i := by
  rw [State.ackUpTo]
  exact if_neg h

section
variable {s : State} {p : Packet} {i : Nat} {r : SentReq} (h : Awaits s p i r)
include h

theorem awaits_runs (f : State → Nat → Qp → State) : onResponse p s f = .next (f s i (s.qp i)) :=
  onResponse_runs h.reach h.waits.state.1 f

/-- The acknowledgement of its last packet completes a request. -/
theorem ack_completes (hcarries : r.carries = true) (hspray : r.spray = false) (hpsn : p.psn = r.last) :
    (s.ackUpTo i p.psn).mem = s.mem ∧ ((s.ackUpTo i p.psn).qp i).una = psnAdd p.psn 1 ∧ Completed s (s.ackUpTo i p.psn) i r := by
  obtain ⟨-, ⟨-, -, ⟨hsent, hwait⟩, huna⟩, ⟨hown, hsignaled⟩, hlen, hspan⟩ := h
  have hupto : r.upTo r.last = true := decide_eq_true (by rw [psnSub_self]; exact Nat.two_pow_pos 23)
  have hin : ¬ (psnSub p.psn (s.qp i).una ≥ 2 ^ 23 ∨ psnSub p.psn (s.qp i).una ≥ psnSub (s.qp i).nextPsn (s.qp i).una) := by
    rw [huna, hspan, hpsn, not_or, Nat.not_le, Nat.not_le]
    rw [SentReq.span] at hlen ⊢
    exact ⟨Nat.lt_of_succ_lt hlen, Nat.lt_succ_self _⟩
  rw [ackUpTo_inside hin, map_one hsent, if_pos ⟨by rw [hwait]; rfl, hcarries, by rw [hspray]; rfl, hpsn ▸ hupto⟩]
  obtain ⟨q, hq⟩ : ∃ q : Qp, q = { s.qp i with
    una := psnAdd p.psn 1, retries := 0, rnrTries := 0, sent := [{ r with done := some 0 }] } := ⟨_, rfl⟩
  rw [← hq]
  have hqp : (s.setQp i q).qp i = q := (State.qp_setQp s i i q).trans (if_pos rfl)
  have hpair := (requests_completions (s.setQp i q) i).pair
  refine ⟨(requests_completions _ _).mem, ?_, completed_one (r' := { r with done := some 0 }) ?_ rfl hown hsignaled ⟨rfl, rfl, rfl, rfl, rfl⟩
    ?_ rfl rfl⟩
  · rw [hpair, hqp, hq]
  · rw [hqp, hq]
  · rw [hqp, hq]
    exact ⟨rfl, rfl⟩

/-- The SPRAY_ACK of its message completes a request. -/
theorem sprayAck_completes (hspray : r.spray = true) :
    (s.sprayDone i r.first).mem = s.mem ∧ Completed s (s.sprayDone i r.first) i r := by
  obtain ⟨-, ⟨-, -, ⟨hsent, hwait⟩, huna⟩, hsignaled, -⟩ := h
  have hfind : (s.qp i).sent.find? (fun x => x.done.isNone && x.spray && decide (x.first = r.first)) = some r := by
    simp [hsent, hwait, hspray]
  unfold State.sprayDone
  rw [hfind]
  simp only
  refine endReq_completed (r := r) ?_ hwait hsignaled ⟨rfl, rfl, rfl, rfl, rfl⟩ ?_ rfl rfl
  · rw [qp_modQp]
    exact hsent
  · rw [qp_modQp]
    exact ⟨rfl, rfl⟩

/-- A response of one packet is placed, and completes its request. -/
theorem response_completes {k : RKey} {off : Nat} (hpsn : p.psn = r.first) (hgot : r.got = 0) (hpos : 0 < r.len)
    (hlen : p.payload.length = r.len)
    (hop : (r.op = 4 ∧ p.opcode ≠ 0x12) ∨ ((r.op = 5 ∨ r.op = 6) ∧ p.opcode = 0x12 ∧ r.len = 8))
    (hkey : s.checkKey (s.qp i) r.lkey .localWrite r.laddr r.len 1 = .ok k off) (hhost : k.host = false) :
    (s.placeResponse i r p).mem = (s.writeBytes 5 (k.start + off) p.payload p.bad).mem ∧ Completed s (s.placeResponse i r p) i r := by
  obtain ⟨-, ⟨-, -, ⟨hsent, hwait⟩, -⟩, hsignaled, -⟩ := h
  have hkind : reqKind r.op = 2 ∧ p.opcode ≠ 0x12 ∨ reqKind r.op ≠ 2 ∧ p.opcode = 0x12 ∧ r.len = 8 := by
    rcases hop with ⟨hop, hcode⟩ | ⟨hop | hop, hcode, hlen⟩
    · exact .inl ⟨by rw [hop]; rfl, hcode⟩
    · exact .inr ⟨by rw [hop]; decide, hcode, hlen⟩
    · exact .inr ⟨by rw [hop]; decide, hcode, hlen⟩
  have hdata : (if reqKind r.op = 2 then p.payload else (padTo 8 p.payload).take 8) = p.payload := by
    rcases hkind with ⟨hkind, -⟩ | ⟨hkind, -, hlen8⟩
    · rw [if_pos hkind]
    · rw [if_neg hkind, padTo, hlen, hlen8, Nat.sub_self, List.replicate_zero, List.append_nil, List.take_of_length_le (by omega)]
  have hat : (if reqKind r.op = 2 then psnSub p.psn r.first * (s.qp i).pmtu else 0) = 0 := by
    rw [hpsn, psnSub_self, Nat.zero_mul, ite_self]
  have hcode : ¬ (p.opcode = 0x12 ∧ reqKind r.op = 2 ∨ p.opcode ≠ 0x12 ∧ reqKind r.op ≠ 2) := by
    rcases hkind with ⟨hkind, hcode⟩ | ⟨hkind, hcode, -⟩ <;> simp [hkind, hcode]
  have hfull : ¬ p.payload.isEmpty = true := by
    intro hempty
    rw [List.isEmpty_iff.mp hempty, List.length_nil] at hlen
    omega
  unfold State.placeResponse
  dsimp only
  rw [hdata, hat, if_neg hcode, if_neg (by rw [hgot]; simp), if_neg (by omega), if_neg hfull, hkey]
  dsimp only
  rw [if_neg (by rw [hhost]; exact Bool.false_ne_true)]
  have hmissing : s.missing r.lkey k (off + 0) p.payload.length = none := by
    rw [State.missing, if_pos (by rw [hhost]; rfl)]
  have hwrite : s.regionWrite r.lkey k (off + 0) p.payload p.bad = s.writeBytes 5 (k.start + off) p.payload p.bad := by
    rw [State.regionWrite, if_neg (by rw [hhost]; exact Bool.false_ne_true), Nat.add_zero]
  have hmem := memOnly_writeBytes s 5 (k.start + off) p.payload p.bad
  rw [hmissing, hwrite]
  dsimp only
  rw [if_pos (by rw [Nat.zero_add, hlen])]
  generalize s.writeBytes 5 (k.start + off) p.payload p.bad = v at hmem ⊢
  have hqp : v.qp i = s.qp i := by rw [hmem]; rfl
  have hspill : v.spill = s.spill := by rw [hmem]
  have hstroke : v.stroke = s.stroke := by rw [hmem]
  refine endReq_completed (r' := { r with got := 0 + p.payload.length }) ?_ hwait hsignaled ⟨rfl, rfl, rfl, rfl, rfl⟩ ?_
    hspill hstroke
  · rw [qp_modQp, hqp, map_one hsent, if_pos ⟨rfl, by rw [hwait]; rfl⟩]
  · rw [qp_modQp, hqp]
    exact ⟨rfl, rfl⟩

/-- The gaps that a SprayNak names are sent again. -/
theorem snak_resends (hspray : r.spray = true) (hkind : reqKind r.op ≠ 2) (hbase : ofBe ((p.payload.take 4).drop 1) = r.first) :
    ∃ t, exec (.spraySnak p) s = .next t ∧ t.mem = s.mem ∧ t.reg .halyard 0 0x16C = satAdd (s.reg .halyard 0 0x16C) 1 ∧
      ∀ k ∈ snakIndices p.payload, k < r.span → s.packetOf i r (s.resendData i r) k ∈ t.out := by
  have hfind : (s.qp i).sent.find? (fun x => x.done.isNone && x.spray && decide (x.first = ofBe ((p.payload.take 4).drop 1))) =
      some r := by
    rw [h.waits.one.1, hbase]
    simp [h.waits.one.2, hspray]
  obtain ⟨v, hv⟩ : ∃ v, v = (s.bump .halyard 0 0x16C).modQp i fun x => { x with retries := 0 } := ⟨_, rfl⟩
  have hexec : exec (.spraySnak p) s = .next (v.resendReq i r ((snakIndices p.payload).filter (· < r.span))) := by
    change execSpraySnak p s = _
    rw [execSpraySnak, awaits_runs h, hv]
    simp only [hfind]
  have hqp : v.qp i = { s.qp i with retries := 0 } := by rw [hv]; exact qp_modQp _ _ _
  have hresends : ResendsAs s v i := ⟨by rw [hv]; exact ⟨rfl, rfl, rfl, rfl⟩, by rw [hv]; rfl, by rw [hqp]⟩
  have hmem : v.mem = s.mem := hresends.store.mem
  have hreg : v.reg .halyard 0 0x16C = satAdd (s.reg .halyard 0 0x16C) 1 := by rw [hv]; exact State.reg_setReg_self s _ _ _ _
  rw [hexec]
  refine ⟨_, rfl, ?_⟩
  by_cases hl : (snakIndices p.payload).filter (· < r.span) = []
  · rw [State.resendReq, hl, if_pos List.isEmpty_nil]
    refine ⟨hmem, hreg, fun k hk hspan => ?_⟩
    have hin : k ∈ (snakIndices p.payload).filter (· < r.span) := List.mem_filter.mpr ⟨hk, decide_eq_true hspan⟩
    rw [hl] at hin
    exact absurd hin List.not_mem_nil
  · obtain ⟨o, ho, hout⟩ := sendPackets_frame v i r (v.resendData i r) ((snakIndices p.payload).filter (· < r.span))
    rw [resendReq_carried v i hkind hl, ho, State.bumpBy]
    refine ⟨(State.setReg_mem ..).trans hmem, ?_, fun k hk hspan => ?_⟩
    · rw [← hreg]
      exact reg_setReg_ne _ .halyard .halyard 0 0 0x15C 0x16C _ (by decide)
    · rw [State.setReg_out, ← hresends.packet h.waits.state.2 r k]
      exact hout k (List.mem_filter.mpr ⟨hk, decide_eq_true hspan⟩)

end

/-! ### NAKs and timers -/

section
variable {s : State} {i : Nat} {r : SentReq} (h : Waits s i r)
include h

theorem waits_resend (hkind : reqKind r.op ≠ 2) {v : State} (hstore : SameStore s v) (hkeys : v.halyard.keys = s.halyard.keys)
    (hattr : (v.qp i).attr = (s.qp i).attr) (hsent : (v.qp i).sent = (s.qp i).sent)
    (hreg : v.reg .halyard 0 0x15C = s.reg .halyard 0 0x15C) :
    (v.resendFrom i r.first).mem = s.mem ∧ (v.resendFrom i r.first).cores = v.cores ∧ (v.resendFrom i r.first).qp i = v.qp i ∧
      Resent s (v.resendFrom i r.first) i r := by
  obtain ⟨hmem, hcores, hqp, hresent⟩ := resendFrom_resent ⟨hstore, hkeys, hattr⟩ h.state.2 (hsent.trans h.one.1) h.one.2 hkind hreg
  exact ⟨hmem.trans hstore.mem, hcores, hqp, hresent⟩

/-- A NAK of a kind that ends a request takes its queue pair to ERROR. -/
theorem endReq_errors {cause : Nat} (h0 : cause ≠ 0) (hB : cause ≠ 0xB) :
    (s.endReq i r.first cause).mem = s.mem ∧ ((s.endReq i r.first cause).qp i).state = .error ∧
      ((s.endReq i r.first cause).qp i).sent = [] ∧
      (s.endReq i r.first cause).reg .halyard 0 0xC4 = BitVec.ofNat 32 ((s.qp i).qpn i + 2 ^ 24 * cause) := by
  obtain ⟨v, hv⟩ : ∃ v, v = withSent s i [{ r with done := some cause }] := ⟨_, rfl⟩
  have hqp : v.qp i = { s.qp i with sent := [{ r with done := some cause }] } := hv ▸ withSent_qp _ _ _
  have hstate : (v.qp i).state ≠ .error := by rw [hqp]; exact h.state.1 ▸ (by decide)
  have hfailed := qpError_failed cause hstate
  have hdone := requests_completions (v.qpError i cause) i
  rw [endReq_fails h.one.1 h.one.2 h0 hB, ← hv]
  refine ⟨?_, hdone.state.trans hfailed.state, ?_, ?_⟩
  · rw [hdone.mem, hfailed.mem, hv]
    rfl
  · refine completions_all ?_
    rw [hfailed.done]
    exact fun x hx => absurd hx List.not_mem_nil
  · rw [hdone.reg (by decide) (by decide) (by decide), hfailed.cause, hqp]
    rfl

/-- A NAK names the one request that waits: a sequence error sends it again. -/
theorem takeNak_sequence : s.takeNak i 0 r.first = s.resendFrom i r.first := by
  rw [State.takeNak, h.first, if_neg (by simp)]
  simp only [reqAt_first h.one.1 h.one.2]

/-- An error of the responder ends the request. -/
theorem takeNak_ends {kind : Nat} (hlow : 1 ≤ kind) (hhigh : kind ≤ 3) : s.takeNak i kind r.first = s.endReq i r.first (5 + kind) := by
  rw [State.takeNak, h.first, if_neg (by simp)]
  obtain rfl | rfl | rfl : kind = 1 ∨ kind = 2 ∨ kind = 3 := by omega
  · simp only [reqAt_first h.one.1 h.one.2]
  · simp only [reqAt_first h.one.1 h.one.2]
  · simp only [reqAt_first h.one.1 h.one.2]

/-- An RNR NAK lets the request wait. -/
theorem takeNak_rnr (hleft : ¬ ((s.qp i).rnrRetry ≠ 7 ∧ (s.qp i).rnrTries ≥ (s.qp i).rnrRetry)) :
    s.takeNak i 4 r.first = (s.bump .halyard 0 0x154).setQp i { s.qp i with
      rnrTries := (s.qp i).rnrTries + 1, rnrFrom := some r.first } := by
  have hqp : (s.bump .halyard 0 0x154).qp i = s.qp i := setReg_qp ..
  rw [State.takeNak, h.first, if_neg (by simp)]
  simp only [reqAt_first h.one.1 h.one.2, hqp, hleft, if_false]

end

/-! ### Rates and residency -/

/-- The first CNP of a queue pair lowers its rate. -/
theorem takeCnp_first {s : State} {i : Nat} (hcut : (s.qp i).lastCut = none) :
    s.takeCnp i = (s.bump .halyard 0 0x164).setQp i { s.qp i with
      lastCut := some s.cycles
      rate := some (max 1000 (((s.qp i).rate.getD (s.qpLine (s.qp i))) * (256 - bits (s.reg .halyard 0 0xC0).toNat 10 8) / 256)) } := by
  have hqp : (s.bump .halyard 0 0x164).qp i = s.qp i := setReg_qp ..
  simp only [State.takeCnp, hqp, hcut, if_true]

/-- A responder whose page did not come refuses the access and enters ERROR. -/
theorem odpTimeout_responder {s : State} {i : Nat} {x : Stall} (hstall : (s.qp i).stall = some x) (hresp : x.resp = true) :
    (s.odpTimeout i).mem = s.mem ∧ ((s.odpTimeout i).qp i).state = .error ∧ ((s.odpTimeout i).qp i).stall = none ∧
      Out.nak (s.qp i).dest x.psn 2 0 ∈ (s.odpTimeout i).out := by
  obtain ⟨u, hu⟩ : ∃ u, u = ((s.modQp i fun q => { q with stall := none }).bump .halyard 0 0x184).latchEvt .halyard 0 8 := ⟨_, rfl⟩
  have huqp : u.qp i = { s.qp i with stall := none } := by
    rw [hu]
    exact (congrArg (fun n : Net => n.halyard.qps.get {} i) (latchEvt_net ..)).trans
      ((setReg_qp ..).trans (qp_modQp s i fun q => { q with stall := none }))
  have humem : u.mem = s.mem := by
    rw [hu, latchEvt_mem]
    exact State.setReg_mem ..
  have hemit : u.emit (.nak (u.qp i).dest x.psn 2 0) = { u with out := .nak (u.qp i).dest x.psn 2 0 :: u.out } := u.emit_plain _ rfl
  obtain ⟨v, hv⟩ : ∃ v, v = (u.emit (.nak (u.qp i).dest x.psn 2 0)).bump .halyard 0 0x158 := ⟨_, rfl⟩
  have hstep : s.odpTimeout i = v.qpError i 0xFF := by
    rw [hv, hu, State.odpTimeout, hstall]
    simp only [hresp, if_true]
    rfl
  have hvqp : v.qp i = { s.qp i with stall := none } := by
    rw [hv, hemit, ← huqp]
    exact setReg_qp ..
  have hvmem : v.mem = s.mem := by
    rw [hv, hemit, ← humem]
    exact State.setReg_mem ..
  have hvout : Out.nak (s.qp i).dest x.psn 2 0 ∈ v.out := by
    rw [hv, hemit, huqp]
    exact List.mem_cons_self
  rw [hstep]
  by_cases herror : (v.qp i).state = .error
  · rw [State.qpError, if_pos herror]
    exact ⟨hvmem, herror, by rw [hvqp], hvout⟩
  · have hfailed := qpError_failed 0xFF herror
    exact ⟨hfailed.mem.trans hvmem, hfailed.state, hfailed.stall, hfailed.sent.mem hvout⟩

/-! ### The rows -/

/-- A NAK that a connected queue pair takes. -/
theorem rxNak_runs {s : State} {p : Packet} {i : Nat} {r : SentReq} (h : Awaits s p i r) (hpsn : p.psn = r.first) {kind : Nat}
    (hkind : ¬ kind > 4) : exec (.rxNak p kind) s = .next (s.takeNak i kind r.first) := by
  change execRxNak p kind s = _
  rw [execRxNak, if_neg hkind, awaits_runs h, hpsn]

/-- A response that a connected queue pair takes is placed. -/
theorem rxReadResponse_runs {s : State} {p : Packet} {i : Nat} {r : SentReq} (h : Awaits s p i r) (hpsn : p.psn = r.first)
    (hcarries : r.carries = false) : exec (.rxReadResponse p) s = .next (s.placeResponse i r p) := by
  have huna : r.first = (s.qp i).una := h.waits.first.symm
  change execRxReadResponse p s = _
  rw [execRxReadResponse, awaits_runs h, hpsn]
  simp only [reqAt_first h.waits.one.1 h.waits.one.2, ← huna, if_true, hcarries, Bool.false_eq_true, if_false]

/-- Settles O50. -/
theorem halyardResponses : Obligations.HalyardResponses := by
  unfold Obligations.HalyardResponses
  refine ⟨fun s p i r h => ⟨?ack, ?response, ?sprayAck, ?snak, ?sequence, ?fails, ?rnr⟩, fun s i r h hkind => ⟨?rnrTimer, ?ackTimer⟩,
    ?cnp, ?rate, ?odp, ?pop⟩
  case ack =>
    intro hcarries hspray hpsn
    obtain ⟨hmem, huna, hdone⟩ := ack_completes h hcarries hspray hpsn
    exact ⟨_, awaits_runs h fun t i _ => t.ackUpTo i p.psn, hmem, huna, hdone⟩
  case response =>
    intro k off hpsn hgot hpos hlen hop hkey hhost
    have hcarries : r.carries = false := by
      rcases hop with ⟨hop, -⟩ | ⟨hop | hop, -⟩ <;> rw [SentReq.carries, hop] <;> rfl
    exact ⟨_, rxReadResponse_runs h hpsn hcarries, response_completes h hpsn hgot hpos hlen hop hkey hhost⟩
  case sprayAck =>
    intro hspray hbase
    obtain ⟨hmem, hdone⟩ := sprayAck_completes h hspray
    exact ⟨_, hbase ▸ awaits_runs h fun t i _ => t.sprayDone i p.base, hmem, hdone⟩
  case snak => exact fun hspray hkind hbase => snak_resends h hspray hkind hbase
  case sequence =>
    intro hkind hpsn
    obtain ⟨hmem, hcores, -, hresent⟩ := waits_resend h.waits hkind ⟨rfl, rfl, rfl, rfl⟩ rfl rfl rfl rfl
    exact ⟨_, rxNak_runs h hpsn (by decide), takeNak_sequence h.waits ▸ ⟨hmem, hcores, hresent⟩⟩
  case fails =>
    intro kind hlow hhigh hpsn
    rw [rxNak_runs h hpsn (by omega), takeNak_ends h.waits hlow hhigh]
    exact ⟨_, rfl, endReq_errors h.waits (by omega) (by omega)⟩
  case rnr =>
    intro hpsn htries
    have hleft : ¬ ((s.qp i).rnrRetry ≠ 7 ∧ (s.qp i).rnrTries ≥ (s.qp i).rnrRetry) := by omega
    refine ⟨_, rxNak_runs h hpsn (by decide), ?_⟩
    rw [takeNak_rnr h.waits hleft]
    exact ⟨s.bump_mem .halyard 0 0x154, (State.qp_setQp ..).trans (if_pos rfl)⟩
  case rnrTimer =>
    intro hfrom
    obtain ⟨v, hv⟩ : ∃ v, v = s.modQp i fun q => { q with rnrFrom := none } := ⟨_, rfl⟩
    have hqp : v.qp i = { s.qp i with rnrFrom := none } := hv ▸ qp_modQp ..
    have hexec : exec (.rnrTimer i) s = .next (v.resendFrom i r.first) := by
      change execRnrTimer i s = _
      rw [execRnrTimer, if_neg (Nat.not_le.mpr h.slot), hfrom]
      simp only [h.state.1, ne_eq, not_true_eq_false, if_false, hv]
    obtain ⟨hmem, -, hpair, hresent⟩ := waits_resend h hkind (v := v) (hv ▸ ⟨rfl, rfl, rfl, rfl⟩) (hv ▸ rfl) (by rw [hqp]) (by rw [hqp])
      (hv ▸ rfl)
    exact ⟨_, hexec, hmem, by rw [hpair, hqp], hresent⟩
  case ackTimer =>
    intro htimeout htries
    obtain ⟨v, hv⟩ : ∃ v, v = s.setQp i { s.qp i with retries := (s.qp i).retries + 1 } := ⟨_, rfl⟩
    have hqp : v.qp i = { s.qp i with retries := (s.qp i).retries + 1 } := hv ▸ (State.qp_setQp ..).trans (if_pos rfl)
    have hfind : (s.qp i).sent.find? (fun r => r.done.isNone) = some r := by rw [h.one.1]; simp [h.one.2]
    have hexec : exec (.ackTimeout i) s = .next (v.resendFrom i r.first) := by
      change execAckTimeout i s = _
      rw [execAckTimeout, if_neg (Nat.not_le.mpr h.slot), State.ackTimeoutStep, hfind]
      simp only [h.state.1, htimeout, ne_eq, not_true_eq_false, or_self, if_false, ge_iff_le, Nat.not_le.mpr htries, h.first, hv]
    obtain ⟨hmem, -, hpair, hresent⟩ := waits_resend h hkind (v := v) (hv ▸ ⟨rfl, rfl, rfl, rfl⟩) (hv ▸ rfl) (by rw [hqp]) (by rw [hqp])
      (hv ▸ rfl)
    exact ⟨_, hexec, hmem, by rw [hpair, hqp], hresent⟩
  case cnp =>
    intro s p i hreach hstate hcut
    have hexec : exec (.rxCnp p) s = .next (s.takeCnp i) := by
      change execRxCnp p s = _
      simp only [execRxCnp, receive_reaches hreach (.inr hstate)]
    rw [hexec, takeCnp_first hcut]
    exact ⟨_, rfl, ⟨rfl, rfl, rfl, rfl, rfl⟩, State.reg_setReg_self s _ _ _ _, (State.qp_setQp ..).trans (if_pos rfl)⟩
  case rate =>
    intro s i old new hi hrate hnew
    change execRateIncrease i s = _
    rw [execRateIncrease, if_neg (Nat.not_le.mpr hi), State.rateUp]
    simp only [hrate, hnew, ge_iff_le]
  case odp =>
    intro s i x hi hstall hresp
    have hexec : exec (.hyOdpTimeout i) s = .next (s.odpTimeout i) := by
      change execHyOdpTimeout i s = _
      rw [execHyOdpTimeout, if_neg (Nat.not_le.mpr hi)]
    exact ⟨_, hexec, odpTimeout_responder hstall hresp⟩
  case pop =>
    intro s htakes
    have hnet : (s.woken .halyard).net = s.net := (events_woken s .halyard).net
    change execHyOdpPop s = _
    rw [execHyOdpPop, State.onPage_takes _ _ _ _ _ _ htakes, State.odpPop, State.halyard, hnet, State.halyard]

end Sys2Proof.Proofs.Responses
end

section
/-!
PROOFS. A message that lands in a queue (12 R466): its packet opens with the first word, takes the other words, and closes with its queue
pair, its length and its cycle.
-/

namespace Sys2Proof.Proofs.Messages

open Sys2Proof Sys2Proof.Machine Sys2Proof.Proofs.QueueEvents Sys2Proof.Proofs.QueueRules

/-! ### Words of a message -/

/-- Chunks of `n` bytes are no more than it takes. -/
theorem chunksOf_length (fuel n : Nat) (hn : 0 < n) : ∀ l : List Byte, (chunksOf fuel n l).length ≤ (l.length + (n - 1)) / n := by
  induction fuel with
  | zero => exact fun _ => Nat.zero_le _
  | succ f ih =>
    intro l
    rw [chunksOf]
    split
    · exact Nat.zero_le _
    · next hl =>
      have hpos : 0 < l.length := List.length_pos_of_ne_nil fun h => hl (List.isEmpty_iff.mpr h)
      have hrest := ih (l.drop n)
      rw [List.length_drop] at hrest
      rw [List.length_cons]
      by_cases hlong : n ≤ l.length
      · have hsum : l.length + (n - 1) = (l.length - n + (n - 1)) + n := by omega
        rw [hsum, Nat.add_div_right _ hn]
        exact Nat.succ_le_succ hrest
      · have hzero : (l.length - n + (n - 1)) / n = 0 := Nat.div_eq_of_lt (by omega)
        have hone : 1 ≤ (l.length + (n - 1)) / n := (Nat.one_le_div_iff hn).mpr (by omega)
        omega

/-- Words of a message are its first and others. -/
theorem streamWords_cons (l : List Byte) : ∃ w r, streamWords l = w :: r := by
  unfold streamWords
  split
  · exact ⟨0, [], rfl⟩
  · next hl =>
    rw [chunksOf, if_neg hl]
    exact ⟨_, _, rfl⟩

theorem streamWords_length (l : List Byte) : (streamWords l).length ≤ (l.length + 23) / 24 + 1 ∧
    (l ≠ [] → (streamWords l).length ≤ (l.length + 23) / 24) ∧ (l = [] → (streamWords l).length = 1) := by
  have hchunks := chunksOf_length (l.length / 24 + 1) 24 (by decide) l
  unfold streamWords
  split
  · next hl =>
    rw [List.isEmpty_iff.mp hl]
    exact ⟨by simp, fun h => absurd rfl h, fun _ => rfl⟩
  · next hl =>
    rw [List.length_map]
    exact ⟨by omega, fun _ => hchunks, fun h => absurd (List.isEmpty_iff.mpr h) hl⟩

/-! ### A queue that takes items -/

/-- Words of a list of items. -/
theorem level_append {q : Queue} {l : List QItem} {x : QItem} (h : q.items = l ++ [x]) :
    q.level = l.foldl (fun n i => n + i.words.length) 0 + x.words.length := by
  rw [Queue.level, h, List.foldl_append, List.foldl_cons, List.foldl_nil]

section
variable {s t : State} {n : Nat} {l : List QItem} (h : QueueHolds s t n l)
include h

theorem QueueHolds.body : ∃ k, queueBody (t.queue n) = queueBody (withItems (s.queue n) l k) := by
  obtain ⟨k, h⟩ := h
  exact ⟨k, by rw [h.queues, State.queue_setQueue_self]⟩

theorem QueueHolds.cap : (t.queue n).cap = (s.queue n).cap := by
  obtain ⟨k, hk⟩ := QueueHolds.body h
  have hring : (t.queue n).ringLog = (s.queue n).ringLog := (congrArg Queue.ringLog hk : (queueBody _).ringLog = (queueBody _).ringLog)
  rw [Queue.cap, hring, Queue.cap]

theorem QueueHolds.flushed : (t.queue n).flushed = (s.queue n).flushed := by
  obtain ⟨k, hk⟩ := QueueHolds.body h
  exact (congrArg Queue.flushed hk : (queueBody _).flushed = (queueBody _).flushed)

/-- A second change of what the queue holds. -/
theorem QueueHolds.trans {v : State} {m : List QItem} (k : QueueHolds t v n m) : QueueHolds s v n m := by
  obtain ⟨a, h⟩ := h
  obtain ⟨b, k⟩ := k
  refine ⟨b, EventsOnly.trans (t := t.setQueue n (withItems (t.queue n) m b)) ⟨?_, h.regs, h.sent, fun j => ?_⟩ k⟩
  · exact congrArg (fun x : State => x.setQueue n (withItems (t.queue n) m b)) h.frame
  · have hj := h.queues j
    by_cases hjn : j = n
    · subst hjn
      rw [State.queue_setQueue_self] at hj ⊢
      rw [State.queue_setQueue_self]
      exact congrArg (fun q : Queue => withItems q m b) hj
    · rw [State.queue_setQueue_ne _ _ _ _ hjn] at hj ⊢
      rw [State.queue_setQueue_ne _ _ _ _ hjn, hj]

end

/-! ### The message -/

/-- The open packet of a message with its words so far. -/
def openItem (p : Producer) (l : List QWord) : QItem := { kind := .packet, src := p, words := { w := 0 } :: l }

/-- The words of a message as they stand in the queue. -/
def dataWords (bad : Bool) (l : List W256) : List QWord := l.map fun w => { w := tagWord 1 w, bad := bad }

/-- More words of an open packet. -/
theorem pushWords_accepts {s : State} {n : Nat} {l : List QItem} {p : Producer} (bad : Bool) (r : List W256) :
    ∀ {t : State} {d : List QWord}, QueueHolds s t n (l ++ [openItem p d]) → (s.queue n).flushed = [] →
      l.foldl (fun n i => n + i.words.length) 0 + (d.length + 1) + r.length ≤ (s.queue n).cap → d.length + r.length ≤ 65536 →
      QueueHolds s (t.pushWords n p bad r) n (l ++ [openItem p (d ++ dataWords bad r)]) := by
  induction r with
  | nil =>
    intro t d h _ _ _
    simpa [State.pushWords, dataWords] using h
  | cons w r ih =>
    intro t d h hflushed hroom hwords
    rw [List.length_cons] at hroom hwords
    have hlevel : (t.queue n).level + 1 ≤ (t.queue n).cap := by
      rw [level_append (h.items), QueueHolds.cap h]
      simp only [openItem, List.length_cons]
      omega
    have hcount : (openItem p d).dataWords < 65536 := by
      simp only [openItem, QItem.dataWords, List.length_cons]
      omega
    obtain ⟨u, hu, hholds⟩ := produce_data (p := p) w bad h.items rfl rfl rfl ((QueueHolds.flushed h).trans hflushed) hlevel hcount
    have hnext : QueueHolds s u n (l ++ [openItem p (d ++ [{ w := tagWord 1 w, bad := bad }])]) := QueueHolds.trans h hholds
    have hlast := ih hnext hflushed (by rw [List.length_append, List.length_singleton]; omega)
      (by rw [List.length_append, List.length_singleton]; omega)
    have hstep : t.pushWords n p bad (w :: r) = u.pushWords n p bad r := by
      rw [State.pushWords, List.foldl_cons, hu, State.pushWords]
    rw [hstep]
    simpa [dataWords] using hlast

/-- A message opens its packet and writes its words. -/
theorem openMsg_accepts {s : State} {n : Nat} (p : Producer) (bad : Bool) {l : List W256} (hl : l ≠ []) (hunopened : (s.queue n).unopened)
    (hroom : (s.queue n).level + l.length + 1 ≤ (s.queue n).cap) (hwords : l.length ≤ 65536) :
    QueueHolds s (s.openMsg n p bad l) n ((s.queue n).items ++ [openItem p (dataWords bad l)]) := by
  obtain ⟨hopen, hflushed⟩ := hunopened
  obtain ⟨w, r, rfl⟩ := List.exists_cons_of_ne_nil hl
  rw [List.length_cons] at hroom hwords
  obtain ⟨t, ht, hholds⟩ := produce_open p w bad hopen hflushed (by omega)
  have hfirst : QueueHolds s t n ((s.queue n).items ++ [openItem p [{ w := tagWord 1 w, bad := bad }]]) := hholds
  rw [State.openMsg, ht]
  refine pushWords_accepts bad r hfirst hflushed ?_ (by simpa using by omega)
  change (s.queue n).level + _ + _ ≤ _
  simp only [List.length_singleton]
  omega

/-- A message closes with its queue pair, its length and its cycle. -/
theorem closeMsg_accepts {s t : State} {n : Nat} {l : List QItem} {p : Producer} {d : List QWord} (qpn len : Nat)
    (h : QueueHolds s t n (l ++ [openItem p d])) (hflushed : (s.queue n).flushed = []) :
    QueueHolds s (t.closeMsg n p qpn len) n (l ++ [{
      kind := .packet, src := p, closed := true, complete := !p.isCore, stroke := s.stroke.now, qpn := qpn
      bytes := len, cycle := s.stroke.cycle
      words := { w := ctrlWord 2 d.length len p.code 0 s.stroke.now qpn 0 } :: d }]) := by
  have hfl : (t.queue n).flushed.contains p = false := by rw [QueueHolds.flushed h, hflushed]; rfl
  obtain ⟨u, hu⟩ : ∃ u, u = t.setQueue n { t.queue n with
    items := l ++ [{ openItem p d with qpn := qpn, bytes := len, cycle := t.stroke.cycle }] } := ⟨_, rfl⟩
  have huholds := hu ▸ h.setQueue (l ++ [{ openItem p d with qpn := qpn, bytes := len, cycle := t.stroke.cycle }])
  obtain ⟨v, hv, hclose⟩ := closeOpen_accepts (s := u) (n := n) (h := { w := 0 }) (d := d) huholds.items rfl rfl rfl rfl
  have hdone := hclose s _ huholds
  have hstep : t.closeMsg n p qpn len = v := by
    simp only [State.closeMsg, hfl, Bool.false_eq_true, if_false, modifyLast_last h.items, ← hu, hv]
  rw [hstep]
  simpa only [openItem, huholds.stroke, h.stroke] using hdone

/-- A whole message that lands. -/
theorem message_lands {s : State} {n : Nat} {p : Producer} (qpn : Nat) (data : List Byte) (hcore : p.isCore = false)
    (hunopened : (s.queue n).unopened) (hroom : (s.queue n).level + (streamWords data).length + 1 ≤ (s.queue n).cap)
    (hlen : (streamWords data).length ≤ 65536) :
    QueueHolds s ((s.openMsg n p false (streamWords data)).closeMsg n p qpn data.length) n ((s.queue n).items ++ [{
      kind := .packet, src := p, closed := true, complete := true, stroke := s.stroke.now, qpn := qpn
      bytes := data.length, cycle := s.stroke.cycle
      words := { w := ctrlWord 2 (streamWords data).length data.length p.code 0 s.stroke.now qpn 0 } ::
        dataWords false (streamWords data) }]) := by
  have hne : streamWords data ≠ [] := by
    obtain ⟨w, r, h⟩ := streamWords_cons data
    rw [h]
    exact List.cons_ne_nil w r
  have h := closeMsg_accepts qpn data.length (openMsg_accepts p false hne hunopened hroom hlen) hunopened.2
  simpa only [hcore, Bool.not_false, dataWords, List.length_map] using h

end Sys2Proof.Proofs.Messages
end

section
/-!
PROOFS. Packets at the responder (12 R466, R478 to R483, R491, R493, R494, 02 R77): O51.
-/

namespace Sys2Proof.Proofs.Packets

open Sys2Proof Sys2Proof.Machine Sys2Proof.Proofs.FieldRules Sys2Proof.Proofs.QueueEvents Sys2Proof.Proofs.QueueRules
  Sys2Proof.Proofs.UnitItems Sys2Proof.Proofs.Drains Sys2Proof.Proofs.MemWrites Sys2Proof.Proofs.Sends Sys2Proof.Proofs.Rereads
  Sys2Proof.Proofs.Responses Sys2Proof.Proofs.Messages

/-! ### The rows -/

/-- A packet of a row that lands while the stroke closes is held. -/
theorem packetRow_holds {s : State} {p : Packet} {ok : Nat → Bool} {cycle : Nat} (hok : ok p.opcode = true)
    (h : (s.atCycle cycle).holding = true) :
    packetRow p ok cycle s = .next ((s.atCycle cycle).setHalyard { s.halyard with held := s.halyard.held ++ [p] }) := by
  have hhalyard : (s.atCycle cycle).halyard = s.halyard := by
    obtain ⟨c, hc⟩ := s.atCycle_frame cycle
    rw [hc]
    rfl
  simp only [packetRow, hok, Bool.not_true, Bool.false_eq_true, if_false, h, if_true, hhalyard]

/-- A packet of a row lands. -/
theorem packetRow_takes {s : State} {p : Packet} {ok : Nat → Bool} {cycle : Nat} (hok : ok p.opcode = true)
    (h : (s.atCycle cycle).holding = false) : packetRow p ok cycle s = .next ((s.atCycle cycle).takePacket p false) := by
  simp only [packetRow, hok, Bool.not_true, Bool.false_eq_true, if_false, h]

/-- What lets queue pair `i` serve packet `p` in this cycle. -/
structure Serves (s : State) (p : Packet) (i : Nat) : Prop where
  reach : Reaches s p i
  state : (s.qp i).state = .rtr ∨ (s.qp i).state = .rts
  takes : s.stroke.running = true ∧ s.tt.halted = false ∧ s.reef.level < 3 ∧ (s.qp i).stall = none

/-- The cycle decides nothing about what serves a packet. -/
theorem lands_serves {s : State} {p : Packet} {i cycle : Nat} (h : Lands s p i cycle) : Serves (s.atCycle cycle) p i := by
  obtain ⟨⟨hserving, hnamed, hce⟩, hstate, -, hrun, htakes⟩ := h
  unfold State.atCycle
  split
  · exact ⟨⟨hserving, hnamed, hce⟩, hstate, hrun, htakes⟩
  · exact ⟨⟨hserving, hnamed, hce⟩, hstate, hrun, htakes⟩

section
variable {s : State} {p : Packet} {i : Nat} (h : Serves s p i)
include h

theorem serves_receive : s.receive p false = (some (i, s.qp i), s) := receive_reaches h.reach h.state

theorem serves_wake : s.wake 5 3 4 = s := if_neg fun hw => absurd hw.1 (Nat.not_le.mpr h.takes.2.2.1)

theorem serves_refuses : s.requestSeen.refusesAll (s.qp i) = false := by
  obtain ⟨hrun, hhalt, hlevel, hstall⟩ := h.takes
  simp [State.refusesAll, hstall, State.requestSeen, hrun, hhalt, hlevel]

/-- An expected request runs its family's own checks. -/
theorem request_expected (hexpected : Expected s p i) (dup f : State → Nat → Qp → State) :
    s.request p false dup f = f s.requestSeen i (s.qp i) := by
  obtain ⟨hud, -, -, hpsn, hexp⟩ := hexpected
  have hlevel : ¬ s.reef.level ≥ 3 := Nat.not_le.mpr h.takes.2.2.1
  have hclass : psnClass (s.qp i).expPsn p.psn = .expected := if_pos (by rw [Nat.mod_eq_of_lt hpsn, hexp])
  simp only [State.request, serves_receive h, serves_wake h, hud, Bool.false_eq_true, if_false, serves_refuses h, hlevel, or_self, hclass]

end

/-- A request that is seen leaves all but the dwells of the deep reef states. -/
theorem requestSeen_store (s : State) : SameStore s s.requestSeen := ⟨rfl, rfl, rfl, rfl⟩

/-! ### What a taken packet leaves of its queue pair -/

/-- A packet whose queue pair goes on to the next PSN is accepted. -/
theorem accepted_of {v : State} {p : Packet} {i : Nat} {f : Qp → Qp} (hack : (f (v.qp i)).ackPend = none)
    (hexp : (f (v.qp i)).expPsn = psnAdd p.psn 1) (hrx : (f (v.qp i)).rx = none) :
    Accepted ((v.modQp i f).ackLater i p.psn) p i := by
  have hqp : ((v.modQp i f).ackLater i p.psn).qp i = { f (v.qp i) with ackPend := some p.psn } := by
    rw [State.ackLater, qp_modQp, qp_modQp, hack]
  rw [Accepted, hqp]
  exact ⟨hexp, rfl, hrx⟩

/-- A key that passes its checks for an access of module memory. -/
theorem withKey_ok {s : State} {i : Nat} {q : Qp} {psn key va n al : Nat} {right : Right} {k : RKey} {off : Nat}
    (h : s.checkKey q key right va n al = .ok k off) (f : RKey → Nat → State) : s.withKey i q psn key right va n al f = f k off := by
  rw [State.withKey, h]

/-- Module memory is always resident. -/
theorem withPages_module {k : RKey} (hhost : k.host = false) (s : State) (i psn key off n : Nat) (pages : List (Nat × Nat))
    (f : State → State) : s.withPages i psn key k off n pages f = f s := by
  simp only [State.withPages, State.missing, hhost, Bool.false_eq_true, if_false, Bool.not_false, if_true]

theorem regionWrite_module {k : RKey} (hhost : k.host = false) (s : State) (key off : Nat) (l : List Byte) (bad : Bool) :
    s.regionWrite key k off l bad = s.writeBytes 5 (k.start + off) l bad := by
  simp only [State.regionWrite, hhost, Bool.false_eq_true, if_false]

theorem regionRead_module {k : RKey} (hhost : k.host = false) (s : State) (key off n : Nat) (host : List Byte) :
    s.regionRead key k off n host = s.readBytes 5 (k.start + off) n := by
  simp only [State.regionRead, hhost, Bool.false_eq_true, if_false]

/-- A packet holds no more than its path allows. -/
theorem pmtu_le (q : Qp) : q.pmtu ≤ 16384 := by
  have hfield : q.field 59 3 < 2 ^ 3 := Nat.mod_lt _ (by decide)
  calc q.pmtu = 2 ^ (q.field 59 3 + 7) := rfl
    _ ≤ 2 ^ 14 := Nat.pow_le_pow_right (by decide) (by omega)
    _ = 16384 := by decide

/-! ### Sends and datagrams -/

/-- What a message of one packet does to its landing queue. -/
def landedItem (s : State) (i : Nat) (data : List Byte) : QItem :=
  { kind := .packet, src := .halyard ((s.qp i).qpn i), closed := true, complete := true, stroke := s.stroke.now
    qpn := (s.qp i).qpn i, bytes := data.length, cycle := s.stroke.cycle
    words := ⟨ctrlWord 2 (streamWords data).length data.length (Producer.halyard ((s.qp i).qpn i)).code 0 s.stroke.now ((s.qp i).qpn i) 0,
      false⟩ :: dataWords false (streamWords data) }

theorem landed_of {s v t : State} {n i : Nat} {data : List Byte} (hitem : landedItem v i data = landedItem s i data)
    (hitems : (t.queue n).items = (s.queue n).items ++ [landedItem v i data]) : Landed s t n i data := by
  rw [Landed, hitems, hitem]
  simp only [landedItem, dataWords]

/-- A message of one packet lands where its queue has room. -/
theorem oneMessage_lands {s : State} {n i : Nat} {data : List Byte} (hunopened : (s.queue n).unopened) {room : Nat}
    (hroom : (s.queue n).level + room ≤ (s.queue n).cap) (hfits : (data.length + 23) / 24 + 2 ≤ room) (hlen : data.length ≤ 65536) :
    QueueHolds s ((s.openMsg n (.halyard ((s.qp i).qpn i)) false (streamWords data)).closeMsg n (.halyard ((s.qp i).qpn i))
      ((s.qp i).qpn i) data.length) n ((s.queue n).items ++ [landedItem s i data]) := by
  have hwords := (streamWords_length data).1
  exact message_lands (p := .halyard ((s.qp i).qpn i)) ((s.qp i).qpn i) data rfl hunopened (by omega) (by omega)

theorem openItem_none {q : Queue} (h : q.unopened) : q.openItem.isSome = false := by rw [h.1]; rfl

/-- An expected Send of one packet. -/
theorem landSend_lands {s : State} {p : Packet} {i : Nat} (hexpected : Expected s p i) (hop : p.opcode = 4) (hbad : p.bad = false)
    (hpmtu : p.payload.length ≤ (s.qp i).pmtu) (hmax : p.payload.length ≤ (s.qp i).maxMsg)
    (hunopened : (s.queue (s.landingOf i)).unopened)
    (hroom : (s.queue (s.landingOf i)).level + (s.qp i).sendRoom ≤ (s.queue (s.landingOf i)).cap) :
    (s.landSend i (s.qp i) p).mem = s.mem ∧ Accepted (s.landSend i (s.qp i) p) p i ∧
      ((s.landSend i (s.qp i) p).queue (s.landingOf i)).items =
        (s.queue (s.landingOf i)).items ++ [landedItem s i p.payload] := by
  obtain ⟨hud, hrx, hack, hpsn, hexp⟩ := hexpected
  have hlands := oneMessage_lands (i := i) hunopened hroom
    (by rw [Qp.sendRoom]; omega) (Nat.le_trans hpmtu (Nat.le_trans (pmtu_le _) (by decide)))
  have hpart : partOf (p.opcode % 0x40) = (.only, false) := by rw [hop]; rfl
  have hok : partOk none 0 (s.qp i).pmtu p.payload.length .only = true := by simp [partOk, hpmtu]
  obtain ⟨v, hv⟩ : ∃ v, v = (s.openMsg (s.landingOf i) (.halyard ((s.qp i).qpn i)) false (streamWords p.payload)).closeMsg
    (s.landingOf i) (.halyard ((s.qp i).qpn i)) ((s.qp i).qpn i) p.payload.length := ⟨_, rfl⟩
  have hstep : s.landSend i (s.qp i) p = (v.advance1 i 1).ackLater i p.psn := by
    simp only [State.landSend, hpart, hok, hrx, Option.map_none, Option.getD_none, Nat.zero_add, gt_iff_lt, Nat.not_lt.mpr hmax,
      Bool.not_true, Bool.false_eq_true, if_false, openItem_none hunopened, Nat.not_lt.mpr hroom, or_self, hbad, ← hv]
  rw [← hv] at hlands
  have hqp : v.qp i = s.qp i := congrArg (fun n : Net => n.halyard.qps.get {} i) hlands.net
  rw [hstep]
  refine ⟨hlands.mem, accepted_of ?_ ?_ ?_, hlands.items⟩
  · rw [hqp]; exact hack
  · rw [hqp, hexp]
  · rw [hqp]; exact hrx

/-- A datagram. -/
theorem landUd_lands {s : State} {p : Packet} {i : Nat} (hop : p.opcode = 0x64) (hbad : p.bad = false) (hkey : p.qkey = (s.qp i).qkey)
    (hpmtu : p.payload.length ≤ (s.qp i).pmtu) (hmax : p.payload.length ≤ (s.qp i).maxMsg)
    (hunopened : (s.queue (s.landingOf i)).unopened)
    (hroom : (s.queue (s.landingOf i)).level + max (s.qp i).sendRoom ((40 + p.payload.length + 23) / 24 + 2) ≤
      (s.queue (s.landingOf i)).cap) :
    (s.landUd i (s.qp i) p).mem = s.mem ∧ ((s.landUd i (s.qp i) p).queue (s.landingOf i)).items =
      (s.queue (s.landingOf i)).items ++ [landedItem s i (padTo 40 (p.grh.take 40) ++ p.payload)] := by
  have hdata : (padTo 40 (p.grh.take 40) ++ p.payload).length = 40 + p.payload.length := by
    simp only [padTo, List.length_append, List.length_take, List.length_replicate]
    omega
  have hpath := pmtu_le (s.qp i)
  have hlands := oneMessage_lands (i := i) (data := padTo 40 (p.grh.take 40) ++ p.payload) hunopened hroom
    (by rw [hdata]; omega) (by omega)
  have hstep : s.landUd i (s.qp i) p = (s.openMsg (s.landingOf i) (.halyard ((s.qp i).qpn i)) false
      (streamWords (padTo 40 (p.grh.take 40) ++ p.payload))).closeMsg (s.landingOf i) (.halyard ((s.qp i).qpn i)) ((s.qp i).qpn i)
      (padTo 40 (p.grh.take 40) ++ p.payload).length := by
    have hcode : ¬ p.opcode = 0x65 := by rw [hop]; decide
    have hfull : ¬ (s.queue (s.landingOf i)).level + max (s.qp i).sendRoom
        (((padTo 40 (p.grh.take 40) ++ p.payload).length + 23) / 24 + 2) > (s.queue (s.landingOf i)).cap := by
      rw [hdata]; omega
    simp only [State.landUd, hkey, ne_eq, not_true_eq_false, gt_iff_lt, Nat.not_lt.mpr hpmtu, Nat.not_lt.mpr hmax, or_self, if_false,
      openItem_none hunopened, Bool.false_eq_true, false_or, hbad, hcode] at hfull ⊢
    rw [if_neg hfull]
  rw [hstep]
  exact ⟨hlands.mem, hlands.items⟩

/-! ### Writes, Reads and atomics -/

/-- An expected Write of one packet. -/
theorem landWrite_lands {s : State} {p : Packet} {i : Nat} {k : RKey} {off : Nat} (hhost : k.host = false) (hexpected : Expected s p i)
    (hop : p.opcode = 0xA) (hbad : p.bad = false) (hlen : p.payload.length = p.len) (hpmtu : p.len ≤ (s.qp i).pmtu)
    (hkey : s.checkKey (s.qp i) p.key .write p.va p.len 1 = .ok k off) :
    (s.landWrite i (s.qp i) p).mem = (s.writeBytes 5 (k.start + off) p.payload).mem ∧ Accepted (s.landWrite i (s.qp i) p) p i := by
  obtain ⟨hud, hrx, hack, hpsn, hexp⟩ := hexpected
  have hpart : partOf (p.opcode % 0x40 - 6) = (.only, false) := by rw [hop]; rfl
  have hok : partOk none 1 (s.qp i).pmtu p.len .only = true := by simp [partOk, hpmtu]
  obtain ⟨v, hv⟩ : ∃ v, v = s.writeBytes 5 (k.start + off) p.payload := ⟨_, rfl⟩
  have hmem := memOnly_writeBytes s 5 (k.start + off) p.payload false
  rw [← hv] at hmem
  have hqp : v.qp i = s.qp i := by rw [hmem]; rfl
  have hstep : s.landWrite i (s.qp i) p =
      (v.modQp i fun y => { y with rx := none, expPsn := psnAdd y.expPsn 1, nakSent := false }).ackLater i p.psn := by
    simp only [State.landWrite, hpart, hrx, hok, withKey_ok hkey, State.placeWrite, hlen, Nat.zero_add, gt_iff_lt, Nat.lt_irrefl,
      reduceCtorEq, or_true, ne_eq, not_true_eq_false, and_false, or_self, hbad, withPages_module hhost, regionWrite_module hhost,
      Nat.add_zero, if_true, Bool.not_true, Bool.false_eq_true, if_false, ← hv]
  rw [hstep, ← hv]
  refine ⟨rfl, accepted_of ?_ ?_ rfl⟩
  · rw [hqp]; exact hack
  · rw [hqp, hexp]

/-- The pages of a packet that fits its path are one packet. -/
theorem packets_one {q : Qp} {len : Nat} (hpos : 1 ≤ len) (h : len ≤ q.pmtu) : q.packets len = 1 := by
  have hdiv : (len + q.pmtu - 1) / q.pmtu ≤ 1 := by
    rw [Nat.div_le_iff_le_mul_add_pred (by omega)]
    omega
  rw [Qp.packets]
  omega

/-- A clean read of one state, from another that stores the same. -/
theorem readBytes_elsewhere {s v : State} (hstore : SameStore s v) {req a n : Nat} {data : List Byte}
    (hread : s.readBytes req a n = (data, false, s)) :
    ∃ u, v.readBytes req a n = (data, false, u) ∧ Carriage.ReadsOnly v u ∧ SameStore s u := by
  obtain ⟨hdata, hbad, hrest⟩ := readBytes_same hstore req a n
  rw [hread] at hdata hbad hrest
  exact ⟨(v.readBytes req a n).2.2, Prod.ext hdata (Prod.ext hbad rfl), Carriage.readsOnly_readBytes v req a n, hrest⟩

theorem ReadsOnly.qp {s t : State} (h : Carriage.ReadsOnly s t) (i : Nat) : t.qp i = s.qp i := by rw [h]; rfl

/-- A response of one packet. -/
theorem readResponses_one {v u : State} {p : Packet} {i : Nat} {k : RKey} {off : Nat} {data : List Byte} (hhost : k.host = false)
    (hpsn : p.psn < psnMod) (hpmtu : p.len ≤ (v.qp i).pmtu) (hread : v.readBytes 5 (k.start + off) p.len = (data, false, u)) :
    State.readResponses 2 v i p k off 0 1 = { u with out := .rdma (v.qp i).dest 0x10 p.psn [] data :: u.out } := by
  have hlen : min (v.qp i).pmtu (p.len - 0) = p.len := by rw [Nat.sub_zero, Nat.min_eq_right hpmtu]
  have hfirst : psnAdd p.psn 0 = p.psn := Nat.mod_eq_of_lt hpsn
  have hemit : u.emit (.rdma (v.qp i).dest 0x10 p.psn [] data) =
      { u with out := .rdma (v.qp i).dest 0x10 p.psn [] data :: u.out } := u.emit_plain _ rfl
  have hop : respOp 0 1 = 0x10 := rfl
  rw [State.readResponses, if_neg (by decide)]
  simp only [Nat.zero_mul, hlen, Nat.add_zero, regionRead_module hhost, hread, Bool.false_eq_true, if_false, hop, hfirst, hemit]
  rw [State.readResponses, if_pos (by decide)]

/-- An expected Read of one packet. -/
theorem doRead_answers {s v : State} {p : Packet} {i : Nat} {k : RKey} {off : Nat} {data : List Byte} (hhost : k.host = false)
    (hstore : SameStore s v) (hqp : v.qp i = s.qp i) (hexpected : Expected s p i) (hpos : 1 ≤ p.len) (hpmtu : p.len ≤ (s.qp i).pmtu)
    (hkey : v.checkKey (s.qp i) p.key .read p.va p.len 1 = .ok k off)
    (hread : s.readBytes 5 (k.start + off) p.len = (data, false, s)) :
    (v.doRead i (s.qp i) p true).mem = s.mem ∧ ((v.doRead i (s.qp i) p true).qp i).expPsn = psnAdd p.psn 1 ∧
      Out.rdma (s.qp i).dest 0x10 p.psn [] data ∈ (v.doRead i (s.qp i) p true).out := by
  obtain ⟨-, -, -, hpsn, hexp⟩ := hexpected
  obtain ⟨w, hw⟩ : ∃ w, w = v.advance1 i 1 := ⟨_, rfl⟩
  have hwqp : w.qp i = { s.qp i with expPsn := psnAdd p.psn 1, nakSent := false } := by
    rw [hw, State.advance1, qp_modQp, hqp, hexp]
  obtain ⟨u, hu, hreads, hmem⟩ := readBytes_elsewhere (v := w) (hw ▸ hstore.trans ⟨rfl, rfl, rfl, rfl⟩) hread
  have hpath : p.len ≤ (w.qp i).pmtu := by rw [hwqp]; exact hpmtu
  have hstep : v.doRead i (s.qp i) p true = { u with out := .rdma (w.qp i).dest 0x10 p.psn [] data :: u.out } := by
    simp only [State.doRead, withKey_ok hkey, withPages_module hhost, packets_one hpos hpmtu, if_true, ← hw]
    exact readResponses_one hhost hpsn hpath hu
  have huqp := ReadsOnly.qp hreads i
  rw [hstep]
  refine ⟨hmem.mem, ?_, ?_⟩
  · change (u.qp i).expPsn = _
    rw [huqp, hwqp]
  · rw [hwqp]
    exact List.mem_cons_self

/-- An expected atomic. -/
theorem doAtomic_executes {s v : State} {p : Packet} {i : Nat} {k : RKey} {off : Nat} {data : List Byte} (hhost : k.host = false)
    (hstore : SameStore s v) (hqp : v.qp i = s.qp i) (hexpected : Expected s p i) (hbad : p.bad = false)
    (hkey : v.checkKey (s.qp i) p.key .atomic p.va 8 8 = .ok k off)
    (hread : s.readBytes 5 (k.start + off) 8 = (data, false, s)) :
    ((v.doAtomic i (s.qp i) p).qp i).expPsn = psnAdd p.psn 1 ∧
      ((v.doAtomic i (s.qp i) p).qp i).atomicPend = (s.qp i).atomicPend ++ [(p.psn, ofLe data)] ∧
      (v.doAtomic i (s.qp i) p).mem = (s.writeBytes 5 (k.start + off) (toLe 8 (atomicValue p.opcode (ofLe data) p.op0 p.op1))).mem := by
  obtain ⟨-, -, -, hpsn, hexp⟩ := hexpected
  obtain ⟨u, hu, hreads, husame⟩ := readBytes_elsewhere hstore hread
  obtain ⟨w, hw⟩ : ∃ w, w = u.writeBytes 5 (k.start + off) (toLe 8 (atomicValue p.opcode (ofLe data) p.op0 p.op1)) := ⟨_, rfl⟩
  have hwsame := writeBytes_same husame 5 (k.start + off) (toLe 8 (atomicValue p.opcode (ofLe data) p.op0 p.op1)) false
  have hwmem := memOnly_writeBytes u 5 (k.start + off) (toLe 8 (atomicValue p.opcode (ofLe data) p.op0 p.op1)) false
  rw [← hw] at hwsame hwmem
  have hwqp : w.qp i = s.qp i := by
    rw [← hqp, ← ReadsOnly.qp hreads i, hwmem]
    rfl
  have hstep : v.doAtomic i (s.qp i) p = w.modQp i fun y => { y with
      expPsn := psnAdd y.expPsn 1, nakSent := false, atomics := ((p.psn, ofLe data) :: y.atomics).take (s.qp i).respDepth
      atomicPend := y.atomicPend ++ [(p.psn, ofLe data)] } := by
    simp only [State.doAtomic, withKey_ok hkey, hbad, Bool.false_eq_true, if_false, regionRead_module hhost, hu, regionWrite_module hhost,
      ← hw]
  rw [hstep, qp_modQp, hwqp, hexp]
  exact ⟨rfl, rfl, hwsame.mem⟩

/-! ### Accumulates -/

/-- Reducing a payload lengthens it not. -/
theorem accReduce_length (fmt q : Nat) {l : List Byte} (h : l.length % 8 = 0) : (accReduce fmt q l).length ≤ l.length := by
  have hchunks := chunksOf_length (l.length / 8 + 1) 8 (by decide) l
  have hflat (m : List (List Byte)) : (m.flatMap fun c => toLe 8 (ofLe c % q)).length = 8 * m.length := by
    induction m with
    | nil => rfl
    | cons c m ih => rw [List.flatMap_cons, List.length_append, ih, CoreStores.toLe_length, List.length_cons]; omega
  unfold accReduce
  split
  · rw [hflat]
    omega
  · exact Nat.le_refl _

theorem feederWords_length (addr fmt q i base : Nat) {l : List Byte} (h : l.length % 16 = 0) :
    (feederWords addr fmt q i base l).length ≤ l.length / 16 + 1 := by
  have hreduce := accReduce_length fmt q (l := l) (by omega)
  have hchunks := chunksOf_length (l.length / 16 + 1) 16 (by decide) (accReduce fmt q l)
  rw [feederWords, List.length_cons, List.length_map]
  have hdiv : ((accReduce fmt q l).length + (16 - 1)) / 16 ≤ l.length / 16 := by omega
  omega

theorem accSpan_zero (fmt : Nat) : accSpan fmt 0 = 0 := by
  rw [accSpan, Nat.mul_zero, ite_self]

/-- An accumulate packet that has room lands in its feeder queue. -/
theorem feed_lands {s : State} {i : Nat} (addr fmt q base : Nat) {l : List Byte} (hlen : l.length % 16 = 0)
    (hunopened : (s.queue (feederOf i)).unopened) (hroom : s.feederRoom (feederOf i) (l.length / 16 + 1) = true) :
    ∃ t x, s.feed i addr fmt q base false l = t ∧ QueueHolds s t (feederOf i) ((s.queue (feederOf i)).items ++ [x]) ∧
      x.complete = true ∧ x.words.drop 1 = (feederWords addr fmt q i base l).map fun w => { w := tagWord 1 w } := by
  have hwords := feederWords_length addr fmt q i base hlen
  have hfit : (s.queue (feederOf i)).level + (l.length / 16 + 1) + 1 ≤ (s.queue (feederOf i)).cap :=
    of_decide_eq_true (Bool.and_eq_true_iff.mp hroom).2
  obtain ⟨t, ht, hholds⟩ := putPacket_accepts (s := s) (n := feederOf i) (.halyard ((s.qp i).qpn i)) (feederWords addr fmt q i base l)
    l.length ((s.qp i).qpn i) 0 hunopened.1 hunopened.2 (by omega)
  refine ⟨t, _, ?_, hholds, rfl, rfl⟩
  simp only [State.feed, ht, Bool.not_false, if_true]

/-- An expected Accumulate-Write of one packet. -/
theorem landAcc_lands {s : State} {p : Packet} {i : Nat} {k : RKey} {off : Nat} (hexpected : Expected s p i) (hop : p.opcode = 0xC4)
    (hbad : p.bad = false) (hext : (s.qp i).ext = true) (hlen : p.payload.length = p.len) (hpmtu : p.len ≤ (s.qp i).pmtu)
    (hacc : accOk p.fmt p.q p.va p.len = true) (hkey : s.checkKey (s.qp i) p.key .acc p.va (accSpan p.fmt p.len) 1 = .ok k off)
    (hunopened : (s.queue (feederOf i)).unopened) (hroom : s.feederRoom (feederOf i) (p.len / 16 + 1) = true) :
    (s.landAcc i (s.qp i) p).mem = s.mem ∧ Accepted (s.landAcc i (s.qp i) p) p i ∧
      ∃ x, ((s.landAcc i (s.qp i) p).queue (feederOf i)).items = (s.queue (feederOf i)).items ++ [x] ∧ x.complete = true ∧
        x.words.drop 1 = (feederWords (k.start + off) p.fmt p.q i p.psn p.payload).map fun w => { w := tagWord 1 w } := by
  obtain ⟨-, hrx, hack, hpsn, hexp⟩ := hexpected
  have hmod : p.len % 16 = 0 := of_decide_eq_true (Bool.and_eq_true_iff.mp hacc).2
  have hpart : partOf (p.opcode - 0xC0) = (.only, false) := by rw [hop]; rfl
  have hcode : ¬ p.opcode > 0xC5 := by rw [hop]; decide
  have hok : partOk none 2 (s.qp i).pmtu p.len .only = true := by simp [partOk, hpmtu]
  obtain ⟨t, x, ht, hholds, hcomplete, hwords⟩ := feed_lands (s := s) (i := i) (k.start + off) p.fmt p.q p.psn (l := p.payload)
    (by rw [hlen]; exact hmod) hunopened (by rw [hlen]; exact hroom)
  have hqp : t.qp i = s.qp i := congrArg (fun n : Net => n.halyard.qps.get {} i) hholds.net
  have hstep : s.landAcc i (s.qp i) p =
      (t.modQp i fun y => { y with rx := none, expPsn := psnAdd y.expPsn 1, nakSent := false }).ackLater i p.psn := by
    simp only [State.landAcc, hext, hcode, hpart, hrx, hlen, hok, withKey_ok hkey, hacc, State.placeAcc, Nat.zero_add, gt_iff_lt,
      Nat.lt_irrefl, reduceCtorEq, or_true, ne_eq, not_true_eq_false, and_false, hmod, or_self, accSpan_zero, Nat.add_zero, hroom, hbad, ht,
      Bool.not_true, Bool.false_eq_true, if_false, if_true]
  rw [hstep]
  refine ⟨hholds.mem, accepted_of ?_ ?_ rfl, x, hholds.items, hcomplete, hwords⟩
  · rw [hqp]; exact hack
  · rw [hqp, hexp]

/-! ### Spray packets -/

theorem spill_unitMarker (s : State) (n : Nat) (p : Producer) (w : W256) : SpillOnly s (s.unitMarker n p w) := by
  have hput : SpillOnly s (s.produce n p 4 w).2 := by
    change SpillOnly s (s.putMarker n p _).2
    unfold State.putMarker
    dsimp only
    split
    · exact .refl s
    split
    · exact .refl s
    split
    · exact spill_queueOverrun s n
    · dsimp only
      split
      · exact spill_setQueue s n _
      · exact (spill_setQueue s n _).trans (.of_events (events_itemDone _ n))
  unfold State.unitMarker
  dsimp only
  split
  · exact ⟨rfl, fun _ _ _ _ _ => rfl, SentGrows.refl s⟩
  · exact hput

/-- `t` has the memory and the spray contexts of `s`. -/
structure KeepsSpray (s t : State) : Prop where
  mem : t.mem = s.mem
  spray : t.halyard.spray = s.halyard.spray

theorem KeepsSpray.trans {s t v : State} (h : KeepsSpray s t) (k : KeepsSpray t v) : KeepsSpray s v :=
  ⟨k.mem.trans h.mem, k.spray.trans h.spray⟩

theorem keeps_spill {s t : State} (h : SpillOnly s t) : KeepsSpray s t := ⟨h.mem, congrArg (fun n : Net => n.halyard.spray) h.net⟩

theorem keeps_sendNotices (fuel : Nat) : ∀ s : State, KeepsSpray s (State.sendNotices fuel s) := by
  induction fuel with
  | zero => exact fun _ => ⟨rfl, rfl⟩
  | succ f ih =>
    intro s
    rw [State.sendNotices]
    split
    · exact ⟨rfl, rfl⟩
    · next n _ =>
      have herase : KeepsSpray s (s.setHalyard { s.halyard with notices := s.halyard.notices.erase n }) := ⟨rfl, rfl⟩
      refine KeepsSpray.trans (t := _) ?_ (ih _)
      split
      · exact herase.trans (keeps_spill (spill_unitMarker _ _ _ _))
      · exact herase

theorem keeps_sprayAdvance (fuel i : Nat) : ∀ s : State, KeepsSpray s (State.sprayAdvance fuel i s) := by
  induction fuel with
  | zero => exact fun _ => ⟨rfl, rfl⟩
  | succ f ih =>
    intro s
    have hpass (n : Nat) : KeepsSpray s (s.advance1 i n) := ⟨rfl, rfl⟩
    rw [State.sprayAdvance]
    split
    · exact (hpass _).trans (ih _)
    · split
      · exact (hpass _).trans (ih _)
      · exact ⟨rfl, rfl⟩

/-- The context that a packet opens, with the packet's bit set. -/
def openedCtx (q : Qp) (i : Nat) (p : Packet) (acc : Bool) (imm : Option Nat) : SprayCtx :=
  { qp := i, base := p.base, len := p.len, pkts := q.packets p.len, got := [p.idx], acc := acc, imm := imm, key := p.key
    full := decide (1 ≥ q.packets p.len) }

/-- The bit of a packet set in its context. -/
def marked (s : State) (i : Nat) (p : Packet) : State :=
  s.modSpray i p.base fun c =>
    let g := p.idx :: c.got
    { c with got := g, full := decide (g.length ≥ c.pkts) }

theorem keeps_sprayTake (s : State) (i : Nat) (p : Packet) : KeepsSpray (marked s i p) (s.sprayTake i p) := keeps_sprayAdvance _ _ _

/-- A context opens and takes its first packet. -/
theorem sprayTake_opened (s : State) (i : Nat) (q : Qp) (p : Packet) : ((s.sprayOpen i q p).sprayTake i p).mem = s.mem ∧
    ∃ acc imm, openedCtx q i p acc imm ∈ ((s.sprayOpen i q p).sprayTake i p).halyard.spray := by
  obtain ⟨hmem, hspray⟩ := keeps_sprayTake (s.sprayOpen i q p) i p
  refine ⟨hmem, decide (p.opcode ≥ 0xCA), if p.opcode % 2 = 1 then some p.imm else none, ?_⟩
  have hlast : (s.sprayOpen i q p).halyard.spray = s.halyard.spray ++ [{
      qp := i, base := p.base, len := p.len, pkts := q.packets p.len, got := [], acc := decide (p.opcode ≥ 0xCA)
      imm := if p.opcode % 2 = 1 then some p.imm else none, key := p.key }] := rfl
  rw [hspray]
  refine List.mem_map.mpr ⟨_, hlast ▸ List.mem_append_right _ List.mem_cons_self, ?_⟩
  rw [if_pos ⟨rfl, rfl⟩]
  rfl

/-- The first spray packet of a message. -/
theorem landSpray_lands {s : State} {p : Packet} {i : Nat} {k : RKey} {off : Nat} (hhost : k.host = false) (hop : p.opcode = 0xC8)
    (hbad : p.bad = false) (hext : (s.qp i).ext = true) (hspray : (s.qp i).spray = true) (hok : sprayOk (s.qp i) p none = true)
    (hfresh : ∀ c ∈ s.sprayOf i, c.base ≠ p.base) (hdup : s.sprayDup i (s.qp i) p = false) (htable : s.halyard.spray.length < 1024)
    (hpair : (s.sprayOf i).length < 64) (hkey : s.checkKey (s.qp i) p.key .write p.va p.len 1 = .ok k off) :
    (s.landSpray i (s.qp i) p).mem = (s.writeBytes 5 (k.start + off + p.idx * (s.qp i).pmtu) p.payload).mem ∧
      ∃ acc imm, openedCtx (s.qp i) i p acc imm ∈ (s.landSpray i (s.qp i) p).halyard.spray := by
  have hnone : (s.sprayOf i).find? (fun x => decide (x.base = p.base)) = none := by
    rw [List.find?_eq_none]
    exact fun c hc => by simpa using hfresh c hc
  obtain ⟨w, hw⟩ : ∃ w, w = s.writeBytes 5 (k.start + off + p.idx * (s.qp i).pmtu) p.payload := ⟨_, rfl⟩
  have hstep : s.landSpray i (s.qp i) p = (((w.sprayOpen i (s.qp i) p).sprayTake i p).noticeStep i p.base).deliverNotices := by
    have hlow : ¬ p.opcode < 0xC8 := by rw [hop]; decide
    have hhigh : ¬ p.opcode > 0xCB := by rw [hop]; decide
    have hacc : ¬ p.opcode ≥ 0xCA := by rw [hop]; decide
    simp only [State.landSpray, hnone, hext, hspray, hlow, hhigh, hok, hdup, ge_iff_le, Nat.not_le.mpr htable, Nat.not_le.mpr hpair,
      or_self, Bool.not_true, Bool.false_eq_true, if_false, State.sprayPlace, hacc, decide_false, withKey_ok hkey, hbad,
      withPages_module hhost, regionWrite_module hhost, if_true, hw, Nat.add_assoc] at hacc ⊢
  obtain ⟨hmem, acc, imm, hin⟩ := sprayTake_opened w i (s.qp i) p
  have hnotices : KeepsSpray ((w.sprayOpen i (s.qp i) p).sprayTake i p)
      (((w.sprayOpen i (s.qp i) p).sprayTake i p).noticeStep i p.base).deliverNotices :=
    KeepsSpray.trans (t := ((w.sprayOpen i (s.qp i) p).sprayTake i p).noticeStep i p.base) ⟨rfl, rfl⟩ (keeps_sendNotices _ _)
  rw [hstep, ← hw]
  exact ⟨hnotices.mem.trans hmem, acc, imm, hnotices.spray ▸ hin⟩

/-! ### The rows of the responder -/

theorem exec_rxSendPacket (p : Packet) (cycle : Nat) (s : State) :
    exec (.rxSendPacket p cycle) s = packetRow p (fun o => decide (o ≤ 5) || strayOp o) cycle s := rfl

theorem exec_rxWritePacket (p : Packet) (cycle : Nat) (s : State) :
    exec (.rxWritePacket p cycle) s = packetRow p (fun o => decide (6 ≤ o ∧ o ≤ 0xB)) cycle s := rfl

theorem exec_rxReadRequest (p : Packet) (cycle : Nat) (s : State) :
    exec (.rxReadRequest p cycle) s = packetRow p (fun o => decide (o = 0xC)) cycle s := rfl

theorem exec_rxAtomic (p : Packet) (cycle : Nat) (s : State) :
    exec (.rxAtomic p cycle) s = packetRow p (fun o => decide (o = 0x13 ∨ o = 0x14)) cycle s := rfl

theorem exec_rxUdSend (p : Packet) (cycle : Nat) (s : State) :
    exec (.rxUdSend p cycle) s = packetRow p (fun o => decide (o = 0x64 ∨ o = 0x65)) cycle s := rfl

theorem exec_rxAccWritePacket (p : Packet) (cycle : Nat) (s : State) :
    exec (.rxAccWritePacket p cycle) s = packetRow p (fun o => decide (0xC0 ≤ o ∧ o ≤ 0xC5)) cycle s := rfl

theorem exec_rxSprayPacket (p : Packet) (cycle : Nat) (s : State) :
    exec (.rxSprayPacket p cycle) s = packetRow p (fun o => decide (0xC8 ≤ o ∧ o ≤ 0xCB)) cycle s := rfl

/-- Opcodes a row takes. -/
theorem rows_hold {s : State} {p : Packet} {cycle : Nat} {c : Instr} {l : List Nat} (hhold : (s.atCycle cycle).holding = true)
    (hop : p.opcode ∈ l)
    (hrow : (c, l) ∈ [(Instr.rxSendPacket p cycle, [0, 1, 2, 3, 4, 5]), (.rxWritePacket p cycle, [6, 7, 8, 9, 10, 11]),
      (.rxReadRequest p cycle, [12]), (.rxAtomic p cycle, [0x13, 0x14]), (.rxUdSend p cycle, [0x64, 0x65]),
      (.rxAccWritePacket p cycle, [0xC0, 0xC1, 0xC2, 0xC3, 0xC4, 0xC5]), (.rxSprayPacket p cycle, [0xC8, 0xC9, 0xCA, 0xCB])]) :
    exec c s = .next ((s.atCycle cycle).setHalyard { s.halyard with held := s.halyard.held ++ [p] }) := by
  simp only [List.mem_cons, Prod.mk.injEq, List.not_mem_nil, or_false] at hrow
  rcases hrow with ⟨rfl, rfl⟩ | ⟨rfl, rfl⟩ | ⟨rfl, rfl⟩ | ⟨rfl, rfl⟩ | ⟨rfl, rfl⟩ | ⟨rfl, rfl⟩ | ⟨rfl, rfl⟩
  · rw [exec_rxSendPacket]
    exact packetRow_holds ((by decide : ∀ o ∈ [0, 1, 2, 3, 4, 5], (decide (o ≤ 5) || strayOp o) = true) _ hop) hhold
  · rw [exec_rxWritePacket]
    exact packetRow_holds ((by decide : ∀ o ∈ [6, 7, 8, 9, 10, 11], decide (6 ≤ o ∧ o ≤ 0xB) = true) _ hop) hhold
  · rw [exec_rxReadRequest]
    exact packetRow_holds ((by decide : ∀ o ∈ [12], decide (o = 0xC) = true) _ hop) hhold
  · rw [exec_rxAtomic]
    exact packetRow_holds ((by decide : ∀ o ∈ [0x13, 0x14], decide (o = 0x13 ∨ o = 0x14) = true) _ hop) hhold
  · rw [exec_rxUdSend]
    exact packetRow_holds ((by decide : ∀ o ∈ [0x64, 0x65], decide (o = 0x64 ∨ o = 0x65) = true) _ hop) hhold
  · rw [exec_rxAccWritePacket]
    exact packetRow_holds ((by decide : ∀ o ∈ [0xC0, 0xC1, 0xC2, 0xC3, 0xC4, 0xC5], decide (0xC0 ≤ o ∧ o ≤ 0xC5) = true) _ hop) hhold
  · rw [exec_rxSprayPacket]
    exact packetRow_holds ((by decide : ∀ o ∈ [0xC8, 0xC9, 0xCA, 0xCB], decide (0xC8 ≤ o ∧ o ≤ 0xCB) = true) _ hop) hhold

section
variable {s : State} {p : Packet} {i : Nat} (h : Serves s p i)
include h

theorem takePacket_send (hexpected : Expected s p i) (hop : p.opcode = 4) :
    s.takePacket p false = s.requestSeen.landSend i (s.qp i) p := by
  rw [State.takePacket, if_pos (by rw [hop]; decide), request_expected h hexpected]

theorem takePacket_write (hexpected : Expected s p i) (hop : p.opcode = 0xA) :
    s.takePacket p false = s.requestSeen.landWrite i (s.qp i) p := by
  rw [State.takePacket, if_neg (by rw [hop]; decide), if_pos (by rw [hop]; decide), request_expected h hexpected]

theorem takePacket_read (hexpected : Expected s p i) (hop : p.opcode = 0xC) :
    s.takePacket p false = s.requestSeen.doRead i (s.qp i) p true := by
  rw [State.takePacket, if_neg (by rw [hop]; decide), if_neg (by rw [hop]; decide), if_pos hop, request_expected h hexpected]
  simp only [hexpected.2.1, Option.isSome_none, Bool.false_eq_true, if_false]

theorem takePacket_atomic (hexpected : Expected s p i) (hop : p.opcode = 0x13 ∨ p.opcode = 0x14) :
    s.takePacket p false = s.requestSeen.doAtomic i (s.qp i) p := by
  rw [State.takePacket, if_neg (by omega), if_neg (by omega), if_neg (by omega), if_pos hop, request_expected h hexpected]
  simp only [hexpected.2.1, Option.isSome_none, Bool.false_eq_true, if_false]

theorem takePacket_datagram (hud : (s.qp i).ud = true) (hop : p.opcode = 0x64) :
    s.takePacket p false = s.landUd i (s.qp i) p := by
  obtain ⟨hrun, hhalt, hlevel, -⟩ := h.takes
  rw [State.takePacket, if_neg (by omega), if_neg (by omega), if_neg (by omega), if_neg (by omega), if_pos (.inl hop)]
  simp only [State.datagram, serves_receive h, hud, hrun, hhalt, ge_iff_le, Nat.not_le.mpr hlevel, Bool.not_true, Bool.false_eq_true,
    or_self, if_false]

theorem takePacket_acc (hexpected : Expected s p i) (hop : p.opcode = 0xC4) :
    s.takePacket p false = s.requestSeen.landAcc i (s.qp i) p := by
  rw [State.takePacket, if_neg (by omega), if_neg (by omega), if_neg (by omega), if_neg (by omega), if_neg (by omega),
    if_pos (by omega), request_expected h hexpected]

theorem takePacket_spray (hud : (s.qp i).ud = false) (hop : p.opcode = 0xC8) :
    s.takePacket p false = s.requestSeen.landSpray i (s.qp i) p := by
  have hlevel : ¬ s.reef.level ≥ 3 := Nat.not_le.mpr h.takes.2.2.1
  have hrow : 0xC8 ≤ p.opcode ∧ p.opcode ≤ 0xCB := by omega
  rw [State.takePacket, if_neg (by omega), if_neg (by omega), if_neg (by omega), if_neg (by omega), if_neg (by omega),
    if_neg (by omega)]
  simp only [serves_receive h, serves_wake h, hrow, hud, Bool.not_false, and_self, if_true, serves_refuses h, hlevel, Bool.false_eq_true,
    or_self, if_false]

end

/-- A quiet context sends its gaps. -/
theorem snakTimer_sends {s : State} {i base : Nat} {c : SprayCtx} (hsnaks : c.snaks < 8)
    (hfind : (s.sprayOf i).find? (fun x => decide (x.base = base) && !x.full) = some c) :
    s.snakTimer i base = ((s.emit (.rdma (s.qp i).dest 0xCD base [base] (snakBytes base c.pkts (gaps c.pkts c.got)))).bump
      .halyard 0 0x168).modSpray i base fun x => { x with snaks := x.snaks + 1 } := by
  rw [State.snakTimer, hfind]
  simp only [ge_iff_le, Nat.not_le.mpr hsnaks, if_false]

/-! ### A packet that is taken, whatever the stroke of its cycle -/

section
variable {s : State} {c : StrokeUnit} {p : Packet} {i : Nat} (hserves : Serves { s with stroke := c } p i) (hbad : p.bad = false)
include hserves hbad

theorem send_lands (hop : p.opcode = 4) (hexpected : Expected s p i) (hpmtu : p.payload.length ≤ (s.qp i).pmtu)
    (hmax : p.payload.length ≤ (s.qp i).maxMsg) (hunopened : (s.queue (s.landingOf i)).unopened)
    (hroom : (s.queue (s.landingOf i)).level + (s.qp i).sendRoom ≤ (s.queue (s.landingOf i)).cap) :
    (State.takePacket { s with stroke := c } p false).mem = s.mem ∧ Accepted (State.takePacket { s with stroke := c } p false) p i ∧
      Landed { s with stroke := c } (State.takePacket { s with stroke := c } p false) (s.landingOf i) i p.payload := by
  rw [takePacket_send hserves hexpected hop]
  obtain ⟨hmem, haccepted, hitems⟩ := landSend_lands (s := State.requestSeen { s with stroke := c }) hexpected hop hbad hpmtu hmax
    hunopened hroom
  exact ⟨hmem, haccepted, landed_of rfl hitems⟩

theorem datagram_lands (hop : p.opcode = 0x64) (hud : (s.qp i).ud = true) (hkey : p.qkey = (s.qp i).qkey)
    (hpmtu : p.payload.length ≤ (s.qp i).pmtu) (hmax : p.payload.length ≤ (s.qp i).maxMsg)
    (hunopened : (s.queue (s.landingOf i)).unopened)
    (hroom : (s.queue (s.landingOf i)).level + max (s.qp i).sendRoom ((40 + p.payload.length + 23) / 24 + 2) ≤
      (s.queue (s.landingOf i)).cap) :
    (State.takePacket { s with stroke := c } p false).mem = s.mem ∧
      Landed { s with stroke := c } (State.takePacket { s with stroke := c } p false) (s.landingOf i) i
        (padTo 40 (p.grh.take 40) ++ p.payload) := by
  rw [takePacket_datagram hserves hud hop]
  obtain ⟨hmem, hitems⟩ := landUd_lands (s := { s with stroke := c }) hop hbad hkey hpmtu hmax hunopened hroom
  exact ⟨hmem, landed_of rfl hitems⟩

variable {k : RKey} {off : Nat} (hhost : k.host = false)
include hhost

theorem write_lands (hop : p.opcode = 0xA) (hexpected : Expected s p i) (hlen : p.payload.length = p.len) (hpmtu : p.len ≤ (s.qp i).pmtu)
    (hkey : s.checkKey (s.qp i) p.key .write p.va p.len 1 = .ok k off) :
    Accepted (State.takePacket { s with stroke := c } p false) p i ∧
      (State.takePacket { s with stroke := c } p false).mem = (State.writeBytes { s with stroke := c } 5 (k.start + off) p.payload).mem := by
  rw [takePacket_write hserves hexpected hop]
  obtain ⟨hmem, haccepted⟩ := landWrite_lands (s := State.requestSeen { s with stroke := c }) hhost hexpected hop hbad hlen hpmtu hkey
  exact ⟨haccepted, hmem.trans (writeBytes_same (requestSeen_store _) _ _ _ _).mem⟩

omit hbad in
theorem read_lands {data : List Byte} (hop : p.opcode = 0xC) (hexpected : Expected s p i) (hpos : 1 ≤ p.len)
    (hpmtu : p.len ≤ (s.qp i).pmtu) (hkey : s.checkKey (s.qp i) p.key .read p.va p.len 1 = .ok k off)
    (hread : State.readBytes { s with stroke := c } 5 (k.start + off) p.len = (data, false, { s with stroke := c })) :
    (State.takePacket { s with stroke := c } p false).mem = s.mem ∧
      ((State.takePacket { s with stroke := c } p false).qp i).expPsn = psnAdd p.psn 1 ∧
      Out.rdma (s.qp i).dest 0x10 p.psn [] data ∈ (State.takePacket { s with stroke := c } p false).out := by
  rw [takePacket_read hserves hexpected hop]
  exact doRead_answers (s := { s with stroke := c }) hhost (requestSeen_store _) rfl hexpected hpos hpmtu hkey hread

theorem atomic_lands {data : List Byte} (hop : p.opcode = 0x13 ∨ p.opcode = 0x14) (hexpected : Expected s p i)
    (hkey : s.checkKey (s.qp i) p.key .atomic p.va 8 8 = .ok k off)
    (hread : State.readBytes { s with stroke := c } 5 (k.start + off) 8 = (data, false, { s with stroke := c })) :
    ((State.takePacket { s with stroke := c } p false).qp i).expPsn = psnAdd p.psn 1 ∧
      ((State.takePacket { s with stroke := c } p false).qp i).atomicPend = (s.qp i).atomicPend ++ [(p.psn, ofLe data)] ∧
      (State.takePacket { s with stroke := c } p false).mem = (State.writeBytes { s with stroke := c } 5 (k.start + off)
        (toLe 8 (if p.opcode = 0x14 then (ofLe data + p.op0) % 2 ^ 64
          else if ofLe data = p.op1 % 2 ^ 64 then p.op0 % 2 ^ 64 else ofLe data))).mem := by
  rw [takePacket_atomic hserves hexpected hop]
  exact doAtomic_executes (s := { s with stroke := c }) hhost (requestSeen_store _) rfl hexpected hbad hkey hread

omit hhost in
theorem acc_lands (hop : p.opcode = 0xC4) (hexpected : Expected s p i) (hext : (s.qp i).ext = true) (hlen : p.payload.length = p.len)
    (hpmtu : p.len ≤ (s.qp i).pmtu) (hacc : accOk p.fmt p.q p.va p.len = true)
    (hkey : s.checkKey (s.qp i) p.key .acc p.va (accSpan p.fmt p.len) 1 = .ok k off) (hunopened : (s.queue (feederOf i)).unopened)
    (hroom : s.feederRoom (feederOf i) (p.len / 16 + 1) = true) :
    (State.takePacket { s with stroke := c } p false).mem = s.mem ∧ Accepted (State.takePacket { s with stroke := c } p false) p i ∧
      ∃ x, ((State.takePacket { s with stroke := c } p false).queue (feederOf i)).items = (s.queue (feederOf i)).items ++ [x] ∧
        x.complete = true ∧
        x.words.drop 1 = (feederWords (k.start + off) p.fmt p.q i p.psn p.payload).map fun w => { w := tagWord 1 w } := by
  rw [takePacket_acc hserves hexpected hop]
  exact landAcc_lands (s := State.requestSeen { s with stroke := c }) hexpected hop hbad hext hlen hpmtu hacc hkey hunopened hroom

theorem spray_lands (hop : p.opcode = 0xC8) (hext : (s.qp i).ext = true) (hspray : (s.qp i).spray = true) (hud : (s.qp i).ud = false)
    (hok : sprayOk (s.qp i) p none = true) (hfresh : ∀ c ∈ s.sprayOf i, c.base ≠ p.base) (hdup : s.sprayDup i (s.qp i) p = false)
    (htable : s.halyard.spray.length < 1024) (hpair : (s.sprayOf i).length < 64)
    (hkey : s.checkKey (s.qp i) p.key .write p.va p.len 1 = .ok k off) :
    (State.takePacket { s with stroke := c } p false).mem =
        (State.writeBytes { s with stroke := c } 5 (k.start + off + p.idx * (s.qp i).pmtu) p.payload).mem ∧
      ∃ x ∈ (State.takePacket { s with stroke := c } p false).halyard.spray,
        x.qp = i ∧ x.base = p.base ∧ x.got = [p.idx] ∧ x.full = decide ((s.qp i).packets p.len ≤ 1) := by
  rw [takePacket_spray hserves hud hop]
  obtain ⟨hmem, acc, imm, hin⟩ := landSpray_lands (s := State.requestSeen { s with stroke := c }) hhost hop hbad hext hspray hok hfresh
    hdup htable hpair hkey
  exact ⟨hmem.trans (writeBytes_same (requestSeen_store _) _ _ _ _).mem, _, hin, rfl, rfl, rfl, rfl⟩

end

/-- Settles O51. -/
theorem halyardPackets : Obligations.HalyardPackets := by
  unfold Obligations.HalyardPackets
  refine ⟨fun s p cycle c l hhold hop hrow => rows_hold hhold hop hrow, ?lands, ?snak⟩
  case lands =>
    intro s p i cycle hlands hbad
    have hserves := lands_serves hlands
    have hrow (ok : Nat → Bool) (hok : ok p.opcode = true) := packetRow_takes (cycle := cycle) hok hlands.time
    obtain ⟨c, hc⟩ := s.atCycle_frame cycle
    rw [hc] at hserves hrow ⊢
    refine ⟨fun hop hexpected hpmtu hmax hunopened hroom => ⟨_, ?_, send_lands hserves hbad hop hexpected hpmtu hmax hunopened hroom⟩,
      fun hop hud hkey hpmtu hmax hunopened hroom => ⟨_, ?_, datagram_lands hserves hbad hop hud hkey hpmtu hmax hunopened hroom⟩,
      fun k off hhost => ⟨fun hop hexpected hlen hpmtu hkey => ⟨_, ?_, write_lands hserves hbad hhost hop hexpected hlen hpmtu hkey⟩,
        fun data hop hexpected hpos hpmtu hkey hread =>
          ⟨_, ?_, read_lands hserves hhost hop hexpected hpos hpmtu hkey hread⟩,
        fun data hop hexpected hkey hread => ⟨_, ?_, atomic_lands hserves hbad hhost hop hexpected hkey hread⟩,
        fun hop hexpected hext hlen hpmtu hacc hkey hunopened hroom =>
          ⟨_, ?_, acc_lands hserves hbad hop hexpected hext hlen hpmtu hacc hkey hunopened hroom⟩,
        fun hop hext hspray hud hok hfresh hdup htable hpair hkey =>
          ⟨_, ?_, spray_lands hserves hbad hhost hop hext hspray hud hok hfresh hdup htable hpair hkey⟩⟩⟩
    · exact (exec_rxSendPacket _ _ _).trans (hrow _ (by rw [hop]; rfl))
    · exact (exec_rxUdSend _ _ _).trans (hrow _ (by rw [hop]; rfl))
    · exact (exec_rxWritePacket _ _ _).trans (hrow _ (by rw [hop]; rfl))
    · exact (exec_rxReadRequest _ _ _).trans (hrow _ (by rw [hop]; rfl))
    · exact (exec_rxAtomic _ _ _).trans (hrow _ (decide_eq_true hop))
    · exact (exec_rxAccWritePacket _ _ _).trans (hrow _ (by rw [hop]; rfl))
    · exact (exec_rxSprayPacket _ _ _).trans (hrow _ (by rw [hop]; rfl))
  case snak =>
    intro s i base cycle c hi hsnaks hfull hbase hfind
    obtain ⟨x, hx⟩ := s.atCycle_frame cycle
    have hexec : exec (.spraySnakTimer i base cycle) s = .next ((s.atCycle cycle).snakTimer i base) := by
      change execSpraySnakTimer i base cycle s = _
      rw [execSpraySnakTimer, if_neg (Nat.not_le.mpr hi)]
    rw [hexec, hx, snakTimer_sends (s := { s with stroke := { s.stroke with cycle := x } }) hsnaks hfind, State.emit_plain _ _ rfl]
    exact ⟨_, rfl, ⟨rfl, rfl, rfl, rfl, rfl⟩, List.mem_cons_self, State.reg_setReg_self _ _ _ _ _⟩

end Sys2Proof.Proofs.Packets
end

section
/-!
PROOFS. The deadlines of a round that stands alone (01 R45 to R49, R52, R55): with no drop mark, decision, reason or abort pending, the
commit leaves the round as it is but for the one transition that the clock brings.
-/

namespace Sys2Proof.Proofs.Deadlines

open Sys2Proof Sys2Proof.Machine Sys2Proof.Proofs.FieldRules Sys2Proof.Proofs.UnitItems Sys2Proof.Proofs.Completions

/-- Nothing is pending against round `b` but what the clock brings. -/
structure Calm (s : State) (b : Nat) : Prop where
  alone : (s.round b).crew = false
  noDrops : (s.round b).dropPend = []
  noDecisions : (s.round b).decisions = []
  noReasons : (s.round b).reasons = []
  noAbort : (s.round b).abortNow = false
  rigsRun : s.roundRigFault (s.round b) = false

/-! ### Where the rounds stand -/

theorem round_setRound_self (s : State) (b : Nat) (r : Round) : (s.setRound b r).round b = r := by
  rw [State.round_setRound, if_pos rfl]

theorem round_of_rounds {s t : State} (h : t.rounds = s.rounds) (b : Nat) : t.round b = s.round b := by
  rw [State.round, h, State.round]

theorem enterState_round (s : State) (b : Nat) (f : Round → Round) : (s.enterState b f).round b = f (s.round b) :=
  (round_of_rounds (latchEvt_rounds _ _ _ _) b).trans (round_setRound_self _ _ _)

theorem enterState_stands (s : State) (b : Nat) (f : Round → Round) : FabricStands s (s.enterState b f) :=
  ⟨latchEvt_mem _ _ _ _, latchEvt_ecc _ _ _ _, latchEvt_cores _ _ _ _, latchEvt_fabric _ _ _ _, latchEvt_spill _ _ _ _⟩

theorem setRound_stands (s : State) (b : Nat) (r : Round) : FabricStands s (s.setRound b r) := ⟨rfl, rfl, rfl, rfl, rfl⟩

theorem foldl_rounds {α : Type} {f : State → α → State} {l : List α} (h : ∀ a ∈ l, ∀ s, (f s a).rounds = s.rounds) (s : State) :
    (l.foldl f s).rounds = s.rounds := by
  induction l generalizing s with
  | nil => rfl
  | cons a l ih =>
    exact (ih (fun x hx => h x (List.mem_cons_of_mem a hx)) (f s a)).trans (h a List.mem_cons_self s)

/-! ### The steps of a commit at which nothing is pending -/

theorem deadline_runs {s : State} {b : Nat} {due : Descr → Nat} (hb : b < 16) (hbusy : s.muster.busy = false)
    (hlive : (s.round b).state.live = true) (hnow : s.stroke.now = due (s.round b).d) :
    ∃ c, roundDeadline b due s = .next ((State.rosterStep { s with stroke := { s.stroke with cycle := c } } b).roundStep b s.overran) := by
  obtain ⟨c, hc⟩ := s.atCycle_frame 2043
  refine ⟨c, ?_⟩
  simp only [roundDeadline, Nat.not_le.mpr hb, if_false, ge_iff_le, hlive, hnow, Bool.not_true, Bool.false_eq_true, ne_eq, not_true,
    or_self, hc, State.musterJudge, hbusy, Bool.not_false, true_or, if_true]

section
variable {s : State} {b : Nat} (h : Calm s b)
include h

theorem dropMarks_calm : s.dropMarks b = s.setRound b (s.round b) := by
  obtain ⟨-, hdrops, hdecisions, -⟩ := h
  simp only [State.dropMarks, hdrops, hdecisions, List.filter_nil, List.map_nil, List.append_nil, List.foldl_nil]
  rw [← hdrops, ← hdecisions]

/-- With no reason due, the commit makes the deadline's transition. -/
theorem roundStep_advances {o : Bool} (hwork : (s.round b).state.working = true) (hdue : s.dueReasons (s.round b) o = []) :
    s.roundStep b o = s.advance b o := by
  obtain ⟨-, -, hdecisions, hreasons, habort, -⟩ := h
  simp only [State.roundStep, hwork, habort, Round.crewFault, hdecisions, hdue, List.find?_nil, Option.map_none, List.foldl_nil, hreasons,
    minOf, Bool.not_true, Bool.false_eq_true, if_false]

end

theorem raise_reasons {s : State} {b : Nat} (x : Nat) (hwork : (s.round b).state.working = true) (halone : (s.round b).crew = false) :
    (s.raise b x).round b = { s.round b with reasons := (s.round b).reasons ++ [x] } := by
  simp only [State.raise, hwork, halone, Bool.not_true, Bool.not_false, Bool.false_eq_true, if_false, if_true, round_setRound_self]

/-! ### The roster step of each state -/

/-- The roster step marks no drop, and leaves the round as `r`. -/
structure Marked (s t : State) (b : Nat) (r : Round) : Prop where
  round : t.round b = r
  stands : FabricStands s t
  now : t.stroke.now = s.stroke.now

theorem marked_setRound (s : State) (b : Nat) (r : Round) : Marked s (s.setRound b r) b r :=
  ⟨round_setRound_self _ _ _, setRound_stands _ _ _, rfl⟩

/-- The round whose outcome table is published (06 R259). -/
def withOutcomes (r : Round) : Round :=
  { r with published := true, roster := r.roster.map fun e => (e.1, { e.2 with outcome := e.2.status r.d.chunks }) }

theorem publish_marks (t : State) (b : Nat) : Marked t (t.publish b) b (withOutcomes (t.round b)) := by
  have hrounds : (t.publish b).rounds = (t.setRound b (withOutcomes (t.round b))).rounds := by
    simp only [State.publish, State.setReg_rounds, State.modRound, withOutcomes]
  have hstands : FabricStands (t.setRound b (withOutcomes (t.round b))) (t.publish b) := by
    simp only [State.publish, FabricStands, State.setReg_mem, State.setReg_ecc, State.setReg_cores, State.setReg_fabric,
      State.setReg_spill, State.modRound, withOutcomes, and_self]
  have hnow : (t.publish b).stroke = t.stroke := by
    simp only [State.publish, State.setReg_stroke, State.modRound, State.setRound]
  exact ⟨(round_of_rounds hrounds b).trans (round_setRound_self _ _ _), FabricStands.trans (setRound_stands _ _ _) hstands, by rw [hnow]⟩

section
variable {s : State} {b : Nat} (h : Calm s b)
include h

theorem rosterStep_waits (hwork : (s.round b).state.working = true) (hcollect : (s.round b).state ≠ .collect)
    (hclose : (s.round b).state ≠ .close) : Marked s (s.rosterStep b) b (s.round b) := by
  simp only [State.rosterStep, hwork, hcollect, hclose, dropMarks_calm h, false_and, if_false, Bool.not_true, Bool.false_eq_true]
  exact marked_setRound _ _ _

theorem rosterStep_collect (hstate : (s.round b).state = .collect) (hnow : s.stroke.now = (s.round b).d.dClose) :
    Marked s (s.rosterStep b) b { s.round b with
      roster := (s.round b).roster.map fun e => (e.1, e.2.classify (s.round b).d.chunks (s.round b).d.late s.stroke.now) } := by
  simp only [State.rosterStep, hstate, hnow, RState.working, dropMarks_calm h, State.classify, State.modRound, round_setRound_self,
    reduceCtorEq, and_self, false_and, if_true, if_false, Bool.not_true, Bool.false_eq_true]
  rw [← hnow]
  exact ⟨round_setRound_self _ _ _, setRound_stands _ _ _, rfl⟩

theorem rosterStep_close (hstate : (s.round b).state = .close) (hnow : s.stroke.now = (s.round b).d.dClose + 1024)
    (hfloor : (s.round b).d.floor ≤ (s.round b).minCount) : Marked s (s.rosterStep b) b (withOutcomes (s.round b)) := by
  have hpublish := publish_marks (s.setRound b (s.round b)) b
  rw [round_setRound_self] at hpublish
  have hcount : ¬ ((State.round ((s.setRound b (s.round b)).publish b) b).minCount < (s.round b).d.floor ∧
      (!(s.round b).owned.isEmpty) = true) := by
    rw [hpublish.round]
    exact fun hlow => Nat.not_lt.mpr hfloor hlow.1
  have hcrew : (s.setRound b (s.round b)).crewComplete (s.round b) = true := by
    rw [State.crewComplete, h.alone, Bool.not_false, Bool.true_or]
  simp only [State.rosterStep, hstate, hnow, RState.working, dropMarks_calm h, round_setRound_self, hcrew, reduceCtorEq, and_self, false_and,
    if_true, if_false, Bool.not_true, Bool.false_eq_true]
  rw [if_neg hcount]
  exact ⟨hpublish.round, FabricStands.trans (setRound_stands _ _ _) hpublish.stands, hpublish.now⟩

end

/-- The round after the roster step is as calm as before, where the fields of its pending steps stand. -/
theorem Calm.marked {s t : State} {b : Nat} {r : Round} (h : Calm s b) (hmark : Marked s t b r) (hcrew : r.crew = (s.round b).crew)
    (hdrops : r.dropPend = (s.round b).dropPend) (hdecisions : r.decisions = (s.round b).decisions)
    (hreasons : r.reasons = (s.round b).reasons) (habort : r.abortNow = (s.round b).abortNow)
    (hingress : r.ingressRigs = (s.round b).ingressRigs) (hwork : r.workRigs = (s.round b).workRigs) : Calm t b := by
  obtain ⟨hround, ⟨-, -, -, hfabric, -⟩, -⟩ := hmark
  subst hround
  refine ⟨hcrew.trans h.alone, hdrops.trans h.noDrops, hdecisions.trans h.noDecisions, hreasons.trans h.noReasons,
    habort.trans h.noAbort, ?_⟩
  rw [← h.rigsRun]
  simp only [State.roundRigFault, State.rig?, hfabric, hingress, hwork]

/-! ### The transition of each state -/

theorem roundPoisoned_congr {s t : State} {r r' : Round} (h : FabricStands s t) (hd : r'.d.chunks = r.d.chunks) (hsize : r'.size = r.size)
    (hacc : r'.accBase = r.accBase) (hres : r'.resBase = r.resBase) : t.roundPoisoned r' = s.roundPoisoned r := by
  obtain ⟨-, hecc, -, hfabric, -⟩ := h
  simp only [State.roundPoisoned, State.rangeBad, hecc, hfabric, hd, hsize, hacc, hres]

theorem faultRound_faults (s : State) (b x : Nat) :
    ((s.faultRound b x).round b).state = .faulted ∧ ((s.faultRound b x).round b).reason = x ∧
      ((s.faultRound b x).round b).keyPriv = none ∧ ((s.faultRound b x).round b).secrets = [] ∧
      ((s.faultRound b x).round b).shares = [] := by
  have hround : ∀ t : State, ((t.latchEvt .muster 0 1).latchEvt .muster 0 16).round b = t.round b := fun t =>
    round_of_rounds ((latchEvt_rounds _ _ _ _).trans (latchEvt_rounds _ _ _ _)) b
  have hkeys : ∀ (t : State) (r q : Round), ((t.setRound b r).dropTamrikKey q).round b = r := fun t r q => round_setRound_self t b r
  rw [State.faultRound]
  dsimp only
  rw [hround, State.modRound, hkeys]
  exact ⟨rfl, rfl, rfl, rfl, rfl⟩

/-- A round of no crew faults with the least of the reasons that are due. -/
theorem roundStep_faults {s : State} {b x : Nat} {o : Bool} (h : Calm s b) (hwork : (s.round b).state.working = true)
    (hleast : minOf (((s.dueReasons (s.round b) o).foldl (fun t x => t.raise b x) s).round b).reasons = some x) :
    ∃ t, s.roundStep b o = State.faultRound t b x := by
  refine ⟨(s.dueReasons (s.round b) o).foldl (fun t x => t.raise b x) s, ?_⟩
  simp only [State.roundStep, hwork, h.noAbort, Round.crewFault, h.noDecisions, List.find?_nil, Option.map_none, Bool.not_true,
    Bool.false_eq_true, if_false, hleast]

section
variable {s : State} {b : Nat} {o : Bool} (h : Calm s b)
include h

theorem collect_begins (hstate : (s.round b).state = .open) (hnow : s.stroke.now = (s.round b).d.dCollect)
    (hsetup : (s.round b).setup = true) : s.roundStep b o = s.enterState b fun x => { x with state := .collect } := by
  have hdue : s.dueReasons (s.round b) o = [] := by
    simp only [State.dueReasons, State.releaseDue, hstate, hsetup, h.rigsRun, reduceCtorEq, Bool.not_true, Bool.false_eq_true, and_false,
      false_and, or_self, if_false, List.append_nil]
  rw [roundStep_advances h (by rw [hstate]; rfl) hdue]
  simp only [State.advance, hstate, hnow, if_true]

theorem setup_missed (hstate : (s.round b).state = .open) (hnow : s.stroke.now = (s.round b).d.dCollect)
    (hsetup : (s.round b).setup = false) : ∃ t, s.roundStep b o = State.faultRound t b 2 := by
  have hwork : (s.round b).state.working = true := by rw [hstate]; rfl
  have hdue : s.dueReasons (s.round b) o = [2] := by
    simp only [State.dueReasons, State.releaseDue, hstate, hsetup, hnow, h.rigsRun, reduceCtorEq, Bool.not_false, Bool.false_eq_true,
      and_false, false_and, or_self, if_false, and_self, if_true, List.append_nil]
  refine roundStep_faults h hwork ?_
  rw [hdue, List.foldl_cons, List.foldl_nil, raise_reasons 2 hwork h.alone, h.noReasons]
  rfl

theorem collect_ends (hstate : (s.round b).state = .collect) (hnow : s.stroke.now = (s.round b).d.dClose) :
    s.roundStep b o = s.enterState b fun x => { x with state := .close, leftCollect := some s.stroke.now } := by
  have hdue : s.dueReasons (s.round b) o = [] := by
    simp only [State.dueReasons, State.releaseDue, hstate, h.rigsRun, reduceCtorEq, Bool.false_eq_true, and_false, false_and, or_self,
      if_false, List.append_nil]
  rw [roundStep_advances h (by rw [hstate]; rfl) hdue]
  simp only [State.advance, hstate, hnow, if_true]

theorem recovery_begins (hstate : (s.round b).state = .close) (hnow : s.stroke.now = (s.round b).d.dClose + 1024)
    (hclean : s.roundPoisoned (s.round b) = false) : s.roundStep b o = s.enterState b fun x => { x with state := .recover } := by
  have hdue : s.dueReasons (s.round b) o = [] := by
    simp only [State.dueReasons, State.releaseDue, hstate, h.rigsRun, hclean, reduceCtorEq, Bool.false_eq_true, and_false, false_and,
      or_self, if_false, List.append_nil]
  rw [roundStep_advances h (by rw [hstate]; rfl) hdue]
  simp only [State.advance, hstate, hnow, if_true]

theorem recovery_fails (hstate : (s.round b).state = .recover) (hnow : s.stroke.now = (s.round b).d.dRecover)
    (hresult : (s.round b).resultWritten = false) : ∃ t, s.roundStep b o = State.faultRound t b 4 := by
  have hwork : (s.round b).state.working = true := by rw [hstate]; rfl
  have hdue : s.dueReasons (s.round b) o = 4 :: (if s.stroke.now ≥ (s.round b).d.dClose + 1024 ∧
      s.roundPoisoned (s.round b) = true then [6] else []) := by
    simp only [State.dueReasons, State.releaseDue, hstate, hresult, hnow, h.alone, h.rigsRun, reduceCtorEq, Bool.not_false,
      Bool.false_eq_true, Bool.false_and, Bool.and_false, and_false, false_and, or_true, true_and, and_self, if_false, if_true,
      List.nil_append, List.append_nil, List.cons_append]
  refine roundStep_faults h hwork ?_
  have hfirst := raise_reasons 4 hwork h.alone
  rw [hdue, List.foldl_cons]
  split
  · rw [List.foldl_cons, List.foldl_nil, raise_reasons 6 (by rw [hfirst]; exact hwork) (by rw [hfirst]; exact h.alone), hfirst, h.noReasons]
    rfl
  · rw [List.foldl_nil, hfirst, h.noReasons]
    rfl

end

/-! ### The retirement of a round -/

theorem bindQueues_rounds (s : State) (r : Rig) (bind : Bool) : (s.bindQueues r bind).rounds = s.rounds := by
  refine foldl_rounds (fun q _ t => ?_) s
  split <;> rfl

theorem unbindVault_rounds (s : State) (r : Rig) : (s.unbindVault r).rounds = s.rounds := by
  rw [State.unbindVault]
  split <;> rfl

theorem unloadRig_rounds (s : State) (id : Nat) : (s.unloadRig id).rounds = s.rounds := by
  rw [State.unloadRig]
  split
  · rfl
  · dsimp only [State.dropCores, State.dropAreas]
    refine (foldl_rounds (fun a _ t => ?_) _).trans ((unbindVault_rounds _ _).trans ((bindQueues_rounds _ _ _).trans
      (foldl_rounds (fun q _ t => ?_) s)))
    · split <;> rfl
    · split
      · split
        · split
          · exact (spill_producerStops _ _ _).rounds
          · rfl
        · rfl
      · rfl

theorem zeroiseSlots_rounds (s : State) (p : Nat → KeySlot → Bool) : (s.zeroiseSlots p).rounds = s.rounds := by
  rw [State.zeroiseSlots]
  split
  · exact latchEvt_rounds _ _ _ _
  · rfl

/-- A round that retires keeps its identity; its roster, descriptor and key are gone. -/
theorem retireRound_retires (s : State) (b : Nat) :
    ((s.retireRound b).round b).state = .retired ∧ ((s.retireRound b).round b).id = (s.round b).id ∧
      ((s.retireRound b).round b).roster = [] ∧ ((s.retireRound b).round b).desc = [] ∧ ((s.retireRound b).round b).keyPriv = none := by
  rw [State.retireRound]
  dsimp only
  rw [enterState_round]
  refine ⟨rfl, ?_, rfl, rfl, rfl⟩
  have hfreed : ∀ (l : List Nat) (t : State), (l.foldl (fun t q => t.freeQueue q) t).rounds = t.rounds := fun l t =>
    foldl_rounds (f := fun t q => t.freeQueue q) (fun _ _ _ => rfl) t
  have hlanding : ∀ (l : NMap Bind) (t : State), (l.foldl (fun t e => t.freeQueue e.2.landing) t).rounds = t.rounds := fun l t =>
    foldl_rounds (f := fun t (e : Nat × Bind) => t.freeQueue e.2.landing) (fun _ _ _ => rfl) t
  have hzeroed : ∀ (l : List Area) (t : State), (l.foldl (fun t a => t.zeroRange a.base a.len) t).rounds = t.rounds := fun l t =>
    foldl_rounds (f := fun t (a : Area) => t.zeroRange a.base a.len) (fun _ _ _ => rfl) t
  have hunloaded : ∀ (l : List Nat) (t : State), (l.foldl (fun t id => t.unloadRig id) t).rounds = t.rounds := fun l t =>
    foldl_rounds (fun id _ t => unloadRig_rounds t id) t
  simp only [State.round, zeroiseSlots_rounds, State.setReg_rounds, hlanding, State.dropKeys, State.dropAreas, hzeroed, hfreed, hunloaded]

theorem retires {s : State} {b : Nat} {o : Bool} (hstate : (s.round b).state = .release ∨ (s.round b).state = .faulted)
    (hnow : s.stroke.now = (s.round b).d.dRetire) : (s.rosterStep b).roundStep b o = s.retireRound b := by
  rcases hstate with hstate | hstate
  · simp only [State.rosterStep, State.roundStep, State.advance, hstate, hnow, RState.working, Bool.not_false, if_true, true_or]
  · simp only [State.rosterStep, State.roundStep, State.advance, hstate, hnow, RState.working, Bool.not_false, if_true, true_or]

theorem calm_atCycle {s : State} {b c : Nat} (h : Calm s b) : Calm { s with stroke := { s.stroke with cycle := c } } b :=
  ⟨h.alone, h.noDrops, h.noDecisions, h.noReasons, h.noAbort, h.rigsRun⟩

/-- Settles O31. -/
theorem roundDeadlines : Obligations.RoundDeadlines := by
  unfold Obligations.RoundDeadlines
  intro s b hb hbusy hcrew hdrops hdecisions hreasons habort hrigs
  have hcalm (c : Nat) : Calm { s with stroke := { s.stroke with cycle := c } } b :=
    calm_atCycle ⟨hcrew, hdrops, hdecisions, hreasons, habort, hrigs⟩
  refine ⟨?collect, ?missed, ?close, ?recover, ?fault, ?retire⟩
  case collect =>
    intro hstate hnow hsetup
    obtain ⟨c, hruns⟩ := deadline_runs (due := (·.dCollect)) hb hbusy (by rw [hstate]; rfl) hnow
    have hmark := rosterStep_waits (hcalm c) (by change (s.round b).state.working = true; rw [hstate]; rfl)
      (by change (s.round b).state ≠ _; rw [hstate]; decide) (by change (s.round b).state ≠ _; rw [hstate]; decide)
    have hround := hmark.round
    have hcalm' := (hcalm c).marked hmark rfl rfl rfl rfl rfl rfl rfl
    refine ⟨_, hruns.trans (congrArg _ (collect_begins hcalm' (by rw [hround]; exact hstate) (by rw [hround]; exact hmark.now.trans hnow)
      (by rw [hround]; exact hsetup))), ?_, FabricStands.trans hmark.stands (enterState_stands _ _ _)⟩
    rw [enterState_round, hround]
    rfl
  case missed =>
    intro hstate hnow hsetup
    obtain ⟨c, hruns⟩ := deadline_runs (due := (·.dCollect)) hb hbusy (by rw [hstate]; rfl) hnow
    have hmark := rosterStep_waits (hcalm c) (by change (s.round b).state.working = true; rw [hstate]; rfl)
      (by change (s.round b).state ≠ _; rw [hstate]; decide) (by change (s.round b).state ≠ _; rw [hstate]; decide)
    have hround := hmark.round
    have hcalm' := (hcalm c).marked hmark rfl rfl rfl rfl rfl rfl rfl
    obtain ⟨t, ht⟩ := setup_missed (o := s.overran) hcalm' (by rw [hround]; exact hstate) (by rw [hround]; exact hmark.now.trans hnow)
      (by rw [hround]; exact hsetup)
    obtain ⟨hfaulted, hreason, hkey, -⟩ := faultRound_faults t b 2
    exact ⟨_, hruns.trans (congrArg _ ht), hfaulted, hreason, hkey⟩
  case close =>
    intro hstate hnow
    obtain ⟨c, hruns⟩ := deadline_runs (due := (·.dClose)) hb hbusy (by rw [hstate]; rfl) hnow
    have hmark := rosterStep_collect (hcalm c) hstate hnow
    have hround := hmark.round
    have hcalm' := (hcalm c).marked hmark rfl rfl rfl rfl rfl rfl rfl
    refine ⟨_, hruns.trans (congrArg _ (collect_ends hcalm' (by rw [hround]; exact hstate) (by rw [hround]; exact hmark.now.trans hnow))),
      FabricStands.trans hmark.stands (enterState_stands _ _ _), ?_⟩
    rw [enterState_round, hround, hmark.now]
    rfl
  case recover =>
    intro hstate hnow hclean hfloor
    obtain ⟨c, hruns⟩ := deadline_runs (due := fun d => d.dClose + 1024) hb hbusy (by rw [hstate]; rfl) hnow
    have hmark := rosterStep_close (hcalm c) hstate hnow hfloor
    have hround := hmark.round
    have hcalm' := (hcalm c).marked hmark rfl rfl rfl rfl rfl rfl rfl
    have hstill := (roundPoisoned_congr (r := s.round b) (r' := withOutcomes (s.round b)) hmark.stands rfl rfl rfl rfl).trans hclean
    refine ⟨_, hruns.trans (congrArg _ (recovery_begins hcalm' (by rw [hround]; exact hstate)
      (by rw [hround]; exact hmark.now.trans hnow) (by rw [hround]; exact hstill))),
      FabricStands.trans hmark.stands (enterState_stands _ _ _), ?_⟩
    rw [enterState_round, hround]
    rfl
  case fault =>
    intro hstate hnow hresult
    obtain ⟨c, hruns⟩ := deadline_runs (due := (·.dRecover)) hb hbusy (by rw [hstate]; rfl) hnow
    have hmark := rosterStep_waits (hcalm c) (by change (s.round b).state.working = true; rw [hstate]; rfl)
      (by change (s.round b).state ≠ _; rw [hstate]; decide) (by change (s.round b).state ≠ _; rw [hstate]; decide)
    have hround := hmark.round
    have hcalm' := (hcalm c).marked hmark rfl rfl rfl rfl rfl rfl rfl
    obtain ⟨t, ht⟩ := recovery_fails (o := s.overran) hcalm' (by rw [hround]; exact hstate) (by rw [hround]; exact hmark.now.trans hnow)
      (by rw [hround]; exact hresult)
    exact ⟨_, hruns.trans (congrArg _ ht), faultRound_faults t b 4⟩
  case retire =>
    intro hstate hnow
    obtain ⟨c, hruns⟩ := deadline_runs (due := (·.dRetire)) hb hbusy (by rcases hstate with h | h <;> rw [h] <;> rfl) hnow
    exact ⟨_, hruns.trans (congrArg _ (retires hstate hnow)), retireRound_retires _ b⟩

end Sys2Proof.Proofs.Deadlines
end

section
/-!
PROOFS. Messages of the crew channel (06 R262 to R264, 07 R305, 11 R442): a message that passes the checks of 07 R307 runs the step of its
KIND on the state they leave, and that step changes the round it names.
-/

namespace Sys2Proof.Proofs.CrewChannel

open Sys2Proof Sys2Proof.Machine Sys2Proof.Proofs.FieldRules Sys2Proof.Proofs.QueueEvents Sys2Proof.Proofs.UnitItems
  Sys2Proof.Proofs.Carriage Sys2Proof.Proofs.Deadlines

theorem carried_runs {s u : State} {pos kind b : Nat} {msg : List Byte} {recs : List (List Byte)} (h : Carried s u pos kind b msg recs)
    (f : Nat → List (List Byte) → State → State) : onCarry s pos kind msg f = .next (f b recs u) := by
  obtain ⟨hmember, hother, round, body, hopen, hblock, hrecs⟩ := h
  simp only [onCarry, ge_iff_le, Nat.not_le.mpr hmember, hother, or_self, if_false, hopen, ne_eq, not_true, hblock, hrecs]

/-- Round `b` becomes `r`, and memory, the cores, the fabric and the queues stand. -/
structure Becomes (s t : State) (b : Nat) (r : Round) : Prop where
  round : t.round b = r
  stands : FabricStands s t

theorem becomes_modRound (s : State) (b : Nat) (f : Round → Round) : Becomes s (s.modRound b f) b (f (s.round b)) :=
  ⟨round_setRound_self _ _ _, setRound_stands _ _ _⟩

theorem round_modRound_self (s : State) (b : Nat) (f : Round → Round) : (s.modRound b f).round b = f (s.round b) :=
  round_setRound_self _ _ _

theorem Becomes.carry {s t v : State} {b : Nat} {r : Round} (h : Becomes s t b r) (k : CarryOnly t v) : Becomes s v b r := by
  have hrounds : v.rounds = t.rounds := by rw [k]
  exact ⟨(round_of_rounds hrounds b).trans h.round,
    FabricStands.trans h.stands ⟨by rw [k], by rw [k], by rw [k], by rw [k], by rw [k]⟩⟩

/-! ### The steps of the messages -/

/-- A decision whose stroke is still to come is held and acknowledged. -/
theorem carryOnly_decisionHeld {s : State} {d : Decision} (b : Nat) (h : s.stroke.now ≤ d.named) : CarryOnly s (s.decisionHeld b d) := by
  rw [State.decisionHeld, if_neg (Nat.not_lt.mpr h)]
  exact carryOnly_carry _ _ _ _ _ _

theorem becomes_held {s t : State} {b : Nat} {r : Round} (h : Becomes s t b r) {d : Decision} (hnow : t.stroke.now ≤ d.named) :
    Becomes s (if d.whole then t.decisionHeld b d else t) b r := by
  split
  · exact h.carry (carryOnly_decisionHeld b hnow)
  · exact h

theorem becomes_nameDecision (s : State) (b : Nat) (d : Decision) :
    Becomes s (s.nameDecision b d) b { s.round b with decisions := (s.round b).decisions ++ [d] } :=
  (becomes_modRound s b _).carry (carryOnly_nameDecision s b d)

theorem raise_names {s : State} {b : Nat} (x : Nat) (hlead : s.isLeader = true) (hcrew : (s.round b).crew = true)
    (hwork : (s.round b).state.working = true) (hnone : ∀ d ∈ (s.round b).decisions, d.kind ≠ 3) :
    Becomes s (s.raise b x) b { s.round b with
      decisions := (s.round b).decisions ++ [{ kind := 3, reason := x, count := 0, named := s.stroke.now + 64 }] } := by
  have hfault : (s.round b).decisions.any (fun d => decide (d.kind = 3)) = false := by
    rw [List.any_eq_false]
    exact fun d hd => by rw [decide_eq_true_eq]; exact hnone d hd
  have hraise : s.raise b x = s.nameDecision b { kind := 3, reason := x, count := 0, named := s.stroke.now + 64 } := by
    simp only [State.raise, hwork, hcrew, hlead, hfault, Bool.not_true, Bool.false_eq_true, if_false, if_true]
  rw [hraise]
  exact becomes_nameDecision s b _

/-- The leader names a release where every member is done, and nothing else happens. -/
theorem leaderRelease_stands (s : State) (b : Nat) :
    (((s.leaderRelease b).round b).doneFrom = (s.round b).doneFrom) ∧ FabricStands s (s.leaderRelease b) := by
  rw [State.leaderRelease]
  split
  · have h := becomes_nameDecision s b { kind := 2, reason := 0, count := 0, named := s.stroke.now + 64 }
    exact ⟨by rw [h.round], h.stands⟩
  · exact ⟨rfl, rfl, rfl, rfl, rfl, rfl⟩

theorem storeShare_stores (s : State) (b : Nat) (sh : Share) :
    ((s.storeShare b sh).round b).shares = (s.round b).shares ++ [sh] ∧ FabricStands s (s.storeShare b sh) := by
  rw [State.storeShare]
  split
  · exact ⟨by rw [round_setRound_self], setRound_stands _ _ _⟩
  · refine ⟨?_, latchEvt_mem _ _ _ _, latchEvt_ecc _ _ _ _, latchEvt_cores _ _ _ _, latchEvt_fabric _ _ _ _, latchEvt_spill _ _ _ _⟩
    rw [round_of_rounds (latchEvt_rounds _ _ _ _), round_setRound_self]

theorem spill_enqueueTerm {s v : State} {b : Nat} {t : Term} (h : s.enqueueTerm b t = some v) : SpillOnly s v := by
  rw [State.enqueueTerm] at h
  split at h
  · exact absurd h nofun
  · dsimp only at h
    split at h
    · obtain rfl := Option.some.inj h
      exact spill_putPacket _ _ _ _ _ _ _
    · exact absurd h nofun

/-! ### The first message of a decision that is sent again -/

theorem carry1_sends {s : State} {pos : Nat} (kind round : Nat) (body : List Byte) (h : (s.peer (s.memberId pos)).connected = true) :
    ∃ m, (s.carry1 pos kind round body).out = .carry pos m :: s.out ∧ (s.carry1 pos kind round body).rounds = s.rounds ∧
      FabricStands s (s.carry1 pos kind round body) ∧
      ((s.carry1 pos kind round body).peer (s.memberId pos)).seqTx = (s.peer (s.memberId pos)).seqTx + 1 := by
  rw [State.carry1, if_neg (by rw [h]; decide)]
  dsimp only
  rw [State.emit_plain _ _ rfl]
  exact ⟨_, rfl, rfl, ⟨rfl, rfl, rfl, rfl, rfl⟩, congrArg Peer.seqTx (State.peer_setPeer _ _ _ _ |>.trans (if_pos rfl))⟩

/-- A decision of no slots is one message. -/
theorem sendDecision_one (s : State) (round pos : Nat) {d : Decision} (h : d.slots = []) :
    s.sendDecision round pos d = s.carry1 pos 0x10 round d.record := by
  rw [State.sendDecision, State.carry, State.carry, Decision.slotRecords, h]
  simp only [List.length_singleton, List.map_nil, List.length_nil, Nat.reduceDiv, Nat.reduceAdd, Nat.reduceSub, List.range_one,
    List.range_zero, List.foldl_cons, List.foldl_nil, Nat.mul_zero, List.drop_zero, List.take_succ_cons, List.take_nil,
    List.flatten_cons, List.flatten_nil, List.append_nil]

/-- Settles O37. -/
theorem crewMessages : Obligations.CrewMessages := by
  unfold Obligations.CrewMessages
  refine ⟨fun s u pos b msg recs e => ⟨?decision, ?ack, ?slots, ?counts, ?statuses, ?digest, ?report, ?shares, ?terms, ?sets,
    ?retractions, ?done⟩, ?resend⟩
  case decision =>
    intro h hkind hnow hfresh
    have hnone : (u.round b).decisions.find? (fun d => decide (d.kind = leAt e 0 1 ∧ d.named = leAt e 8 8)) = none := by
      rw [List.find?_eq_none]
      exact fun d hd => by rw [decide_eq_true_eq]; exact hfresh d hd
    have hheld := becomes_held (becomes_modRound u b fun x => { x with decisions := x.decisions ++
      [{ kind := leAt e 0 1, reason := leAt e 1 1, count := leAt e 4 4, named := leAt e 8 8 }] })
      (d := { kind := leAt e 0 1, reason := leAt e 1 1, count := leAt e 4 4, named := leAt e 8 8 }) hnow
    refine ⟨_, (by change execDecision pos msg s = _; rw [execDecision]; exact carried_runs h _), ?_⟩
    dsimp only
    rw [hnone]
    exact ⟨hheld.stands, by rw [hheld.round]⟩
  case ack =>
    intro h
    refine ⟨_, (by change execDecisionAck pos msg s = _; rw [execDecisionAck]; exact carried_runs h _), setRound_stands _ _ _, ?_⟩
    dsimp only
    rw [round_setRound_self]
    refine ⟨List.length_map .., fun d hd hnamed => ?_⟩
    obtain ⟨x, -, rfl⟩ := List.mem_map.mp hd
    by_cases hnew : x.named = leAt (recs.headD []) 0 8 ∧ (!x.acked.contains pos) = true
    · rw [if_pos hnew]
      exact List.mem_append_right _ (List.mem_singleton_self _)
    · rw [if_neg hnew] at hnamed ⊢
      rw [not_and_or, Bool.not_eq_true', Bool.not_eq_false] at hnew
      exact List.contains_iff_mem.mp (hnew.resolve_left (not_not_intro hnamed))
  case slots =>
    intro d h hdecisions hkind hnamed hrecs hwhole hnow
    have hfind : (u.round b).decisions.find? (fun e => decide (e.kind = 1 ∧ e.named = leAt (recs.headD []) 0 8)) = some d := by
      rw [hdecisions, List.find?_cons_of_pos (by rw [decide_eq_true_eq]; exact ⟨hkind, hnamed⟩)]
    have hsame : recs.any (fun r => decide (leAt r 0 8 ≠ leAt (recs.headD []) 0 8)) = false := by
      rw [List.any_eq_false]
      exact fun r hr => by rw [decide_eq_true_eq, not_not, hrecs r hr, hnamed]
    have hheld := becomes_held (becomes_modRound u b fun x => { x with decisions := x.decisions.map fun y =>
      if y = d then { d with slots := d.slots ++ recs.map fun r => leAt r 8 4 } else y })
      (d := { d with slots := d.slots ++ recs.map fun r => leAt r 8 4 }) hnow
    refine ⟨_, (by change execDropSlots pos msg s = _; rw [execDropSlots]; exact carried_runs h _), ?_⟩
    dsimp only
    rw [hfind]
    dsimp only
    rw [hsame, hwhole, if_neg Bool.false_ne_true, if_neg Bool.false_ne_true]
    refine ⟨hheld.stands, ?_⟩
    have hround := congrArg Round.decisions hheld.round
    rw [hdecisions] at hround
    exact hround.trans (congrArg (fun x => [x]) (if_pos rfl))
  case counts =>
    intro h howns
    refine ⟨_, (by change execCounts pos msg s = _; rw [execCounts]; exact carried_runs h _), setRound_stands _ _ _, ?_⟩
    dsimp only
    rw [round_setRound_self, List.foldl_cons, List.foldl_nil, if_pos howns]
    refine ⟨?_, NMap.get_put_self _ _ _ _⟩
    split
    · next hin => exact List.contains_iff_mem.mp hin
    · exact List.mem_append_right _ (List.mem_singleton_self _)
  case statuses =>
    intro h
    refine ⟨_, (by change execStatuses pos msg s = _; rw [execStatuses]; exact carried_runs h _), setRound_stands _ _ _, ?_⟩
    dsimp only
    rw [round_setRound_self, List.foldl_cons, List.foldl_nil]
    refine ⟨?_, NMap.get_put_self _ _ _ _⟩
    split
    · next hin => exact List.contains_iff_mem.mp hin
    · exact List.mem_append_right _ (List.mem_singleton_self _)
  case digest =>
    intro h hdigest
    refine ⟨_, (by change execDigest pos msg s = _; rw [execDigest]; exact carried_runs h _), ?_⟩
    dsimp only
    rw [if_pos hdigest]
    exact ⟨setRound_stands _ _ _, round_setRound_self _ _ _⟩
  case report =>
    intro h hlead hcrew hwork hnone
    have hnames := raise_names (leAt (recs.headD []) 0 1) hlead hcrew hwork hnone
    refine ⟨_, (by change execFaultReport pos msg s = _; rw [execFaultReport]; exact carried_runs h _), ?_⟩
    rw [if_pos hlead]
    exact ⟨hnames.stands, by rw [hnames.round]⟩
  case shares =>
    intro h hwork
    have hstores := storeShare_stores u b { owner := leAt e 0 4, holder := leAt e 4 4, self := leAt e 8 16, pair := leAt e 0x18 16 }
    refine ⟨_, (by change execShares pos msg s = _; rw [execShares]; exact carried_runs h _), ?_⟩
    rw [if_neg (by rw [hwork]; decide), List.foldl_cons, List.foldl_nil]
    exact ⟨hstores.2, hstores.1⟩
  case terms =>
    intro v h hstate henqueue
    have hspill := spill_enqueueTerm henqueue
    refine ⟨_, (by change execTerms pos msg s = _; rw [execTerms]; exact carried_runs h _), ?_⟩
    dsimp only
    rw [if_neg (not_not_intro hstate), List.foldl_cons, List.foldl_nil, henqueue, Option.getD_some]
    refine ⟨rfl, hspill.mem, hspill.cores, ?_⟩
    rw [round_modRound_self, round_of_rounds hspill.rounds]
  case sets =>
    intro h
    refine ⟨_, (by change execChunkSets pos msg s = _; rw [execChunkSets]; exact carried_runs h _), setRound_stands _ _ _, ?_⟩
    dsimp only
    rw [round_setRound_self, List.foldl_cons, List.foldl_nil]
    exact NMap.find?_insertAt_self _ _ _
  case retractions =>
    intro h
    exact ⟨_, (by change execRetractions pos msg s = _; rw [execRetractions]; exact carried_runs h _), setRound_stands _ _ _, round_setRound_self _ _ _⟩
  case done =>
    intro h
    refine ⟨_, (by change execDone pos msg s = _; rw [execDone]; exact carried_runs h _), ?_⟩
    obtain ⟨hdone, hstands⟩ := leaderRelease_stands (u.modRound b fun r => { r with
      doneFrom := if r.doneFrom.contains pos then r.doneFrom else r.doneFrom ++ [pos] }) b
    refine ⟨FabricStands.trans (setRound_stands _ _ _) hstands, ?_⟩
    rw [hdone, State.modRound, round_setRound_self]
    dsimp only
    split
    · next hin => exact List.contains_iff_mem.mp hin
    · exact List.mem_append_right _ (List.mem_singleton_self _)
  case resend =>
    intro s b p d hb hlead hdecisions hslots hothers hacked hconnected
    obtain ⟨m, hout, hrounds, hstands, hseq⟩ := carry1_sends 0x10 (s.round b).id d.record hconnected
    refine ⟨_, m, ?_, hout, hrounds, hstands, hseq⟩
    change execDecisionResend b s = _
    rw [execDecisionResend, if_neg (Nat.not_le.mpr hb), if_neg (by rw [hlead]; decide)]
    dsimp only
    rw [hdecisions, List.foldl_cons, List.foldl_nil, hothers, List.filter_cons_of_pos (by rw [hacked]; rfl), List.filter_nil,
      List.foldl_cons, List.foldl_nil, sendDecision_one _ _ _ hslots]

end Sys2Proof.Proofs.CrewChannel
end

section
/-!
PROOFS. The commit of a stroke (02 R74, R84 to R90, 05 R207) of a machine on which nothing but rigs is at work: the outcome is found, the
cores restart, and the counter advances.
-/

namespace Sys2Proof.Proofs.Commit

open Sys2Proof Sys2Proof.Machine Sys2Proof.Proofs.FieldRules

theorem NMap.find?_insertAt_ne {α : Type} (m : NMap α) (v : α) {k j : Nat} (h : j ≠ k) : (m.insertAt k v).find? j = m.find? j := by
  induction m with
  | nil => simp only [NMap.insertAt, NMap.find?, if_neg (Ne.symm h)]
  | cons e m ih =>
    obtain ⟨i, w⟩ := e
    rw [NMap.insertAt]
    split
    · rw [NMap.find?, if_neg (Ne.symm h)]
    · split
      · next hk => subst hk; rw [NMap.find?, NMap.find?, if_neg (Ne.symm h), if_neg (Ne.symm h)]
      · rw [NMap.find?, NMap.find?, ih]

theorem NMap.mem_of_find? {α : Type} {m : NMap α} {k : Nat} {v : α} (h : m.find? k = some v) : (k, v) ∈ m := by
  induction m with
  | nil => exact absurd h nofun
  | cons e m ih =>
    obtain ⟨i, w⟩ := e
    rw [NMap.find?] at h
    split at h
    · next hk =>
      obtain rfl := Option.some.inj h
      rw [hk]
      exact List.mem_cons_self
    · exact List.mem_cons_of_mem _ (ih h)

theorem foldl_fixed {α : Type} {f : State → α → State} {s : State} {l : List α} (h : ∀ a ∈ l, f s a = s) : l.foldl f s = s := by
  induction l with
  | nil => rfl
  | cons a l ih =>
    rw [List.foldl_cons, h a List.mem_cons_self]
    exact ih fun x hx => h x (List.mem_cons_of_mem a hx)

/-! ### What the charges and the faults of rigs change -/

/-- `t` is `s` but for registers, vectors and what rigs hold; which rigs ran stands, and a machine whose rigs use no queue keeps it so. -/
structure RigsOnly (s t : State) : Prop where
  frame : t = { s with regs := t.regs, out := t.out, pcie := t.pcie, fabric := { s.fabric with rigs := t.fabric.rigs } }
  active : ∀ id, (t.rig? id).any (·.active) = (s.rig? id).any (·.active)
  queues : (∀ e ∈ s.fabric.rigs, e.2.queues = []) → ∀ e ∈ t.fabric.rigs, e.2.queues = []

theorem RigsOnly.refl (s : State) : RigsOnly s s := ⟨rfl, fun _ => rfl, id⟩

theorem RigsOnly.trans {s t v : State} (h : RigsOnly s t) (k : RigsOnly t v) : RigsOnly s v where
  frame := by rw [k.frame, h.frame]
  active id := (k.active id).trans (h.active id)
  queues hs := k.queues (h.queues hs)

theorem RigsOnly.foldl {α : Type} {f : State → α → State} (h : ∀ s a, RigsOnly s (f s a)) (l : List α) (s : State) :
    RigsOnly s (l.foldl f s) := by
  induction l generalizing s with
  | nil => exact .refl s
  | cons a l ih => exact (h s a).trans (ih (f s a))

theorem RigsOnly.ite {s t : State} (p : Prop) [Decidable p] (h : RigsOnly s t) : RigsOnly s (if p then t else s) := by
  split
  · exact h
  · exact .refl s

theorem rigsOnly_bump (s : State) (p : Page) (i off : Nat) : RigsOnly s (s.bump p i off) := by
  obtain ⟨r, h⟩ := s.bump_frame p i off
  rw [h]
  exact ⟨rfl, fun _ => rfl, id⟩

theorem rigsOnly_latchEvt (s : State) (p : Page) (i m : Nat) : RigsOnly s (s.latchEvt p i m) := by
  obtain ⟨r, o, x, h⟩ := s.latchEvt_frame p i m
  rw [h]
  exact ⟨rfl, fun _ => rfl, id⟩

theorem rigsOnly_setRig {s : State} {id : Nat} {r r' : Rig} (h : s.rig? id = some r) (hactive : r'.active = r.active)
    (hqueues : r.queues = [] → r'.queues = []) : RigsOnly s (s.setRig id r') where
  frame := rfl
  active j := by
    by_cases hj : j = id
    · rw [hj, State.rig?_setRig_self, h, Option.any_some, Option.any_some, hactive]
    · have hother : (s.setRig id r').rig? j = s.rig? j := NMap.find?_insertAt_ne _ _ hj
      rw [hother]
  queues hs e he := by
    rcases NMap.mem_insertAt _ _ _ _ he with rfl | he
    · exact hqueues (hs _ (NMap.mem_of_find? h))
    · exact hs e he

theorem rigsOnly_modRig {f : Rig → Rig} (s : State) (id : Nat) (hactive : ∀ r, (f r).active = r.active)
    (hqueues : ∀ r, r.queues = [] → (f r).queues = []) : RigsOnly s (s.modRig id f) := by
  cases h : s.rig? id with
  | none =>
    simp only [State.modRig, h]
    exact .refl s
  | some r =>
    simp only [State.modRig, h]
    exact rigsOnly_setRig h (hactive r) (hqueues r)

theorem rigsOnly_faultRig (s : State) (id : Nat) (permanent : Bool) : RigsOnly s (s.faultRig id permanent) := by
  cases h : s.rig? id with
  | none =>
    simp only [State.faultRig, h]
    exact .refl s
  | some r =>
    simp only [State.faultRig, h]
    split
    · exact .refl s
    · exact (rigsOnly_setRig (r' := { r with faulted := true, permanent := r.permanent || permanent }) h rfl fun hq => hq).trans
        (RigsOnly.foldl (fun t a => rigsOnly_latchEvt t _ _ _) _ _)

theorem rigsOnly_faultCharged (s : State) (id : Nat) : RigsOnly s (s.faultCharged id) := by
  rw [State.faultCharged]
  split
  · exact .refl s
  · exact ((rigsOnly_faultRig s id true).trans (rigsOnly_bump _ _ _ _)).trans (rigsOnly_latchEvt _ _ _ _)

theorem rigsOnly_chargeRig (s : State) (id : Nat) : RigsOnly s (s.chargeRig id) := by
  cases h : s.rig? id with
  | none =>
    simp only [State.chargeRig, h]
    exact .refl s
  | some r =>
    simp only [State.chargeRig, h]
    have hcharged (n : Nat) : RigsOnly s (r.placedOn.foldl (fun (t : State) a => t.bump .ashlar a 0x54)
        (s.setRig id { r with charges := n })) :=
      (rigsOnly_setRig (r' := { r with charges := n }) h rfl fun hq => hq).trans (RigsOnly.foldl (fun t a => rigsOnly_bump t _ _ _) _ _)
    split
    · exact (hcharged _).trans (rigsOnly_faultCharged _ _)
    · exact hcharged _

theorem rigsOnly_faultStruck (s : State) : RigsOnly s s.faultStruck := by
  refine RigsOnly.foldl (fun t e => ?_) _ s
  split
  · exact rigsOnly_faultRig _ _ _
  · exact .refl t

theorem rigsOnly_drainCapture (s : State) (id : Nat) : RigsOnly s (s.drainCapture id) := by
  cases h : s.rig? id with
  | none =>
    simp only [State.drainCapture, h]
    exact .refl s
  | some r =>
    simp only [State.drainCapture, h]
    split
    · exact rigsOnly_setRig h rfl fun hq => hq
    · exact .refl s

/-! ### A machine on which nothing but rigs without queues is at work -/

/-- No queue, round, transport or bed holds anything, and no rig uses a queue. -/
structure Quiet (s : State) : Prop where
  spill : s.spill = {}
  rounds : s.rounds = {}
  net : s.net = {}
  bed : s.fabric.bed = []
  adds : s.fabric.adds = []
  queues : ∀ e ∈ s.fabric.rigs, e.2.queues = []

theorem Quiet.rigs {s t : State} (h : Quiet s) (k : RigsOnly s t) : Quiet t := by
  obtain ⟨hspill, hrounds, hnet, hbed, hadds, hqueues⟩ := h
  exact ⟨by rw [k.frame]; exact hspill, by rw [k.frame]; exact hrounds, by rw [k.frame]; exact hnet, by rw [k.frame]; exact hbed,
    by rw [k.frame]; exact hadds, k.queues hqueues⟩

theorem restarted_rigs {s t : State} (k : RigsOnly s t) (commit : Bool) : restarted t commit = restarted s commit := by
  have hcores : t.cores = s.cores := by rw [k.frame]
  simp only [restarted, hcores, k.active]

section
variable {s : State} (h : Quiet s)
include h

theorem feeders_quiet : s.feeders = [] := by
  rw [State.feeders, h.spill]
  rfl

theorem rigItemQueues_quiet : s.rigItemQueues = [] := by
  rw [State.rigItemQueues, h.spill]
  rfl

theorem rigQueues_quiet (f : Queue → Queue) : s.rigQueues f = s := by
  refine foldl_fixed fun e he => ?_
  split
  · rfl
  · rw [h.queues e he, List.foldl_nil]

theorem commitBeds_quiet : s.commitBeds = s := by
  simp only [State.commitBeds, h.bed, List.foldl_nil, List.map_nil]
  rw [← h.bed]

theorem discardBeds_quiet : s.discardBeds = s := by
  simp only [State.discardBeds, h.bed, List.filter_nil, List.map_nil]
  rw [← h.bed]

theorem roundWork_quiet : s.roundWork = s := by
  rw [State.roundWork, h.rounds]
  rfl

theorem deliverNotices_quiet : s.deliverNotices = s := by
  have hnone : s.halyard.notices = [] := by rw [State.halyard, h.net]
  rw [State.deliverNotices, hnone, List.length_nil, State.sendNotices, hnone]
  rfl

theorem rigsOnly_allowances : RigsOnly s s.allowances := by
  have hrigs := RigsOnly.foldl (f := fun (t : State) (e : Nat × Rig) =>
    if e.2.active then t.modRig e.1 fun r => { r with
      charges := 0, queues := r.queues.map fun b => { b with allowance := allowance b.allowance b.perStroke (s.srcPressed (.rig e.1)) } }
    else t.modRig e.1 fun r => { r with charges := 0 }) (fun t e => by
      split
      · exact rigsOnly_modRig t _ (fun _ => rfl) fun r hr => by rw [hr]; rfl
      · exact rigsOnly_modRig t _ (fun _ => rfl) fun r hr => hr) s.fabric.rigs s
  have hfeeders := feeders_quiet h
  rw [State.allowances]
  dsimp only
  rw [hfeeders, List.foldl_nil]
  exact hrigs

end

/-! ### The fabric step -/

/-- `t` is `s` but for registers, vectors, the fabric, the cores and the stroke. -/
def FabricOnly (s t : State) : Prop :=
  t = { s with regs := t.regs, out := t.out, pcie := t.pcie, fabric := t.fabric, cores := t.cores, stroke := t.stroke }

theorem FabricOnly.of_rigs {s t : State} (h : RigsOnly s t) : FabricOnly s t := by
  rw [FabricOnly, h.frame]

theorem FabricOnly.trans {s t v : State} (h : FabricOnly s t) (k : FabricOnly t v) : FabricOnly s v := by
  unfold FabricOnly at *
  rw [k, h]

theorem Quiet.noteQueueMax {s : State} (h : Quiet s) : Quiet s.noteQueueMax := ⟨h.spill, h.rounds, h.net, h.bed, h.adds, h.queues⟩

theorem noteLate_quiet {s : State} (h : Quiet s) : s.noteLate = { s with fabric := { s.fabric with lateStacks := [] } } := by
  simp only [State.noteLate, h.adds, List.any_nil, Bool.false_eq_true, List.filter_false, List.foldl_nil]

theorem commitFabric_commits {s : State} (h : Quiet s) :
    FabricOnly s s.commitFabric ∧ Quiet s.commitFabric ∧ s.commitFabric.cores = restarted s true ∧
      s.commitFabric.stroke = { s.stroke with overrunRun := 0, chargedInRun := [], lastOverran := false } := by
  have hdrains := RigsOnly.foldl (fun t (e : Nat × Rig) => rigsOnly_drainCapture t e.1) s.fabric.rigs s
  have hrigs := hdrains.trans (rigsOnly_allowances (h.rigs hdrains))
  have hquiet := h.rigs hrigs
  have hrestart := restarted_rigs hrigs true
  rw [State.commitFabric]
  dsimp only
  generalize (State.allowances (s.fabric.rigs.foldl (fun t e => t.drainCapture e.1) s)) = v at hrigs hquiet hrestart
  have hcores : Quiet (v.restartCores true) := ⟨hquiet.spill, hquiet.rounds, hquiet.net, hquiet.bed, hquiet.adds, hquiet.queues⟩
  have hqueues : (v.restartCores true).spill.queues = [] := by rw [hcores.spill]
  rw [commitBeds_quiet hcores, rigItemQueues_quiet hcores, List.foldl_nil, rigQueues_quiet hcores, feeders_quiet hcores, List.foldl_nil,
    hqueues, List.foldl_nil, roundWork_quiet hcores, deliverNotices_quiet hcores]
  refine ⟨(FabricOnly.of_rigs hrigs).trans rfl, ⟨hquiet.spill, hquiet.rounds, hquiet.net, hquiet.bed, hquiet.adds, hquiet.queues⟩,
    hrestart, ?_⟩
  have hstroke : v.stroke = s.stroke := by rw [hrigs.frame]
  rw [← hstroke]
  rfl

/-- The unit of a stroke that overran, and is charged to the rigs `l`. -/
def chargedUnit (k : StrokeUnit) (l : List Nat) (c : OverrunCause) : StrokeUnit :=
  { k with overrunRun := k.overrunRun + 1, chargedInRun := l, lastOverran := true, lastOverrun := k.now, cause := c }

theorem charge_charges {s : State} (h : Quiet s) : ∃ l c, RigsOnly { s with stroke := chargedUnit s.stroke l c } s.charge := by
  have hfeeds : s.chargedFeeders = [] := by rw [State.chargedFeeders, feeders_quiet h, List.filter_nil]
  rw [State.charge]
  dsimp only
  rw [hfeeds, List.foldl_nil]
  exact ⟨_, _, ((((rigsOnly_bump _ .stroke 0 0x68).trans (rigsOnly_latchEvt _ .stroke 0 1)).trans
    (RigsOnly.foldl (fun t i => rigsOnly_chargeRig t i) _ _)).trans (RigsOnly.ite _ (rigsOnly_latchEvt _ .stroke 0 4))).trans
    (RigsOnly.ite _ (RigsOnly.foldl (fun t i => rigsOnly_faultCharged t i) _ _))⟩

theorem discardFabric_discards {s : State} (h : Quiet s) :
    FabricOnly s s.discardFabric ∧ Quiet s.discardFabric ∧ s.discardFabric.cores = restarted s false ∧
      s.discardFabric.stroke = s.stroke := by
  have hcores : Quiet (s.restartCores false) := ⟨h.spill, h.rounds, h.net, h.bed, h.adds, h.queues⟩
  rw [State.discardFabric]
  dsimp only
  rw [discardBeds_quiet hcores, rigItemQueues_quiet hcores, List.foldl_nil, rigQueues_quiet hcores, feeders_quiet hcores, List.foldl_nil]
  exact ⟨rfl, ⟨h.spill, h.rounds, h.net, h.bed, rfl, h.queues⟩, rfl, rfl⟩

/-- `t` is `s` but for the markers of the Ashlars, the values drawn for them, and the cycle. -/
def MarksOnly (s t : State) : Prop :=
  t = { s with
    free := t.free
    fabric := { s.fabric with ashlars := t.fabric.ashlars }
    stroke := { s.stroke with cycle := t.stroke.cycle } }

theorem MarksOnly.refl (s : State) : MarksOnly s s := rfl

theorem MarksOnly.trans {s t v : State} (h : MarksOnly s t) (k : MarksOnly t v) : MarksOnly s v := by
  unfold MarksOnly at *
  rw [k, h]

theorem MarksOnly.foldl {α : Type} {f : State → α → State} (h : ∀ s a, MarksOnly s (f s a)) (l : List α) (s : State) :
    MarksOnly s (l.foldl f s) := by
  induction l generalizing s with
  | nil => exact .refl s
  | cons a l ih => exact (h s a).trans (ih (f s a))

theorem MarksOnly.overran {s t : State} (h : MarksOnly s t) : t.overran = s.overran := by
  rw [h]
  rfl

theorem MarksOnly.restarted {s t : State} (h : MarksOnly s t) (commit : Bool) : restarted t commit = restarted s commit := by
  rw [h]
  rfl

theorem MarksOnly.quiet {s t : State} (h : MarksOnly s t) (hs : Quiet s) : Quiet t := by
  rw [h]
  exact ⟨hs.spill, hs.rounds, hs.net, hs.bed, hs.adds, hs.queues⟩

theorem marksOnly_atCycle (s : State) (c : Nat) : MarksOnly s (s.atCycle c) := by
  obtain ⟨x, h⟩ := s.atCycle_frame c
  rw [h]
  rfl

theorem marksOnly_markerOf (s : State) (id ord : Nat) (r : Rig) (a : RigAshlar) (x : Nat) : MarksOnly s (s.markerOf id ord r a x).2 := by
  rw [State.markerOf]
  split
  · rfl
  · split
    · rfl
    · split
      · rfl
      · rfl

theorem marksOnly_markers (s : State) : MarksOnly s s.markers := by
  rw [State.markers]
  refine MarksOnly.trans (t := { s with fabric := { s.fabric with
    ashlars := (s.fabric.ashlars.map fun e => (e.1, { e.2 with markerLast := 0 })).filter fun e => decide (e.2 ≠ {}) } }) rfl
    (MarksOnly.foldl (fun t e => ?_) _ _)
  split
  · exact .refl t
  · refine MarksOnly.foldl (fun u f => ?_) _ _
    split
    · exact (marksOnly_markerOf u _ _ _ _ _).trans rfl
    · exact .refl u

/-- The outcome of a stroke: the cores restart, the stroke's unit is as `k` says, and nothing outside the fabric has changed. -/
structure Settled (s t : State) (commit : Bool) : Prop where
  frame : FabricOnly s t
  quiet : Quiet t
  cores : t.cores = restarted s commit
  now : t.stroke.now = s.stroke.now
  alarm : t.stroke.alarmOn = s.stroke.alarmOn
  stretch : t.stroke.stretchPending = s.stroke.stretchPending
  next : t.stroke.nextStroke = s.stroke.nextStroke

theorem Quiet.clearStroke {s : State} (h : Quiet s) : Quiet s.clearStroke := by
  refine ⟨h.spill, h.rounds, h.net, h.bed, h.adds, fun e he => ?_⟩
  obtain ⟨x, hx, rfl⟩ := List.mem_map.mp he
  exact h.queues x hx

theorem noteMarks {s : State} (h : Quiet s) : ∃ m, s.noteQueueMax.noteLate =
    { s with fabric := { s.fabric with queueMax := m, lateStacks := [] } } := by
  rw [noteLate_quiet h.noteQueueMax]
  exact ⟨_, rfl⟩

theorem fabricStep_commits {s : State} (h : Quiet s) (hgated : s.gated = false) (hov : s.overran = false) :
    Settled s s.fabricStep true ∧ s.fabricStep.stroke.overrunRun = 0 ∧ s.fabricStep.stroke.lastOverran = false := by
  obtain ⟨m, hm⟩ := noteMarks h
  rw [State.fabricStep, hgated, hov]
  dsimp only
  rw [if_neg Bool.false_ne_true, if_neg Bool.false_ne_true, hm]
  obtain ⟨hframe, hquiet, hcores, hstroke⟩ := commitFabric_commits
    (s := { s with fabric := { s.fabric with queueMax := m, lateStacks := [] } }) ⟨h.spill, h.rounds, h.net, h.bed, h.adds, h.queues⟩
  generalize State.commitFabric { s with fabric := { s.fabric with queueMax := m, lateStacks := [] } } = v at hframe hquiet hcores hstroke
  have hstruck := rigsOnly_faultStruck v
  have hfault : v.faultStruck.cores = v.cores := by rw [hstruck.frame]
  have hunit : v.faultStruck.stroke = v.stroke := by rw [hstruck.frame]
  have hclear : v.faultStruck.clearStroke.stroke = { v.faultStruck.stroke with strokeFaults := [] } := rfl
  rw [hunit, hstroke] at hclear
  refine ⟨⟨?_, (hquiet.rigs hstruck).clearStroke, hfault.trans hcores, ?_, ?_, ?_, ?_⟩, ?_, ?_⟩
  · have hlast : FabricOnly v v.faultStruck.clearStroke := FabricOnly.trans (t := v.faultStruck) (FabricOnly.of_rigs hstruck) rfl
    exact (FabricOnly.trans (t := { s with fabric := { s.fabric with queueMax := m, lateStacks := [] } }) rfl hframe).trans hlast
  all_goals rw [hclear]

/-- After its charges a stroke that overran is discarded. -/
theorem charged_discards {s w : State} {k : StrokeUnit} (h : Quiet s) (hcharge : RigsOnly { s with stroke := k } w) :
    FabricOnly s w.faultStruck.discardFabric.clearStroke ∧ Quiet w.faultStruck.discardFabric.clearStroke ∧
      w.faultStruck.discardFabric.clearStroke.cores = restarted s false ∧
      w.faultStruck.discardFabric.clearStroke.stroke = { k with strokeFaults := [] } := by
  have hstruck := hcharge.trans (rigsOnly_faultStruck w)
  have hunit : w.faultStruck.stroke = k := by rw [hstruck.frame]
  have hframe : FabricOnly s w.faultStruck := FabricOnly.trans (t := { s with stroke := k }) rfl (FabricOnly.of_rigs hstruck)
  have hrestart : restarted w.faultStruck false = restarted s false := restarted_rigs hstruck false
  have hquiet : Quiet w.faultStruck := Quiet.rigs (s := { s with stroke := k }) ⟨h.spill, h.rounds, h.net, h.bed, h.adds, h.queues⟩ hstruck
  generalize w.faultStruck = v at hunit hframe hrestart hquiet
  obtain ⟨hdiscard, hdone, hcores, hstroke⟩ := discardFabric_discards hquiet
  have hclear : FabricOnly v.discardFabric v.discardFabric.clearStroke := rfl
  have hend : v.discardFabric.clearStroke.stroke = { v.discardFabric.stroke with strokeFaults := [] } := rfl
  exact ⟨(hframe.trans hdiscard).trans hclear, hdone.clearStroke, hcores.trans hrestart, by rw [hend, hstroke, hunit]⟩

theorem fabricStep_discards {s : State} (h : Quiet s) (hgated : s.gated = false) (hov : s.overran = true) :
    Settled s s.fabricStep false ∧ s.fabricStep.stroke.overrunRun = s.stroke.overrunRun + 1 ∧
      s.fabricStep.stroke.lastOverran = true ∧ s.fabricStep.stroke.lastOverrun = s.stroke.now := by
  obtain ⟨m, hm⟩ := noteMarks h
  rw [State.fabricStep, hgated, hov]
  dsimp only
  rw [if_neg Bool.false_ne_true, if_pos rfl, hm]
  have hmarked : Quiet { s with fabric := { s.fabric with queueMax := m, lateStacks := [] } } :=
    ⟨h.spill, h.rounds, h.net, h.bed, h.adds, h.queues⟩
  obtain ⟨l, c, hcharge⟩ := charge_charges hmarked
  obtain ⟨hframe, hquiet, hcores, hstroke⟩ := charged_discards hmarked hcharge
  refine ⟨⟨?_, hquiet, hcores, ?_, ?_, ?_, ?_⟩, ?_, ?_, ?_⟩
  · exact FabricOnly.trans (t := { s with fabric := { s.fabric with queueMax := m, lateStacks := [] } }) rfl hframe
  all_goals rw [hstroke]; rfl

/-! ### The other steps of a commit at which nothing waits -/

/-- No queue, round, transport, command, halt or reef state has anything to do at the commit. -/
structure Idle (s : State) : Prop where
  spill : s.spill = {}
  rounds : s.rounds = {}
  net : s.net = {}
  spillCmd : s.spillCmd = []
  muster : s.muster.busy = false
  bosun : s.bosun.busy = false
  modTable : s.mtCmd.busy = false
  halt : s.tt.haltAt = none
  unlock : s.tt.unlockAt = none
  reef : s.reef = {}
  alarm : s.stroke.alarmOn = false
  stretch : s.stroke.stretchPending = false
  next : s.stroke.nextStroke = none

theorem MarksOnly.idle {s t : State} (h : MarksOnly s t) (hs : Idle s) : Idle t := by
  rw [h]
  exact ⟨hs.spill, hs.rounds, hs.net, hs.spillCmd, hs.muster, hs.bosun, hs.modTable, hs.halt, hs.unlock, hs.reef, hs.alarm, hs.stretch,
    hs.next⟩

theorem Settled.idle {s t : State} {commit : Bool} (h : Settled s t commit) (hs : Idle s) : Idle t := by
  obtain ⟨hframe, hquiet, -, -, halarm, hstretch, hnext⟩ := h
  refine ⟨hquiet.spill, hquiet.rounds, hquiet.net, ?_, ?_, ?_, ?_, ?_, ?_, ?_, halarm.trans hs.alarm, hstretch.trans hs.stretch,
    hnext.trans hs.next⟩
  · rw [hframe]; exact hs.spillCmd
  · rw [hframe]; exact hs.muster
  · rw [hframe]; exact hs.bosun
  · rw [hframe]; exact hs.modTable
  · rw [hframe]; exact hs.halt
  · rw [hframe]; exact hs.unlock
  · rw [hframe]; exact hs.reef

theorem bpStroke_none {s : State} (h : ∀ b, b < 16 → s.bpArmed b 0 = false) : s.bpStroke = s := by
  rw [State.bpStroke, State.bpMatch, List.filter_eq_nil_iff.mpr fun b hb => ?_, List.foldl_nil]
  rw [h b (List.mem_range.mp hb), Bool.false_and]
  exact Bool.false_ne_true

section
variable {s : State} (h : Idle s)
include h

theorem forcedLeave_idle : s.forcedLeave = s := by
  rw [State.forcedLeave, State.haltDue, h.halt]
  rfl

theorem releaseAcks_idle : s.releaseAcks = s := by
  have hqps : s.halyard.qps = [] := by rw [State.halyard, h.net]
  have hspray : s.halyard.spray = [] := by rw [State.halyard, h.net]
  rw [State.releaseAcks, State.liveQps, hqps]
  dsimp only
  rw [List.filter_nil, List.foldl_nil, State.endSprays, hspray, List.foldl_nil]

theorem roundsStep_idle (ov : Bool) : s.roundsStep ov = s := by
  have hblocks : s.rounds.blocks = [] := by rw [h.rounds]
  have hjudge : s.musterJudge = s := by
    simp only [State.musterJudge, h.muster, Bool.not_false, true_or, if_true]
  have hopen : s.musterOpen = s := by
    simp only [State.musterOpen, h.muster, Bool.not_false, true_or, if_true]
  simp only [State.roundsStep, hjudge, hblocks, List.map_nil, List.foldl_nil, hopen]

theorem spillIdle (k : Nat) : (s.spillCmdOf k).busy = false := by
  rw [State.spillCmdOf, h.spillCmd]
  rfl

theorem commandStep_idle : s.commandStep = s := by
  have hflush : s.hostFlushes = s := foldl_fixed fun k _ => by
    simp only [spillIdle h, Bool.false_and, Bool.false_eq_true, if_false]
  have hmuster : s.endMuster = s := by
    simp only [State.endMuster, h.muster, Bool.not_false, true_or, if_true]
  have hflushes : s.endFlushes = s := foldl_fixed fun k _ => by
    simp only [spillIdle h, Bool.false_and, Bool.false_eq_true, if_false]
  have hbosun : s.endBosun = s := by
    simp only [State.endBosun, h.bosun, Bool.not_false, if_true]
  have hunlock : s.unlockStep = s := by
    simp only [State.unlockStep, h.unlock]
  have halarm : s.alarmStep = s := by
    simp only [State.alarmStep, h.alarm, Bool.false_and, Bool.false_eq_true, if_false]
  have hadoption : s.adoption = s := by
    have hphase : s.hail.phase ≠ .forming := by rw [State.hail, h.net]; decide
    simp only [State.adoption, hphase, ne_eq, not_false_eq_true, true_or, if_true]
  have hended : s.rounds.ended = [] := by rw [h.rounds]
  have hfree : s.freeEnded = s := by
    simp only [State.freeEnded, hended, List.filter_nil, List.foldl_nil]
    rw [← hended]
  rw [State.commandStep, hflush, hmuster, hflushes, hbosun, hunlock, h.modTable, Bool.false_and, if_neg Bool.false_ne_true, halarm, hadoption, hfree]

/-- No deeper state than Reef-1 is due: the dwells of the others have just begun. -/
theorem reefTarget_idle : s.countDwells.reefTarget = 0 ∨ s.countDwells.reefTarget = 1 := by
  have h2 : s.countDwells.dwelt 2 = false := by
    simp only [State.dwelt, State.countDwells, h.reef]
    split <;> rfl
  have h3 : s.countDwells.dwelt 3 = false := by
    simp only [State.dwelt, State.countDwells, h.reef]
    split <;> rfl
  have h4 : s.countDwells.dwelt 4 = false := by
    simp only [State.dwelt, State.countDwells, h.reef]
    split <;> rfl
  simp only [State.reefTarget, List.find?_cons, h2, h3, h4, Bool.and_false, List.find?_nil]
  split
  · exact .inr rfl
  · exact .inl rfl

theorem reefStep_stands : s.reefStep.cores = s.cores ∧ s.reefStep.mem = s.mem ∧ s.reefStep.stroke = s.stroke ∧
    s.reefStep.spill = s.spill ∧ s.reefStep.net = s.net := by
  have hlevel : s.countDwells.reef.level = 0 := by rw [State.countDwells, h.reef]
  have hexit : s.countDwells.reef.exiting = false := by rw [State.countDwells, h.reef]
  rw [State.reefStep]
  rcases reefTarget_idle h with ht | ht
  · simp only [ht, hlevel, hexit, Bool.false_eq_true, if_false, gt_iff_lt, Nat.lt_irrefl]
    exact ⟨rfl, rfl, rfl, rfl, rfl⟩
  · simp only [ht, hlevel, hexit, Bool.false_eq_true, if_false, gt_iff_lt, Nat.lt_one_iff, if_true, State.enterReef, State.setLevel,
      Nat.zero_ne_one, Nat.reduceEqDiff, State.bump_cores, State.bump_mem, State.bump_stroke, State.bump_spill, State.bump_net,
      latchEvt_cores, latchEvt_mem, latchEvt_stroke, latchEvt_spill, latchEvt_net]
    exact ⟨rfl, rfl, rfl, rfl, rfl⟩

end

/-- The counter advances, and the next stroke starts. -/
theorem nextStrokeStep_idle {s : State} (h : Idle s) : s.nextStrokeStep.cores = s.cores ∧ s.nextStrokeStep.mem = s.mem ∧
    s.nextStrokeStep.stroke = { s.stroke with now := min (s.stroke.now + 1) (2 ^ 64 - 1), cycle := 0, nextStroke := none } := by
  obtain ⟨hcores, hmem, hstroke, hspill, hnet⟩ := reefStep_stands h
  have hstretch : s.stretch = s := by
    simp only [State.stretch, h.stretch, Bool.not_false, if_true]
  have hhalt : s.haltDue = none := by rw [State.haltDue, h.halt]
  obtain ⟨x, y, hltr⟩ : ∃ x y, s.reefStep.sendLtr = { s.reefStep with reef := x, out := y } := by
    rw [State.sendLtr]
    dsimp only
    generalize ltrValue _ = v
    split
    · exact ⟨_, _, rfl⟩
    · rw [State.emit_plain _ _ rfl]
      exact ⟨_, _, rfl⟩
  simp only [State.nextStrokeStep, hstretch, hhalt, hltr]
  generalize s.reefStep = v at hcores hmem hstroke hspill hnet
  have hheld : v.spill.held = [] := by rw [hspill, h.spill]
  have hpackets : v.net.halyard.held = [] := by rw [hnet, h.net]
  simp only [State.strokeStart, State.applyHeld, State.applyHeldPackets, State.advanceCounter, State.halyard, hheld, hpackets, h.next,
    List.foldl_nil, State.setHalyard_cores, State.setHalyard_mem, State.setHalyard_stroke, hcores, hmem, hstroke, and_self]

theorem calm_idle {s : State} (h : Calm s) : Idle s :=
  ⟨h.queues, h.rounds, h.net, h.spillCmd, h.muster, h.bosun, h.modTable, h.halt, h.unlock, h.reef, h.alarm, h.stretch, h.next⟩

theorem calm_quiet {s : State} (h : Calm s) : Quiet s := ⟨h.queues, h.rounds, h.net, h.beds, h.adds, fun e he => (h.rigs e he).1⟩

/-- The state at cycle 2,041 of a calm stroke: only the markers have moved. -/
theorem commit_calm {s : State} (h : Calm s) : ∃ a, MarksOnly s a ∧ ∃ ov, s.commit =
    ((((a.fabricStep).atCycle 2043).roundsStep ov).atCycle 2047).commandStep.nextStrokeStep := by
  have hpoints : (s.atCycle 1984).bpStroke = s.atCycle 1984 := bpStroke_none fun b hb => by
    rw [State.bpArmed, State.reg, atCycle_regs]
    exact h.comparators b hb
  have hmarks : MarksOnly s (((s.atCycle 1984).markers).atCycle 2016) :=
    ((marksOnly_atCycle s 1984).trans (marksOnly_markers _)).trans (marksOnly_atCycle _ _)
  refine ⟨_, hmarks.trans (marksOnly_atCycle _ 2041), ?_⟩
  rw [State.commit, hpoints, forcedLeave_idle (((marksOnly_atCycle s 1984).trans (marksOnly_markers _)).idle (calm_idle h)),
    releaseAcks_idle (hmarks.idle (calm_idle h))]
  exact ⟨_, rfl⟩

/-- What the fabric step settles is what the commit leaves, with the counter advanced. -/
theorem settled_ends {s t : State} {commit ov : Bool} (h : Settled s t commit) (hidle : Idle t) :
    let v := (((t.atCycle 2043).roundsStep ov).atCycle 2047).commandStep.nextStrokeStep
    v.cores = t.cores ∧ v.mem = t.mem ∧
      ∃ c, v.stroke = { t.stroke with now := min (s.stroke.now + 1) (2 ^ 64 - 1), cycle := c, nextStroke := none } ∧ c = 0 := by
  have hfirst := (marksOnly_atCycle t 2043).idle hidle
  have hmarks := (marksOnly_atCycle t 2043).trans (marksOnly_atCycle _ 2047)
  have hlast := hmarks.idle hidle
  dsimp only
  rw [roundsStep_idle hfirst, commandStep_idle hlast]
  obtain ⟨hcores, hmem, hstroke⟩ := nextStrokeStep_idle hlast
  refine ⟨hcores.trans ?_, hmem.trans ?_, 0, hstroke.trans ?_, rfl⟩
  · rw [hmarks]
  · rw [hmarks]
  · rw [hmarks, h.now]

/-- Settles O20. -/
theorem strokeCommitResults : Obligations.StrokeCommitResults := by
  unfold Obligations.StrokeCommitResults
  intro s h
  obtain ⟨a, ha, ov, hcommit⟩ := commit_calm h
  have hexec : exec .strokeCommit s = .next s.commit := by
    change execStrokeCommit s = _
    rw [execStrokeCommit, h.generating, if_pos rfl]
  have hquiet := ha.quiet (calm_quiet h)
  have hgated : a.gated = false := by
    rw [ha]
    exact h.gated
  have hnow : a.stroke.now = s.stroke.now := by rw [ha]
  have hmem : a.mem = s.mem := by rw [ha]
  have hrun : a.stroke.overrunRun = s.stroke.overrunRun := by rw [ha]
  refine ⟨fun hov => ?commits, fun hov => ?overruns⟩
  case commits =>
    obtain ⟨hsettled, hcount, hlast⟩ := fabricStep_commits hquiet hgated (ha.overran.trans hov)
    obtain ⟨hcores, hkeeps, c, hstroke, rfl⟩ := settled_ends (ov := ov) hsettled (hsettled.idle (ha.idle (calm_idle h)))
    rw [← hcommit] at hcores hkeeps hstroke
    refine ⟨_, hexec, by rw [hstroke, hnow], by rw [hstroke], ?_, ?_, by rw [hstroke]; exact hcount, by rw [hstroke]; exact hlast⟩
    · rw [hcores, hsettled.cores, ha.restarted]
    · rw [hkeeps, hsettled.frame, ← hmem]
  case overruns =>
    obtain ⟨hsettled, hcount, hlast, hat⟩ := fabricStep_discards hquiet hgated (ha.overran.trans hov)
    obtain ⟨hcores, hkeeps, c, hstroke, rfl⟩ := settled_ends (ov := ov) hsettled (hsettled.idle (ha.idle (calm_idle h)))
    rw [← hcommit] at hcores hkeeps hstroke
    refine ⟨_, hexec, by rw [hstroke, hnow], by rw [hstroke], ?_, ?_, ?_, by rw [hstroke]; exact hlast, ?_⟩
    · rw [hcores, hsettled.cores, ha.restarted]
    · rw [hkeeps, hsettled.frame, ← hmem]
    · rw [hstroke, ← hrun]; exact hcount
    · rw [hstroke, ← hnow]; exact hat

end Sys2Proof.Proofs.Commit
end

section
/-!
PROOFS. Registers after counts and pairs (16 R606, R609): what a counter and a 64-bit pair read, and what they leave.
-/

namespace Sys2Proof.Proofs.Registers

open Sys2Proof Sys2Proof.Machine Sys2Proof.Proofs.FieldRules Sys2Proof.Proofs.CoreStores

theorem countsOnly_setReg (s : State) (p : Page) (i off : Nat) (v : W32) : CountsOnly s (s.setReg p i off v) := ⟨_, _, _, rfl⟩

theorem countsOnly_setPair (s : State) (p : Page) (i off v : Nat) : CountsOnly s (s.setPair p i off v) := ⟨_, _, _, rfl⟩

theorem countsOnly_bumpBy (s : State) (p : Page) (i off n : Nat) : CountsOnly s (s.bumpBy p i off n) := ⟨_, _, _, rfl⟩

theorem counts_foldl {α : Type} {f : State → α → State} (h : ∀ s a, CountsOnly s (f s a)) (l : List α) (s : State) :
    CountsOnly s (l.foldl f s) := by
  induction l generalizing s with
  | nil => exact countsOnly_refl s
  | cons a l ih => exact (h s a).trans (ih (f s a))

section
variable {s t : State} (h : CountsOnly s t)
include h

theorem counts_stands : FabricStands s t := by
  obtain ⟨_, _, _, rfl⟩ := h
  exact ⟨rfl, rfl, rfl, rfl, rfl⟩

theorem counts_net : t.net = s.net := by
  obtain ⟨_, _, _, rfl⟩ := h
  rfl

theorem counts_boot : t.boot = s.boot := by
  obtain ⟨_, _, _, rfl⟩ := h
  rfl

theorem counts_power : t.power = s.power := by
  obtain ⟨_, _, _, rfl⟩ := h
  rfl

theorem counts_ten : t.ten = s.ten := by
  obtain ⟨_, _, _, rfl⟩ := h
  rfl

theorem counts_keep : t.keep = s.keep := by
  obtain ⟨_, _, _, rfl⟩ := h
  rfl

theorem counts_tt : t.tt = s.tt := by
  obtain ⟨_, _, _, rfl⟩ := h
  rfl

theorem counts_stroke : t.stroke = s.stroke := by
  obtain ⟨_, _, _, rfl⟩ := h
  rfl

theorem counts_reef : t.reef = s.reef := by
  obtain ⟨_, _, _, rfl⟩ := h
  rfl

end

variable (s : State)

theorem reg_bumpBy_self (p : Page) (i off n : Nat) : (s.bumpBy p i off n).reg p i off = satAdd (s.reg p i off) n :=
  s.reg_setReg_self _ _ _ _

theorem reg_bump_self (p : Page) (i off : Nat) : (s.bump p i off).reg p i off = satAdd (s.reg p i off) 1 := s.reg_setReg_self _ _ _ _

theorem reg_bumpBy_ne (p q : Page) (i j off o n : Nat) (h : regAddr q j o ≠ regAddr p i off) :
    (s.bumpBy p i off n).reg q j o = s.reg q j o := reg_setReg_ne s _ _ _ _ _ _ _ h

theorem reg_bump_ne (p q : Page) (i j off o : Nat) (h : regAddr q j o ≠ regAddr p i off) : (s.bump p i off).reg q j o = s.reg q j o :=
  reg_setReg_ne s _ _ _ _ _ _ _ h

theorem reg_setPair_ne (p q : Page) (i j off o v : Nat) (h : regAddr q j o ≠ regAddr p i off) (h' : regAddr q j o ≠ regAddr p i (off + 4)) :
    (s.setPair p i off v).reg q j o = s.reg q j o :=
  (reg_setReg_ne _ _ _ _ _ _ _ _ h').trans (reg_setReg_ne s _ _ _ _ _ _ _ h)

theorem getPair_setPair_self (p : Page) (i off : Nat) {v : Nat} (hv : v < 2 ^ 64) : (s.setPair p i off v).getPair p i off = v := by
  have hlow : regAddr p i off ≠ regAddr p i (off + 4) := by
    simp only [regAddr]
    omega
  rw [State.getPair, State.setPair, State.reg_setReg_self, reg_setReg_ne _ _ _ _ _ _ _ _ hlow, State.reg_setReg_self, BitVec.toNat_ofNat,
    BitVec.toNat_ofNat]
  omega

theorem bump64_eq (p : Page) (i off n : Nat) : s.bump64 p i off n = s.setPair p i off (min (2 ^ 64 - 1) (s.getPair p i off + n)) := rfl

theorem countsOnly_bump64 (p : Page) (i off n : Nat) : CountsOnly s (s.bump64 p i off n) := by
  rw [bump64_eq]
  exact countsOnly_setPair _ _ _ _ _

theorem reg_bump64_ne (p q : Page) (i j off o n : Nat) (h : regAddr q j o ≠ regAddr p i off) (h' : regAddr q j o ≠ regAddr p i (off + 4)) :
    (s.bump64 p i off n).reg q j o = s.reg q j o := by
  rw [bump64_eq, reg_setPair_ne s _ _ _ _ _ _ _ h h']

theorem getPair_bump64_self (p : Page) (i off n : Nat) :
    (s.bump64 p i off n).getPair p i off = min (2 ^ 64 - 1) (s.getPair p i off + n) := by
  rw [bump64_eq, getPair_setPair_self]
  exact Nat.lt_of_le_of_lt (Nat.min_le_left _ _) (by decide)

theorem getPair_of_reg {s t : State} {p : Page} {i off : Nat} (h : t.reg p i off = s.reg p i off)
    (h' : t.reg p i (off + 4) = s.reg p i (off + 4)) : t.getPair p i off = s.getPair p i off := by
  rw [State.getPair, h, h', State.getPair]

/-- The bit of a latched event is set. -/
theorem latchEvt_bit (p : Page) (i : Nat) {m b : Nat} (hb : (m % 2 ^ p.evtBits % 2 ^ 32).testBit b = true) :
    ((s.latchEvt p i m).reg p i 0x14).toNat.testBit b = true := by
  rw [latchEvt_reg_self, BitVec.toNat_or, BitVec.toNat_ofNat, Nat.testBit_or, hb, Bool.or_true]

end Sys2Proof.Proofs.Registers
end

section
/-!
PROOFS. The Ethernet ports (11 R420 to R428, R447 to R449).
-/

namespace Sys2Proof.Proofs.Ports

open Sys2Proof Sys2Proof.Machine Sys2Proof.Proofs.FieldRules Sys2Proof.Proofs.CoreStores Sys2Proof.Proofs.Registers
  Sys2Proof.Proofs.QueueEvents

/-- Registers of one page instance at different offsets have different addresses. -/
theorem regAddr_ne (p : Page) (i : Nat) {off o : Nat} (h : o ≠ off) : regAddr p i o ≠ regAddr p i off := by
  simp only [regAddr]
  omega

theorem regAddr_port_ne {p q off o : Nat} (h : q ≠ p) (hoff : off < 0x1000) (ho : o < 0x1000) : regAddr .eth q o ≠ regAddr .eth p off := by
  simp only [regAddr, Page.base]
  omega

theorem port_setPort_self (s : State) (p : Nat) (x : Port) : (s.setPort p x).port p = x := by rw [State.port_setPort, if_pos rfl]

theorem port_of_net {s t : State} (h : t.net = s.net) (p : Nat) : t.port p = s.port p := by rw [State.port, h, State.port]

theorem onPort_runs {p : Nat} (hp : p < 8) (s : State) (f : State → State) : onPort p s f = .next (f s) := by
  rw [onPort, if_neg (Nat.not_le.mpr hp)]

/-- Port `p` becomes `x`, and memory, the cores, the fabric and the queues stand. -/
structure PortBecomes (s t : State) (p : Nat) (x : Port) : Prop where
  port : t.port p = x
  stands : FabricStands s t

theorem becomes_setPort (s : State) (p : Nat) (x : Port) : PortBecomes s (s.setPort p x) p x :=
  ⟨port_setPort_self s p x, ⟨rfl, rfl, rfl, rfl, rfl⟩⟩

theorem PortBecomes.counts {s t v : State} {p : Nat} {x : Port} (h : PortBecomes s t p x) (k : CountsOnly t v) : PortBecomes s v p x :=
  ⟨(port_of_net (counts_net k) p).trans h.port, FabricStands.trans h.stands (counts_stands k)⟩

/-! ### PFC -/

theorem sendPfc_counts (s : State) (p prio quanta : Nat) : CountsOnly s (s.sendPfc p prio quanta) := by
  rw [State.sendPfc, State.emit_plain _ _ rfl]
  exact ⟨_, _, _, rfl⟩

theorem sendPfc_out (s : State) (p prio quanta : Nat) : (s.sendPfc p prio quanta).out = .pfc p prio quanta :: s.out := by
  rw [State.sendPfc, State.emit_plain _ _ rfl]
  rfl

theorem sendPfc_reg (s : State) (p prio quanta : Nat) {off : Nat} (h : off ≠ 0x84) :
    (s.sendPfc p prio quanta).reg .eth p off = s.reg .eth p off := by
  rw [State.sendPfc, State.emit_plain _ _ rfl, reg_bump_ne _ _ _ _ _ _ _ (regAddr_ne _ _ h)]
  rfl

/-- The buffer level of a priority is stored; a pause or a resumption may be sent. -/
theorem pfcLevel_stores (s : State) (p prio fill : Nat) (refresh : Bool) :
    (∃ x, x.fill = (s.port p).fill.put 0 prio fill ∧ PortBecomes s (s.pfcLevel p prio fill refresh) p x) ∧
      ∀ off, off ≠ 0x84 → (s.pfcLevel p prio fill refresh).reg .eth p off = s.reg .eth p off := by
  have hfill := becomes_setPort s p { s.port p with fill := (s.port p).fill.put 0 prio fill }
  have htwice (x : Port) : PortBecomes s ((s.setPort p { s.port p with fill := (s.port p).fill.put 0 prio fill }).setPort p x) p x :=
    ⟨port_setPort_self _ _ _, ⟨rfl, rfl, rfl, rfl, rfl⟩⟩
  have hsent (b : Bool) (q : Nat) := (htwice { s.port p with
    fill := (s.port p).fill.put 0 prio fill, txPausing := putBit (s.port p).txPausing prio b }).counts (sendPfc_counts _ p prio q)
  have hreg (t : State) (q : Nat) {off : Nat} (h : off ≠ 0x84) := sendPfc_reg t p prio q h
  rw [State.pfcLevel, hfill.port]
  split
  · exact ⟨⟨_, rfl, hfill⟩, fun _ _ => rfl⟩
  · split
    · split
      · exact ⟨⟨_, rfl, hsent false 0⟩, fun _ h => hreg _ 0 h⟩
      · split
        · exact ⟨⟨_, rfl, hfill.counts (sendPfc_counts _ _ _ _)⟩, fun _ h => hreg _ 65535 h⟩
        · exact ⟨⟨_, rfl, hfill⟩, fun _ _ => rfl⟩
    · split
      · exact ⟨⟨_, rfl, hsent true 65535⟩, fun _ h => hreg _ 65535 h⟩
      · exact ⟨⟨_, rfl, hfill⟩, fun _ _ => rfl⟩

/-- Above XON a pause is repeated. -/
theorem pfcLevel_refreshes {s : State} {p prio fill : Nat} (hpause : (s.port p).txPausing.testBit prio = true)
    (hmode : s.portMode.pfc = true) (hen : (s.pfcEn p).testBit prio = true) (habove : (s.reg .eth p 0x54).toNat < fill) :
    s.pfcLevel p prio fill true =
      (s.setPort p { s.port p with fill := (s.port p).fill.put 0 prio fill }).sendPfc p prio 65535 := by
  simp only [State.pfcLevel, hpause, hmode, hen, Nat.not_le.mpr habove, Bool.not_true, Bool.false_eq_true, or_self, if_false, if_true]

/-! ### Received frames -/

/-- The FEC counts of a frame. -/
def fecCounted (s : State) (p corr uncorr : Nat) : State :=
  if uncorr = 0 then (s.bumpBy .eth p 0x7C corr).bumpBy .eth p 0x80 uncorr
  else ((s.bumpBy .eth p 0x7C corr).bumpBy .eth p 0x80 uncorr).latchEvt .eth p 4

theorem fecCounted_counts (s : State) (p corr uncorr : Nat) : CountsOnly s (fecCounted s p corr uncorr) := by
  have h := (countsOnly_bumpBy s .eth p 0x7C corr).trans (countsOnly_bumpBy _ .eth p 0x80 uncorr)
  rw [fecCounted]
  split
  · exact h
  · exact h.trans (countsOnly_latchEvt _ _ _ _)

theorem fecCounted_reg (s : State) (p corr uncorr : Nat) {off : Nat} (h : off ≠ 0x80) (h' : off ≠ 0x14) :
    (fecCounted s p corr uncorr).reg .eth p off = (s.bumpBy .eth p 0x7C corr).reg .eth p off := by
  rw [fecCounted]
  split
  · exact reg_bumpBy_ne _ _ _ _ _ _ _ _ (regAddr_ne _ _ h)
  · exact (latchEvt_reg_ne _ _ _ _ _ _ _ (regAddr_ne _ _ h')).trans (reg_bumpBy_ne _ _ _ _ _ _ _ _ (regAddr_ne _ _ h))

theorem rxFrame_bad {s : State} {p : Nat} (len tags prio fill corr uncorr : Nat) (hmode : s.portMode ≠ .off)
    (hup : (s.port p).linkUp = true) :
    s.rxFrame p len tags prio 0 fill corr uncorr false = (fecCounted s p corr uncorr).bump .eth p 0x70 := by
  simp only [State.rxFrame, fecCounted, hmode, hup, Bool.not_true, Bool.not_false, Bool.false_eq_true, or_self, true_or, if_false, if_true]

theorem rxFrame_good {s : State} {p len tags prio fill : Nat} (corr uncorr : Nat) (hmode : s.portMode ≠ .off)
    (hup : (s.port p).linkUp = true) (hlow : 64 ≤ len) (hhigh : len ≤ 9216) (htags : tags ≤ 1)
    (hroom : ((s.port p).fill.put 0 prio fill).foldl (fun n (e : Nat × Nat) => n + e.2) 0 ≤ 8192) :
    s.rxFrame p len tags prio 0 fill corr uncorr true =
      ((fecCounted s p corr uncorr).bump64 .eth p 0x60 1).pfcLevel p prio fill false := by
  simp only [State.rxFrame, fecCounted, hmode, hup, Nat.not_lt.mpr hlow, Nat.not_lt.mpr hhigh, Nat.not_lt.mpr htags, Nat.not_lt.mpr hroom,
    gt_iff_lt, Nat.reduceEqDiff, Bool.not_true, Bool.false_eq_true, or_self, if_false, decide_false, Bool.false_and, false_and,
    OfNat.zero_ne_ofNat, Nat.zero_ne_one]

/-! ### Links -/

theorem linkFalls_falls {s : State} {p : Nat} : (s.linkFalls p).port p = { s.port p with
      phyUp := false, linkUp := false, fecLock := false, lpiTx := false, lpiRx := false, rxPaused := 0, txPausing := 0
      storm := 0, fill := [] } ∧ FabricStands s (s.linkFalls p) ∧
    (∀ off, off ≠ 0x8C → off ≠ 0x14 → (s.linkFalls p).reg .eth p off = s.reg .eth p off) ∧
    ((s.port p).linkUp = true → (s.linkFalls p).reg .eth p 0x8C = satAdd (s.reg .eth p 0x8C) 1) := by
  rw [State.linkFalls]
  have hport := becomes_setPort s p { s.port p with
    phyUp := false, linkUp := false, fecLock := false, lpiTx := false, lpiRx := false, rxPaused := 0, txPausing := 0
    storm := 0, fill := [] }
  split
  · have hcounts := hport.counts ((countsOnly_bump _ .eth p 0x8C).trans (countsOnly_latchEvt _ .eth p 1))
    refine ⟨hcounts.port, hcounts.stands, fun off h h' => ?_, fun _ => ?_⟩
    · exact (latchEvt_reg_ne _ _ _ _ _ _ _ (regAddr_ne _ _ h')).trans (reg_bump_ne _ _ _ _ _ _ _ (regAddr_ne _ _ h))
    · exact (latchEvt_reg_ne _ _ _ _ _ _ _ (regAddr_ne _ _ (by decide))).trans (reg_bump_self _ _ _ _)
  · next hdown => exact ⟨hport.port, hport.stands, fun _ _ _ => rfl, fun hup => absurd hup hdown⟩

theorem woken_stands (s : State) (p : Page) : FabricStands s (s.woken p) := by
  have h := events_woken s p
  exact ⟨h.mem, h.ecc, h.cores, h.fabric, by
    rw [State.woken]
    split
    · rfl
    · exact wake_spill _ _ _ _⟩

theorem woken_net (s : State) (p : Page) : (s.woken p).net = s.net := (events_woken s p).net

theorem woken_eth (s : State) (p off : Nat) : (s.woken .eth).reg .eth p off = s.reg .eth p off :=
  woken_reg_ne s _ _ _ _ (by simp only [regAddr, Page.base]; omega)

/-- One port has PTP_EN, and every other loses it. -/
theorem ptpEn_moves (s : State) (p : Nat) (l : List Nat) (hl : l.Nodup) :
    let t := l.foldl (fun t q => if q = p then t else t.setReg .eth q 0x58 (t.reg .eth q 0x58 &&& 0x7FE)) s
    CountsOnly s t ∧ (∀ q, q = p ∨ q ∉ l → t.reg .eth q 0x58 = s.reg .eth q 0x58) ∧
      ∀ q ∈ l, q ≠ p → t.reg .eth q 0x58 = s.reg .eth q 0x58 &&& 0x7FE := by
  induction l generalizing s with
  | nil => exact ⟨countsOnly_refl s, fun _ _ => rfl, fun _ hq => absurd hq List.not_mem_nil⟩
  | cons a l ih =>
    obtain ⟨hnew, hrest⟩ := List.nodup_cons.mp hl
    rw [List.foldl_cons]
    by_cases ha : a = p
    · rw [if_pos ha]
      obtain ⟨hcounts, hkeep, hmask⟩ := ih s hrest
      refine ⟨hcounts, fun q hq => hkeep q ?_, fun q hq hne => hmask q ?_ hne⟩
      · exact hq.imp_right fun h hin => h (List.mem_cons_of_mem a hin)
      · exact (List.mem_cons.mp hq).resolve_left fun h => hne (h.trans ha)
    · rw [if_neg ha]
      obtain ⟨hcounts, hkeep, hmask⟩ := ih (s.setReg .eth a 0x58 (s.reg .eth a 0x58 &&& 0x7FE)) hrest
      have hother (q : Nat) (hq : q ≠ a) : (s.setReg .eth a 0x58 (s.reg .eth a 0x58 &&& 0x7FE)).reg .eth q 0x58 = s.reg .eth q 0x58 :=
        reg_setReg_ne s _ _ _ _ _ _ _ (regAddr_port_ne hq (by decide) (by decide))
      refine ⟨(countsOnly_setReg _ _ _ _ _).trans hcounts, fun q hq => ?_, fun q hq hne => ?_⟩
      · have hqa : q ≠ a := by
          rintro rfl
          exact hq.elim ha fun h => h List.mem_cons_self
        exact (hkeep q (hq.imp_right fun h hin => h (List.mem_cons_of_mem a hin))).trans (hother q hqa)
      · by_cases hqa : q = a
        · rw [hqa]
          exact (hkeep a (.inr hnew)).trans (State.reg_setReg_self _ _ _ _ _)
        · exact (hmask q ((List.mem_cons.mp hq).resolve_left hqa) hne).trans (by rw [hother q hqa])

/-- Settles O46. -/
theorem portResults : Obligations.PortResults := by
  unfold Obligations.PortResults
  refine ⟨fun s p prio hp hprio => ⟨?good, ?bad, ?pfc, ?refresh, ?storm, ?expiry, ?lldpTx, ?lldpRx, ?ttl⟩, ?cfg, ?ptp, ?down, ?up⟩
  case good =>
    intro len tags fill corr uncorr hmode hup hlow hhigh htags hroom
    obtain ⟨⟨x, hx, hbecomes⟩, hreg⟩ := pfcLevel_stores ((fecCounted s p corr uncorr).bump64 .eth p 0x60 1) p prio fill false
    have hcounts := (fecCounted_counts s p corr uncorr).trans (countsOnly_bump64 _ .eth p 0x60 1)
    refine ⟨_, ?_, hbecomes.stands.1.trans (counts_stands hcounts).1, ?_, ?_, ?_⟩
    · change execRxFrame p len tags prio 0 fill corr uncorr true s = _
      rw [execRxFrame, if_neg (Nat.not_le.mpr hprio), if_neg (by decide), onPort_runs hp,
        rxFrame_good corr uncorr hmode hup hlow hhigh htags hroom]
    · rw [getPair_of_reg (hreg 0x60 (by decide)) (hreg 0x64 (by decide)), getPair_bump64_self]
      refine congrArg (fun n => min (2 ^ 64 - 1) (n + 1)) (getPair_of_reg ?_ ?_)
      · exact (fecCounted_reg s p corr uncorr (by decide) (by decide)).trans (reg_bumpBy_ne _ _ _ _ _ _ _ _ (regAddr_ne _ _ (by decide)))
      · exact (fecCounted_reg s p corr uncorr (by decide) (by decide)).trans (reg_bumpBy_ne _ _ _ _ _ _ _ _ (regAddr_ne _ _ (by decide)))
    · rw [hbecomes.port, hx]
      exact NMap.get_put_self _ _ _ _
    · rw [hreg 0x7C (by decide), reg_bump64_ne _ _ _ _ _ _ _ _ (regAddr_ne _ _ (by decide)) (regAddr_ne _ _ (by decide)),
        fecCounted_reg s p corr uncorr (by decide) (by decide), reg_bumpBy_self]
  case bad =>
    intro len tags fill corr uncorr hmode hup
    have hcounts := (fecCounted_counts s p corr uncorr).trans (countsOnly_bump _ .eth p 0x70)
    refine ⟨_, ?_, counts_stands hcounts, counts_net hcounts, ?_⟩
    · change execRxFrame p len tags prio 0 fill corr uncorr false s = _
      rw [execRxFrame, if_neg (Nat.not_le.mpr hprio), if_neg (by decide), onPort_runs hp, rxFrame_bad len tags prio fill corr uncorr hmode hup]
    · rw [reg_bump_self, fecCounted_reg s p corr uncorr (by decide) (by decide),
        reg_bumpBy_ne _ _ _ _ _ _ _ _ (regAddr_ne _ _ (by decide))]
  case pfc =>
    intro pause resume hpause hresume hdisjoint hmode hup
    have hexec : exec (.pfcFrameRx p pause resume) s = onPort p s fun t =>
        let x := t.port p
        if t.portMode = .off ∨ !x.linkUp then t
        else
          let held := (x.rxPaused ||| (pause &&& t.pfcEn p)) &&& (255 - resume)
          ((t.setPort p { x with rxPaused := held, storm := x.storm &&& held }).bump .eth p 0x88).bump64 .eth p 0x60 1 := by
      change execPfcFrameRx p pause resume s = _
      rw [execPfcFrameRx, if_neg (by omega)]
    rw [hexec, onPort_runs hp]
    dsimp only
    rw [if_neg (by rw [hup]; simp only [hmode, Bool.not_true, Bool.false_eq_true, or_self, not_false_eq_true])]
    have hbecomes := (becomes_setPort s p { s.port p with
      rxPaused := ((s.port p).rxPaused ||| (pause &&& s.pfcEn p)) &&& (255 - resume)
      storm := (s.port p).storm &&& (((s.port p).rxPaused ||| (pause &&& s.pfcEn p)) &&& (255 - resume)) }).counts
      ((countsOnly_bump _ .eth p 0x88).trans (countsOnly_bump64 _ .eth p 0x60 1))
    exact ⟨_, rfl, hbecomes.stands, by rw [hbecomes.port]⟩
  case refresh =>
    intro fill hpausing hmode hen habove
    have hbecomes := (becomes_setPort s p { s.port p with fill := (s.port p).fill.put 0 prio fill }).counts
      (sendPfc_counts _ p prio 65535)
    refine ⟨_, ?_, hbecomes.stands, sendPfc_out _ _ _ _, by rw [hbecomes.port]⟩
    change execPfcXoffRefresh p prio fill s = _
    rw [execPfcXoffRefresh, if_neg (Nat.not_le.mpr hprio), onPort_runs hp, if_pos hpausing, pfcLevel_refreshes hpausing hmode hen habove]
  case storm =>
    intro hpaused
    have hbecomes := (becomes_setPort s p { s.port p with storm := putBit (s.port p).storm prio true }).counts
      (countsOnly_latchEvt _ .eth p 16)
    refine ⟨_, ?_, hbecomes.stands, hbecomes.port, latchEvt_bit _ .eth p (by decide)⟩
    change execPfcStorm p prio s = _
    rw [execPfcStorm, if_neg (Nat.not_le.mpr hprio), onPort_runs hp]
    dsimp only
    rw [if_neg (by rw [hpaused]; decide)]
  case expiry =>
    have hbecomes := becomes_setPort s p { s.port p with
      rxPaused := putBit (s.port p).rxPaused prio false, storm := putBit (s.port p).storm prio false }
    refine ⟨_, ?_, hbecomes.stands, hbecomes.port⟩
    change execPfcPauseExpiry p prio s = _
    rw [execPfcPauseExpiry, if_neg (Nat.not_le.mpr hprio), onPort_runs hp]
  case lldpTx =>
    intro hen hup hmode
    refine ⟨_, ?_, counts_stands (countsOnly_bump64 { s with out := .lldp p 120 :: s.out } .eth p 0x68 1), rfl, rfl⟩
    change execLldpTx p s = _
    rw [execLldpTx, onPort_runs hp, hen, hup, hmode, Bool.and_self, Bool.and_self, if_pos rfl, State.emit_plain _ _ rfl]
  case lldpRx =>
    intro ct c pt i ttl hup hmode hnone httl
    refine ⟨_, { record := lldpRecord ct c pt i, sender := lldpRecord ct [] pt [] ++ toBe 2 c.length ++ c ++ i, ttl := ttl, since := s.cycles },
      ?_, (becomes_setPort s p _).stands, port_setPort_self _ _ _, rfl, rfl, rfl⟩
    change execLldpRx p ct c pt i ttl s = _
    rw [execLldpRx, onPort_runs hp]
    dsimp only
    rw [if_neg (by rw [hup, hmode]; decide), hnone, if_neg httl]
  case ttl =>
    refine ⟨_, ?_, (becomes_setPort s p { s.port p with nbr := none }).stands, port_setPort_self _ _ _⟩
    change execLldpTtlExpiry p s = _
    rw [execLldpTtlExpiry, onPort_runs hp]
  case cfg =>
    intro s p v hp htakes hspeed hzero
    have hcfg : ¬ ((v.toNat % 8 ≠ 0 ∧ lanesOf (v.toNat % 8) (bits v.toNat 3 2) = 0) ∨ v.toNat &&& 0xFFF00E00 ≠ 0) := by
      rintro (⟨hfast, hlanes⟩ | hset)
      · exact hspeed.elim hfast fun h => h hlanes
      · exact hset hzero
    have hexec : exec (.ethCfgWrite p v) s = .next ((s.woken .eth).writeEthCfg p v) := by
      change execEthCfgWrite p v s = _
      rw [execEthCfgWrite, onPort_runs hp, State.onPage_takes _ _ _ _ _ _ htakes]
    have hold : (s.woken .eth).reg .eth p 0x40 = s.reg .eth p 0x40 := woken_eth s p 0x40
    have hport : (s.woken .eth).port p = s.port p := port_of_net (woken_net s .eth) p
    have hstore := becomes_setPort ((s.woken .eth).setReg .eth p 0x40 v) p { s.port p with flashCfg := v }
    have hstands : FabricStands s (((s.woken .eth).setReg .eth p 0x40 v).setPort p { s.port p with flashCfg := v }) :=
      FabricStands.trans (woken_stands s .eth) hstore.stands
    rw [hexec, State.writeEthCfg, if_neg hcfg, hold, hport]
    dsimp only
    split
    · next hchanged =>
      obtain ⟨hfalls, hfstands, hreg, -⟩ := linkFalls_falls
        (s := ((s.woken .eth).setReg .eth p 0x40 v).setPort p { s.port p with flashCfg := v }) (p := p)
      refine ⟨_, rfl, FabricStands.trans hstands hfstands, ?_, ?_, fun h => absurd h hchanged, fun _ => by rw [hfalls]⟩
      · exact (hreg 0x40 (by decide) (by decide)).trans (State.reg_setReg_self _ _ _ _ _)
      · rw [hfalls, hstore.port]
    · next hsame =>
      exact ⟨_, rfl, hstands, State.reg_setReg_self _ _ _ _ _, by rw [hstore.port], fun _ => hstore.port, fun h => absurd h hsame⟩
  case ptp =>
    intro s p v hp htakes hmode hen
    obtain ⟨hcounts, hkeep, hmask⟩ := ptpEn_moves ((s.woken .eth).setReg .eth p 0x58 (v &&& 0x7FF)) p (List.range 8) List.nodup_range
    refine ⟨_, ?_, FabricStands.trans (woken_stands s .eth)
      (counts_stands ((countsOnly_setReg _ .eth p 0x58 (v &&& 0x7FF)).trans hcounts)), ?_, fun q hq hne => ?_⟩
    · change execPtpEnWrite p v s = _
      rw [execPtpEnWrite, onPort_runs hp, State.onPage_takes _ _ _ _ _ _ htakes, State.writePtpCtl, if_neg hmode, if_pos hen]
    · exact (hkeep p (.inl rfl)).trans (State.reg_setReg_self _ _ _ _ _)
    · rw [hmask q (List.mem_range.mpr hq) hne, reg_setReg_ne _ _ _ _ _ _ _ _ (regAddr_port_ne hne (by decide) (by decide)), woken_eth]
  case down =>
    intro s p hp hup
    obtain ⟨hfalls, hstands, -, hcount⟩ := linkFalls_falls (s := s) (p := p)
    refine ⟨_, ?_, hstands, hcount hup, hfalls⟩
    change execEthLinkDown p s = _
    rw [execEthLinkDown, onPort_runs hp]
  case up =>
    intro s p hp hmode hdown hlanes
    have hbecomes := (becomes_setPort s p { s.port p with
      phyUp := true, linkUp := true
      fecLock := !(bits (s.reg .eth p 0x40).toNat 3 2 = 0 && (s.reg .eth p 0x40).toNat.testBit 5) }).counts (countsOnly_latchEvt _ .eth p 2)
    refine ⟨_, ?_, hbecomes.stands, by rw [hbecomes.port], by rw [hbecomes.port], latchEvt_bit _ .eth p (by decide)⟩
    change execEthLinkUp p s = _
    rw [execEthLinkUp, onPort_runs hp]
    dsimp only
    rw [if_neg (by simp only [hmode, hlanes, hdown, Bool.false_eq_true, or_self, not_false_eq_true])]

end Sys2Proof.Proofs.Ports
end

section
/-!
PROOFS. Beacons, the members of a crew, and their loss (11 R430 to R434, R440, R443, R444).
-/

namespace Sys2Proof.Proofs.HailMembers

open Sys2Proof Sys2Proof.Machine Sys2Proof.Proofs.FieldRules Sys2Proof.Proofs.CoreStores Sys2Proof.Proofs.Registers
  Sys2Proof.Proofs.QueueEvents Sys2Proof.Proofs.Ports

/-! ### Datagrams that are sent -/

theorem sendHail_sends (s : State) (port typ : Nat) (body : List Byte) (key : Option (List Byte)) :
    ∃ m, s.sendHail port typ body key = State.bump64 { s with out := .hail port m :: s.out } .eth port 0x68 1 := by
  unfold State.sendHail
  dsimp only
  rw [State.emit_plain _ _ rfl]
  exact ⟨_, rfl⟩

theorem sendHail_counts (s : State) (port typ : Nat) (body : List Byte) (key : Option (List Byte)) :
    CountsOnly s (s.sendHail port typ body key) := by
  obtain ⟨m, h⟩ := sendHail_sends s port typ body key
  rw [h]
  exact CountsOnly.trans ⟨_, _, _, rfl⟩ (countsOnly_bump64 _ _ _ _ _)

theorem sendHail_out (s : State) (port typ : Nat) (body : List Byte) (key : Option (List Byte)) :
    ∃ m, (s.sendHail port typ body key).out = .hail port m :: s.out := by
  obtain ⟨m, h⟩ := sendHail_sends s port typ body key
  exact ⟨m, by rw [h, bump64_eq]; rfl⟩

theorem sendPeer_counts (s : State) (id typ : Nat) (body : List Byte) : CountsOnly s (s.sendPeer id typ body) := by
  rw [State.sendPeer]
  exact sendHail_counts _ _ _ _ _

/-! ### Beacons -/

theorem portMode_congr {s t : State} (h : CountsOnly s t) : t.portMode = s.portMode := by
  obtain ⟨_, _, _, rfl⟩ := h
  rfl

theorem hailPort_congr {s t : State} (h : CountsOnly s t) {p : Nat} (hcfg : t.reg .eth p 0x40 = s.reg .eth p 0x40) :
    t.hailPort p = s.hailPort p := by
  unfold State.hailPort
  rw [portMode_congr h, hcfg, port_of_net (counts_net h)]

/-- A beacon leaves on each port that Hail runs on. -/
def beaconOn (t : State) (p : Nat) : State := if t.hailPort p then (t.sendHail p 1 t.beaconBody).bump .hail 0 0x84 else t

theorem beaconOn_skips {s : State} {l : List Nat} (h : ∀ q ∈ l, s.hailPort q = false) : l.foldl beaconOn s = s := by
  induction l with
  | nil => rfl
  | cons q l ih =>
    rw [List.foldl_cons, beaconOn, h q List.mem_cons_self, if_neg Bool.false_ne_true]
    exact ih fun x hx => h x (List.mem_cons_of_mem q hx)

/-- With Hail on one port of the list, one beacon leaves. -/
theorem beaconOn_one {s : State} {l : List Nat} {p : Nat} (hl : l.Nodup) (hp : p ∈ l) (hsmall : ∀ q ∈ l, q < 8)
    (hport : ∀ q ∈ l, s.hailPort q = decide (q = p)) : l.foldl beaconOn s = (s.sendHail p 1 s.beaconBody).bump .hail 0 0x84 := by
  induction l with
  | nil => exact absurd hp List.not_mem_nil
  | cons q l ih =>
    obtain ⟨hnew, hrest⟩ := List.nodup_cons.mp hl
    rw [List.foldl_cons]
    by_cases hq : q = p
    · subst hq
      rw [beaconOn, hport q List.mem_cons_self, decide_eq_true rfl, if_pos rfl]
      refine beaconOn_skips fun x hx => ?_
      have hcounts := (sendHail_counts s q 1 s.beaconBody none).trans (countsOnly_bump _ .hail 0 0x84)
      obtain ⟨m, hsend⟩ := sendHail_sends s q 1 s.beaconBody none
      have haddr : ∀ off, off < 0x1000 → regAddr .eth x 0x40 ≠ regAddr .hail 0 off := fun off hoff => by
        simp only [regAddr, Page.base]
        omega
      have hother (off : Nat) (hoff : off < 0x1000) : regAddr .eth x 0x40 ≠ regAddr .eth q off :=
        regAddr_port_ne (fun hxq => hnew (hxq ▸ hx)) hoff (by decide)
      rw [hailPort_congr hcounts, hport x (List.mem_cons_of_mem q hx)]
      · exact decide_eq_false fun hxq => hnew (hxq ▸ hx)
      · rw [reg_bump_ne _ _ _ _ _ _ _ (haddr 0x84 (by decide)), hsend,
          reg_bump64_ne _ _ _ _ _ _ _ _ (hother 0x68 (by decide)) (hother 0x6C (by decide))]
        rfl
    · rw [beaconOn, hport q List.mem_cons_self, decide_eq_false hq, if_neg Bool.false_ne_true]
      exact ih hrest ((List.mem_cons.mp hp).resolve_left (Ne.symm hq)) (fun x hx => hsmall x (List.mem_cons_of_mem q hx))
        fun x hx => hport x (List.mem_cons_of_mem q hx)

/-- The peers heard, with a new one. -/
def heard (h : Hail) (id : Nat) : Hail :=
  { h with
    seen := if h.seen.contains id then h.seen else id :: h.seen
    everSeen := if !h.everSeen.contains id then id :: h.everSeen else h.everSeen }

theorem mem_insertNew (l : List Nat) (id : Nat) : id ∈ (if l.contains id then l else id :: l) := by
  split
  · next h => exact List.contains_iff_mem.mp h
  · exact List.mem_cons_self

theorem mem_insertFresh (l : List Nat) (id : Nat) : id ∈ (if !l.contains id then id :: l else l) := by
  cases h : l.contains id with
  | false => exact List.mem_cons_self
  | true => exact List.contains_iff_mem.mp h

/-- The beacon of a peer in a module that is not forming is counted, and the peer is held as seen. -/
theorem beaconRx_hears {s : State} {port mac : Nat} {m : List Byte} (hport : s.hailPort port = true) (hbad : hailBad m = false)
    (hbeacon : beaconBad m = false) (htyp : leAt m 5 1 = 1) (hother : leAt m 8 8 ≠ s.moduleId) (hphase : s.hail.phase ≠ .forming) :
    s.beaconRx port mac m =
      if !s.hail.everSeen.contains (leAt m 8 8) then ((s.bump .hail 0 0x88).setHail (heard s.hail (leAt m 8 8))).latchEvt .hail 0 1
      else (s.bump .hail 0 0x88).setHail (heard s.hail (leAt m 8 8)) := by
  have hcand : (s.bump .hail 0 0x88).hail.phase = .forming ↔ False := ⟨hphase, False.elim⟩
  rw [State.beaconRx, hport, hbad, hbeacon, htyp]
  simp only [Bool.not_true, Bool.false_eq_true, if_false, ne_eq, not_true, or_self, hother, hcand, decide_false, Bool.false_and,
    Bool.not_false, if_true]
  rfl

/-! ### Datagrams that arrive -/

theorem onHail_runs {s : State} {port typ cycle id : Nat} {m : List Byte} (h : HailGiven s port typ cycle m id)
    (f : Nat → State → State) : onHail port typ cycle m s f = .next (f id (s.atCycle cycle)) := by
  obtain ⟨hp, hcycle, hport, hbad, htyp, hid⟩ := h
  simp only [onHail, ge_iff_le, Nat.not_le.mpr hp, Nat.not_le.mpr hcycle, hport, hbad, htyp, hid, Bool.not_true, Bool.false_eq_true, ne_eq,
    not_true, if_false]

theorem onPair_runs {s : State} {port typ cycle id : Nat} {m b : List Byte} (h : HailGiven s port typ cycle m id)
    (hbody : (s.atCycle cycle).hailBody m id = some b) (f : Nat → List Byte → State → State) :
    onPair port typ cycle m s f = .next (f id b (s.atCycle cycle)) := by
  rw [onPair, onHail_runs h, hbody]

/-! ### The loss of a member -/

/-- `t` is `s` but for rounds, messages and the counters of the crew channel. -/
structure CrewOnly (s t : State) : Prop where
  stands : FabricStands s t
  hail : t.hail = { s.hail with peers := t.hail.peers }
  lost : ∀ id, (t.peer id).lost = (s.peer id).lost

theorem CrewOnly.refl (s : State) : CrewOnly s s := ⟨FabricStands.refl s, rfl, fun _ => rfl⟩

theorem CrewOnly.trans {s t v : State} (h : CrewOnly s t) (k : CrewOnly t v) : CrewOnly s v :=
  ⟨FabricStands.trans h.stands k.stands, by rw [k.hail, h.hail], fun id => (k.lost id).trans (h.lost id)⟩

theorem CrewOnly.foldl {α : Type} {f : State → α → State} (h : ∀ s a, CrewOnly s (f s a)) (l : List α) (s : State) :
    CrewOnly s (l.foldl f s) := by
  induction l generalizing s with
  | nil => exact .refl s
  | cons a l ih => exact (h s a).trans (ih (f s a))

theorem crewOnly_setRound (s : State) (b : Nat) (r : Round) : CrewOnly s (s.setRound b r) :=
  ⟨⟨rfl, rfl, rfl, rfl, rfl⟩, rfl, fun _ => rfl⟩

theorem crewOnly_counts {s t : State} (h : CountsOnly s t) : CrewOnly s t := by
  obtain ⟨_, _, _, rfl⟩ := h
  exact ⟨⟨rfl, rfl, rfl, rfl, rfl⟩, rfl, fun _ => rfl⟩

theorem crewOnly_carry1 (s : State) (pos kind round : Nat) (body : List Byte) : CrewOnly s (s.carry1 pos kind round body) := by
  rw [State.carry1]
  dsimp only
  split
  · exact .refl s
  · rw [State.emit_plain _ _ rfl]
    refine ⟨⟨rfl, rfl, rfl, rfl, rfl⟩, rfl, fun id => ?_⟩
    refine (congrArg Peer.lost (State.peer_setPeer _ _ _ _)).trans ?_
    split
    · next hid => rw [hid]
    · rfl

theorem crewOnly_carry (s : State) (pos kind round size : Nat) (records : List (List Byte)) :
    CrewOnly s (s.carry pos kind round size records) := by
  rw [State.carry]
  exact CrewOnly.foldl (fun t _ => crewOnly_carry1 t _ _ _ _) _ s

theorem crewOnly_raise (s : State) (b reason : Nat) : CrewOnly s (s.raise b reason) := by
  rw [State.raise]
  split
  · exact .refl s
  · split
    · exact crewOnly_setRound _ _ _
    · split
      · split
        · exact .refl s
        · rw [State.nameDecision]
          refine (crewOnly_setRound _ _ _).trans (CrewOnly.foldl (fun t p => ?_) _ _)
          rw [State.sendDecision]
          exact (crewOnly_carry _ _ _ _ _ _).trans (crewOnly_carry _ _ _ _ _ _)
      · exact crewOnly_carry _ _ _ _ _ _

theorem crewOnly_faultCrewRounds (s : State) : CrewOnly s s.faultCrewRounds := by
  rw [State.faultCrewRounds]
  refine CrewOnly.foldl (fun t e => ?_) _ s
  split
  · exact crewOnly_setRound _ _ _
  · exact .refl t

/-- The loss of a member degrades the crew. -/
theorem memberLost_loses {s : State} {id : Nat} (h : LosesMember s id) :
    FabricStands s (s.memberLost id) ∧ (s.memberLost id).hail.degraded = true ∧ ((s.memberLost id).peer id).lost = true ∧
      (s.memberLost id).hail.seen = s.hail.seen ∧ (s.memberLost id).hail.candidates = s.hail.candidates := by
  obtain ⟨hphase, hmember, hother, hlost⟩ := h
  have hcontains : s.hail.members.contains id = true := List.contains_iff_mem.mpr hmember
  rw [State.memberLost, hphase, hcontains, hlost]
  dsimp only
  rw [if_neg (by simp only [hother, ne_eq, not_true, Bool.not_true, Bool.false_eq_true, or_self, not_false_eq_true])]
  have hstands : FabricStands s ((s.setPeer id { s.peer id with lost := true }).setHail
      { (s.setPeer id { s.peer id with lost := true }).hail with degraded := true }) := ⟨rfl, rfl, rfl, rfl, rfl⟩
  have hpeer : (((s.setPeer id { s.peer id with lost := true }).setHail
      { (s.setPeer id { s.peer id with lost := true }).hail with degraded := true }).peer id).lost = true :=
    congrArg Peer.lost ((State.peer_setPeer _ _ _ _).trans (if_pos rfl))
  have hcounts := crewOnly_counts ((countsOnly_bump ((s.setPeer id { s.peer id with lost := true }).setHail
      { (s.setPeer id { s.peer id with lost := true }).hail with degraded := true }) .hail 0 0x94).trans (countsOnly_latchEvt _ .hail 0 8))
  have hends {t : State} (k : CrewOnly ((s.setPeer id { s.peer id with lost := true }).setHail
      { (s.setPeer id { s.peer id with lost := true }).hail with degraded := true }) t) :
      FabricStands s t ∧ t.hail.degraded = true ∧ (t.peer id).lost = true ∧ t.hail.seen = s.hail.seen ∧
        t.hail.candidates = s.hail.candidates :=
    ⟨FabricStands.trans hstands k.stands, by rw [k.hail]; rfl, (k.lost id).trans hpeer, by rw [k.hail]; rfl, by rw [k.hail]; rfl⟩
  split
  · exact hends (hcounts.trans (crewOnly_faultCrewRounds _))
  · refine hends (hcounts.trans (CrewOnly.foldl (fun t e => ?_) _ _))
    split
    · exact crewOnly_raise _ _ _
    · exact .refl t

/-- A module that loses nobody stands. -/
theorem memberLost_keeps {s : State} {id : Nat} (h : ¬ LosesMember s id) : s.memberLost id = s := by
  rw [State.memberLost]
  refine if_pos ?_
  by_contra hall
  rw [not_or, not_or, not_or] at hall
  obtain ⟨hphase, hmember, hother, hlost⟩ := hall
  refine h ⟨not_not.mp hphase, ?_, hother, Bool.eq_false_of_not_eq_true hlost⟩
  exact List.contains_iff_mem.mp (by simpa only [Bool.not_eq_true', Bool.not_eq_false] using hmember)

/-! ### The end of a formation and of a crew -/

theorem leaveHail_leaves (s : State) (result : Nat) : FabricStands s (s.leaveHail result) ∧ (s.leaveHail result).hail.phase = .idle ∧
    (s.leaveHail result).hail.formResult = result ∧ (s.leaveHail result).hail.members = [] ∧ (s.leaveHail result).hail.peers = [] := by
  rw [State.leaveHail, State.dropPeers]
  exact ⟨⟨rfl, rfl, rfl, rfl, rfl⟩, rfl, rfl, rfl, rfl⟩

theorem formFails_fails (s : State) (result : Nat) : FabricStands s (s.formFails result) ∧ (s.formFails result).hail.phase = .idle ∧
    (s.formFails result).hail.formResult = result := by
  obtain ⟨hstands, hphase, hresult, -⟩ := leaveHail_leaves s result
  have hcounts := countsOnly_latchEvt (s.leaveHail result) .hail 0 4
  have hhail : (s.formFails result).hail = (s.leaveHail result).hail := congrArg Net.hail (counts_net hcounts)
  exact ⟨FabricStands.trans hstands (counts_stands hcounts), by rw [hhail, hphase], by rw [hhail, hresult]⟩

theorem dissolveCrew_dissolves {s : State} (h : s.hail.phase = .crew) : FabricStands s s.dissolveCrew ∧
    s.dissolveCrew.hail.phase = .idle ∧ s.dissolveCrew.hail.formResult = 9 ∧ s.dissolveCrew.hail.members = [] ∧
    s.dissolveCrew.hail.peers = [] := by
  have hsent := counts_foldl (f := fun (t : State) id => if id = t.moduleId then t else t.sendPeer id 9 []) (fun t id => by
    split
    · exact countsOnly_refl t
    · exact sendPeer_counts _ _ _ _) s.hail.members s
  rw [State.dissolveCrew, if_neg (not_not_intro h)]
  dsimp only
  generalize s.hail.members.foldl (fun (t : State) id => if id = t.moduleId then t else t.sendPeer id 9 []) s = v at hsent
  obtain ⟨hstands, hphase, hresult, hmembers, hpeers⟩ := leaveHail_leaves v.faultCrewRounds 9
  have hcounts := countsOnly_latchEvt (v.faultCrewRounds.leaveHail 9) .hail 0 32
  have hhail : ((v.faultCrewRounds.leaveHail 9).latchEvt .hail 0 32).hail = (v.faultCrewRounds.leaveHail 9).hail :=
    congrArg Net.hail (counts_net hcounts)
  rw [hhail]
  exact ⟨FabricStands.trans (FabricStands.trans (counts_stands hsent) (crewOnly_faultCrewRounds v).stands)
    (FabricStands.trans hstands (counts_stands hcounts)), hphase, hresult, hmembers, hpeers⟩

/-! ### FORM and DISSOLVE -/

/-- EXPECT is kept by the writable bits of HAIL_CTL. -/
theorem expect_masked (v : W32) : bits (v &&& 0x1FF00).toNat 8 9 = bits v.toNat 8 9 := by
  have hmask : (0x1FF00 : W32).toNat >>> 8 = 2 ^ 9 - 1 := by decide
  rw [bits, bits, BitVec.toNat_and, Nat.shiftRight_and_distrib, hmask, Nat.and_two_pow_sub_one_eq_mod, Nat.mod_mod]

theorem form_begins {s : State} {n : Nat} (hid : s.crewIdReg ≠ 0) (hn : s.expectReg = n) (hlow : 2 ≤ n) (hhigh : n ≤ 256)
    (hpsk : 8 ≤ s.hail.pskWritten.length) (hclaimed : s.ten.claimed = true) (hphase : s.hail.phase = .idle) (hidle : s.roundsIdle = true)
    (hsync : s.stroke.sync = .lockedPin ∨ s.stroke.sync = .lockedPtp) :
    s.form = s.setHail { s.hail with
      phase := .forming, crewId := s.crewIdReg, expect := n, keyEpoch := (s.hail.epochs.get 0 s.crewIdReg + 1) % 2 ^ 16
      epochs := s.hail.epochs.put 0 s.crewIdReg (s.hail.epochs.get 0 s.crewIdReg + 1), peers := []
      candidates := [], reports := [], reported := false, members := [], pos := 0, rosterAcks := [], formResult := 0 } := by
  have hlocked : ¬ (s.stroke.sync ≠ .lockedPin ∧ s.stroke.sync ≠ .lockedPtp) := fun h => hsync.elim h.1 h.2
  rw [State.form]
  dsimp only
  rw [hn, if_neg (by simp only [hid, Nat.not_lt.mpr hlow, Nat.not_lt.mpr hhigh, Nat.not_lt.mpr hpsk, hclaimed, gt_iff_lt, Bool.not_true,
    Bool.false_eq_true, or_self, not_false_eq_true]), if_neg (not_not_intro hphase), hidle, if_neg (by decide), if_neg hlocked]

theorem woken_hail_reg (s : State) {off : Nat} (h : off < 0x1000) : (s.woken .hail).reg .hail 0 off = s.reg .hail 0 off :=
  woken_reg_ne s _ _ _ _ (by simp only [regAddr, Page.base]; omega)

/-- Settles O47. -/
theorem hailMembership : Obligations.HailMembership := by
  unfold Obligations.HailMembership
  refine ⟨?beacon, ?heard, ?unseen, ?form, ?dissolve, ?leave, ?lost, ?timeout⟩
  case beacon =>
    intro s p hp hport
    obtain ⟨m, hsend⟩ := sendHail_sends s p 1 s.beaconBody none
    have hcounts := (sendHail_counts s p 1 s.beaconBody none).trans (countsOnly_bump _ .hail 0 0x84)
    have haddr (off : Nat) (hoff : off < 0x1000) : regAddr .hail 0 0x84 ≠ regAddr .eth p off := by
      simp only [regAddr, Page.base]
      omega
    refine ⟨_, m, ?_, counts_stands hcounts, ?_, counts_net hcounts, ?_⟩
    · change execBeaconTx s = _
      rw [execBeaconTx]
      exact congrArg _ (beaconOn_one List.nodup_range (List.mem_range.mpr hp) (fun q hq => List.mem_range.mp hq)
        fun q hq => hport q (List.mem_range.mp hq))
    · rw [hsend, bump64_eq]
      rfl
    · rw [reg_bump_self, hsend, reg_bump64_ne _ _ _ _ _ _ _ _ (haddr 0x68 (by decide)) (haddr 0x6C (by decide))]
      rfl
  case heard =>
    intro s port mac m hp hport hbad hbeacon htyp hother hphase
    have hexec : exec (.beaconRx port mac m) s = .next (s.beaconRx port mac m) := by
      change execBeaconRx port mac m s = _
      rw [execBeaconRx, onPort_runs hp]
    have hset : FabricStands s ((s.bump .hail 0 0x88).setHail (heard s.hail (leAt m 8 8))) := ⟨rfl, rfl, rfl, rfl, rfl⟩
    have hcounts := countsOnly_latchEvt ((s.bump .hail 0 0x88).setHail (heard s.hail (leAt m 8 8))) .hail 0 1
    have hseen : leAt m 8 8 ∈ (heard s.hail (leAt m 8 8)).seen := mem_insertNew _ _
    have hever : leAt m 8 8 ∈ (heard s.hail (leAt m 8 8)).everSeen := mem_insertFresh _ _
    rw [hexec, beaconRx_hears hport hbad hbeacon htyp hother hphase]
    split
    · refine ⟨_, rfl, FabricStands.trans hset (counts_stands hcounts), ?_, ?_, ?_⟩
      · rw [State.hail, counts_net hcounts]
        exact hseen
      · rw [State.hail, counts_net hcounts]
        exact hever
      · exact (latchEvt_reg_ne _ _ _ _ _ _ _ (regAddr_ne _ _ (by decide))).trans (reg_bump_self _ _ _ _)
    · exact ⟨_, rfl, hset, hseen, hever, reg_bump_self _ _ _ _⟩
  case unseen =>
    intro s id
    have hset : FabricStands s (s.setHail { s.hail with
      seen := s.hail.seen.filter (· ≠ id), candidates := s.hail.candidates.filter (· ≠ id) }) := ⟨rfl, rfl, rfl, rfl, rfl⟩
    have hgone (l : List Nat) : id ∉ l.filter (· ≠ id) := fun h => by
      have hne := (List.mem_filter.mp h).2
      rw [decide_eq_true_eq] at hne
      exact hne rfl
    refine ⟨_, rfl, ?_⟩
    by_cases hloses : LosesMember s id
    · obtain ⟨hstands, hdegraded, hlost, hseen, hcandidates⟩ := memberLost_loses (s := s.setHail { s.hail with
        seen := s.hail.seen.filter (· ≠ id), candidates := s.hail.candidates.filter (· ≠ id) }) hloses
      refine ⟨FabricStands.trans hset hstands, ?_, ?_, fun _ => ⟨hdegraded, hlost⟩⟩
      · rw [hseen]
        exact hgone _
      · rw [hcandidates]
        exact hgone _
    · rw [memberLost_keeps (s := s.setHail { s.hail with
        seen := s.hail.seen.filter (· ≠ id), candidates := s.hail.candidates.filter (· ≠ id) }) hloses]
      exact ⟨hset, hgone _, hgone _, fun h => absurd h hloses⟩
  case form =>
    intro s v htakes hform hdissolve hphase hid hlow hhigh hpsk hclaimed hidle hsync
    have hwoken := woken_net s .hail
    have hclaim : (s.woken .hail).hail.phase = .idle := by
      rw [State.hail, hwoken]
      exact hphase
    have hexec : exec (.haForm v) s = .next ((s.woken .hail).setReg .hail 0 0x40 (v &&& 0x1FF00)).form := by
      change execHaForm v s = _
      rw [execHaForm, if_pos hform, State.onPage_takes _ _ _ _ _ _ htakes, State.writeHailCtl]
      simp only [hform, hdissolve, hclaim, if_true, Bool.false_eq_true, if_false]
    have hevents := events_woken s .hail
    have hreg (off : Nat) (h : off ≠ 0x40) (hoff : off < 0x1000) :
        ((s.woken .hail).setReg .hail 0 0x40 (v &&& 0x1FF00)).reg .hail 0 off = s.reg .hail 0 off :=
      (reg_setReg_ne _ _ _ _ _ _ _ _ (regAddr_ne _ _ h)).trans (woken_hail_reg s hoff)
    have hcrew : State.crewIdReg ((s.woken .hail).setReg .hail 0 0x40 (v &&& 0x1FF00)) = s.crewIdReg :=
      getPair_of_reg (hreg 0x48 (by decide) (by decide)) (hreg 0x4C (by decide) (by decide))
    have hexpect : State.expectReg ((s.woken .hail).setReg .hail 0 0x40 (v &&& 0x1FF00)) = bits v.toNat 8 9 := by
      rw [State.expectReg, State.reg_setReg_self, expect_masked]
    have hhail : State.hail ((s.woken .hail).setReg .hail 0 0x40 (v &&& 0x1FF00)) = s.hail := congrArg Net.hail hwoken
    have hbegins := form_begins (s := (s.woken .hail).setReg .hail 0 0x40 (v &&& 0x1FF00)) (by rw [hcrew]; exact hid) hexpect hlow hhigh
      (by rw [hhail]; exact hpsk) (by rw [State.setReg_ten, hevents.ten]; exact hclaimed) (by rw [hhail]; exact hphase)
      (by rw [State.roundsIdle, State.setReg_rounds, hevents.rounds]; exact hidle)
      (by rw [State.setReg_stroke, hevents.stroke]; exact hsync)
    rw [hexec, hbegins, hcrew, hhail]
    exact ⟨_, rfl, FabricStands.trans (woken_stands s .hail) ⟨rfl, rfl, rfl, rfl, rfl⟩, rfl, rfl, rfl, rfl, rfl, rfl⟩
  case dissolve =>
    intro s v htakes hdissolve hform hphase hexpect
    have hwoken := woken_net s .hail
    have hcrew : (s.woken .hail).hail.phase = .crew := by rw [State.hail, hwoken]; exact hphase
    obtain ⟨hstands, hidle, hresult, hmembers, hpeers⟩ := dissolveCrew_dissolves hcrew
    have hsame : bits v.toNat 8 9 = (s.woken .hail).expectReg := by
      rw [State.expectReg, woken_hail_reg s (by decide)]
      exact hexpect
    refine ⟨(s.woken .hail).dissolveCrew.clearPsk, ?_, FabricStands.trans (FabricStands.trans (woken_stands s .hail) hstands)
      ⟨rfl, rfl, rfl, rfl, rfl⟩, hidle, hresult, hmembers, hpeers, rfl⟩
    change execHaDissolve v s = _
    rw [execHaDissolve, if_pos hdissolve, State.onPage_takes _ _ _ _ _ _ htakes, State.writeHailCtl]
    simp only [hform, hdissolve, hcrew, hsame, reduceCtorEq, if_false, if_true, Bool.false_eq_true, ne_eq, not_true, State.dissolve]
  case leave =>
    intro s port cycle id m b hgiven hbody hloses
    obtain ⟨c, hc⟩ := s.atCycle_frame cycle
    have hexec : exec (.haLeave port cycle m) s = .next ((s.atCycle cycle).memberLost id) := by
      change execHaLeave port cycle m s = _
      rw [execHaLeave, onPair_runs hgiven hbody]
    rw [hexec, hc]
    obtain ⟨hstands, hdegraded, hlost, -⟩ := memberLost_loses (s := { s with stroke := { s.stroke with cycle := c } }) hloses
    exact ⟨_, rfl, hstands, hdegraded, hlost⟩
  case lost =>
    intro s id hloses hunseen
    obtain ⟨hstands, hdegraded, hlost, -⟩ := memberLost_loses hloses
    refine ⟨_, ?_, hstands, hdegraded, hlost⟩
    have hnot : s.hail.seen.contains id = false := Bool.eq_false_of_not_eq_true fun h => hunseen (List.contains_iff_mem.mp h)
    change execMemberLost id s = _
    rw [execMemberLost, hnot]
    rw [Bool.not_false, Bool.or_true, if_pos rfl]
  case timeout =>
    intro s hphase
    obtain ⟨hstands, hidle, hresult⟩ := formFails_fails s 6
    refine ⟨_, ?_, hstands, hidle, hresult⟩
    change execFormationTimeout s = _
    rw [execFormationTimeout, if_pos hphase]

end Sys2Proof.Proofs.HailMembers
end

section
/-!
PROOFS. The formation of a crew (11 R435 to R440): each message does its step on the state of its cycle.
-/

namespace Sys2Proof.Proofs.Formation

open Sys2Proof Sys2Proof.Machine Sys2Proof.Proofs.FieldRules Sys2Proof.Proofs.CoreStores Sys2Proof.Proofs.Registers
  Sys2Proof.Proofs.QueueEvents Sys2Proof.Proofs.Ports Sys2Proof.Proofs.HailMembers

theorem peer_setPeer_self (s : State) (id : Nat) (p : Peer) : (s.setPeer id p).peer id = p := by rw [State.peer_setPeer, if_pos rfl]

theorem peer_of_net {s t : State} (h : t.net = s.net) (id : Nat) : t.peer id = s.peer id := by rw [State.peer, h, State.peer]

theorem qp_of_net {s t : State} (h : t.net = s.net) (i : Nat) : t.qp i = s.qp i := by rw [State.qp, State.halyard, h, State.qp, State.halyard]

theorem atCycle_stands (s : State) (c : Nat) : FabricStands s (s.atCycle c) :=
  ⟨atCycle_mem _ _, atCycle_ecc _ _, atCycle_cores _ _, atCycle_fabric _ _, atCycle_spill _ _⟩

/-! ### HELLO -/

/-- HELLO of a candidate with a higher id is answered. -/
theorem hello_answers {s : State} {port id : Nat} {m : List Byte} (hlen : m.length = 104) (hforming : s.formingWith m = true)
    (hhigh : id < s.moduleId) (hcand : id ∈ s.hail.candidates) (hrefused : (s.peer id).refused = false)
    (hattested : (s.peer id).attested = false) :
    FabricStands s (s.hello port m id) ∧ (∃ a, (s.hello port m id).out = .hail port a :: s.out) ∧
      ((s.hello port m id).peer id).peerNonce = (m.drop 40).take 32 ∧ ((s.hello port m id).peer id).peerEph = (m.drop 72).take 32 ∧
      ((s.hello port m id).peer id).port = port := by
  have hcontains : s.hail.candidates.contains id = true := List.contains_iff_mem.mpr hcand
  have hgo : ¬ ((!s.formingWith m) = true ∨ id ≥ s.moduleId ∨ (!s.hail.candidates.contains id) = true ∨ (s.peer id).refused = true ∨
      (s.peer id).attested = true) := by
    simp only [hforming, Nat.not_le.mpr hhigh, hcontains, hrefused, hattested, ge_iff_le, Bool.not_true, Bool.false_eq_true, or_self,
      not_false_eq_true]
  rw [State.hello, if_neg (not_not_intro hlen), if_neg hgo]
  dsimp only
  generalize hp : ({ s.peer id with
    nonce := (s.drawBytes 32).1, ephPriv := ((s.drawBytes 32).2.drawBytes 32).1, peerNonce := (m.drop 40).take 32
    peerEph := (m.drop 72).take 32, port := port, stamp := s.cycles } : Peer) = p
  generalize State.attestBody _ _ _ _ _ = body
  have hcounts := sendHail_counts (((s.drawBytes 32).2.drawBytes 32).2.setPeer id p) port 3 body none
  have hpeer := (peer_of_net (counts_net hcounts) id).trans (peer_setPeer_self _ id p)
  obtain ⟨a, ha⟩ := sendHail_out (((s.drawBytes 32).2.drawBytes 32).2.setPeer id p) port 3 body none
  rw [hpeer]
  exact ⟨FabricStands.trans (b := ((s.drawBytes 32).2.drawBytes 32).2.setPeer id p) ⟨rfl, rfl, rfl, rfl, rfl⟩ (counts_stands hcounts),
    ⟨a, ha⟩, by rw [← hp], by rw [← hp], by rw [← hp]⟩

/-! ### ATTEST -/

/-- A pair with a free queue pair derives its keys and sends CONFIRM. -/
theorem confirmPair_confirms {s : State} {id i : Nat} (k : Int) (hfree : s.freeTamrikQp = some i) :
    FabricStands s (s.confirmPair id k) ∧ (∃ a, (s.confirmPair id k).out = .hail (s.peer id).port a :: s.out) ∧
      ((s.confirmPair id k).peer id).attested = true ∧ ((s.confirmPair id k).peer id).k = k ∧
      ((s.confirmPair id k).peer id).ephPriv = [] ∧ ((s.confirmPair id k).peer id).qp = some i ∧
      ((s.confirmPair id k).peer id).keyConfirm = (s.pairKeys id (s.peer id).ephPriv (s.peer id).peerEph).drop 64 ∧
      ((s.confirmPair id k).qp i).live = true := by
  rw [State.confirmPair, State.reserveQp, hfree]
  dsimp only
  generalize s.pairKeys id (s.peer id).ephPriv (s.peer id).peerEph = keys
  generalize hq : ({ s.peer id with
    ephPriv := [], attested := true, k := k
    keyTx := if decide (s.moduleId < id) then keys.take 32 else (keys.drop 32).take 32
    keyRx := if decide (s.moduleId < id) then (keys.drop 32).take 32 else keys.take 32
    keyConfirm := keys.drop 64, qp := some i } : Peer) = q
  generalize hx : ({
    live := true
    epoch := if (s.qp i).epoch = 0 then s.halyard.epochBase % 0xFE + 1 else (s.qp i).epoch % 0xFE + 1 } : Qp) = x
  generalize (toLe 4 _ ++ hmac _ _) = body
  have hcounts := sendHail_counts ((s.setQp i x).setPeer id q) (s.peer id).port 4 body none
  have hpeer := (peer_of_net (counts_net hcounts) id).trans (peer_setPeer_self _ id q)
  have hqp : (((s.setQp i x).setPeer id q).sendHail (s.peer id).port 4 body none).qp i = x :=
    (qp_of_net (counts_net hcounts) i).trans ((State.qp_setQp s i i x).trans (if_pos rfl))
  obtain ⟨a, ha⟩ := sendHail_out ((s.setQp i x).setPeer id q) (s.peer id).port 4 body none
  rw [hpeer, hqp]
  exact ⟨FabricStands.trans (b := (s.setQp i x).setPeer id q) ⟨rfl, rfl, rfl, rfl, rfl⟩ (counts_stands hcounts), ⟨a, ha⟩, by rw [← hq],
    by rw [← hq], by rw [← hq], by rw [← hq], by rw [← hq], by rw [← hx]⟩

/-- ATTEST of the module with the lower id, whose statement matches. -/
theorem attested_confirms {s : State} {port id : Nat} {m : List Byte} {key : Option (List Byte)}
    (hlen : m.length = 40 + 658 + leAt m 696 2) (hforming : s.formingWith m = true) (hnonce : (s.peer id).nonce ≠ [])
    (hattested : (s.peer id).attested = false) (hrefused : (s.peer id).refused = false) (hlow : id ≤ s.moduleId)
    (hzero : allZero ((m.drop 40).take 32) = true) (hstamps : allZero ((m.drop 104).take 16) = true)
    (heph : (m.drop 72).take 32 = (s.peer id).peerEph)
    (hmatch : s.statementMatches ((m.drop 120).take 576) (sha256 ((s.peer id).nonce ++ (s.peer id).peerEph)) key = true) :
    s.attested port m key id = s.confirmPair id 0 := by
  have hlow' : decide (s.moduleId < id) = false := decide_eq_false (Nat.not_lt.mpr hlow)
  have hempty : (s.peer id).nonce.isEmpty = false := by
    rw [List.isEmpty_eq_false_iff]
    exact hnonce
  have hlong : ¬ (m.length < 40 + 658 ∨ m.length ≠ 40 + 658 + leAt m (40 + 656) 2) := by
    rintro (hshort | hne)
    · omega
    · exact hne hlen
  rw [State.attested, if_neg hlong]
  dsimp only
  rw [if_neg (by simp only [hforming, hempty, hattested, hrefused, Bool.not_true, Bool.false_eq_true, or_self, not_false_eq_true]), heph,
    hmatch, hlow', hzero, hstamps, decide_eq_true rfl, if_neg (by decide), if_pos (by decide)]

/-! ### CONFIRM, REPORT and ROSTER -/

/-- `t` is `s` but for messages and what the module itself reports or names as the roster. -/
structure RosterOnly (s t : State) : Prop where
  stands : FabricStands s t
  peers : t.hail.peers = s.hail.peers
  halyard : t.net.halyard = s.net.halyard
  reports : t.hail.reports = s.hail.reports

theorem RosterOnly.refl (s : State) : RosterOnly s s := ⟨FabricStands.refl s, rfl, rfl, rfl⟩

theorem RosterOnly.trans {s t v : State} (h : RosterOnly s t) (k : RosterOnly t v) : RosterOnly s v :=
  ⟨FabricStands.trans h.stands k.stands, k.peers.trans h.peers, k.halyard.trans h.halyard, k.reports.trans h.reports⟩

theorem RosterOnly.of_counts {s t : State} (h : CountsOnly s t) : RosterOnly s t := by
  obtain ⟨_, _, _, rfl⟩ := h
  exact ⟨⟨rfl, rfl, rfl, rfl, rfl⟩, rfl, rfl, rfl⟩

theorem rosterOnly_sendAll (typ : Nat) (body : List Byte) (l : List Nat) (s : State) :
    RosterOnly s (l.foldl (fun t id => t.sendPeer id typ body) s) :=
  .of_counts (counts_foldl (fun t _ => sendPeer_counts t _ _ _) l s)

theorem rosterOnly_tryRoster (s : State) : RosterOnly s s.tryRoster := by
  rw [State.tryRoster]
  split
  · exact .refl s
  · split
    · exact .refl s
    · refine RosterOnly.trans ?_ (rosterOnly_sendAll _ _ _ _)
      exact ⟨⟨rfl, rfl, rfl, rfl, rfl⟩, rfl, rfl, rfl⟩

theorem rosterOnly_tryReport (s : State) : RosterOnly s s.tryReport := by
  rw [State.tryReport]
  split
  · exact .refl s
  · have hset : RosterOnly s (s.setHail { s.hail with reported := true }) := ⟨⟨rfl, rfl, rfl, rfl, rfl⟩, rfl, rfl, rfl⟩
    have hsent := hset.trans (rosterOnly_sendAll 8 [] (s.confirmedPeers.filter fun id => !s.formSet.contains id) _)
    dsimp only
    split
    · split
      · exact hsent.trans (rosterOnly_tryRoster _)
      · exact hsent.trans (.of_counts (sendPeer_counts _ _ _ _))
    · exact hsent

/-- CONFIRM with the right HMAC connects the pair. -/
theorem confirmed_connects {s : State} {id i : Nat} {m : List Byte} (hlen : m.length = 76) (hforming : s.formingWith m = true)
    (hattested : (s.peer id).attested = true) (hrefused : (s.peer id).refused = false) (hconnected : (s.peer id).connected = false)
    (hhmac : m.drop 44 = hmac (s.peer id).keyConfirm (ascii "M6 crew confirm" ++ toLe 8 id)) (hqp : (s.peer id).qp = some i) :
    FabricStands s (s.confirmed m id) ∧ ((s.confirmed m id).peer id).connected = true ∧
      ((s.confirmed m id).peer id).peerQpn = leAt m 40 4 ∧ ((s.confirmed m id).qp i).state = .rts := by
  have hgo : ¬ ((!s.formingWith m) = true ∨ (!(s.peer id).attested) = true ∨ (s.peer id).refused = true ∨
      (s.peer id).connected = true) := by
    simp only [hforming, hattested, hrefused, hconnected, Bool.not_true, Bool.false_eq_true, or_self, not_false_eq_true]
  rw [State.confirmed, if_neg (not_not_intro hlen), if_neg hgo, if_neg (not_not_intro hhmac)]
  dsimp only
  generalize hp : ({ s.peer id with confirmed := true, connected := true, peerQpn := leAt m 40 4 } : Peer) = p
  rw [hqp]
  dsimp only
  have hset : FabricStands s ((s.setPeer id p).modQp i fun q => { q with
      state := .rts, attr := BitVec.ofNat 512 (4095 * 2 ^ 64 + leAt m 40 4 % 2 ^ 24 * 2 ^ 160 + 5 * 2 ^ 59) }) :=
    ⟨rfl, rfl, rfl, rfl, rfl⟩
  have hpeer : ((s.setPeer id p).modQp i fun q => { q with
      state := .rts, attr := BitVec.ofNat 512 (4095 * 2 ^ 64 + leAt m 40 4 % 2 ^ 24 * 2 ^ 160 + 5 * 2 ^ 59) }).peer id = p :=
    peer_setPeer_self s id p
  have hstate : (((s.setPeer id p).modQp i fun q => { q with
      state := .rts, attr := BitVec.ofNat 512 (4095 * 2 ^ 64 + leAt m 40 4 % 2 ^ 24 * 2 ^ 160 + 5 * 2 ^ 59) }).qp i).state = .rts :=
    congrArg Qp.state ((State.qp_setQp _ i i _).trans (if_pos rfl))
  generalize ((s.setPeer id p).modQp i fun q => { q with
      state := .rts, attr := BitVec.ofNat 512 (4095 * 2 ^ 64 + leAt m 40 4 % 2 ^ 24 * 2 ^ 160 + 5 * 2 ^ 59) }) = v at hset hpeer hstate
  obtain ⟨hstands, hpeers, hhalyard, -⟩ := rosterOnly_tryReport v
  have hsame : v.tryReport.peer id = p := by
    change v.tryReport.hail.peers.get {} id = p
    rw [hpeers]
    exact hpeer
  have hqps : v.tryReport.qp i = v.qp i := by rw [State.qp, State.halyard, hhalyard, State.qp, State.halyard]
  rw [hsame, hqps, hstate]
  exact ⟨FabricStands.trans hset hstands, by rw [← hp], by rw [← hp], rfl⟩

/-- A roster that names this module is taken and acknowledged. -/
theorem roster_taken (s : State) (id : Nat) (h : Hail) : ∀ t, t = (s.setHail h).sendPeer id 7 [] → FabricStands s t ∧ t.hail = h := by
  rintro t rfl
  have hcounts := sendPeer_counts (s.setHail h) id 7 []
  exact ⟨FabricStands.trans (b := s.setHail h) ⟨rfl, rfl, rfl, rfl, rfl⟩ (counts_stands hcounts), congrArg Net.hail (counts_net hcounts)⟩

/-- A refusal that the leader passes on ends the formation. -/
theorem refusal_ends (s : State) (l : List Nat) (p : Prop) [Decidable p] :
    let t := (if p then l.foldl (fun u q => u.sendPeer q 8 []) s else s).formFails 7
    FabricStands s t ∧ t.hail.phase = .idle ∧ t.hail.formResult = 7 := by
  have hsent : CountsOnly s (if p then l.foldl (fun u q => u.sendPeer q 8 []) s else s) := by
    split
    · exact counts_foldl (fun t _ => sendPeer_counts t _ _ _) l s
    · exact countsOnly_refl s
  obtain ⟨hstands, hphase, hresult⟩ := formFails_fails (if p then l.foldl (fun u q => u.sendPeer q 8 []) s else s) 7
  exact ⟨FabricStands.trans (counts_stands hsent) hstands, hphase, hresult⟩

/-- Settles O48. -/
theorem hailFormation : Obligations.HailFormation := by
  unfold Obligations.HailFormation
  intro s port cycle id m hforming
  have hstands := atCycle_stands s cycle
  have hout : (s.atCycle cycle).out = s.out := atCycle_out s cycle
  obtain ⟨c, hc⟩ := s.atCycle_frame cycle
  refine ⟨?hello, ?attest, ?confirm, ?report, ?roster, ?ack, ?refuse⟩
  case hello =>
    intro hgiven hlen hhigh hcand hrefused hattested
    have hexec : exec (.haHello port cycle m) s = .next ((s.atCycle cycle).hello port m id) := by
      change execHaHello port cycle m s = _
      rw [execHaHello, onHail_runs hgiven]
    rw [hexec]
    rw [hc] at hforming hstands hout ⊢
    obtain ⟨hmore, ⟨a, ha⟩, hnonce, heph, hport⟩ := hello_answers (s := { s with stroke := { s.stroke with cycle := c } }) (port := port)
      hlen hforming hhigh hcand hrefused hattested
    exact ⟨_, a, rfl, FabricStands.trans hstands hmore, ha, hnonce, heph, hport⟩
  case attest =>
    intro key i hgiven hlen hnonce hattested hrefused hlow hzero hstamps heph hmatch hfree
    have hexec : exec (.haAttest port cycle m key) s = .next ((s.atCycle cycle).attested port m key id) := by
      change execHaAttest port cycle m key s = _
      rw [execHaAttest, onHail_runs hgiven]
    rw [hexec]
    rw [hc] at hforming hstands hout hmatch ⊢
    rw [attested_confirms (s := { s with stroke := { s.stroke with cycle := c } }) hlen hforming hnonce hattested hrefused hlow hzero hstamps
      heph hmatch]
    obtain ⟨hmore, ⟨a, ha⟩, hdone, hk, heph', hqp, hkey, hlive⟩ := confirmPair_confirms
      (s := { s with stroke := { s.stroke with cycle := c } }) (id := id) 0 hfree
    exact ⟨_, a, rfl, FabricStands.trans hstands hmore, ha, hdone, hk, heph', hqp, hkey, hlive⟩
  case confirm =>
    intro i hgiven hlen hattested hrefused hconnected hhmac hqp
    have hexec : exec (.haConfirm port cycle m) s = .next ((s.atCycle cycle).confirmed m id) := by
      change execHaConfirm port cycle m s = _
      rw [execHaConfirm, onHail_runs hgiven]
    rw [hexec]
    rw [hc] at hforming hstands ⊢
    obtain ⟨hmore, hconn, hqpn, hstate⟩ := confirmed_connects (s := { s with stroke := { s.stroke with cycle := c } }) hlen hforming hattested
      hrefused hconnected hhmac hqp
    exact ⟨_, rfl, FabricStands.trans hstands hmore, hconn, hqpn, hstate⟩
  case report =>
    intro b hgiven hbody hlen
    have hexpect : (s.atCycle cycle).hail.expect = s.hail.expect := by rw [hc]; rfl
    have hmore := rosterOnly_tryRoster ((s.atCycle cycle).setHail { (s.atCycle cycle).hail with
      reports := (s.atCycle cycle).hail.reports.insertAt id ((chunksOf (b.length + 1) 16 b).map fun e => (leAt e 0 8, leAtI e 8)) })
    refine ⟨_, ?_, FabricStands.trans (FabricStands.trans hstands ⟨rfl, rfl, rfl, rfl, rfl⟩) hmore.stands, ?_⟩
    · change execHaReport port cycle m s = _
      rw [execHaReport, onPair_runs hgiven hbody]
      dsimp only
      rw [hforming, hexpect, if_neg (by simp only [hlen, Bool.not_true, Bool.false_eq_true, ne_eq, not_true, or_self, not_false_eq_true])]
    · rw [hmore.reports]
      exact NMap.find?_insertAt_self _ _ _
  case roster =>
    intro b hgiven hbody hn hlen hown hidle
    have hexpect : (s.atCycle cycle).hail.expect = s.hail.expect := by rw [hc]; rfl
    have hself : (s.atCycle cycle).moduleId = s.moduleId := by rw [hc]; rfl
    have hrounds : (s.atCycle cycle).roundsIdle = true := by rw [hc]; exact hidle
    have hids : ((chunksOf (b.length + 1) 16 (b.drop 20)).map fun e => (leAt e 0 8, leAt e 8 8)).map (·.1) =
        (chunksOf (b.length + 1) 16 (b.drop 20)).map fun e => leAt e 0 8 := by
      rw [List.map_map]
      rfl
    have hcontains := List.contains_iff_mem.mpr hown
    have hexec : ∃ due, exec (.haRoster port cycle m) s = .next (((s.atCycle cycle).setHail { (s.atCycle cycle).hail with
        members := (chunksOf (b.length + 1) 16 (b.drop 20)).map fun e => leAt e 0 8
        pos := ((chunksOf (b.length + 1) 16 (b.drop 20)).map fun e => leAt e 0 8).idxOf s.moduleId
        adoptAt := due, adoptV := leAt b 4 8, adoptEpoch := leAtI b 12, keyEpoch := leAt b 2 2 }).sendPeer id 7 []) := by
      change ∃ due, execHaRoster port cycle m s = _
      rw [execHaRoster, onPair_runs hgiven hbody]
      dsimp only
      rw [hforming, if_neg (by decide), hids, hself, hcontains, hexpect, List.length_map, hlen, hn, hrounds, if_neg (by
        simp only [Bool.not_true, Bool.false_eq_true, ne_eq, not_true, or_self, not_false_eq_true])]
      exact ⟨_, rfl⟩
    obtain ⟨due, hexec⟩ := hexec
    obtain ⟨hmore, hhail⟩ := roster_taken (s.atCycle cycle) id { (s.atCycle cycle).hail with
      members := (chunksOf (b.length + 1) 16 (b.drop 20)).map fun e => leAt e 0 8
      pos := ((chunksOf (b.length + 1) 16 (b.drop 20)).map fun e => leAt e 0 8).idxOf s.moduleId
      adoptAt := due, adoptV := leAt b 4 8, adoptEpoch := leAtI b 12, keyEpoch := leAt b 2 2 } _ rfl
    exact ⟨_, hexec, FabricStands.trans hstands hmore, by rw [hhail], by rw [hhail], by rw [hhail], by rw [hhail]⟩
  case ack =>
    intro b hgiven hbody
    refine ⟨_, ?_, FabricStands.trans hstands (c := (s.atCycle cycle).setHail { (s.atCycle cycle).hail with
      rosterAcks := if (s.atCycle cycle).hail.rosterAcks.contains id then (s.atCycle cycle).hail.rosterAcks
        else id :: (s.atCycle cycle).hail.rosterAcks }) ⟨rfl, rfl, rfl, rfl, rfl⟩, mem_insertNew _ _⟩
    change execHaRosterAck port cycle m s = _
    rw [execHaRosterAck, onPair_runs hgiven hbody]
    dsimp only
    rw [hforming, if_neg (by decide)]
  case refuse =>
    intro b hgiven hbody
    obtain ⟨hmore, hphase, hresult⟩ := refusal_ends (s.atCycle cycle) ((s.atCycle cycle).hail.members.drop 1)
      ((s.atCycle cycle).hail.members.head? = some (s.atCycle cycle).moduleId)
    refine ⟨_, ?_, FabricStands.trans hstands hmore, hphase, hresult⟩
    change execHaRefuse port cycle m s = _
    rw [execHaRefuse, onPair_runs hgiven hbody]
    dsimp only
    rw [hforming, if_neg (by decide)]

end Sys2Proof.Proofs.Formation
end

section
/-!
PROOFS. What empties the module (14 R559, 16 R620, R621, 18 R661, 20 R720): keys zeroised, links that fall, the debug session dropped,
and what a WARM reset leaves.
-/

namespace Sys2Proof.Proofs.Erasures

open Sys2Proof Sys2Proof.Machine Sys2Proof.Proofs.FieldRules Sys2Proof.Proofs.CoreStores Sys2Proof.Proofs.Registers

/-! ### Ports, registers and the debug controller -/

/-- `t` is `s` but for registers, messages, pending vectors, the ports with HAIL and HALYARD, and the debug controller. -/
def EdgeOnly (s t : State) : Prop := ∃ r o x n y, t = { s with regs := r, out := o, pcie := { s.pcie with pba := x }, net := n, tt := y }

theorem EdgeOnly.of_counts {s t : State} (h : CountsOnly s t) : EdgeOnly s t := by
  obtain ⟨r, o, x, rfl⟩ := h
  exact ⟨r, o, x, _, _, rfl⟩

theorem EdgeOnly.refl (s : State) : EdgeOnly s s := .of_counts (countsOnly_refl s)

theorem EdgeOnly.trans {s t v : State} (h : EdgeOnly s t) (k : EdgeOnly t v) : EdgeOnly s v := by
  obtain ⟨_, _, _, _, _, rfl⟩ := h
  obtain ⟨_, _, _, _, _, rfl⟩ := k
  exact ⟨_, _, _, _, _, rfl⟩

theorem EdgeOnly.counts {s t v : State} (h : EdgeOnly s t) (k : CountsOnly t v) : EdgeOnly s v := h.trans (.of_counts k)

theorem EdgeOnly.foldl {α : Type} {f : State → α → State} (h : ∀ s a, EdgeOnly s (f s a)) (l : List α) (s : State) :
    EdgeOnly s (l.foldl f s) := by
  induction l generalizing s with
  | nil => exact .refl s
  | cons a l ih => exact (h s a).trans (ih (f s a))

section
variable {s t : State} (h : EdgeOnly s t)
include h

theorem EdgeOnly.stands : FabricStands s t := by
  obtain ⟨_, _, _, _, _, rfl⟩ := h
  exact ⟨rfl, rfl, rfl, rfl, rfl⟩

theorem EdgeOnly.boot : t.boot = s.boot := by
  obtain ⟨_, _, _, _, _, rfl⟩ := h
  rfl

theorem EdgeOnly.keep : t.keep = s.keep := by
  obtain ⟨_, _, _, _, _, rfl⟩ := h
  rfl

theorem EdgeOnly.rounds : t.rounds = s.rounds := by
  obtain ⟨_, _, _, _, _, rfl⟩ := h
  rfl

theorem EdgeOnly.ten : t.ten = s.ten := by
  obtain ⟨_, _, _, _, _, rfl⟩ := h
  rfl

theorem EdgeOnly.bosun : t.bosun = s.bosun := by
  obtain ⟨_, _, _, _, _, rfl⟩ := h
  rfl

theorem EdgeOnly.stroke : t.stroke = s.stroke := by
  obtain ⟨_, _, _, _, _, rfl⟩ := h
  rfl

theorem EdgeOnly.power : t.power = s.power := by
  obtain ⟨_, _, _, _, _, rfl⟩ := h
  rfl

end

theorem edge_linkFalls (s : State) (p : Nat) : EdgeOnly s (s.linkFalls p) := by
  have hdown (x : Port) : EdgeOnly s (s.setPort p x) := ⟨_, _, _, _, _, rfl⟩
  rw [State.linkFalls]
  split
  · exact (hdown _).counts ((countsOnly_bump _ .eth p 0x8C).trans (countsOnly_latchEvt _ .eth p 1))
  · exact hdown _

theorem edge_linksFall (s : State) (l : List Nat) : EdgeOnly s (l.foldl (fun (t : State) p => t.linkFalls p) s) :=
  .foldl edge_linkFalls l s

theorem countsOnly_disarm (s : State) : CountsOnly s s.disarm :=
  (counts_foldl (fun _ _ => countsOnly_setReg _ _ _ _ _) _ s).trans (counts_foldl (fun _ _ => countsOnly_setReg _ _ _ _ _) _ _)

theorem edge_dropSession (s : State) : EdgeOnly s s.dropSession := by
  have htt (y : Telltale) : EdgeOnly s { s with tt := y } := ⟨_, _, _, _, _, rfl⟩
  rw [State.dropSession]
  split
  · exact (htt _).counts ((countsOnly_disarm _).trans (countsOnly_latchEvt _ .telltale 0 8))
  · exact htt _

theorem edge_openSession (s : State) : EdgeOnly s s.openSession := by
  have htt (y : Telltale) : EdgeOnly s { s with tt := y } := ⟨_, _, _, _, _, rfl⟩
  exact (htt _).counts ((countsOnly_bump _ .telltale 0 0x94).trans (countsOnly_latchEvt _ .telltale 0 8))

theorem edge_keepTelltale (s before : State) : EdgeOnly s (s.keepTelltale before) :=
  .trans ⟨_, _, _, _, _, rfl⟩ (edge_dropSession _)

/-! ### Vectors -/

theorem countsOnly_sendVector (s : State) (v : Nat) (special : Bool) : CountsOnly s (s.sendVector v special) := by
  obtain ⟨o, x, h⟩ := s.sendVector_frame v special
  exact ⟨_, o, x, h⟩

theorem countsOnly_latchSpecial (s : State) (m : Nat) : CountsOnly s (s.latchSpecial m) :=
  (countsOnly_setReg s _ _ _ _).trans (countsOnly_sendVector _ 0 true)

theorem latchSpecial_bit (s : State) {m b : Nat} (hb : (m % 2 ^ 32).testBit b = true) :
    ((s.latchSpecial m).reg .global 0 0x14).toNat.testBit b = true := by
  have hreg : (s.latchSpecial m).reg .global 0 0x14 = s.reg .global 0 0x14 ||| BitVec.ofNat 32 m := by
    rw [State.latchSpecial]
    obtain ⟨o, x, h⟩ := (s.setReg .global 0 0x14 (s.reg .global 0 0x14 ||| BitVec.ofNat 32 m)).sendVector_frame 0 true
    rw [h]
    exact s.reg_setReg_self _ _ _ _
  rw [hreg, BitVec.toNat_or, BitVec.toNat_ofNat, Nat.testBit_or, hb, Bool.or_true]

/-- Releasing the vectors sends and drops: registers stand. -/
theorem releaseVectors_sends (s : State) : ∃ o x, s.releaseVectors = { s with out := o, pcie := { s.pcie with pba := x } } := by
  have hfold {α : Type} (f : State → α → State) (h : ∀ t a, ∃ o x, f t a = { t with out := o, pcie := { t.pcie with pba := x } })
      (l : List α) (t : State) : ∃ o x, l.foldl f t = { t with out := o, pcie := { t.pcie with pba := x } } := by
    induction l generalizing t with
    | nil => exact ⟨_, _, rfl⟩
    | cons a l ih =>
      obtain ⟨o, x, h1⟩ := h t a
      obtain ⟨o', x', h2⟩ := ih (f t a)
      exact ⟨o', x', by rw [List.foldl_cons, h2, h1]⟩
  have hheld (t : State) (v : Nat) : ∃ o x, (if t.vectorHolds v then t.sendVector v
      else { t with pcie := { t.pcie with pba := t.pcie.pba.filter (· ≠ v) } }) =
      { t with out := o, pcie := { t.pcie with pba := x } } := by
    split
    · exact t.sendVector_frame v false
    · exact ⟨_, _, rfl⟩
  have hnew (t : State) (v : Nat) : ∃ o x, (if v ≠ 0 ∧ t.vectorHolds v ∧ !t.pcie.pba.contains v then t.sendVector v else t) =
      { t with out := o, pcie := { t.pcie with pba := x } } := by
    split
    · exact t.sendVector_frame v false
    · exact ⟨_, _, rfl⟩
  obtain ⟨o, x, h1⟩ := hfold _ hheld s.pcie.pba s
  obtain ⟨o', x', h2⟩ := hfold _ hnew (List.range 68) (s.pcie.pba.foldl (fun (t : State) v =>
    if t.vectorHolds v then t.sendVector v else { t with pcie := { t.pcie with pba := t.pcie.pba.filter (· ≠ v) } }) s)
  exact ⟨o', x', by rw [State.releaseVectors, h2, h1]⟩

theorem countsOnly_releaseVectors (s : State) : CountsOnly s s.releaseVectors := by
  obtain ⟨o, x, h⟩ := releaseVectors_sends s
  exact ⟨_, o, x, h⟩

/-! ### Keys -/

/-- The slots that stay are those the predicate does not name. -/
theorem zeroiseSlots_keep (s : State) (p : Nat → KeySlot → Bool) :
    (s.zeroiseSlots p).keep = { s.keep with slots := s.keep.slots.filter fun e => !p e.1 e.2 } := by
  rw [State.zeroiseSlots]
  split
  · exact latchEvt_keep _ _ _ _
  · next hnone =>
    have hall : s.keep.slots.filter (fun e => !p e.1 e.2) = s.keep.slots := by
      refine List.filter_eq_self.mpr fun e he => ?_
      have := mt (fun h => List.any_eq_true.mpr ⟨e, he, h⟩) hnone
      simpa using this
    rw [hall]

theorem finishKeep_keep (s : State) (o : Nat) : ∃ m, (s.finishKeep o).keep = { s.keep with msg := m } := by
  rw [State.finishKeep, latchEvt_keep]
  dsimp only
  split
  · exact ⟨_, rfl⟩
  · exact ⟨_, rfl⟩

/-! ### WARM -/

theorem countsOnly_restoreSettings (s : State) : CountsOnly s s.restoreSettings :=
  (countsOnly_setReg s _ _ _ _).trans (counts_foldl (fun _ _ => countsOnly_setReg _ _ _ _ _) _ _)

/-- A WARM reset is the wiped state with start-up begun again, but for registers and what they send. -/
theorem warmReset_restarts (s : State) (cause : Nat) (keepFirst : Bool) : CountsOnly { s.wiped with
      boot := s.boot.restart (if keepFirst then .keep else .fill) cause keepFirst
      stroke := { s.wiped.stroke with running := decide (s.boot.fatal = 0 ∧ s.keep.lc ≠ LifeCycle.tamperLock) } }
    (s.warmReset cause keepFirst) :=
  countsOnly_restoreSettings _

theorem warmReset_leaves (s : State) (cause : Nat) : WarmLeft s (s.warmReset cause false) cause := by
  obtain ⟨r, o, x, h⟩ := warmReset_restarts s cause false
  rw [h]
  exact ⟨rfl, rfl, rfl, rfl, rfl, rfl, rfl, rfl, rfl, rfl, rfl⟩

end Sys2Proof.Proofs.Erasures
end

section
/-!
PROOFS. Claim, scrub, firmware, weights, key use and tamper (14 R551, R559, 15 R577, R581 to R584, 16 R626, R629): O53.
-/

namespace Sys2Proof.Proofs.Tenancy

open Sys2Proof Sys2Proof.Machine Sys2Proof.Proofs.FieldRules Sys2Proof.Proofs.CoreStores Sys2Proof.Proofs.Registers
  Sys2Proof.Proofs.QueueEvents Sys2Proof.Proofs.UnitItems Sys2Proof.Proofs.Drains Sys2Proof.Proofs.MemWrites Sys2Proof.Proofs.Erasures

/-! ### Claim and firmware -/

theorem counts_bosun {s t : State} (h : CountsOnly s t) : t.bosun = s.bosun := by
  obtain ⟨_, _, _, rfl⟩ := h
  rfl

/-- The command ends with its outcome, and nothing else but the event. -/
theorem finishBosun_ends (s : State) (o r : Nat) : CountsOnly { s with bosun := { s.bosun with
    busy := false, ready := false, outcome := o, result := r } } (s.finishBosun o r) := countsOnly_latchEvt _ _ _ _

theorem claimComplete_claims {s : State} {l : List (Nat × Nat × Bool)} (hclaiming : s.ten.claiming = true)
    (hok : s.reserveOk l = true) : ∃ t, execClaimComplete l s = .next t ∧ CountsOnly { s with
      ten := { s.ten with claiming := false, claimed := true }
      bosun := { s.bosun with busy := false, ready := false, outcome := 0, result := 0 }
      fabric := { s.fabric with
        areas := s.fabric.areas ++ ((l.map fun e => { base := e.1, len := e.2.1, tag := if e.2.2 then 4 else 5, owner := .tamrik }) ++
          s.withheldPages.map fun w => { base := w, len := 0x200000, tag := 0, owner := .withheld }) } } t := by
  refine ⟨_, by rw [execClaimComplete, if_neg (by simp [hclaiming]), if_neg (by simp [hok])], ?_⟩
  obtain ⟨r, o, x, h⟩ := State.latchEvt_frame (s := { s with
    ten := { s.ten with claiming := false, claimed := true }
    fabric := { s.fabric with
      areas := s.fabric.areas ++ ((l.map fun e => { base := e.1, len := e.2.1, tag := if e.2.2 then 4 else 5, owner := .tamrik }) ++
        s.withheldPages.map fun w => { base := w, len := 0x200000, tag := 0, owner := .withheld }) } }) .global 0 16
  rw [h]
  exact CountsOnly.trans ⟨r, o, x, rfl⟩ (finishBosun_ends _ 0 0)

theorem fwProgramDone_stages {s : State} (hprogramming : s.boot.fwState = .programming) (hvalid : s.boot.staged.holds = .valid) :
    ∃ t, execFwProgramDone true s = .next t ∧ t.boot.fwState = .staged ∧ t.boot.stagedVer = s.boot.staged.version ∧
      (if s.boot.fwSlotB then t.boot.slotB else t.boot.slotA) = s.boot.staged ∧
      (if s.boot.fwSlotB then t.boot.slotA = s.boot.slotA else t.boot.slotB = s.boot.slotB) ∧ FabricStands s t := by
  refine ⟨_, by simp only [execFwProgramDone, hprogramming, hvalid, ne_eq, not_true, if_false, decide_true, Bool.and_true, if_true]; rfl, ?_⟩
  rw [latchEvt_boot]
  refine ⟨rfl, rfl, ?_, ?_, .trans (b := { s with boot := _ }) ⟨rfl, rfl, rfl, rfl, rfl⟩ (State.latchEvt_stands _ _ _ _)⟩
  · cases s.boot.fwSlotB <;> rfl
  · cases s.boot.fwSlotB <;> rfl

/-! ### Keys -/

/-- A request within the key's use gives the key. -/
theorem keyRequest_serves {s v : State} {slot dest use : Nat} {k : KeySlot} (h : KeyServes s slot dest use k) (hkeep : v.keep = s.keep) :
    v.keyRequest slot dest use 0 = (some k, v) := by
  obtain ⟨_, hslot, hleaving, hdest, huse, hround⟩ := h
  simp only [State.keyRequest, hkeep, hslot, hleaving, hdest, huse, hround, Bool.not_true, Bool.false_eq_true, ne_eq, not_true, false_and,
    or_self, if_false]

theorem kpKeyRequest_serves {s : State} {slot dest use : Nat} {k : KeySlot} (hdest : dest < 5) (huse : use < 7)
    (h : KeyServes s slot dest use k) : execKpKeyRequest slot dest use 0 s = .next s := by
  have hslot : slot < 56 := h.1
  rw [execKpKeyRequest, if_neg (by omega), if_pos hslot, keyRequest_serves h rfl]

/-! ### WEIGHTS_IO -/

theorem spill_dropHead (s : State) (n : Nat) : SpillOnly s (s.dropHead n) :=
  (spill_setQueue s n _).trans (.of_events (events_evalZone _ n))

/-- A row of WEIGHTS_IO does its work behind the queue's head. -/
theorem weightsRow_works {s v : State} (work : State → State) (h : WeightsStarts s v) : weightsRow work s = .next (work v) := by
  obtain ⟨hloaded, hstart, ⟨e, he, hfunc, hrun⟩, ⟨i, hhead⟩, _, rfl⟩ := h
  have hrig : (s.fabric.rigs.any fun e => decide (e.2.func = 2) && e.2.running) = true :=
    List.any_eq_true.mpr ⟨e, he, by simp [hfunc, hrun]⟩
  simp only [weightsRow, hloaded, hstart, hrig, hhead, Bool.not_true, Bool.false_eq_true, or_self, if_false]

theorem weightsStarts_head {s v : State} (h : WeightsStarts s v) : SpillOnly s v ∧ v.ten.guardW = true := by
  obtain ⟨_, _, _, _, hguard, rfl⟩ := h
  have hhead := spill_dropHead s s.weights.reqQueue
  exact ⟨hhead, by rw [hhead.ten, hguard]⟩

theorem tenantRange_congr {s v : State} (h : v.fabric = s.fabric) (a n tag : Nat) : v.tenantRange a n tag = s.tenantRange a n tag := by
  rw [State.tenantRange, h, State.tenantRange]

theorem exportWeights_writes {s v u : State} {slot src len dst label cookie : Nat} {k : KeySlot} {a : Area} {nonce data : List Byte}
    (hstart : WeightsStarts s v) (hsrc : src % 32 = 0) (hdst : dst % 32 = 0) (hlen : len % 32 = 0) (hmin : 32 ≤ len)
    (hmax : len ≤ 2 ^ 36) (hfrom : s.tenantRange src len 2 = true) (hto : s.tenantRange dst (80 + len) 1 = true)
    (hkey : KeyServes s slot 1 0 k) (htyp : k.typ = 2) (harea : s.areaOf src = some a) (hdraw : v.drawBytes 12 = (nonce, u))
    (hread : u.readBytes 1 src len = (data, false, u)) :
    v.exportWeights slot src len dst label cookie = (u.writeBytes 1 dst (weightsHeader len (src - a.base) label nonce ++
      gcmSeal k.key nonce (weightsHeader len (src - a.base) label nonce) data)).weightsDone cookie 0 dst (80 + len) := by
  obtain ⟨hhead, hguard⟩ := weightsStarts_head hstart
  have harea' : v.areaOf src = some a := by rw [State.areaOf, hhead.fabric, ← harea, State.areaOf]
  simp only [State.exportWeights, hguard, hsrc, hdst, hlen, Nat.not_lt.mpr hmin, Nat.not_lt.mpr hmax, tenantRange_congr hhead.fabric, hfrom,
    hto, keyRequest_serves hkey hhead.keep, htyp, harea', hdraw, hread, Bool.not_true, Bool.false_eq_true, ne_eq, not_true, or_self,
    gt_iff_lt, if_false, Option.map_some, Option.getD_some]
  rfl

/-- A record whose tag verifies opens to the plaintext that the function writes. -/
theorem gcmOpen_gives {key nonce aad x p : List Byte} {n : Nat} (hlen : x.length = n + 16) (h : gcmOpen key nonce aad x = some p) :
    gcmTag (aesKeys key) (ofBe nonce * 2 ^ 32 + 1) aad (x.take n) = x.drop n ∧
      xorBytes (x.take n) (gctr (aesKeys key) ((n + 15) / 16) (ofBe nonce * 2 ^ 32 + 1 + 1)) = p := by
  have hbody : (x.take n).length = n := by rw [List.length_take, hlen, Nat.min_eq_left (Nat.le_add_right _ _)]
  rw [gcmOpen, if_neg (by omega)] at h
  dsimp only at h
  rw [hlen, Nat.add_sub_cancel, hbody] at h
  split at h
  · next htag => exact ⟨htag, Option.some.inj h⟩
  · cases h

theorem importWeights_writes {s v : State} {slot src dst cookie : Nat} {k : KeySlot} {h x p : List Byte} (hstart : WeightsStarts s v)
    (hsrc : src % 32 = 0) (hdst : dst % 32 = 0) (hfrom : s.tenantRange src 64 1 = true) (hread : v.readBytes 1 src 64 = (h, false, v))
    (hok : recordOk h = true) (hwhole : s.tenantRange src (80 + leAt h 8 8) 1 = true) (hto : s.tenantRange dst (leAt h 8 8) 2 = true)
    (hkey : KeyServes s slot 1 1 k) (htyp : k.typ = 2) (hbody : v.readBytes 1 (src + 64) (leAt h 8 8 + 16) = (x, false, v))
    (hlen : x.length = leAt h 8 8 + 16) (hopen : gcmOpen k.key ((h.drop 0x20).take 12) h x = some p) :
    v.importWeights slot src dst cookie = (v.writeBytes 1 dst p).weightsDone cookie 0 dst (leAt h 8 8) := by
  obtain ⟨hhead, hguard⟩ := weightsStarts_head hstart
  obtain ⟨htag, hplain⟩ := gcmOpen_gives hlen hopen
  simp only [State.importWeights, hguard, hsrc, hdst, tenantRange_congr hhead.fabric, hfrom, hread, hok, hwhole, hto,
    keyRequest_serves hkey hhead.keep, htyp, hbody, htag, hplain, Bool.not_true, Bool.not_false, Bool.false_eq_true, ne_eq, not_true, or_self, if_false,
    Bool.true_and, decide_true, if_true]

theorem drawBytes_weights {v u : State} {n : Nat} {l : List Byte} (h : v.drawBytes n = (l, u)) : u.weights = v.weights := by
  cases h
  rfl

theorem memOnly_weights {s t : State} (h : MemOnly s t) : t.weights = s.weights := by rw [h]

theorem boExport_exports {s v u : State} {slot src len dst label cookie : Nat} {k : KeySlot} {a : Area} {nonce data : List Byte}
    (hstart : WeightsStarts s v) (hsrc : src % 32 = 0) (hdst : dst % 32 = 0) (hlen : len % 32 = 0) (hmin : 32 ≤ len)
    (hmax : len ≤ 2 ^ 36) (hfrom : s.tenantRange src len 2 = true) (hto : s.tenantRange dst (80 + len) 1 = true)
    (hkey : KeyServes s slot 1 0 k) (htyp : k.typ = 2) (harea : s.areaOf src = some a) (hdraw : v.drawBytes 12 = (nonce, u))
    (hread : u.readBytes 1 src len = (data, false, u)) :
    ∃ t, execBoExport slot src len dst label cookie s = .next t ∧
      t.mem = (u.writeBytes 1 dst (weightsHeader len (src - a.base) label nonce ++
        gcmSeal k.key nonce (weightsHeader len (src - a.base) label nonce) data)).mem ∧
      t.weights.completions = s.weights.completions ++ [{ cookie := cookie, status := 0, base := dst, len := 80 + len }] := by
  refine ⟨_, weightsRow_works _ hstart, ?_⟩
  rw [exportWeights_writes hstart hsrc hdst hlen hmin hmax hfrom hto hkey htyp harea hdraw hread]
  refine ⟨rfl, ?_⟩
  rw [State.weightsDone, memOnly_weights (memOnly_writeBytes _ _ _ _ _), drawBytes_weights hdraw, (weightsStarts_head hstart).1.weights]

theorem boImport_imports {s v : State} {slot src dst cookie : Nat} {k : KeySlot} {h x p : List Byte} (hstart : WeightsStarts s v)
    (hsrc : src % 32 = 0) (hdst : dst % 32 = 0) (hfrom : s.tenantRange src 64 1 = true) (hread : v.readBytes 1 src 64 = (h, false, v))
    (hok : recordOk h = true) (hwhole : s.tenantRange src (80 + leAt h 8 8) 1 = true) (hto : s.tenantRange dst (leAt h 8 8) 2 = true)
    (hkey : KeyServes s slot 1 1 k) (htyp : k.typ = 2) (hbody : v.readBytes 1 (src + 64) (leAt h 8 8 + 16) = (x, false, v))
    (hlen : x.length = leAt h 8 8 + 16) (hopen : gcmOpen k.key ((h.drop 0x20).take 12) h x = some p) :
    ∃ t, execBoImport slot src dst cookie s = .next t ∧ t.mem = (v.writeBytes 1 dst p).mem ∧
      t.weights.completions = s.weights.completions ++ [{ cookie := cookie, status := 0, base := dst, len := leAt h 8 8 }] := by
  refine ⟨_, weightsRow_works _ hstart, ?_⟩
  rw [importWeights_writes hstart hsrc hdst hfrom hread hok hwhole hto hkey htyp hbody hlen hopen]
  refine ⟨rfl, ?_⟩
  rw [State.weightsDone, memOnly_weights (memOnly_writeBytes _ _ _ _ _), (weightsStarts_head hstart).1.weights]

theorem weightsIoCompletion_ends {s : State} {d : WioDone} {l : List WioDone} (h : s.weights.completions = d :: l) :
    ∃ t, execWeightsIoCompletion s = .next t ∧ t.weights = { s.weights with completions := l } ∧
      t.mem = (if d.status = 10 then s.zeroRange d.base d.len else s).mem ∧
      UnitPut s t s.weights.doneQueue .cipher [BitVec.ofNat 256 (d.cookie % 2 ^ 64 + 2 ^ 64 * d.status)] := by
  simp only [execWeightsIoCompletion, h]
  refine ⟨_, rfl, ?_⟩
  split
  · have hitem := spill_unitItem (({ s with weights := { s.weights with completions := l } } : State).zeroRange d.base d.len)
      s.weights.doneQueue .cipher [BitVec.ofNat 256 (d.cookie % 2 ^ 64 + 2 ^ 64 * d.status)] 0 0 0
    exact ⟨hitem.weights, hitem.mem, unitPut_unitItem _ _ rfl rfl rfl⟩
  · have hitem := spill_unitItem ({ s with weights := { s.weights with completions := l } } : State)
      s.weights.doneQueue .cipher [BitVec.ofNat 256 (d.cookie % 2 ^ 64 + 2 ^ 64 * d.status)] 0 0 0
    exact ⟨hitem.weights, hitem.mem, unitPut_unitItem _ _ rfl rfl rfl⟩

/-! ### The scrub -/

/-- A slot that the boot record names and that is valid boots, and strokes run. -/
theorem fwLoad_boots {s : State} (h : (if s.boot.recordB then s.boot.slotB else s.boot.slotA).holds = .valid) :
    ∃ a b, s.fwLoad = { s with
      boot := ({ s.boot with infoA := a, infoB := b } : Boot).booted s.boot.recordB false
      stroke := { s.stroke with running := true } } := by
  cases hb : s.boot.recordB with
  | true =>
    rw [hb, if_pos rfl] at h
    refine ⟨s.boot.infoA, s.boot.slotB.info, ?_⟩
    simp only [State.fwLoad, Boot.tries, hb, h, decide_true, if_true]
  | false =>
    rw [hb, if_neg (by decide)] at h
    refine ⟨s.boot.slotA.info, s.boot.infoB, ?_⟩
    simp only [State.fwLoad, Boot.tries, hb, h, decide_true, if_true, Bool.false_eq_true, if_false]

/-- Entry to READY, but for registers, messages and vectors. -/
theorem enterReady_enters (s : State) : ∃ b, CountsOnly { s with
    boot := { s.boot with stage := .ready }, keep := { s.keep with keysReady := b } } s.enterReady :=
  ⟨_, countsOnly_latchSpecial _ 2⟩

/-- What a scrub's end leaves of the WARM reset. -/
structure Scrubbed (s t : State) : Prop where
  stage : t.boot.stage = .ready
  cause : t.boot.lastReset = 7
  ten : t.ten = {}
  mem : t.mem = []
  ecc : t.ecc = []
  cores : t.cores = []
  spill : t.spill = {}
  rounds : t.rounds = {}
  slots : t.keep.slots = []
  busy : t.bosun.busy = false
  fabric : t.fabric = s.fabric.kept
  now : t.stroke.now = s.stroke.now

theorem Scrubbed.edge {s t v : State} (h : Scrubbed s t) (k : EdgeOnly t v) : Scrubbed s v := by
  obtain ⟨_, _, _, _, _, rfl⟩ := k
  exact ⟨h.stage, h.cause, h.ten, h.mem, h.ecc, h.cores, h.spill, h.rounds, h.slots, h.busy, h.fabric, h.now⟩

theorem warmLoaded {s : State} (h : (if s.boot.recordB then s.boot.slotB else s.boot.slotA).holds = .valid) :
    ((s.saveTotals.warmReset 7 false).fwLoad).boot.stage = .tamrik ∧
    Scrubbed s { (s.saveTotals.warmReset 7 false).fwLoad with
      boot := { ((s.saveTotals.warmReset 7 false).fwLoad).boot with stage := .ready } } := by
  obtain ⟨r, o, x, hw⟩ := warmReset_restarts s.saveTotals 7 false
  obtain ⟨a, b, hboot⟩ := fwLoad_boots (s := s.saveTotals.warmReset 7 false) (by rw [hw]; exact h)
  rw [hboot, hw]
  exact ⟨rfl, ⟨rfl, rfl, rfl, rfl, rfl, rfl, rfl, rfl, rfl, rfl, rfl, rfl⟩⟩

theorem Scrubbed.entered {s t : State} (h : Scrubbed s { t with boot := { t.boot with stage := .ready } }) : Scrubbed s t.enterReady := by
  obtain ⟨b, hready⟩ := enterReady_enters t
  obtain ⟨h1, h2, h3, h4, h5, h6, h7, h8, h9, h10, h11, h12⟩ := h
  have hentered : Scrubbed s { t with boot := { t.boot with stage := .ready }, keep := { t.keep with keysReady := b } } :=
    ⟨h1, h2, h3, h4, h5, h6, h7, h8, h9, h10, h11, h12⟩
  exact hentered.edge (.of_counts hready)

theorem scrubDone_scrubs {s : State} (hscrub : s.ten.scrubbing = true) (hhold : s.lcHold = false) (hfatal : s.boot.fatal = 0)
    (hon : s.power.on = true) (hvalid : (if s.boot.recordB then s.boot.slotB else s.boot.slotA).holds = .valid) :
    ∃ t, execScrubDone s = .next t ∧ Scrubbed s t := by
  obtain ⟨hstage, hleft⟩ := warmLoaded hvalid
  have hready : Scrubbed s (((s.saveTotals.warmReset 7 false).fwLoad.setReg .global 0 0x14 1).enterReady.setReg .global 0 0x44 1000) := by
    have h : Scrubbed s { ((s.saveTotals.warmReset 7 false).fwLoad.setReg .global 0 0x14 1) with
      boot := { ((s.saveTotals.warmReset 7 false).fwLoad).boot with stage := .ready } } :=
      hleft.edge (.of_counts (countsOnly_setReg _ .global 0 0x14 1))
    exact (h.entered).edge (.of_counts (countsOnly_setReg _ _ _ _ _))
  refine ⟨_, by simp only [execScrubDone, hscrub, hhold, hfatal, hon, hstage, Bool.not_true, Bool.false_eq_true, ne_eq, not_true, or_self,
    if_false, reduceCtorEq]; rfl, ?_⟩
  have hend {t : State} (h : Scrubbed s t) : Scrubbed s (t.latchSpecial 4).releaseVectors :=
    h.edge (.of_counts ((countsOnly_latchSpecial _ _).trans (countsOnly_releaseVectors _)))
  have htell {t : State} (h : Scrubbed s t) : Scrubbed s (if s.tt.unlockPending then (t.keepTelltale s).openSession else t) := by
    split
    · exact h.edge ((edge_keepTelltale t s).trans (edge_openSession _))
    · exact h
  refine hend (htell ?_)
  split
  · exact hready.edge (.of_counts (countsOnly_latchEvt _ _ _ _))
  · exact hready

/-! ### Tamper -/

theorem putBit_testBit (m i : Nat) (b : Bool) : (putBit m i b).testBit i = b := by
  rw [putBit]
  split
  · assumption
  · next hne =>
    cases b with
    | true => rw [if_pos rfl, Nat.add_comm, Nat.testBit_two_pow_add_eq, Bool.eq_false_of_not_eq_true hne, Bool.not_false]
    | false =>
      have hset : m.testBit i = true := Bool.eq_true_of_not_eq_false hne
      have hsum : 2 ^ i + (m - 2 ^ i) = m := Nat.add_sub_cancel' (Nat.ge_two_pow_of_testBit hset)
      have hflip := Nat.testBit_two_pow_add_eq (m - 2 ^ i) i
      rw [hsum, hset] at hflip
      rw [if_neg (by decide)]
      exact (Bool.not_eq_eq_eq_not.mp hflip.symm)

/-- Step 1 of R559 leaves the fuses and what the alarms showed. -/
theorem tamperZero_keep (s : State) : s.tamperZero.keep.fuses = s.keep.fuses ∧ s.tamperZero.keep.latched = s.keep.latched ∧
    s.tamperZero.keep.nowAlarm = s.keep.nowAlarm := by
  have hzeroed := zeroiseSlots_keep s fun _ _ => true
  have hkeep (u : State) (h : u.keep = { s.keep with
      slots := s.keep.slots.filter fun _ => !true, drbgOk := false, keysReady := false, wellothKey := none }) :
      u.keep.fuses = s.keep.fuses ∧ u.keep.latched = s.keep.latched ∧ u.keep.nowAlarm = s.keep.nowAlarm := by
    rw [h]
    exact ⟨rfl, rfl, rfl⟩
  rw [State.tamperZero]
  dsimp only
  split
  · obtain ⟨m, hm⟩ := finishKeep_keep (({ (s.zeroiseSlots fun _ _ => true) with keep := { (s.zeroiseSlots fun _ _ => true).keep with
      drbgOk := false, keysReady := false, wellothKey := none } } : State).zeroiseKeystone) 0x10
    rw [hm]
    exact hkeep (({ (s.zeroiseSlots fun _ _ => true) with keep := { (s.zeroiseSlots fun _ _ => true).keep with
      drbgOk := false, keysReady := false, wellothKey := none } } : State).zeroiseKeystone) (by
        change ({ (s.zeroiseSlots fun _ _ => true).keep with drbgOk := false, keysReady := false, wellothKey := none } : Keep) = _
        rw [hzeroed])
  · refine hkeep _ ?_
    change ({ (s.zeroiseSlots fun _ _ => true).keep with drbgOk := false, keysReady := false, wellothKey := none } : Keep) = _
    rw [hzeroed]

theorem tamperLock_locks (s : State) : s.tamperLock.keep = { s.keep with
      slots := [], msg := [], lc := .tamperLock, fuses := { s.keep.fuses with sealedKill := true } } ∧
    s.tamperLock.mem = [] ∧ s.tamperLock.ecc = [] ∧ s.tamperLock.cores = [] ∧ s.tamperLock.spill = {} ∧ s.tamperLock.rounds = {} ∧
    s.tamperLock.stroke.running = false := by
  have hlock : EdgeOnly { s.wiped with
      boot := { s.boot with stage := .lcHold, fwVersion := 0 }
      stroke := { s.wiped.stroke with running := false }
      keep := { s.wiped.keep with lc := .tamperLock, fuses := { s.wiped.keep.fuses with sealedKill := true } }
      keepCmd := s.keepCmd } s.tamperLock :=
    (EdgeOnly.of_counts ((countsOnly_setReg _ _ _ _ _).trans (countsOnly_setReg _ _ _ _ _))).trans (edge_linksFall _ _)
  obtain ⟨_, _, _, _, _, h⟩ := hlock
  rw [h]
  exact ⟨rfl, rfl, rfl, rfl, rfl, rfl, rfl⟩

/-- The state once the alarm is latched and counted. -/
def alarmed (s : State) (sensor : Nat) (held : Bool) : State :=
  ((s.setKeep { s.keep with
    latched := putBit s.keep.latched sensor true, nowAlarm := putBit s.keep.nowAlarm sensor held }).bump .keep 0 0x78).latchEvt .keep 0 4

theorem alarmed_keep (s : State) (sensor : Nat) (held : Bool) : (alarmed s sensor held).keep = { s.keep with
    latched := putBit s.keep.latched sensor true, nowAlarm := putBit s.keep.nowAlarm sensor held } :=
  counts_keep ((countsOnly_bump (s.setKeep _) .keep 0 0x78).trans (countsOnly_latchEvt _ .keep 0 4))

theorem tamperAlarm_sealed {s : State} {sensor : Nat} (held : Bool) (hsensor : sensor < 7) (hsealed : s.keep.lc = .sealed)
    (hstage : s.boot.stage ≠ .keep) : execTamperAlarm sensor held s = .next (alarmed s sensor held).tamperZero.tamperLock := by
  rw [execTamperAlarm, if_neg (Nat.not_le.mpr hsensor)]
  dsimp only
  rw [if_neg fun h => hstage h.1]
  split
  · next h => cases hsealed.symm.trans h
  · next h => cases hsealed.symm.trans h
  · next h => cases hsealed.symm.trans h
  · rfl
  · next h => exact absurd hsealed h

theorem tamperAlarm_locks {s : State} {sensor : Nat} (held : Bool) (hsensor : sensor < 7) (hsealed : s.keep.lc = .sealed)
    (hstage : s.boot.stage ≠ .keep) :
    ∃ t, execTamperAlarm sensor held s = .next t ∧ t.keep.lc = .tamperLock ∧ t.keep.fuses = { s.keep.fuses with sealedKill := true } ∧
      t.keep.slots = [] ∧ t.keep.latched.testBit sensor = true ∧ t.keep.nowAlarm.testBit sensor = held ∧ t.mem = [] ∧ t.ecc = [] ∧
      t.cores = [] ∧ t.spill = {} ∧ t.rounds = {} ∧ t.stroke.running = false := by
  obtain ⟨hkeep, hmem, hecc, hcores, hspill, hrounds, hrunning⟩ := tamperLock_locks (alarmed s sensor held).tamperZero
  obtain ⟨hfuses, hlatched, hnow⟩ := tamperZero_keep (alarmed s sensor held)
  rw [alarmed_keep] at hfuses hlatched hnow
  refine ⟨_, tamperAlarm_sealed held hsensor hsealed hstage, ?_⟩
  rw [hkeep, hfuses, hlatched, hnow]
  exact ⟨rfl, rfl, rfl, putBit_testBit _ _ _, putBit_testBit _ _ _, hmem, hecc, hcores, hspill, hrounds, hrunning⟩

/-- Settles O53. -/
theorem tenancyEvents : Obligations.TenancyEvents := by
  unfold Obligations.TenancyEvents
  refine ⟨fun s l hclaiming hok => ?_, fun s hscrub hhold hfatal hon hvalid => ?_, fun s hprogramming hvalid =>
    fwProgramDone_stages hprogramming hvalid, fun s slot dest use k hdest huse h => kpKeyRequest_serves hdest huse h,
    fun s v u slot src len dst label cookie k a nonce data hstart hsrc hdst hlen hmin hmax hfrom hto hkey htyp harea hdraw hread =>
      boExport_exports hstart hsrc hdst hlen hmin hmax hfrom hto hkey htyp harea hdraw hread,
    fun s v slot src dst cookie k h x p hstart hsrc hdst hfrom hread hok hwhole hto hkey htyp hbody hlen hopen =>
      boImport_imports hstart hsrc hdst hfrom hread hok hwhole hto hkey htyp hbody hlen hopen,
    fun s d l h => weightsIoCompletion_ends h, fun s sensor held hsensor hsealed hstage => tamperAlarm_locks held hsensor hsealed hstage⟩
  · obtain ⟨t, ht, hcounts⟩ := claimComplete_claims hclaiming hok
    obtain ⟨_, _, _, rfl⟩ := hcounts
    exact ⟨_, ht, rfl, rfl, rfl, rfl⟩
  · obtain ⟨t, ht, h⟩ := scrubDone_scrubs hscrub hhold hfatal hon hvalid
    exact ⟨t, ht, h.stage, h.cause, h.ten, h.mem, h.ecc, h.cores, h.spill, h.rounds, h.slots, h.busy, h.fabric, h.now⟩

end Sys2Proof.Proofs.Tenancy
end

section
/-!
PROOFS. Resets and the stages of start-up (00 R17, 16 R620, R621, R628 to R632, 18 R653, R660 to R663, 20 R720): O54.
-/

namespace Sys2Proof.Proofs.Resets

open Sys2Proof Sys2Proof.Machine Sys2Proof.Proofs.FieldRules Sys2Proof.Proofs.CoreStores Sys2Proof.Proofs.Registers
  Sys2Proof.Proofs.QueueEvents Sys2Proof.Proofs.Ports Sys2Proof.Proofs.Erasures Sys2Proof.Proofs.Tenancy

/-! ### WARM and POR -/

/-- What a POR leaves, but for registers and what they send. -/
theorem por_restarts (s : State) (cause : Nat) (unpowered : Bool) : CountsOnly {
    free := s.free, out := s.out, pending := s.pending
    fabric := s.boot.flashMap.fabric
    net := {
      ports := (s.net.ports.map fun e => (e.1, ({ flashCfg := e.2.flashCfg } : Port))).filter fun e => decide (e.2 ≠ {})
      mac := s.net.mac, flashUdp := s.net.flashUdp }
    pcie := { perst := s.pcie.perst }
    boot := { s.boot.restart .keep cause false with fatal := 0 }
    keep := {
      fuses := s.keep.fuses, rootA := s.keep.rootA, rootB := s.keep.rootB, activeB := s.keep.activeB, commit := s.keep.commit
      lc := s.keep.lc, record := s.keep.record
      latched := if unpowered then 0 else s.keep.latched, nowAlarm := s.keep.nowAlarm
      certCa := s.keep.certCa, certFactory := s.keep.certFactory, certReturn := s.keep.certReturn, certOwner := s.keep.certOwner }
    reef := { brakePin := s.reef.brakePin, cap := s.reef.brakePin, capPin := s.reef.brakePin }
    power := { s.power with on := true, overs := 0, tripNear := [], tripped := false }
    tt := { trst := s.tt.trst } } (s.por cause unpowered) := by
  rw [State.por]
  dsimp only
  split
  · exact (countsOnly_restoreSettings _).trans
      (counts_foldl (fun _ _ => (countsOnly_setReg _ _ _ _ _).trans (countsOnly_setReg _ _ _ _ _)) _ _)
  · exact ((countsOnly_restoreSettings _).trans
      (counts_foldl (fun _ _ => (countsOnly_setReg _ _ _ _ _).trans (countsOnly_setReg _ _ _ _ _)) _ _)).trans
      (countsOnly_setReg _ _ _ _ _)

theorem por_leaves (s : State) (cause : Nat) (unpowered : Bool) : PorLeft s (s.por cause unpowered) cause ∧
    (s.por cause unpowered).power = { s.power with on := true, overs := 0, tripNear := [], tripped := false } := by
  obtain ⟨r, o, x, h⟩ := por_restarts s cause unpowered
  rw [h]
  exact ⟨⟨rfl, rfl, rfl, rfl, rfl, rfl, rfl, rfl, rfl, rfl, rfl, rfl, rfl⟩, rfl⟩

/-- The Keep, the fabric and the stroke counter decide what a WARM reset leaves. -/
theorem warmLeft_congr {s v t : State} {cause : Nat} (hkeep : v.keep = s.keep) (hfabric : v.fabric = s.fabric)
    (hstroke : v.stroke = s.stroke) (h : WarmLeft v t cause) : WarmLeft s t cause := by
  rw [WarmLeft, hkeep, hfabric, hstroke] at h
  exact h

theorem porLeft_congr {s v t : State} {cause : Nat} (hkeep : v.keep = s.keep) (hboot : v.boot = s.boot)
    (h : PorLeft v t cause) : PorLeft s t cause := by
  rw [PorLeft, hkeep, hboot] at h
  exact h

theorem warmReset_exec {s : State} (h : Takes s .global) (hinit : s.initializing = false) (hscrub : s.ten.scrubbing = false)
    (hlock : s.keep.lc ≠ .tamperLock) (hfatal : s.boot.fatal = 0) (hstage : s.boot.stage ≠ .failed) :
    ∃ t, execWarmReset s = .next t ∧ WarmLeft s t 3 := by
  have hwoken := events_woken s .global
  have hboot : (s.woken .global).boot = s.boot := by rw [hwoken.frame]
  have hinit' : (s.woken .global).initializing = false := by rw [State.initializing, hboot, ← hinit, State.initializing]
  refine ⟨_, rfl, ?_⟩
  rw [State.onPage_takes _ _ _ _ _ _ h]
  refine warmLeft_congr hwoken.keep hwoken.fabric hwoken.stroke ?_
  have hwrite : (s.woken .global).writeReset 0x5741524D = (s.woken .global).warmReset 3 false := by
    simp [State.writeReset, hinit', hwoken.ten, hscrub, hwoken.keep, hlock, hboot, hfatal, hstage]
  rw [hwrite]
  exact warmReset_leaves _ 3

theorem porReset_exec {s : State} (h : Takes s .global) (hinit : s.initializing = false) (hscrub : s.ten.scrubbing = false)
    (hlock : s.keep.lc ≠ .tamperLock) : ∃ t, execPorReset s = .next t ∧ PorLeft s t 2 := by
  have hwoken := events_woken s .global
  have hboot : (s.woken .global).boot = s.boot := by rw [hwoken.frame]
  have hinit' : (s.woken .global).initializing = false := by rw [State.initializing, hboot, ← hinit, State.initializing]
  refine ⟨_, rfl, ?_⟩
  rw [State.onPage_takes _ _ _ _ _ _ h]
  refine porLeft_congr hwoken.keep hboot ?_
  have hwrite : (s.woken .global).writeReset 0x504F5200 = (s.woken .global).por 2 false := by
    simp [State.writeReset, hinit', hwoken.ten, hscrub, hwoken.keep, hlock]
  rw [hwrite]
  exact (por_leaves _ 2 false).1

theorem bosunWatchdog_exec {s : State} (hstage : s.boot.stage = .tamrik ∨ s.boot.stage = .ready) (hfatal : s.boot.fatal = 0)
    (hhold : s.lcHold = false) (hscrub : s.ten.scrubbing = false) (hon : s.power.on = true) :
    ∃ t, execBosunWatchdog s = .next t ∧ WarmLeft s t 4 :=
  ⟨_, by rw [execBosunWatchdog, if_pos ⟨hstage, hfatal, by simp [hhold], by simp [hscrub], hon⟩], warmReset_leaves s 4⟩

/-! ### The input power -/

theorem inputInRange_powers {s : State} {absent : Bool} (wp : Bool) (h : s.power.tripped = false ∨ absent = true) :
    ∃ t, execInputInRange absent wp s = .next t ∧ PorLeft s t 1 ∧ t.power.on = true ∧ t.power.inputOk = true ∧
      t.power.tripped = false ∧ t.power.flashWp = wp := by
  have hpor : (s.power.tripped && !absent) = false := by
    obtain h | h := h <;> simp [h]
  obtain ⟨hleft, hpower⟩ := por_leaves { s with power := { s.power with inputOk := true, flashWp := wp } } 1 true
  refine ⟨_, by rw [execInputInRange]; dsimp only; rw [hpor]; rfl, hleft, ?_⟩
  rw [hpower]
  exact ⟨rfl, rfl, rfl, rfl⟩

/-- What the loss of the rails leaves of a state. -/
theorem railsOff_downs (s : State) : RailsDown s s.railsOff ∧ s.railsOff.power.tripped = s.power.tripped := by
  obtain ⟨r, o, x, h⟩ := por_restarts s s.boot.lastReset false
  rw [State.railsOff, h]
  exact ⟨⟨rfl, rfl, rfl, rfl, rfl, rfl, rfl⟩, rfl⟩

theorem inputOutOfRange_downs {s : State} (progress : Nat) (hok : s.power.inputOk = true)
    (hcmd : ¬ (s.keepCmd.busy = true ∧ s.keepCmd.op = 6)) :
    ∃ t, execInputOutOfRange progress s = .next t ∧ RailsDown s t ∧ t.power.inputOk = false := by
  obtain ⟨⟨hon, hrunning, hmem, hcores, hspill, hslots, hfuses⟩, _⟩ := railsOff_downs s.tamperZero
  rw [(tamperZero_keep s).1] at hfuses
  have hexec : execInputOutOfRange progress s = .next { s.tamperZero.railsOff with
      power := { s.tamperZero.railsOff.power with inputOk := false } } := by
    rw [execInputOutOfRange, if_neg (by simp [hok])]
    dsimp only
    rw [if_neg hcmd]
  refine ⟨_, hexec, ?_⟩
  generalize s.tamperZero.railsOff = t at *
  refine ⟨?_, rfl⟩
  exact ⟨hon, hrunning, hmem, hcores, hspill, hslots, hfuses⟩

/-! ### Memory test -/

/-- `t` is `s` but for fence masks, withdrawn stores and the events of the Ashlars: nothing fenced or withdrawn comes back. -/
structure FencesGrow (s t : State) : Prop where
  boot : t.boot = s.boot
  mem : t.mem = s.mem
  retired : t.fabric.retired = s.fabric.retired
  fence : ∀ a i, (s.ashlar a).fence.getLsbD i = true → (t.ashlar a).fence.getLsbD i = true
  store : ∀ a, (s.ashlar a).storeWithdrawn = true → (t.ashlar a).storeWithdrawn = true

theorem FencesGrow.refl (s : State) : FencesGrow s s := ⟨rfl, rfl, rfl, fun _ _ h => h, fun _ h => h⟩

theorem FencesGrow.trans {s t v : State} (h : FencesGrow s t) (k : FencesGrow t v) : FencesGrow s v where
  boot := k.boot.trans h.boot
  mem := k.mem.trans h.mem
  retired := k.retired.trans h.retired
  fence := fun a i hs => k.fence a i (h.fence a i hs)
  store := fun a hs => k.store a (h.store a hs)

theorem FencesGrow.of_counts {s t : State} (h : CountsOnly s t) : FencesGrow s t := by
  obtain ⟨_, _, _, rfl⟩ := h
  exact ⟨rfl, rfl, rfl, fun _ _ h => h, fun _ h => h⟩

/-- A fold of steps that each grow the fences and set a mark for their item sets every mark, where the mark stays. -/
theorem fencesGrow_foldl {α : Type} {f : State → α → State} {mark : State → α → Prop} (hf : ∀ s a, FencesGrow s (f s a))
    (hmark : ∀ s a, mark (f s a) a) (hstay : ∀ s t a, FencesGrow s t → mark s a → mark t a) (l : List α) (s : State) :
    FencesGrow s (l.foldl f s) ∧ ∀ a ∈ l, mark (l.foldl f s) a := by
  induction l generalizing s with
  | nil => exact ⟨.refl s, fun _ h => absurd h List.not_mem_nil⟩
  | cons a l ih =>
    obtain ⟨hgrow, hset⟩ := ih (f s a)
    refine ⟨(hf s a).trans hgrow, fun b hb => ?_⟩
    obtain rfl | hb := List.mem_cons.mp hb
    · exact hstay _ _ _ hgrow (hmark s b)
    · exact hset b hb

theorem ashlar_counts {s t : State} (h : CountsOnly s t) (a : Nat) : t.ashlar a = s.ashlar a := by
  obtain ⟨_, _, _, rfl⟩ := h
  rfl

theorem fencesGrow_setAshlar {s : State} {a : Nat} {x : Ashlar} (hfence : ∀ i, (s.ashlar a).fence.getLsbD i = true → x.fence.getLsbD i = true)
    (hstore : (s.ashlar a).storeWithdrawn = true → x.storeWithdrawn = true) : FencesGrow s (s.setAshlar a x) where
  boot := rfl
  mem := rfl
  retired := rfl
  fence := fun b i h => by
    rw [State.ashlar_setAshlar]
    split
    · next hb => exact hfence i (hb ▸ h)
    · exact h
  store := fun b h => by
    rw [State.ashlar_setAshlar]
    split
    · next hb => exact hstore (hb ▸ h)
    · exact h

theorem bit_or_two_pow {v : W64} {pos : Nat} (i : Nat) (hpos : pos < 64) :
    (v ||| BitVec.ofNat 64 (2 ^ pos)).getLsbD i = (v.getLsbD i || decide (i = pos)) := by
  rw [BitVec.getLsbD_or, BitVec.getLsbD_ofNat, Nat.testBit_two_pow]
  by_cases h : i = pos
  · simp [h, hpos]
  · simp [h, Ne.symm h]

theorem fenceAt_counts (s : State) (a pos : Nat) : CountsOnly (s.setAshlar a { s.ashlar a with
    fence := (s.ashlar a).fence ||| BitVec.ofNat 64 (2 ^ pos) }) (s.fenceAt a pos) := by
  rw [State.fenceAt]
  dsimp only
  split
  · exact (countsOnly_latchEvt _ _ _ _).trans (countsOnly_latchEvt _ _ _ _)
  · exact countsOnly_latchEvt _ _ _ _

theorem fenceAt_grows (s : State) (a pos : Nat) : FencesGrow s (s.fenceAt a pos) :=
  (fencesGrow_setAshlar (x := { s.ashlar a with fence := (s.ashlar a).fence ||| BitVec.ofNat 64 (2 ^ pos) })
    (fun i h => by rw [BitVec.getLsbD_or, h, Bool.true_or]) id).trans (.of_counts (fenceAt_counts s a pos))

theorem fenceAt_fences (s : State) {a pos : Nat} (hpos : pos < 64) : ((s.fenceAt a pos).ashlar a).fence.getLsbD pos = true := by
  rw [ashlar_counts (fenceAt_counts s a pos), State.ashlar_setAshlar, if_pos rfl]
  dsimp only
  rw [bit_or_two_pow _ hpos, decide_eq_true rfl, Bool.or_true]

/-- The store of an Ashlar is withdrawn. -/
def withdrawStore (t : State) (a : Nat) : State :=
  let x := t.ashlar a
  if x.storeWithdrawn then t else (t.setAshlar a { x with storeWithdrawn := true }).latchEvt .ashlar a 4

theorem withdrawStore_grows (s : State) (a : Nat) : FencesGrow s (withdrawStore s a) := by
  rw [withdrawStore]
  split
  · exact .refl s
  · exact (fencesGrow_setAshlar (x := { s.ashlar a with storeWithdrawn := true }) (fun _ => id) fun _ => rfl).trans (.of_counts (countsOnly_latchEvt _ _ _ _))

theorem withdrawStore_withdraws (s : State) (a : Nat) : ((withdrawStore s a).ashlar a).storeWithdrawn = true := by
  rw [withdrawStore]
  split
  · assumption
  · rw [ashlar_counts (countsOnly_latchEvt _ _ _ _), State.ashlar_setAshlar, if_pos rfl]

/-- The list with the blocks that it does not yet hold. -/
def addBlocks (l blocks : List Nat) : List Nat := blocks.foldl (fun l b => if l.contains b then l else l ++ [b]) l

theorem addBlocks_holds (blocks l : List Nat) : (addBlocks l blocks).length ≤ l.length + blocks.length ∧
    (∀ b ∈ l, b ∈ addBlocks l blocks) ∧ ∀ b ∈ blocks, b ∈ addBlocks l blocks := by
  induction blocks generalizing l with
  | nil => exact ⟨Nat.le_refl _, fun _ h => h, fun _ h => absurd h List.not_mem_nil⟩
  | cons c r ih =>
    obtain ⟨m, hm, hlen, hold, hnew⟩ : ∃ m, addBlocks l (c :: r) = addBlocks m r ∧ m.length ≤ l.length + 1 ∧ (∀ b ∈ l, b ∈ m) ∧ c ∈ m := by
      by_cases h : l.contains c = true
      · exact ⟨l, by rw [addBlocks, List.foldl_cons, if_pos h, addBlocks], Nat.le_succ _, fun _ h => h, by simpa using h⟩
      · exact ⟨l ++ [c], by rw [addBlocks, List.foldl_cons, if_neg h, addBlocks], by simp, fun _ h => List.mem_append_left _ h, by simp⟩
    obtain ⟨hlen', hkeep, hput⟩ := ih m
    rw [hm]
    refine ⟨by rw [List.length_cons]; omega, fun b hb => hkeep b (hold b hb), fun b hb => ?_⟩
    obtain rfl | hb := List.mem_cons.mp hb
    · exact hkeep _ hnew
    · exact hput b hb

theorem memtestDone_fences {s : State} {cores : List (Nat × Nat)} {stores blocks : List Nat} (hstage : s.boot.stage = .memtest)
    (hwarm : s.boot.warmKeep = false) (hon : s.power.on = true) (hcores : ∀ e ∈ cores, e.1 < 4800 ∧ e.2 < 64)
    (hstores : ∀ a ∈ stores, a < 4800) (hblocks : ∀ b ∈ blocks, b / 2 ^ 20 < 384)
    (hroom : s.fabric.retired.length + blocks.length ≤ 4096) :
    ∃ t, execMemtestDone cores stores blocks s = .next t ∧ t.boot = { s.boot with stage := .fill } ∧ t.mem = s.mem ∧
      (∀ e ∈ cores, (t.ashlar e.1).fence.getLsbD e.2 = true) ∧ (∀ a ∈ stores, (t.ashlar a).storeWithdrawn = true) ∧
      (∀ b ∈ blocks, b ∈ t.fabric.retired) := by
  have hvalid : ¬ ((cores.any fun (e : Nat × Nat) => decide (e.1 ≥ 4800 ∨ e.2 ≥ 64)) = true ∨
      (stores.any fun a => decide (a ≥ 4800)) = true ∨ (blocks.any fun b => decide (b / 2 ^ 20 ≥ 384)) = true) := by
    rintro (h | h | h)
    · obtain ⟨e, he, h⟩ := List.any_eq_true.mp h
      have := hcores e he
      have := of_decide_eq_true h
      omega
    · obtain ⟨a, ha, h⟩ := List.any_eq_true.mp h
      exact absurd (hstores a ha) (Nat.not_lt.mpr (of_decide_eq_true h))
    · obtain ⟨b, hb, h⟩ := List.any_eq_true.mp h
      exact absurd (hblocks b hb) (Nat.not_lt.mpr (of_decide_eq_true h))
  have hfenced : FencesGrow s (s.fenceAtStart cores) := (fencesGrow_foldl (mark := fun _ _ => True)
    (fun s (e : Nat × Nat) => fenceAt_grows s e.1 e.2) (fun _ _ => trivial) (fun _ _ _ _ _ => trivial) cores s).1
  have hset : ∀ e ∈ cores, ((s.fenceAtStart cores).ashlar e.1).fence.getLsbD e.2 = true := by
    intro e he
    refine ((fencesGrow_foldl (mark := fun t (e : Nat × Nat) => e.2 < 64 → (t.ashlar e.1).fence.getLsbD e.2 = true)
      (fun s (e : Nat × Nat) => fenceAt_grows s e.1 e.2) (fun s e h => fenceAt_fences s h)
      (fun _ _ e hgrow hm h => hgrow.fence e.1 e.2 (hm h)) cores s).2 e he) (hcores e he).2
  obtain ⟨hstored, hwithdrawn⟩ := fencesGrow_foldl (mark := fun t a => (t.ashlar a).storeWithdrawn = true) withdrawStore_grows
    withdrawStore_withdraws (fun _ _ a hgrow h => hgrow.store a h) stores (s.fenceAtStart cores)
  obtain ⟨hlen, _, hretired⟩ := addBlocks_holds blocks (stores.foldl withdrawStore (s.fenceAtStart cores)).fabric.retired
  have hgrow := hfenced.trans hstored
  rw [hgrow.retired] at hlen
  have hshort : ¬ (addBlocks (stores.foldl withdrawStore (s.fenceAtStart cores)).fabric.retired blocks).length > 4096 := by
    rw [hgrow.retired]
    omega
  have hexec : execMemtestDone cores stores blocks s = .next { stores.foldl withdrawStore (s.fenceAtStart cores) with
      fabric := { (stores.foldl withdrawStore (s.fenceAtStart cores)).fabric with
        retired := addBlocks (stores.foldl withdrawStore (s.fenceAtStart cores)).fabric.retired blocks }
      boot := { (stores.foldl withdrawStore (s.fenceAtStart cores)).boot with stage := .fill } } := by
    rw [execMemtestDone, if_neg hvalid, if_neg (by simp [hstage, hwarm, hon])]
    dsimp only
    rw [if_neg (c := s.boot.stage = .keep) (by simp [hstage])]
    exact if_neg hshort
  refine ⟨_, hexec, ?_, hgrow.mem, fun e he => hstored.fence _ _ (hset e he), hwithdrawn, hretired⟩
  dsimp only
  rw [hgrow.boot]

/-! ### Start-up -/

theorem initDone_loads {s : State} (hstage : s.boot.stage = .fill) (hon : s.power.on = true) :
    ∃ t, execInitDone s = .next t ∧ t.boot = { s.boot with stage := if s.lcHold then .lcHold else .fwLoad } ∧ FabricStands s t ∧
      (t.reg .global 0 0x14).toNat.testBit 0 = true := by
  have hkeep : ¬ (s.boot.stage = .keep ∧ s.boot.warmKeep = true) := by simp [hstage]
  refine ⟨_, by rw [execInitDone, if_neg hkeep]; dsimp only; rw [if_neg (by simp [hstage, hon])], ?_, ?_, latchEvt_bit _ _ _ (by decide)⟩
  · rw [latchEvt_boot]
  · refine .trans (b := { s with boot := _, stroke := _ }) ⟨rfl, rfl, rfl, rfl, rfl⟩ (State.latchEvt_stands _ _ _ _)

theorem fwLoadDone_boots {s : State} (hstage : s.boot.stage = .fwLoad) (hon : s.power.on = true)
    (hvalid : (if s.boot.recordB then s.boot.slotB else s.boot.slotA).holds = .valid) :
    ∃ t, execFwLoadDone false false s = .next t ∧ t.boot.stage = .tamrik ∧ t.boot.bootedB = s.boot.recordB ∧ t.boot.fallback = false ∧
      t.boot.fwVersion = (if s.boot.recordB then s.boot.slotB else s.boot.slotA).version ∧ t.stroke.running = true ∧
      FabricStands s t := by
  obtain ⟨a, b, hload⟩ := fwLoad_boots hvalid
  refine ⟨s.fwLoad, ?_, ?_⟩
  · rw [execFwLoadDone, if_neg (by simp [hstage, hon])]
    rfl
  · rw [hload]
    exact ⟨rfl, rfl, rfl, rfl, rfl, ⟨rfl, rfl, rfl, rfl, rfl⟩⟩

theorem ready_enters {s : State} (hstage : s.boot.stage = .tamrik) (hon : s.power.on = true) :
    ∃ t, execReady s = .next t ∧ t.boot = { s.boot with stage := .ready } ∧ FabricStands s t ∧
      (t.reg .global 0 0x14).toNat.testBit 1 = true := by
  obtain ⟨o, x, hreleased⟩ := releaseVectors_sends s.enterReady
  obtain ⟨b, r, o', x', hentered⟩ := enterReady_enters s
  have hbit : (s.enterReady.reg .global 0 0x14).toNat.testBit 1 = true := latchSpecial_bit _ (by decide)
  refine ⟨_, by rw [execReady, if_neg (by simp [hstage, hon])], ?_⟩
  rw [hreleased]
  refine ⟨?_, ?_, hbit⟩
  · rw [hentered]
  · rw [hentered]
    exact ⟨rfl, rfl, rfl, rfl, rfl⟩

theorem slotCheck_checks {s : State} (hstage : s.boot.stage = .ready) : execSlotCheck s = .next { s with boot := { s.boot with
    infoA := if s.boot.infoA = .unchecked then s.boot.slotA.info else s.boot.infoA
    infoB := if s.boot.infoB = .unchecked then s.boot.slotB.info else s.boot.infoB } } := by
  rw [execSlotCheck]
  dsimp only
  rw [if_neg (by simp [hstage])]

/-! ### Fatal faults and the records of Tamrik -/

theorem fatalStop_stops (s : State) (code : Nat) : (s.fatalStop code).boot.fatal = code ∧ (s.fatalStop code).boot.stage = .failed ∧
    (s.fatalStop code).stroke.running = false ∧ (s.fatalStop code).mem = s.mem ∧ (∀ e ∈ (s.fatalStop code).keep.slots, 56 ≤ e.1) ∧
    ((s.fatalStop code).reg .global 0 0x14).toNat.testBit 3 = true := by
  have hzeroed := zeroiseSlots_keep s fun i _ => decide (i < 56)
  have hmem : (s.zeroiseSlots fun i _ => decide (i < 56)).mem = s.mem := by
    rw [State.zeroiseSlots]
    split
    · exact latchEvt_mem _ _ _ _
    · rfl
  have hbit : ((s.fatalStop code).reg .global 0 0x14).toNat.testBit 3 = true := latchEvt_bit _ _ _ (by decide)
  have hedge : EdgeOnly { (s.zeroiseSlots fun i _ => decide (i < 56)).zeroiseKeystone with
      stroke := { (s.zeroiseSlots fun i _ => decide (i < 56)).zeroiseKeystone.stroke with running := false }
      boot := { (s.zeroiseSlots fun i _ => decide (i < 56)).zeroiseKeystone.boot with fatal := code, stage := .failed }
      pcie := { (s.zeroiseSlots fun i _ => decide (i < 56)).zeroiseKeystone.pcie with
        aerStatus := (s.zeroiseSlots fun i _ => decide (i < 56)).zeroiseKeystone.pcie.aerStatus ||| 0x400000 } } (s.fatalStop code) :=
    ((edge_dropSession _).trans (edge_linksFall _ _)).counts (countsOnly_latchEvt _ _ _ _)
  refine ⟨by rw [hedge.boot], by rw [hedge.boot], by rw [hedge.stroke], ?_, ?_, hbit⟩
  · obtain ⟨_, _, _, _, _, h⟩ := hedge
    rw [h]
    exact hmem
  · rw [hedge.keep]
    change ∀ e ∈ (s.zeroiseSlots fun i _ => decide (i < 56)).keep.slots, 56 ≤ e.1
    rw [hzeroed]
    intro e he
    simpa using (List.mem_filter.mp he).2

theorem fatal_stops {s : State} {code : Nat} (hcode : code = 1 ∨ code = 3) (hfatal : s.boot.fatal = 0) (hon : s.power.on = true)
    (hhold : s.lcHold = false) : execFatal code s = .next (s.fatalStop code) := by
  rw [execFatal, if_neg (by omega), if_neg (by simp [hfatal, hon, hhold])]

theorem get_mem {α : Type} {m : NMap α} {d : α} {k : Nat} (h : m.get d k ≠ d) : (k, m.get d k) ∈ m := by
  induction m with
  | nil => exact absurd rfl h
  | cons e m ih =>
    obtain ⟨j, v⟩ := e
    rw [NMap.get_cons] at h ⊢
    split at h
    · next hj =>
      rw [if_pos hj, ← hj]
      exact List.mem_cons_self
    · next hj =>
      rw [if_neg hj]
      exact List.mem_cons_of_mem _ (ih h)

theorem saveFences_holds {s : State} {a : Nat} (h : (s.ashlar a).fence ≠ 0) :
    (a, ((s.ashlar a).fence, (s.ashlar a).strike, (s.ashlar a).storeWithdrawn)) ∈ s.saveFences.boot.flashMap.ashlars := by
  have hlisted : (a, s.ashlar a) ∈ s.fabric.ashlars := get_mem fun hd => h (by rw [State.ashlar, hd])
  exact List.mem_map.mpr ⟨(a, s.ashlar a), List.mem_filter.mpr ⟨hlisted,
    by rw [Bool.or_eq_true]; exact Or.inl (decide_eq_true (Or.inl h))⟩, rfl⟩

/-- Settles O54. -/
theorem resetAndStartUp : Obligations.ResetAndStartUp := by
  unfold Obligations.ResetAndStartUp
  refine ⟨fun s h hinit hscrub hlock => ⟨warmReset_exec h hinit hscrub hlock, porReset_exec h hinit hscrub hlock⟩, fun s hstage =>
    ⟨bosunWatchdog_exec hstage, ?_⟩, fun s absent wp h => inputInRange_powers wp h, fun s progress hok hcmd =>
    inputOutOfRange_downs progress hok hcmd, fun s cores stores blocks hstage hwarm hon hcores hstores hblocks hroom =>
    memtestDone_fences hstage hwarm hon hcores hstores hblocks hroom, fun s hstage hon => initDone_loads hstage hon,
    fun s hstage hon hvalid => fwLoadDone_boots hstage hon hvalid, fun s hstage hon => ready_enters hstage hon,
    fun s hstage => slotCheck_checks hstage, fun s code hcode hfatal hon hhold =>
    ⟨_, fatal_stops hcode hfatal hon hhold, fatalStop_stops s code⟩, fun s => ⟨_, rfl, rfl, rfl, fun a h =>
    ⟨_, saveFences_holds h, rfl⟩⟩, fun s h => ?_⟩
  · change execHeartbeatAdvance s = _
    rw [execHeartbeatAdvance, if_pos hstage]
  · change execLifetimeTotalsWrite s = _
    rw [execLifetimeTotalsWrite, if_pos h, State.saveTotals]

end Sys2Proof.Proofs.Resets
end

section
/-!
PROOFS. Power cap, thermal trip, reef states, synchronisation mode, SMBus and patrol scrub (02 R105, 13 R526, R527, 17 R636, R638, R645 to
R648, 20 R705, R714 to R718): O55.
-/

namespace Sys2Proof.Proofs.PowerAndReef

open Sys2Proof Sys2Proof.Machine Sys2Proof.Proofs.FieldRules Sys2Proof.Proofs.CoreStores Sys2Proof.Proofs.Registers
  Sys2Proof.Proofs.QueueEvents Sys2Proof.Proofs.Ports Sys2Proof.Proofs.Erasures Sys2Proof.Proofs.Tenancy Sys2Proof.Proofs.Resets

/-! ### The power cap -/

/-- Calling the cap changes the cap, its count and its event. -/
theorem capOn_caps (s : State) : CountsOnly { s with reef := { s.reef with cap := true } } s.capOn := by
  rw [State.capOn]
  split
  · next h =>
    have hreef : ({ s.reef with cap := true } : Reef) = s.reef := by rw [← h]
    rw [hreef]
    exact countsOnly_refl s
  · exact (countsOnly_bump _ _ _ _).trans (countsOnly_latchEvt _ _ _ _)

theorem capOn_reg (s : State) {p : Page} {i off : Nat} (h : regAddr p i off ≠ regAddr .reef 0 0x68)
    (h' : regAddr p i off ≠ regAddr .reef 0 0x14) : s.capOn.reg p i off = s.reg p i off := by
  rw [State.capOn]
  split
  · rfl
  · exact (latchEvt_reg_ne _ _ _ _ _ _ _ h').trans (reg_bump_ne _ _ _ _ _ _ _ h)

/-- The cap ends where nothing calls it. -/
theorem capOff_frees (s : State) : CountsOnly { s with reef := { s.reef with
    cap := s.reef.cap && (s.reef.capPin || s.reef.capPower || s.reef.capThermal) } } s.capOff := by
  rw [State.capOff]
  split
  · next h =>
    have hcap : (s.reef.cap && (s.reef.capPin || s.reef.capPower || s.reef.capThermal)) = s.reef.cap := by
      revert h
      cases s.reef.cap <;> simp
    rw [hcap]
    exact countsOnly_refl s
  · next h =>
    have hcap : (s.reef.cap && (s.reef.capPin || s.reef.capPower || s.reef.capThermal)) = false := by
      revert h
      cases s.reef.cap <;> simp
    rw [hcap]
    exact countsOnly_latchEvt _ _ _ _

theorem capOff_reg (s : State) {p : Page} {i off : Nat} (h : regAddr p i off ≠ regAddr .reef 0 0x14) :
    s.capOff.reg p i off = s.reg p i off := by
  rw [State.capOff]
  split
  · rfl
  · exact latchEvt_reg_ne _ _ _ _ _ _ _ h

theorem pwrBrakeAssert_caps (s : State) : ∃ t, execPwrBrakeAssert s = .next t ∧ FabricStands s t ∧ t.reef.brakePin = true ∧
    t.reef.capPin = true ∧ t.reef.cap = true := by
  obtain ⟨_, _, _, h⟩ := capOn_caps { s with reef := { s.reef with brakePin := true, capPin := true } }
  refine ⟨_, rfl, ?_⟩
  rw [h]
  exact ⟨⟨rfl, rfl, rfl, rfl, rfl⟩, rfl, rfl, rfl⟩

theorem pwrBrakeRelease_frees {s : State} (hforce : (s.reg .reef 0 0x44).toNat.testBit 3 = false) :
    ∃ t, execPwrBrakeRelease s = .next t ∧ FabricStands s t ∧ t.reef.brakePin = false ∧ t.reef.capPin = false ∧
      t.reef.cap = (s.reef.cap && (s.reef.capPower || s.reef.capThermal)) := by
  obtain ⟨_, _, _, h⟩ := capOff_frees { s with reef := { s.reef with brakePin := false, capPin := false } }
  refine ⟨({ s with reef := { s.reef with brakePin := false, capPin := false } } : State).capOff, ?_, ?_⟩
  · rw [execPwrBrakeRelease]
    exact congrArg Host.Outcome.next (if_neg (by rw [← Bool.not_eq_true] at hforce; exact hforce))
  · rw [h]
    exact ⟨⟨rfl, rfl, rfl, rfl, rfl⟩, rfl, rfl, rfl⟩

/-- `t` is `s` but for the cap with its causes, registers, messages and vectors. -/
def ReefOnly (s t : State) : Prop := ∃ f r o x, t = { s with reef := f, regs := r, out := o, pcie := { s.pcie with pba := x } }

theorem ReefOnly.of_counts {s t : State} (h : CountsOnly s t) : ReefOnly s t := by
  obtain ⟨r, o, x, rfl⟩ := h
  exact ⟨_, r, o, x, rfl⟩

theorem ReefOnly.refl (s : State) : ReefOnly s s := .of_counts (countsOnly_refl s)

theorem ReefOnly.trans {s t v : State} (h : ReefOnly s t) (k : ReefOnly t v) : ReefOnly s v := by
  obtain ⟨_, _, _, _, rfl⟩ := h
  obtain ⟨_, _, _, _, rfl⟩ := k
  exact ⟨_, _, _, _, rfl⟩

section
variable {s t : State} (h : ReefOnly s t)
include h

theorem ReefOnly.stands : FabricStands s t := by
  obtain ⟨_, _, _, _, rfl⟩ := h
  exact ⟨rfl, rfl, rfl, rfl, rfl⟩

theorem ReefOnly.power : t.power = s.power := by
  obtain ⟨_, _, _, _, rfl⟩ := h
  rfl

theorem ReefOnly.stroke : t.stroke = s.stroke := by
  obtain ⟨_, _, _, _, rfl⟩ := h
  rfl

theorem ReefOnly.keep : t.keep = s.keep := by
  obtain ⟨_, _, _, _, rfl⟩ := h
  rfl

theorem ReefOnly.tt : t.tt = s.tt := by
  obtain ⟨_, _, _, _, rfl⟩ := h
  rfl

end

theorem reefOnly_capOn (s : State) (f : Reef) : ReefOnly s (({ s with reef := f } : State).capOn) :=
  .trans ⟨_, _, _, _, rfl⟩ (.of_counts (capOn_caps _))

theorem reefOnly_capOff (s : State) (f : Reef) : ReefOnly s (({ s with reef := f } : State).capOff) :=
  .trans ⟨_, _, _, _, rfl⟩ (.of_counts (capOff_frees _))

/-- The draw of R705: the register of the page, and the readings of the meter. -/
theorem powerLimit_caps {s : State} {watts average : Nat} (volts amps : Nat) (rested : Bool) (hon : s.power.on = true)
    (haverage : average < 2 ^ 16) :
    ∃ t, execPowerLimit watts average volts amps rested s = .next t ∧ FabricStands s t ∧
      t.reg .reef 0 0x6C = BitVec.ofNat 32 (average + 2 ^ 16 * max average ((s.reg .reef 0 0x6C).toNat / 2 ^ 16)) ∧
      t.power.overs = (if average > 2600 then s.power.overs + 1 else 0) ∧
      (watts ≥ 3100 ∨ t.power.overs ≥ 10 → t.reef.capPower = true ∧ t.reef.cap = true) := by
  have hmin : min average 0xFFFF = average := by omega
  have hreg (u : State) (f : Reef) : ({ u with reef := f } : State).capOn.reg .reef 0 0x6C = u.reg .reef 0 0x6C :=
    capOn_reg _ (by decide) (by decide)
  have hreg' (u : State) (f : Reef) : ({ u with reef := f } : State).capOff.reg .reef 0 0x6C = u.reg .reef 0 0x6C :=
    capOff_reg _ (by decide)
  generalize hread : ({ s.setReg .reef 0 0x6C (BitVec.ofNat 32 (average + 2 ^ 16 * max average ((s.reg .reef 0 0x6C).toNat / 2 ^ 16))) with
    power := { s.power with inputV := volts % 2 ^ 16, inputI := amps % 2 ^ 16
                            overs := if average > 2600 then s.power.overs + 1 else 0 } } : State) = u
  have hstands : FabricStands s u := hread ▸ ⟨rfl, rfl, rfl, rfl, rfl⟩
  have hdraw : u.reg .reef 0 0x6C = BitVec.ofNat 32 (average + 2 ^ 16 * max average ((s.reg .reef 0 0x6C).toNat / 2 ^ 16)) :=
    hread ▸ s.reg_setReg_self _ _ _ _
  have hovers : u.power.overs = (if average > 2600 then s.power.overs + 1 else 0) := by rw [← hread]
  have hexec : execPowerLimit watts average volts amps rested s = .next (
      if decide (watts ≥ 3100 ∨ u.power.overs ≥ 10) then ({ u with reef := { u.reef with capPower := true } } : State).capOn
      else if u.reef.capPower && rested then ({ u with reef := { u.reef with capPower := false } } : State).capOff
      else u) := by
    rw [execPowerLimit, if_neg (by simp [hon]), hovers, ← hread, hmin]
  refine ⟨_, hexec, ?_⟩
  rw [← hovers]
  split
  · have hcap := reefOnly_capOn u { u.reef with capPower := true }
    refine ⟨hstands.trans hcap.stands, by rw [hreg, hdraw], by rw [hcap.power], fun _ => ?_⟩
    obtain ⟨_, _, _, h⟩ := capOn_caps { u with reef := { u.reef with capPower := true } }
    rw [h]
    exact ⟨rfl, rfl⟩
  · next hno =>
    have hno' : ¬ (watts ≥ 3100 ∨ u.power.overs ≥ 10) := fun h => hno (decide_eq_true h)
    split
    · have hcap := reefOnly_capOff u { u.reef with capPower := false }
      exact ⟨hstands.trans hcap.stands, by rw [hreg', hdraw], by rw [hcap.power], fun h => absurd (by rw [hcap.power] at h; exact h) hno'⟩
    · exact ⟨hstands, hdraw, rfl, fun h => absurd h hno'⟩

/-! ### Temperatures -/

theorem thermalCap_reefs (s : State) (rested : Bool) : ReefOnly s (s.thermalCap rested) := by
  rw [State.thermalCap]
  split
  · exact reefOnly_capOn s _
  · split
    · exact reefOnly_capOff s _
    · exact .refl s

theorem thermalCap_reg (s : State) (rested : Bool) {p : Page} {i off : Nat} (h : regAddr p i off ≠ regAddr .reef 0 0x68)
    (h' : regAddr p i off ≠ regAddr .reef 0 0x14) : (s.thermalCap rested).reg p i off = s.reg p i off := by
  rw [State.thermalCap]
  split
  · exact capOn_reg _ h h'
  · split
    · exact capOff_reg _ h'
    · rfl

/-- A junction at its hot limit calls the cap. -/
theorem thermalCap_hot {s : State} (rested : Bool) (h : (s.anyHot fun l => l.2.1) = true) :
    (s.thermalCap rested).reef.capThermal = true ∧ (s.thermalCap rested).reef.cap = true := by
  rw [State.thermalCap, if_pos h]
  obtain ⟨_, _, _, h⟩ := capOn_caps { s with reef := { s.reef with capThermal := true } }
  rw [h]
  exact ⟨rfl, rfl⟩

theorem thermalReading_cool {s : State} {x : TempSensor} {value : Int} (rested : Bool) (hfits : tempFits x = true) (hon : s.power.on = true)
    (htrips : tempTrips x value = false) : execThermalReading x value rested s = .next { (s.takeTemp x value).thermalCap rested with
      power := { ((s.takeTemp x value).thermalCap rested).power with
        tripNear := ((s.takeTemp x value).thermalCap rested).power.tripNear.filter (· ≠ x) } } := by
  rw [execThermalReading, if_neg (by simp [hfits]), if_neg (by simp [hon])]
  dsimp only
  rw [if_neg (by simp [htrips])]

theorem thermalReading_plinth {s : State} {value : Int} (rested : Bool) (hon : s.power.on = true) (hvalue : value < 115) :
    ∃ t, execThermalReading .plinth value rested s = .next t ∧ FabricStands s t ∧ t.power.plinthTj = value ∧
      t.power.tripNear = s.power.tripNear.filter (· ≠ .plinth) ∧ (105 ≤ value → t.reef.capThermal = true ∧ t.reef.cap = true) := by
  have htrips : tempTrips .plinth value = false := by simp [tempTrips, tempLimits, Int.not_le.mpr hvalue]
  have hreef := thermalCap_reefs (s.takeTemp .plinth value) rested
  refine ⟨_, thermalReading_cool rested rfl hon htrips, ?_, ?_, ?_, fun hhot => ?_⟩
  · exact FabricStands.trans (b := s.takeTemp .plinth value) ⟨rfl, rfl, rfl, rfl, rfl⟩ hreef.stands
  · dsimp only
    rw [hreef.power]
    rfl
  · dsimp only
    rw [hreef.power]
    rfl
  · have hany : ((s.takeTemp .plinth value).anyHot fun l => l.2.1) = true :=
      List.any_eq_true.mpr ⟨.plinth, by decide, decide_eq_true hhot⟩
    exact thermalCap_hot rested hany

theorem ofTemp8_temp8 {v : Int} (hlow : -128 ≤ v) (hhigh : v < 128) (n : Nat) : ofTemp8 (temp8 v + 2 ^ 8 * n) = v := by
  rw [ofTemp8, temp8]
  split <;> omega

theorem temp8_lt (v : Int) : temp8 v < 256 := by
  rw [temp8]
  omega

theorem takeTemp_hbm (s : State) (k : Nat) (v : Int) : CountsOnly s (s.takeTemp (.hbm k) v) ∧
    ∃ n, n < 256 ∧ (s.takeTemp (.hbm k) v).reg .hbmc k 0x60 = BitVec.ofNat 32 (temp8 v + 2 ^ 8 * n) := by
  rw [State.takeTemp]
  split
  · exact ⟨(countsOnly_setReg _ _ _ _ _).trans (countsOnly_latchEvt _ _ _ _), _, temp8_lt _,
      (latchEvt_reg_ne _ _ _ _ _ _ _ (regAddr_ne _ _ (by decide))).trans (State.reg_setReg_self _ _ _ _ _)⟩
  · exact ⟨countsOnly_setReg _ _ _ _ _, _, temp8_lt _, State.reg_setReg_self _ _ _ _ _⟩

theorem thermalReading_hbm {s : State} {k : Nat} {value : Int} (rested : Bool) (hon : s.power.on = true) (hk : k < 12)
    (hlow : -128 ≤ value) (hhigh : value < 110) :
    ∃ t, execThermalReading (.hbm k) value rested s = .next t ∧ FabricStands s t ∧ t.hbmTemp k = value := by
  have htrips : tempTrips (.hbm k) value = false := by simp [tempTrips, tempLimits, Int.not_le.mpr hhigh]
  obtain ⟨hcounts, n, hn, hreg⟩ := takeTemp_hbm s k value
  have hreef := thermalCap_reefs (s.takeTemp (.hbm k) value) rested
  have hsmall := temp8_lt value
  refine ⟨_, thermalReading_cool rested (decide_eq_true hk) hon htrips, ?_, ?_⟩
  · exact (counts_stands hcounts).trans hreef.stands
  · have hkept : ((s.takeTemp (.hbm k) value).thermalCap rested).reg .hbmc k 0x60 = (s.takeTemp (.hbm k) value).reg .hbmc k 0x60 :=
      thermalCap_reg _ rested (by simp only [regAddr, Page.base]; omega) (by simp only [regAddr, Page.base]; omega)
    change ofTemp8 (((s.takeTemp (.hbm k) value).thermalCap rested).reg .hbmc k 0x60).toNat = value
    rw [hkept, hreg, BitVec.toNat_ofNat, Nat.mod_eq_of_lt (by omega)]
    exact ofTemp8_temp8 hlow (by omega) n

/-! ### The thermal trip -/

theorem finishKeep_power (s : State) (o : Nat) : (s.finishKeep o).power = s.power := by
  rw [State.finishKeep, latchEvt_power]
  dsimp only
  split <;> rfl

theorem tamperZero_power (s : State) : s.tamperZero.power = s.power := by
  have hzeroed : (s.zeroiseSlots fun _ _ => true).power = s.power := by
    rw [State.zeroiseSlots]
    split
    · exact latchEvt_power _ _ _ _
    · rfl
  rw [State.tamperZero]
  dsimp only
  split
  · exact (finishKeep_power _ _).trans hzeroed
  · exact hzeroed

theorem railsOff_power (s : State) : s.railsOff.power = { s.power with on := false, overs := 0, tripNear := [] } := by
  change ({ (s.por s.boot.lastReset false).power with on := false, tripped := s.power.tripped } : Power) = _
  rw [(por_leaves s s.boot.lastReset false).2]

theorem trip_trips (s : State) (x : TempSensor) : RailsDown s (s.trip x) ∧ (s.trip x).power.tripped = true ∧
    (s.trip x).power.tripLast = tempCode x ∧ (s.trip x).power.tripCount = min 0xFFFF (s.power.tripCount + 1) := by
  obtain ⟨⟨hon, hrunning, hmem, hcores, hspill, hslots, hfuses⟩, _⟩ := railsOff_downs s.tamperZero
  have hpower := railsOff_power s.tamperZero
  rw [(tamperZero_keep s).1] at hfuses
  rw [tamperZero_power] at hpower
  rw [State.trip]
  generalize s.tamperZero.railsOff = t at *
  refine ⟨⟨hon, hrunning, hmem, hcores, hspill, hslots, hfuses⟩, rfl, rfl, ?_⟩
  dsimp only
  rw [hpower]

theorem takeTemp_keep (s : State) (x : TempSensor) (v : Int) :
    (s.takeTemp x v).keep = s.keep ∧ (s.takeTemp x v).power.tripCount = s.power.tripCount := by
  cases x with
  | hbm k =>
    have h := (takeTemp_hbm s k v).1
    exact ⟨counts_keep h, by rw [counts_power h]⟩
  | pier n => exact ⟨rfl, rfl⟩
  | plinth => exact ⟨rfl, rfl⟩
  | coolantIn => exact ⟨rfl, rfl⟩
  | coolantOut => exact ⟨rfl, rfl⟩

theorem thermalTrip_trips {s : State} {x : TempSensor} {value : Int} (hon : s.power.on = true) (hfits : tempFits x = true)
    (htrips : tempTrips x value = true) (hnear : x ∈ s.power.tripNear) :
    ∃ t, execThermalTrip x value s = .next t ∧ RailsDown s t ∧ t.power.tripped = true ∧ t.power.tripLast = tempCode x ∧
      t.power.tripCount = min 0xFFFF (s.power.tripCount + 1) := by
  obtain ⟨hkeep, hcount⟩ := takeTemp_keep s x value
  have hreef := thermalCap_reefs (s.takeTemp x value) false
  obtain ⟨⟨h1, h2, h3, h4, h5, h6, hfuses⟩, htripped, hlast, hnext⟩ := trip_trips ((s.takeTemp x value).thermalCap false) x
  rw [hreef.keep, hkeep] at hfuses
  rw [hreef.power, hcount] at hnext
  refine ⟨_, ?_, ⟨h1, h2, h3, h4, h5, h6, hfuses⟩, htripped, hlast, hnext⟩
  rw [execThermalTrip, if_neg (by simp [hfits]), if_neg (by simp [hon]), if_pos (by simp [htrips, hnear])]

/-! ### Reef states -/

theorem setLevel_sets (s : State) (k : Nat) : CountsOnly { s with reef := { s.reef with level := k } } (s.setLevel k) := by
  rw [State.setLevel]
  split
  · next h =>
    have hreef : ({ s.reef with level := k } : Reef) = s.reef := by rw [← h]
    rw [hreef]
    exact countsOnly_refl s
  · exact countsOnly_latchEvt _ _ _ _

theorem portsIdle_ports (s : State) (on : Bool) : ∃ n, s.portsIdle on = { s with net := n } := by
  have hfold (f : State → Nat → State) (h : ∀ t p, ∃ n, f t p = { t with net := n }) (l : List Nat) (t : State) :
      ∃ n, l.foldl f t = { t with net := n } := by
    induction l generalizing t with
    | nil => exact ⟨_, rfl⟩
    | cons p l ih =>
      obtain ⟨n, hn⟩ := h t p
      obtain ⟨m, hm⟩ := ih (f t p)
      exact ⟨m, by rw [List.foldl_cons, hm, hn]⟩
  exact hfold _ (fun _ _ => ⟨_, rfl⟩) _ s

theorem reefExitDone_exits {s : State} (hexiting : s.reef.exiting = true) (hon : s.power.on = true) (hlevel : s.reef.level ≠ 4) :
    ∃ t, execReefExitDone false false s = .next t ∧ FabricStands s t ∧ t.reef.exiting = false ∧ t.reef.target = s.reefTarget ∧
      t.reef.level = min s.reefTarget (s.reef.level - 1) := by
  generalize hto : min s.reefTarget (s.reef.level - 1) = k
  have hset := setLevel_sets { s with reef := { s.reef with exiting := false, target := s.reefTarget } } k
  generalize hv : ({ s with reef := { s.reef with exiting := false, target := s.reefTarget } } : State).setLevel k = v at hset
  have hcounts : CountsOnly { s with reef := { s.reef with exiting := false, target := s.reefTarget, level := k } }
      (if k = 0 then v else v.bump .reef 0 (0x50 + 4 * (k - 1))) := by
    split
    · exact hset
    · exact hset.trans (countsOnly_bump _ _ _ _)
  generalize hu : (if k = 0 then v else v.bump .reef 0 (0x50 + 4 * (k - 1))) = u at hcounts
  have hexec : execReefExitDone false false s = .next (if s.reef.level = 3 then u.portsIdle false else u) := by
    rw [execReefExitDone, if_neg (by simp [hexiting, hon])]
    dsimp only
    rw [if_neg (c := s.reef.level = 4) hlevel, hto, hv, hu]
  refine ⟨_, hexec, ?_⟩
  obtain ⟨_, _, _, rfl⟩ := hcounts
  split
  · obtain ⟨n, hn⟩ := portsIdle_ports _ false
    rw [hn]
    exact ⟨⟨rfl, rfl, rfl, rfl, rfl⟩, rfl, rfl, rfl⟩
  · exact ⟨⟨rfl, rfl, rfl, rfl, rfl⟩, rfl, rfl, rfl⟩

/-- An exit that starts writes its register and its own state. -/
theorem startExit_begins {s : State} (cause : Nat) (h : ¬ (s.reef.level = 0 ∨ s.reef.exiting = true)) :
    ∃ f o, s.startExit cause = { s.setReg .reef 0 0x4C (BitVec.ofNat 32 (cause + 16 * s.reef.level)) with reef := f, out := o } ∧
      f.exiting = true ∧ f.level = s.reef.level ∧ f.cap = s.reef.cap ∧ f.capPin = s.reef.capPin := by
  rw [State.startExit, if_neg h]
  dsimp only
  have hbegun : ∃ f, ({ (if cause = 1 ∨ cause = 9 then s else s.breakDwells) with
      reef := { (if cause = 1 ∨ cause = 9 then s else s.breakDwells).reef with exiting := true } } : State).setReg .reef 0 0x4C
        (BitVec.ofNat 32 (cause + 16 * s.reef.level)) =
      { s.setReg .reef 0 0x4C (BitVec.ofNat 32 (cause + 16 * s.reef.level)) with reef := f } ∧
      f.exiting = true ∧ f.level = s.reef.level ∧ f.cap = s.reef.cap ∧ f.capPin = s.reef.capPin := by
    split
    · exact ⟨_, rfl, rfl, rfl, rfl, rfl⟩
    · exact ⟨_, rfl, rfl, rfl, rfl, rfl⟩
  obtain ⟨f, hf, hrest⟩ := hbegun
  rw [hf]
  split
  · rw [State.emit_plain _ _ rfl]
    exact ⟨f, _, rfl, hrest⟩
  · exact ⟨f, _, rfl, hrest⟩

/-- What a check of the limits on the reef state leaves. -/
structure LimitsKept (s t : State) : Prop where
  only : ReefOnly s t
  level : t.reef.level = s.reef.level
  reg : ∀ p i off, regAddr p i off ≠ regAddr .reef 0 0x4C → t.reg p i off = s.reg p i off

theorem startExit_keeps (s : State) (cause : Nat) : LimitsKept s (s.startExit cause) ∧
    (s.reef.level ≠ 0 → (s.startExit cause).reef.exiting = true) := by
  by_cases h : s.reef.level = 0 ∨ s.reef.exiting = true
  · rw [State.startExit, if_pos h]
    exact ⟨⟨.refl s, rfl, fun _ _ _ _ => rfl⟩, fun hlevel => h.resolve_left hlevel⟩
  · obtain ⟨f, o, hbegin, hexiting, hlevel, _⟩ := startExit_begins cause h
    rw [hbegin]
    exact ⟨⟨⟨_, _, _, _, rfl⟩, hlevel, fun p i off hoff => reg_setReg_ne s _ _ _ _ _ _ _ hoff⟩, fun _ => hexiting⟩

theorem LimitsKept.refl (s : State) : LimitsKept s s := ⟨.refl s, rfl, fun _ _ _ _ => rfl⟩

theorem woken_keeps (s : State) (p : Page) : LimitsKept s (s.woken p) := by
  rw [State.woken]
  split
  · exact .refl s
  · rw [State.wake]
    split
    · exact (startExit_keeps s 2).1
    · exact .refl s

theorem reefLimit_limits (s : State) : LimitsKept s s.reefLimit ∧
    (s.reef.level ≠ 0 → exitLatency s.reef.level > (s.reg .reef 0 0x40).toNat ∨ s.reef.level > (s.reg .reef 0 0x44).toNat % 8 →
      s.reefLimit.reef.exiting = true) := by
  rw [State.reefLimit]
  split
  · exact ⟨(startExit_keeps s 1).1, fun h _ => (startExit_keeps s 1).2 h⟩
  · next h => exact ⟨.refl s, fun _ h' => absurd h' h⟩

/-! ### Writes of the REEF and STROKE pages -/

theorem reefTolerance_reg : findReg .reef 0x40 = some { off := 0x40, fields := [rw 0 32] } := by decide

theorem reefControl_reg : findReg .reef 0x44 = some { off := 0x44, fields := [rw 0 3 4, rw 3 1] } := by decide

theorem strokeControl_reg : findReg .stroke 0x4C = some { off := 0x4C, fields := [rwl 0 2, rw 2 1 1, rwl 3 1 1] } := by decide

/-- A register whose fields are all plain takes the value written. -/
theorem tolerance_written (locked : Bool) (old v : W32) :
    RDesc.written { off := 0x40, fields := [rw 0 32] } locked old v = v := by
  have hall (w : W32) : (((w &&& ~~~BitVec.allOnes 32) ||| (v &&& BitVec.allOnes 32)) &&& ~~~(v &&& 0#32)) ||| (v &&& 0#32) = v := by
    rw [BitVec.not_allOnes, BitVec.and_zero, BitVec.zero_or, BitVec.and_allOnes, BitVec.and_zero, BitVec.or_zero, BitVec.not_zero,
      BitVec.and_allOnes]
  cases locked
  · exact hall old
  · exact hall old

/-- STROKE_CTL unlocked takes the four bits of the value written. -/
theorem strokeControl_written {old : W32} (v : W32) (hold : old.toNat < 16) :
    RDesc.written { off := 0x4C, fields := [rwl 0 2, rw 2 1 1, rwl 3 1 1] } false old v = v &&& 0xF := by
  have hmask : ∀ k < 16, BitVec.ofNat 32 k &&& ~~~(0xF : W32) = 0 := by decide
  have hclear : old &&& ~~~(0xF : W32) = 0 := by
    have h := hmask old.toNat hold
    rwa [BitVec.ofNat_toNat, BitVec.setWidth_eq] at h
  change (((old &&& ~~~(0xF : W32)) ||| (v &&& 0xF)) &&& ~~~(v &&& 0#32)) ||| (v &&& 0#32) = v &&& 0xF
  rw [hclear, BitVec.ofNat_eq_ofNat, BitVec.zero_or, BitVec.and_zero, BitVec.or_zero, BitVec.not_zero, BitVec.and_allOnes]

theorem reefLatencyTol_writes {s : State} {v : W32} (htakes : Takes s .reef) :
    ∃ t, execReefLatencyTol v s = .next t ∧ FabricStands s t ∧ t.reg .reef 0 0x40 = v ∧
      (s.reef.level ≠ 0 → v.toNat < exitLatency s.reef.level → t.reef.exiting = true) := by
  have hwoken := woken_keeps s .reef
  have hlocked : RDesc.maskOf { off := 0x40, fields := [rw 0 32] } [.rwl] = 0 := by decide
  have hexec : execReefLatencyTol v s = .next ((s.woken .reef).setReg .reef 0 0x40 v).reefLimit := by
    rw [execReefLatencyTol, State.hostWrite, State.onPage_takes _ _ _ _ _ _ htakes, State.writeReg, reefTolerance_reg]
    simp only [State.writeBlock, tolerance_written, hlocked, ne_eq, not_true, decide_false, Bool.and_false, Bool.false_and,
      Bool.false_eq_true, if_false, if_true, Nat.reduceLT]
  obtain ⟨hlimits, hexit⟩ := reefLimit_limits ((s.woken .reef).setReg .reef 0 0x40 v)
  have hreg : ((s.woken .reef).setReg .reef 0 0x40 v).reg .reef 0 0x40 = v := State.reg_setReg_self _ _ _ _ _
  refine ⟨_, hexec, hwoken.only.stands.trans (FabricStands.trans (b := (s.woken .reef).setReg .reef 0 0x40 v) ⟨rfl, rfl, rfl, rfl, rfl⟩
    hlimits.only.stands), by rw [hlimits.reg _ _ _ (by decide), hreg], fun hlevel htol => ?_⟩
  rw [← hwoken.level] at hlevel htol
  exact hexit hlevel (Or.inl (by rw [hreg]; exact htol))

theorem low_four (v : W32) : (v &&& 0xF).toNat = v.toNat % 16 := by
  rw [BitVec.toNat_and]
  exact Nat.and_two_pow_sub_one_eq_mod v.toNat 4

theorem maxStateWrite_writes {s : State} {v : W32} (htakes : Takes s .reef) (hv : v.toNat % 8 ≤ 4) :
    ∃ t, execMaxStateWrite v s = .next t ∧ FabricStands s t ∧ t.reg .reef 0 0x44 = v &&& 0xF ∧
      (v.toNat.testBit 3 = true → t.reef.capPin = true ∧ t.reef.cap = true) ∧ (v.toNat % 8 < s.reef.level → t.reef.exiting = true) := by
  have hwoken := woken_keeps s .reef
  have hlocked : RDesc.maskOf { off := 0x44, fields := [rw 0 3 4, rw 3 1] } [.rwl] = 0 := by decide
  obtain ⟨hlimits, hexit⟩ := reefLimit_limits ((s.woken .reef).setReg .reef 0 0x44 (v &&& 0xF))
  have hreg : ((s.woken .reef).setReg .reef 0 0x44 (v &&& 0xF)).reg .reef 0 0x44 = v &&& 0xF := State.reg_setReg_self _ _ _ _ _
  have hstands := FabricStands.trans hwoken.only.stands (FabricStands.trans (b := (s.woken .reef).setReg .reef 0 0x44 (v &&& 0xF))
    ⟨rfl, rfl, rfl, rfl, rfl⟩ hlimits.only.stands)
  have hexiting : v.toNat % 8 < s.reef.level → ((s.woken .reef).setReg .reef 0 0x44 (v &&& 0xF)).reefLimit.reef.exiting = true := by
    intro h
    rw [← hwoken.level] at h
    refine hexit (Nat.ne_of_gt (Nat.zero_lt_of_lt h)) (Or.inr ?_)
    rw [hreg, low_four]
    change (v.toNat % 16) % 8 < (s.woken .reef).reef.level
    omega
  have hkept := (hlimits.reg .reef 0 0x44 (by decide)).trans hreg
  generalize hu : ((s.woken .reef).setReg .reef 0 0x44 (v &&& 0xF)).reefLimit = u at *
  have hexec : execMaxStateWrite v s = .next (if v.toNat.testBit 3 then
      ({ u with reef := { u.reef with capPin := true } } : State).capOn else u) := by
    rw [execMaxStateWrite, State.hostWrite, State.onPage_takes _ _ _ _ _ _ htakes, State.writeReg, reefControl_reg]
    simp only [State.writeBlock, State.writeReefCtl, hlocked, hu, Nat.not_lt.mpr hv, gt_iff_lt, ne_eq, not_true, decide_false, Bool.and_false,
      Bool.false_and, Bool.false_eq_true, if_false, if_true, Nat.reduceLT, Nat.reduceEqDiff]
  refine ⟨_, hexec, ?_⟩
  split
  · have hcap := reefOnly_capOn u { u.reef with capPin := true }
    have hcapReg := capOn_reg ({ u with reef := { u.reef with capPin := true } }) (p := .reef) (i := 0) (off := 0x44) (by decide) (by decide)
    obtain ⟨_, _, _, h⟩ := capOn_caps { u with reef := { u.reef with capPin := true } }
    refine ⟨hstands.trans hcap.stands, hcapReg.trans hkept, fun _ => ?_, fun h' => ?_⟩
    · rw [h]
      exact ⟨rfl, rfl⟩
    · rw [h]
      exact hexiting h'
  · next hbit => exact ⟨hstands, hkept, fun h => absurd h hbit, hexiting⟩

/-! ### Synchronisation mode -/

theorem setSync_sets (s : State) (x : SyncState) : (s.setSync x).stroke.sync = x ∧ FabricStands s (s.setSync x) ∧
    (s.setSync x).reg .stroke 0 0x4C = s.reg .stroke 0 0x4C := by
  generalize hv : ({ s with stroke := { s.stroke with sync := x, fallback := s.stroke.fallback && decide (x = .lockedPtp) } } : State) = v
  have hsync : v.stroke.sync = x := by rw [← hv]
  have hstands : FabricStands s v := hv ▸ ⟨rfl, rfl, rfl, rfl, rfl⟩
  have hreg : v.reg .stroke 0 0x4C = s.reg .stroke 0 0x4C := hv ▸ rfl
  have hlatch (m : Nat) : (v.latchEvt .stroke 0 m).stroke.sync = x ∧ FabricStands s (v.latchEvt .stroke 0 m) ∧
      (v.latchEvt .stroke 0 m).reg .stroke 0 0x4C = s.reg .stroke 0 0x4C :=
    ⟨by rw [latchEvt_stroke, hsync], hstands.trans (v.latchEvt_stands _ _ _), (latchEvt_reg_ne _ _ _ _ _ _ _ (by decide)).trans hreg⟩
  unfold State.setSync
  dsimp only
  rw [hv]
  split
  · exact ⟨hsync, hstands, hreg⟩
  · cases x with
    | freeRun =>
      have hcounts := (countsOnly_bump v .stroke 0 0x64).trans (countsOnly_latchEvt _ .stroke 0 8)
      exact ⟨by rw [counts_stroke hcounts, hsync], hstands.trans (counts_stands hcounts),
        ((latchEvt_reg_ne _ _ _ _ _ _ _ (by decide)).trans (reg_bump_ne _ _ _ _ _ _ _ (by decide))).trans hreg⟩
    | acquiring => exact ⟨hsync, hstands, hreg⟩
    | lockedPin => exact hlatch 16
    | lockedPtp => exact hlatch 16

theorem syncFromMode_sets (s : State) : FabricStands s (s.syncFromMode false) ∧
    (s.syncFromMode false).reg .stroke 0 0x4C = s.reg .stroke 0 0x4C ∧
    (s.syncMode = 0 → (s.syncFromMode false).stroke.sync = .freeRun) ∧
    (s.syncMode % 2 = 1 → (s.syncFromMode false).stroke.sync = .acquiring) := by
  have hset (x : SyncState) := setSync_sets { s with stroke := { s.stroke with
    edgeRun := 0, edgeSince := s.time, fallback := false, stretchPending := false } } x
  have hstands (x : SyncState) := FabricStands.trans (a := s) ⟨rfl, rfl, rfl, rfl, rfl⟩ (hset x).2.1
  rw [State.syncFromMode]
  dsimp only
  split
  · next h => exact ⟨hstands _, (hset _).2.2, fun _ => (hset _).1, fun h' => by omega⟩
  · next h => exact ⟨hstands _, (hset _).2.2, fun h' => by omega, fun h' => by omega⟩
  · next h _ => exact ⟨hstands _, (hset _).2.2, fun h' => absurd h' h, fun _ => (hset _).1⟩

theorem syncModeWrite_writes {s : State} {v : W32} (htakes : Takes s .stroke) (hlock : s.pageLocked .stroke 0 = false)
    (hhalted : s.tt.halted = false) (hold : (s.reg .stroke 0 0x4C).toNat < 16) :
    ∃ t, execSyncModeWrite v s = .next t ∧ FabricStands s t ∧ t.reg .stroke 0 0x4C = v &&& 0xF ∧
      (v.toNat % 4 = s.syncMode → t.stroke.sync = s.stroke.sync) ∧ (v.toNat % 4 = 0 → s.syncMode ≠ 0 → t.stroke.sync = .freeRun) ∧
      (v.toNat % 2 = 1 → s.syncMode ≠ v.toNat % 4 → t.stroke.sync = .acquiring) := by
  have hwoken := woken_keeps s .stroke
  have hcontrol : (s.woken .stroke).reg .stroke 0 0x4C = s.reg .stroke 0 0x4C := hwoken.reg _ _ _ (by decide)
  have hlocked : (s.woken .stroke).pageLocked .stroke 0 = false := by
    rw [State.pageLocked, hwoken.reg _ _ _ (by decide)]
    exact hlock
  have hmode : (s.woken .stroke).syncMode = s.syncMode := by rw [State.syncMode, hcontrol, State.syncMode]
  generalize hu : (s.woken .stroke).setReg .stroke 0 0x4C (v &&& 0xF) = u
  have hreg : u.reg .stroke 0 0x4C = v &&& 0xF := hu ▸ State.reg_setReg_self _ _ _ _ _
  have hmode' : u.syncMode = v.toNat % 4 := by
    rw [State.syncMode, hreg, low_four]
    omega
  have hstands : FabricStands s u := hwoken.only.stands.trans (hu ▸ ⟨rfl, rfl, rfl, rfl, rfl⟩)
  have hstroke : u.stroke.sync = s.stroke.sync := by
    rw [← hu]
    change (s.woken .stroke).stroke.sync = _
    rw [hwoken.only.stroke]
  have hexec : execSyncModeWrite v s = .next (if u.syncMode = s.syncMode then u else u.syncFromMode false) := by
    rw [execSyncModeWrite, State.hostWrite, State.onPage_takes _ _ _ _ _ _ htakes, State.writeReg, strokeControl_reg]
    simp only [State.writeBlock, State.writeStrokeCtl, hlocked, hcontrol, strokeControl_written v hold, hwoken.only.tt, hhalted, hmode, hu,
      Bool.false_and, Bool.false_eq_true, if_false, if_true, Nat.reduceLT, or_false]
  refine ⟨_, hexec, ?_⟩
  split
  · next h =>
    rw [hmode'] at h
    exact ⟨hstands, hreg, fun _ => hstroke, fun h0 hne => absurd (h ▸ h0) hne, fun _ hne => absurd h.symm hne⟩
  · next h =>
    obtain ⟨hset, hkept, hfree, hacquire⟩ := syncFromMode_sets u
    rw [hmode'] at h hfree hacquire
    exact ⟨hstands.trans hset, hkept.trans hreg, fun h' => absurd h' h, fun h0 _ => hfree h0, fun h1 _ => hacquire (by omega)⟩

/-! ### SMBus -/

theorem smbusRead_endpoint {s : State} (c : Nat) (hok : s.power.inputOk = true) : execSmbusRead (.endpoint c) s =
    .next (s.emit (.smbus (toLe (if (s.smbField c).2 then 2 else 1) (s.smbField c).1 ++
      [pec ([0x94, BitVec.ofNat 8 c, 0x95] ++ toLe (if (s.smbField c).2 then 2 else 1) (s.smbField c).1)]))) := by
  rw [execSmbusRead, if_neg (by simp [hok])]

theorem smbusRead_fru {s : State} (offset len : Nat) (hok : s.power.inputOk = true) :
    ∃ t x, execSmbusRead (.fru offset len) s = .next t ∧
      t.out = .smbus ((List.range len).map (fun j => s.fruByte (offset + j)) ++ [x]) :: s.out := by
  refine ⟨s.draw.2.emit _, BitVec.ofNat 8 s.draw.1, by rw [execSmbusRead, if_neg (by simp [hok])], ?_⟩
  rw [State.emit_plain _ _ rfl]
  rfl

/-! ### The patrol scrub -/

theorem scrubProgress_counts (s : State) (k : Nat) : CountsOnly s (s.scrubProgress k) ∧
    ((s.reg .hbmc k 0x58).toNat + 1 < stackWords →
      (s.scrubProgress k).reg .hbmc k 0x58 = BitVec.ofNat 32 ((s.reg .hbmc k 0x58).toNat + 1)) := by
  rw [State.scrubProgress]
  split
  · exact ⟨countsOnly_setReg _ _ _ _ _, fun _ => State.reg_setReg_self _ _ _ _ _⟩
  · next h => exact ⟨(countsOnly_setReg _ _ _ _ _).trans ((countsOnly_bump _ _ _ _).trans (countsOnly_latchEvt _ _ _ _)), fun h' => absurd h' h⟩

theorem patrolScrub_clean {s : State} {x pc b : Nat} (hruns : s.scrubRuns = true) (hplace : s.place (32 * x) = .hbm pc b)
    (hecc : s.ecc.get 0 x = 0) : execPatrolScrub x 0 s = .next (s.scrubProgress (pc / 32)) := by
  have hclean : decodeDelta 0 = .clean := by rw [decodeDelta, if_pos rfl]
  simp only [execPatrolScrub, hplace, hruns, if_true, State.scrubWord, hecc, hclean]

theorem repairBytes_length (l : List Byte) (pos mag : Nat) : (repairBytes l pos mag).length = l.length := by
  rw [repairBytes]
  split
  · rfl
  · exact List.length_modify _ _ _

theorem scrubWord_corrected {s : State} {x pos mag : Nat} {d : W32} (hecc : s.ecc.get 0 x = d) (hdecode : decodeDelta d = .corrected pos mag) :
    s.scrubWord x = (s.storeWord x (repairBytes (memRead s.mem (32 * x) 32) pos mag) 0).countCorrected (32 * x) 8 (syndromes d) := by
  simp only [State.scrubWord, hecc, hdecode]

/-- A scrub read of a word with one wrong symbol stores the repaired bytes with clean check symbols. -/
theorem patrolScrub_repairs {s : State} {x pc b pos mag : Nat} {delta : W32} (hruns : s.scrubRuns = true)
    (hplace : s.place (32 * x) = .hbm pc b) (hecc : s.ecc.get 0 x = 0) (hdecode : decodeDelta delta = .corrected pos mag) :
    ∃ t, execPatrolScrub x delta s = .next t ∧
      t.mem = memWrite s.mem (32 * x) (repairBytes (memRead s.mem (32 * x) 32) pos mag) ∧ t.ecc.get 0 x = 0 ∧ t.cores = s.cores := by
  have hne : delta ≠ 0 := by
    rintro rfl
    rw [decodeDelta, if_pos rfl] at hdecode
    cases hdecode
  have hget : (s.ecc.put 0 x delta).get 0 x = delta := NMap.get_put_self _ _ _ _
  have hcounts := (countsOnly_countCorrected (({ s with ecc := s.ecc.put 0 x delta } : State).storeWord x
    (repairBytes (memRead s.mem (32 * x) 32) pos mag) 0) (32 * x) 8 (syndromes delta)).trans (scrubProgress_counts _ (pc / 32)).1
  have hexec : execPatrolScrub x delta s = .next (((({ s with ecc := s.ecc.put 0 x delta } : State).storeWord x
      (repairBytes (memRead s.mem (32 * x) 32) pos mag) 0).countCorrected (32 * x) 8 (syndromes delta)).scrubProgress (pc / 32)) := by
    have hscrub := scrubWord_corrected (s := { s with ecc := s.ecc.put 0 x delta }) (x := x) (d := delta) hget hdecode
    simp only [execPatrolScrub, hplace, hruns, hne, if_false, if_true, hecc, show (0 : W32) ^^^ delta = delta from BitVec.zero_xor]
    rw [hscrub]
  refine ⟨_, hexec, ?_⟩
  obtain ⟨hmem, hecc', hcores, _⟩ := counts_stands hcounts
  refine ⟨hmem, ?_, hcores⟩
  rw [hecc']
  exact NMap.get_put_self (s.ecc.put 0 x delta) 0 0 x

/-- Settles O55. -/
theorem powerEvents : Obligations.PowerEvents := by
  unfold Obligations.PowerEvents
  refine ⟨pwrBrakeAssert_caps, fun s hforce => pwrBrakeRelease_frees hforce, fun s watts average volts amps rested hon haverage =>
    powerLimit_caps volts amps rested hon haverage, fun s value rested hon hvalue => thermalReading_plinth rested hon hvalue,
    fun s k value rested hon hk hlow hhigh => thermalReading_hbm rested hon hk hlow hhigh, fun s x value hon hfits htrips hnear =>
    thermalTrip_trips hon hfits htrips hnear, fun s hexiting hon hlevel => reefExitDone_exits hexiting hon hlevel, fun s v htakes =>
    ⟨reefLatencyTol_writes htakes, maxStateWrite_writes htakes⟩, fun s v htakes hlock hhalted hold =>
    syncModeWrite_writes htakes hlock hhalted hold, fun s hok => ⟨fun c => smbusRead_endpoint c hok, fun offset len =>
    smbusRead_fru offset len hok⟩, fun s x pc b hruns hplace => ⟨fun hecc => ?_, fun delta pos mag hecc hdecode => ?_⟩⟩
  · obtain ⟨hcounts, hreg⟩ := scrubProgress_counts s (pc / 32)
    obtain ⟨hmem, hecc', hcores, _⟩ := counts_stands hcounts
    exact ⟨_, patrolScrub_clean hruns hplace hecc, hmem, hecc', hcores, hreg⟩
  · obtain ⟨t, ht, hmem, hecc', hcores⟩ := patrolScrub_repairs hruns hplace hecc hdecode
    have hlen : (repairBytes (memRead s.mem (32 * x) 32) pos mag).length = 32 := by rw [repairBytes_length, memRead_length]
    refine ⟨t, ht, hecc', hcores, ?_, fun a ha => ?_⟩
    · have hread := memRead_memWrite_self s.mem (32 * x) (repairBytes (memRead s.mem (32 * x) 32) pos mag)
      rwa [hlen, ← hmem] at hread
    · rw [hmem, memGet_memWrite, if_neg (by omega)]

end Sys2Proof.Proofs.PowerAndReef
end

section
/-!
PROOFS. The outcome instant of a command (00 R722, 06 R259, 09 R362, 10 R416, 14 R552, 16 R626, 19 R694): O59.
-/

namespace Sys2Proof.Proofs.CommandEnds

open Sys2Proof Sys2Proof.Machine Sys2Proof.Proofs.FieldRules Sys2Proof.Proofs.CoreStores Sys2Proof.Proofs.Registers
  Sys2Proof.Proofs.Drains Sys2Proof.Proofs.MemWrites Sys2Proof.Proofs.Tenancy

variable {s : State} (x : Completion)

theorem endCopy_copies {a : Nat} (hbusy : s.muster.busy = true) (hop : s.muster.op = 7) (hstaged : s.muster.staged = 0)
    (hpublished : (s.round s.muster.sub).published = true)
    (ha : (s.muster.args.getD 1 0).toNat + 2 ^ 32 * (s.muster.args.getD 2 0).toNat = a)
    (hrange : s.tenantRange a (s.round s.muster.sub).d.slots 1 = true) :
    s.endCopy.muster = { s.muster with busy := false, outcome := 0, result := 0 } ∧
      s.endCopy.mem = (s.writeBytes 7 a ((List.range (s.round s.muster.sub).d.slots).map fun k =>
        BitVec.ofNat 8 ((s.round s.muster.sub).statusOf k))).mem := by
  have hok : (decide (s.muster.staged = 0) && (s.round s.muster.sub).published &&
      s.tenantRange a (s.round s.muster.sub).d.slots 1) = true := by simp [hstaged, hpublished, hrange]
  rw [State.endCopy, if_neg (by simp [hbusy, hop])]
  dsimp only
  rw [ha, hok, if_pos rfl, if_neg (by simp [hstaged]), if_pos rfl]
  generalize s.writeBytes 7 a _ = w
  obtain ⟨_, _, _, h⟩ := countsOnly_latchEvt { w with
    muster := { s.muster with busy := false, outcome := 0, result := 0 } } .muster 0 2
  rw [h]
  exact ⟨rfl, rfl⟩

theorem regionAlloc_adds {a : Nat} {r : State} (h : s.regionAlloc = (0, a, r)) :
    r = s.addArea { base := a, len := leAt s.bosunArgs 8 8, tag := leAt s.bosunArgs 0 4 % 16, owner := .tenant } := by
  rw [State.regionAlloc] at h
  dsimp only at h
  split at h
  · cases h
  · split at h
    · cases h
    · split at h
      · cases h
      · cases h
        rfl

theorem completeBosun_allocates {a : Nat} {r : State} (hbusy : s.bosun.busy = true) (hop : s.bosun.op = 4)
    (hgate : s.bosunGate 4 (leAt s.bosunArgs 0 1) = none) (halloc : s.regionAlloc = (0, a, r)) :
    s.completeBosun x = some (r.finishBosun 0 a) := by
  have hnow : ¬ ((!s.bosun.busy) = true ∨
      (s.bosun.op = 1 ∨ s.bosun.op = 2 ∨ s.bosun.op = 7 ∨ s.bosun.op = 9) ∧ (s.boot.stage ≠ .failed ∨ s.bosun.ready = true)) := by
    simp [hbusy, hop]
  rw [State.completeBosun]
  dsimp only
  rw [if_neg hnow, hop, hgate, halloc]
  rfl

theorem endHalyard_ends (hbusy : s.halyardCmd.busy = true) : s.endHalyard.halyardCmd = { s.halyardCmd with
    busy := false, outcome := (s.halyardEffect s.halyardCmd.op (blockNat s.halyardCmd.args)).1
    result := (s.halyardEffect s.halyardCmd.op (blockNat s.halyardCmd.args)).2.1 } := by
  rw [State.endHalyard, if_neg (by simp [hbusy])]
  dsimp only
  generalize s.halyardEffect s.halyardCmd.op (blockNat s.halyardCmd.args) = y
  obtain ⟨_, _, _, h⟩ := State.latchEvt_frame (s := { y.2.2 with
    halyardCmd := { s.halyardCmd with busy := false, outcome := y.1, result := y.2.1 } }) .halyard 0 1
  rw [h]

theorem endKeep_unloads {k : KeySlot} (fails : Bool) (hop : s.keepCmd.op = 5) (harg : s.keepCmd.args.getD 2 0 = 0)
    (hsub : s.keepCmd.sub < 56) (hslot : s.keep.slots.find? s.keepCmd.sub = some k) :
    CountsOnly { s with
      keepCmd := { s.keepCmd with busy := false, outcome := 0 }
      keep := { s.keep with slots := s.keep.slots.erase s.keepCmd.sub } } (s.endKeep fails) := by
  have heffect : s.keepEffect fails = (0, s.setKeep { s.keep with slots := s.keep.slots.erase s.keepCmd.sub }) := by
    simp only [State.keepEffect, hop, State.unloadSlot, show (s.keepCmd.args.getD 2 0).toNat = 0 by rw [harg]; rfl, hslot, ne_eq, not_true, if_false,
      Nat.not_lt.mpr (show s.keepCmd.sub ≤ 55 by omega), gt_iff_lt, Option.isNone_some, Bool.false_eq_true, or_self]
  rw [State.endKeep]
  dsimp only
  rw [heffect, if_neg (by simp [hop])]
  dsimp only
  rw [State.finishKeep, if_neg (by change ¬ s.keepCmd.op = 6; omega)]
  exact countsOnly_latchEvt _ _ _ _

theorem endSpill_configures {k n cfg : Nat} (hop : (s.spillCmdOf k).op = 1) (hn : ((s.spillCmdOf k).args.getD 0 0).toNat = n)
    (hcfg : ((s.spillCmdOf k).args.getD 1 0).toNat = cfg) (houtcome : s.spillOutcome 1 n cfg = 0) :
    (s.endSpill k).mem = s.mem ∧ (s.endSpill k).queue n = (s.queue n).configured cfg ∧
      (s.endSpill k).spillCmdOf k = { s.spillCmdOf k with busy := false, outcome := 0 } := by
  have hend : CountsOnly { s.setQueue n ((s.queue n).configured cfg) with
      spillCmd := s.spillCmd.put {} k { s.spillCmdOf k with busy := false, outcome := 0 } } (s.endSpill k) := by
    rw [State.endSpill]
    dsimp only
    rw [hn, hcfg, hop, houtcome, if_neg (by decide)]
    exact countsOnly_latchEvt _ _ _ _
  obtain ⟨_, _, _, h⟩ := hend
  rw [h]
  exact ⟨rfl, State.queue_setQueue_self _ _ _, NMap.get_put_self _ _ _ _⟩

theorem endTtMem_writes {a b c : Nat} (hbusy : s.ttMem.busy = true) (hop : s.ttMem.op = 2)
    (ha : (s.ttMem.args.getD 0 0).toNat / 32 * 32 + 2 ^ 32 * ((s.ttMem.args.getD 1 0).toNat % 2 ^ 16) = a)
    (hplace : s.place a = .hbm b c) (htag : s.tagAt a = 1) :
    s.endTtMem = { s.writeBytes 6 a ((s.ttMem.args.drop 2).flatMap fun w => toLe 4 w.toNat) with
      ttMem := { s.ttMem with busy := false, result := 0 } } := by
  rw [State.endTtMem]
  dsimp only
  rw [ha, hplace, htag, if_neg (by simp [hbusy])]
  dsimp only
  rw [if_neg (by simp), if_neg (by simp), if_pos hop]

/-- Settles O59. -/
theorem commandCompletion : Obligations.CommandCompletion := by
  unfold Obligations.CommandCompletion
  intro s x hon
  have hexec (page : CmdPage) : exec (.commandCompletion page x) s = execCommandCompletion page x s := rfl
  refine ⟨fun a hbusy hop hstaged hpublished ha hrange => ?_, fun a r hbusy hop hgate halloc => ?_, fun hbusy => ?_,
    fun k hbusy hop harg hsub hslot => ?_, fun k n cfg hk hbusy hop hn hcfg houtcome => ?_, fun hbusy => ?_,
    fun a b c hbusy hop ha hplace htag => ?_⟩
  · obtain ⟨hmuster, hmem⟩ := endCopy_copies hbusy hop hstaged hpublished ha hrange
    exact ⟨s.endCopy.breakDwells, by simp [hexec, execCommandCompletion, hon, hbusy], hmuster, hmem⟩
  · obtain ⟨_, _, _, hend⟩ := finishBosun_ends r 0 a
    refine ⟨(r.finishBosun 0 a).breakDwells,
      by simp [hexec, execCommandCompletion, hon, hbusy, completeBosun_allocates x hbusy hop hgate halloc], ?_⟩
    rw [hend, regionAlloc_adds halloc]
    exact ⟨rfl, rfl, rfl, rfl, rfl⟩
  · refine ⟨s.endHalyard.breakDwells, by simp [hexec, execCommandCompletion, hon, hbusy], ?_⟩
    change s.endHalyard.halyardCmd.busy = false ∧ s.endHalyard.halyardCmd.outcome = _ ∧ s.endHalyard.halyardCmd.result = _
    rw [endHalyard_ends hbusy]
    exact ⟨rfl, rfl, rfl⟩
  · obtain ⟨_, _, _, hend⟩ := endKeep_unloads x.fail hop harg hsub hslot
    refine ⟨(s.endKeep x.fail).breakDwells, by simp [hexec, execCommandCompletion, hon, hbusy], ?_⟩
    rw [hend]
    exact ⟨⟨rfl, rfl, rfl, rfl, rfl⟩, rfl, rfl⟩
  · refine ⟨s.endSpill k, ?_, endSpill_configures hop hn hcfg houtcome⟩
    simp [hexec, execCommandCompletion, hon, Nat.not_le.mpr hk, hbusy, hop]
  · simp [hexec, execCommandCompletion, hon, hbusy]
  · refine ⟨s.endTtMem, by simp [hexec, execCommandCompletion, hon], ?_⟩
    rw [endTtMem_writes hbusy hop ha hplace htag]
    exact ⟨rfl, rfl⟩

end Sys2Proof.Proofs.CommandEnds
end

section
/-!
PROOFS. The host link, configuration space, vectors, BARs and the page header (00 R14, R15, 13 R530, R537, 16 R593 to R612): O56.
-/

namespace Sys2Proof.Proofs.HostLink

open Sys2Proof Sys2Proof.Machine Sys2Proof.Proofs.FieldRules Sys2Proof.Proofs.CoreStores Sys2Proof.Proofs.Registers
  Sys2Proof.Proofs.QueueEvents Sys2Proof.Proofs.UnitItems Sys2Proof.Proofs.Completions Sys2Proof.Proofs.Drains Sys2Proof.Proofs.MemWrites
  Sys2Proof.Proofs.Ports Sys2Proof.Proofs.Erasures Sys2Proof.Proofs.PowerAndReef Sys2Proof.Proofs.Windows Sys2Proof.Proofs.Formation

/-! ### The link -/

theorem spill_abandonOpen (s : State) (n cause : Nat) : SpillOnly s (s.abandonOpen n cause) :=
  (spill_setQueue s n _).trans (.of_events (events_queueEvt _ n 5))

theorem spill_doorEnd_none (s : State) (n : Nat) : SpillOnly s (s.doorEnd n none) := by
  unfold State.doorEnd
  dsimp only
  split
  · exact .refl s
  · split
    · exact spill_setQueue s n _
    · split
      · exact (spill_setQueue s n _).trans (spill_setQueue _ n _)
      · exact ((spill_abandonOpen s n 5).trans (spill_closeOpen _ n)).trans (spill_setQueue _ n _)

theorem spill_doorFail (s : State) (n : Nat) : SpillOnly s (s.doorFail n) := by
  rw [State.doorFail]
  split
  · exact .refl s
  · split
    · exact ⟨rfl, fun _ _ _ _ _ => rfl, SentGrows.refl s⟩
    · exact spill_doorEnd_none s n

theorem spill_foldl {α : Type} {f : State → α → State} (h : ∀ s a, SpillOnly s (f s a)) (l : List α) (s : State) :
    SpillOnly s (l.foldl f s) := by
  induction l generalizing s with
  | nil => exact .refl s
  | cons a l ih => exact (h s a).trans (ih (f s a))

/-- Configuration space after a link-level reset, before the host reads fail. -/
def unlinked (s : State) (pin : Bool) : State := { s with
  pcie := {
    perst := pin || s.pcie.perst, gen := s.pcie.gen, width := s.pcie.width, flit := s.pcie.flit, bar2Base := s.pcie.bar2Base
    pba := s.pcie.pba
    msix := (s.pcie.msix.map fun e => (e.1, { e.2 with masked := true })).filter fun e => decide (e.2 ≠ {}) }
  reef := { s.reef with ltrSent := 0 } }

/-- The reset counts where the link was up. -/
def linkLost (s : State) (pin : Bool) : State :=
  if s.pcie.linkUp then ((unlinked s pin).bump .pcie 0 0x64).latchEvt .pcie 0 1 else unlinked s pin

theorem linkLost_counts (s : State) (pin : Bool) : CountsOnly (unlinked s pin) (linkLost s pin) := by
  rw [linkLost]
  split
  · exact (countsOnly_bump _ _ _ _).trans (countsOnly_latchEvt _ _ _ _)
  · exact countsOnly_refl _

theorem linkLost_reg {s : State} (pin : Bool) (h : s.pcie.linkUp = true) :
    (linkLost s pin).reg .pcie 0 0x64 = satAdd (s.reg .pcie 0 0x64) 1 := by
  rw [linkLost, if_pos h]
  exact (latchEvt_reg_ne _ _ _ _ _ _ _ (by decide)).trans (reg_bump_self (unlinked s pin) _ _ _)

/-- A link-level reset: the doorbells' fetches fail, and the read of BOSUN's command. -/
theorem linkReset_resets (s : State) (pin : Bool) : ∃ v : State, SpillOnly (linkLost s pin) v ∧
    (s.linkReset pin = v ∨ s.linkReset pin = { v with bosun := { v.bosun with bad := true } }) := by
  generalize hv : (((linkLost s pin).spill.queues.filter fun e => e.2.dbBusy).map (·.1)).foldl
    (fun (t : State) n => t.doorFail n) (linkLost s pin) = v
  have hreset : s.linkReset pin = v.readerFails .bosun := by
    rw [← hv]
    rfl
  refine ⟨v, hv ▸ spill_foldl spill_doorFail _ _, ?_⟩
  rw [hreset, State.readerFails]
  split
  · exact Or.inr rfl
  · exact Or.inl rfl

theorem perst_resets {s : State} (pin : Bool) (hon : s.power.on = true) :
    ∃ t, execPerst pin s = .next t ∧ t.mem = s.mem ∧ t.cores = s.cores ∧ t.pcie.bme = false ∧ t.pcie.linkUp = false ∧
      t.pcie.msixEn = false ∧ t.pcie.d3hot = false ∧ t.pcie.bar2Base = s.pcie.bar2Base ∧ t.pcie.perst = (pin || s.pcie.perst) ∧
      (∀ e ∈ t.pcie.msix, e.2.masked = true) ∧ (s.pcie.linkUp = true → t.reg .pcie 0 0x64 = satAdd (s.reg .pcie 0 0x64) 1) := by
  obtain ⟨v, hspill, hreset⟩ := linkReset_resets s pin
  obtain ⟨r, o, x, hlost⟩ := linkLost_counts s pin
  have hmasked : ∀ e ∈ (unlinked s pin).pcie.msix, e.2.masked = true := by
    intro e he
    obtain ⟨e', _, rfl⟩ := List.mem_map.mp (List.mem_filter.mp he).1
    rfl
  have hpcie : ∃ x, v.pcie = { (unlinked s pin).pcie with pba := x } := ⟨v.pcie.pba, by rw [hspill.frame, hlost]⟩
  have hmem : v.mem = s.mem := by rw [hspill.mem, hlost]; rfl
  have hcores : v.cores = s.cores := by rw [hspill.cores, hlost]; rfl
  have hreg (h : s.pcie.linkUp = true) : v.reg .pcie 0 0x64 = satAdd (s.reg .pcie 0 0x64) 1 :=
    (hspill.reg (by decide) (by decide) (by decide)).trans (linkLost_reg pin h)
  obtain ⟨x, hpcie⟩ := hpcie
  refine ⟨s.linkReset pin, by rw [execPerst, if_pos hon], ?_⟩
  obtain h | h := hreset
  · rw [h, hpcie]
    exact ⟨hmem, hcores, rfl, rfl, rfl, rfl, rfl, rfl, hmasked, hreg⟩
  · rw [h]
    dsimp only
    rw [hpcie]
    exact ⟨hmem, hcores, rfl, rfl, rfl, rfl, rfl, rfl, hmasked, hreg⟩

theorem pcieLinkUp_trains {s : State} {gen width : Nat} (flit : Bool) (hon : s.power.on = true) (hmin : 1 ≤ gen)
    (hmax : gen ≤ (s.reg .pcie 0 0x44).toNat % 8) (hwidth : width ∈ [1, 2, 4, 8]) :
    ∃ t, execPcieLinkUp gen width flit s = .next t ∧ FabricStands s t ∧ t.pcie.linkUp = true ∧ t.pcie.training = false ∧
      t.pcie.gen = gen ∧ t.pcie.width = width ∧ t.pcie.flit = flit ∧ t.pcie.perst = false := by
  have hvalid : ¬ (gen = 0 ∨ gen > (s.reg .pcie 0 0x44).toNat % 8 ∨ (!([1, 2, 4, 8].contains width)) = true) := by
    rintro (h | h | h)
    · omega
    · omega
    · simp_all
  refine ⟨_, by rw [execPcieLinkUp, if_neg hvalid, if_neg (by simp [hon])], ?_⟩
  split
  · obtain ⟨_, _, _, h⟩ := countsOnly_latchEvt { s with pcie := { s.pcie with
      perst := false, linkUp := true, training := false, gen := gen, width := width, flit := flit } } .pcie 0 2
    rw [h]
    exact ⟨⟨rfl, rfl, rfl, rfl, rfl⟩, rfl, rfl, rfl, rfl, rfl, rfl⟩
  · exact ⟨⟨rfl, rfl, rfl, rfl, rfl⟩, rfl, rfl, rfl, rfl, rfl, rfl⟩

/-! ### Vectors and configuration space -/

theorem countsOnly_sendPending (s : State) : CountsOnly s s.sendPending := by
  refine counts_foldl (fun t v => ?_) _ s
  rw [State.sendPendingOne]
  split
  · exact countsOnly_refl t
  · split
    · exact countsOnly_sendVector t v false
    · exact ⟨_, _, _, rfl⟩

theorem configWrite_takes {s : State} {w : ConfigWr} (hon : s.power.on = true) (hup : s.pcie.linkUp = true) (hok : configOk w = true) :
    execConfigWrite w s = .next (s.configWrite w) := by
  rw [execConfigWrite, if_neg (by simp [hok]), if_pos (by simp [hon, hup])]

theorem configWrite_busMaster (s : State) (on : Bool) :
    (s.configWrite (.busMaster on)).pcie.bme = on ∧ FabricStands s (s.configWrite (.busMaster on)) := by
  obtain ⟨_, _, _, h⟩ := countsOnly_sendPending { s with pcie := { s.pcie with bme := on } }
  rw [State.configWrite, h]
  exact ⟨rfl, rfl, rfl, rfl, rfl, rfl⟩

theorem configWrite_msix (s : State) (on mask : Bool) : (s.configWrite (.msix on mask)).pcie.msixEn = on ∧
    (s.configWrite (.msix on mask)).pcie.funcMask = mask ∧ FabricStands s (s.configWrite (.msix on mask)) := by
  obtain ⟨_, _, _, h⟩ := countsOnly_sendPending { s with pcie := { s.pcie with msixEn := on, funcMask := mask } }
  rw [State.configWrite, h]
  exact ⟨rfl, rfl, rfl, rfl, rfl, rfl, rfl⟩

theorem msixSend_sends {s : State} {v : Nat} (hv : v < 2048) (hholds : s.vectorHolds v = true) (hheld : s.vectorsHeld = false)
    (hmask : (s.pcie.msix.get {} v).masked = false) (hfunc : s.pcie.funcMask = false) (hen : s.pcie.msixEn = true)
    (hbme : s.pcie.bme = true) : execMsixSend v s =
      .next { s with out := .msix v :: s.out, pcie := { s.pcie with pba := s.pcie.pba.filter (· ≠ v) } } := by
  have hsend : s.sendVector v = { s with out := .msix v :: s.out, pcie := { s.pcie with pba := s.pcie.pba.filter (· ≠ v) } } := by
    unfold State.sendVector
    have hgoes : (s.vectorsHeld && !false || (s.pcie.msix.get {} v).masked || s.pcie.funcMask || !s.pcie.msixEn || !s.pcie.bme) = false := by
      rw [hheld, hmask, hfunc, hen, hbme]
      rfl
    dsimp only
    rw [if_neg (by rw [hgoes]; decide)]
  rw [execMsixSend, if_neg (Nat.not_le.mpr hv), if_pos hholds, hsend]

theorem msixUnmask_writes {s : State} {v addr : Nat} (data : W32) {masked : Bool} (hv : v < 2048) (haddr : addr < 2 ^ 64)
    (h : masked = true ∨ v ∉ s.pcie.pba) : execMsixUnmask v addr data masked s = .next { s with pcie := { s.pcie with
      msix := s.pcie.msix.put {} v { addr := addr, data := data, masked := masked } } } := by
  rw [execMsixUnmask, if_neg (Nat.not_le.mpr hv), if_neg (Nat.not_le.mpr haddr), State.writeMsix]
  dsimp only
  obtain h | h := h
  · rw [if_pos h]
  · cases masked with
    | true => rw [if_pos rfl]
    | false =>
      rw [if_neg (by decide), State.sendPendingOne, if_pos]
      simpa using h

/-! ### Errors of the link -/

theorem corrErr_counts (s : State) (b : Nat) : FabricStands s (s.corrErr b) ∧
    (s.corrErr b).reg .pcie 0 0x68 = satAdd (s.reg .pcie 0 0x68) 1 ∧
    (s.corrErr b).pcie.aerCorr = s.pcie.aerCorr ||| BitVec.ofNat 32 (2 ^ b) :=
  ⟨⟨rfl, rfl, rfl, rfl, rfl⟩, reg_bump_self s _ _ _, rfl⟩

theorem tlpError_corrected {s : State} {e : TlpErr} {b : Nat} (hon : s.power.on = true)
    (h : (e, b) ∈ [(TlpErr.receiver, 0), (.badTlp, 6), (.badDllp, 7), (.rollover, 8), (.replayTimeout, 12)]) :
    execTlpError e s = .next (s.corrErr b) := by
  simp only [List.mem_cons, Prod.mk.injEq, List.not_mem_nil, or_false] at h
  obtain ⟨rfl, rfl⟩ | ⟨rfl, rfl⟩ | ⟨rfl, rfl⟩ | ⟨rfl, rfl⟩ | ⟨rfl, rfl⟩ := h <;>
    simp only [execTlpError, Bool.not_true, Bool.false_eq_true, if_false, hon, if_true, State.tlpErr]

theorem tlpError_uncorrected {s : State} {e : TlpErr} {b : Nat} (hon : s.power.on = true)
    (h : (e, b) ∈ [(TlpErr.unsupported true, 20), (.unexpectedCompletion, 16), (.ecrc, 19), (.malformed, 18), (.overflow, 17),
      (.flowControl, 13), (.dataLink, 4)]) :
    execTlpError e s = .next { s with pcie := { s.pcie with aerStatus := s.pcie.aerStatus ||| BitVec.ofNat 32 (2 ^ b) } } := by
  simp only [List.mem_cons, Prod.mk.injEq, List.not_mem_nil, or_false] at h
  obtain ⟨rfl, rfl⟩ | ⟨rfl, rfl⟩ | ⟨rfl, rfl⟩ | ⟨rfl, rfl⟩ | ⟨rfl, rfl⟩ | ⟨rfl, rfl⟩ | ⟨rfl, rfl⟩ := h <;>
    simp only [execTlpError, Bool.not_true, Bool.false_eq_true, if_false, hon, if_true, State.tlpErr, State.logAer]

theorem poisonRx_counts (s : State) : FabricStands s s.poisonRx ∧ s.poisonRx.reg .pcie 0 0x5C = satAdd (s.reg .pcie 0 0x5C) 1 ∧
    s.poisonRx.pcie.aerStatus = s.pcie.aerStatus ||| 0x1000 := by
  have hreg : s.poisonRx.reg .pcie 0 0x5C = satAdd (s.reg .pcie 0 0x5C) 1 :=
    (latchEvt_reg_ne _ _ _ _ _ _ _ (by decide)).trans (reg_bump_self (s.logAer 12) _ _ _)
  have hcounts : CountsOnly (s.logAer 12) s.poisonRx := (countsOnly_bump _ _ _ _).trans (countsOnly_latchEvt _ _ _ _)
  refine ⟨FabricStands.trans (b := s.logAer 12) ⟨rfl, rfl, rfl, rfl, rfl⟩ (counts_stands hcounts), hreg, ?_⟩
  obtain ⟨_, _, _, h⟩ := hcounts
  rw [h]
  rfl

theorem tlpError_poisoned {s : State} (hon : s.power.on = true) : execTlpError .poisonedWrite s = .next s.poisonRx := by
  simp only [execTlpError, Bool.not_true, Bool.false_eq_true, if_false, hon, if_true, State.tlpErr]

theorem completionTimeout_bosun {s : State} (hon : s.power.on = true) (hbusy : s.bosun.busy = true) :
    ∃ t, execCompletionTimeout .bosun s = .next t ∧ FabricStands s t ∧ t.bosun = { s.bosun with bad := true } ∧
      t.reg .pcie 0 0x60 = satAdd (s.reg .pcie 0 0x60) 1 ∧ t.pcie.aerStatus = s.pcie.aerStatus ||| 0x4000 := by
  have hreg : (((s.logAer 14).bump .pcie 0 0x60).latchEvt .pcie 0 4).reg .pcie 0 0x60 = satAdd (s.reg .pcie 0 0x60) 1 :=
    (latchEvt_reg_ne _ _ _ _ _ _ _ (by decide)).trans (reg_bump_self (s.logAer 14) _ _ _)
  have hcounts := (countsOnly_bump (s.logAer 14) .pcie 0 0x60).trans (countsOnly_latchEvt _ .pcie 0 4)
  have hexec : execCompletionTimeout .bosun s = .next ((((s.logAer 14).bump .pcie 0 0x60).latchEvt .pcie 0 4).readerFails .bosun) := by
    simp only [execCompletionTimeout, readerOk, hon, Bool.not_true, Bool.false_eq_true, if_false]
  refine ⟨_, hexec, ?_⟩
  generalize ((s.logAer 14).bump .pcie 0 0x60).latchEvt .pcie 0 4 = v at hreg hcounts
  obtain ⟨r, o, x, h⟩ := hcounts
  have hbosun : v.bosun = s.bosun := by rw [h]; rfl
  have hpcie : v.pcie.aerStatus = s.pcie.aerStatus ||| 0x4000 := by rw [h]; rfl
  have hstands : FabricStands s v := by rw [h]; exact ⟨rfl, rfl, rfl, rfl, rfl⟩
  rw [State.readerFails, if_pos (by rw [hbosun, hbusy])]
  exact ⟨hstands, by rw [← hbosun], hreg, hpcie⟩

/-! ### Registers of the PCIE page -/

theorem pcieControl_reg : findReg .pcie 0x44 = pcieRegs.find? (fun d => d.covers 0x44) := rfl

theorem retrain_trains {s : State} {v : W32} (htakes : Takes s .pcie) (hbit : v.toNat.testBit 3 = true) (hmin : 1 ≤ v.toNat % 8)
    (hmax : v.toNat % 8 ≤ 6) (hlock : s.pageLocked .pcie 0 = false) (hup : s.pcie.linkUp = true) :
    ∃ t, execRetrain v s = .next t ∧ FabricStands s t ∧ t.pcie = { s.pcie with training := true } ∧ t.reg .pcie 0 0x44 = v &&& 7 := by
  have hwoken : s.woken .pcie = s := rfl
  obtain ⟨d, hd⟩ : ∃ d, findReg .pcie 0x44 = some d := Option.isSome_iff_exists.mp (by decide)
  have hwrite : s.writePcieCtl v = { s.setReg .pcie 0 0x44 (v &&& 7) with pcie := { s.pcie with training := true } } := by
    have hup' : (s.setReg .pcie 0 0x44 (v &&& 7)).pcie.linkUp = true := hup
    rw [State.writePcieCtl]
    dsimp only
    rw [if_neg (by omega), hlock]
    simp only [Bool.false_eq_true, if_false]
    rw [if_pos ⟨hbit, hup'⟩]
    rfl
  have hexec : execRetrain v s = .next (s.writePcieCtl v) := by
    rw [execRetrain, if_pos hbit, State.hostWrite, State.onPage_takes _ _ _ _ _ _ htakes, hwoken, State.writeReg, hd]
    simp only [State.writeBlock, ne_eq, not_true, decide_false, Bool.and_false, Bool.false_eq_true, if_false, if_true, Nat.reduceLT]
  refine ⟨_, hexec, ?_⟩
  rw [hwrite]
  exact ⟨⟨rfl, rfl, rfl, rfl, rfl⟩, rfl, State.reg_setReg_self _ _ _ _ _⟩

theorem bar2BaseWrite_moves {s : State} {v : W32} {base : Nat} (htakes : Takes s .pcie)
    (hbase : (s.reg .pcie 0 0x48).toNat / 2 ^ 21 * 2 ^ 21 + 2 ^ 32 * (v.toNat % 2 ^ 16) = base) (hmax : base + 2 ^ 36 ≤ 2 ^ 48) :
    ∃ t, execBar2BaseWrite v s = .next t ∧ FabricStands s t ∧ t.pcie = { s.pcie with bar2Base := base } ∧
      t.reg .pcie 0 0x4C = v &&& 0xFFFF := by
  have hwoken : s.woken .pcie = s := rfl
  obtain ⟨d, hd⟩ : ∃ d, findReg .pcie 0x4C = some d := Option.isSome_iff_exists.mp (by decide)
  have hwrite : s.writeBar2Base v = { s.setReg .pcie 0 0x4C (v &&& 0xFFFF) with pcie := { s.pcie with bar2Base := base } } := by
    rw [State.writeBar2Base]
    dsimp only
    rw [hbase, if_neg (Nat.not_lt.mpr hmax)]
    rfl
  have hexec : execBar2BaseWrite v s = .next (s.writeBar2Base v) := by
    rw [execBar2BaseWrite, State.hostWrite, State.onPage_takes _ _ _ _ _ _ htakes, hwoken, State.writeReg, hd]
    simp only [State.writeBlock, ne_eq, not_true, decide_false, Bool.and_false, Bool.false_eq_true, if_false, if_true, Nat.reduceLT,
      Nat.reduceEqDiff]
  refine ⟨_, hexec, ?_⟩
  rw [hwrite]
  exact ⟨⟨rfl, rfl, rfl, rfl, rfl⟩, rfl, State.reg_setReg_self _ _ _ _ _⟩

/-! ### BAR2 -/

/-- A request within one 32-byte word is one piece. -/
theorem wordPieces_one {a n : Nat} (hmin : 1 ≤ n) (hone : a % 32 + n ≤ 32) : wordPieces (n / 32 + 2) a n = [(a, n)] := by
  have hk : min n (32 - a % 32) = n := Nat.min_eq_left (by omega)
  rw [wordPieces, if_neg (by omega)]
  dsimp only
  rw [hk, Nat.sub_self, wordPieces, if_pos rfl]

/-- What of a BAR2 access does not depend on the cycle. -/
theorem bar2_atCycle {s : State} {offset : Nat} (cycle : Nat) (hservice : s.inService = true)
    (hlevel : s.reef.level < 2) (hopen : s.bar2Open (s.pcie.bar2Base + offset) = true) :
    (s.atCycle cycle).power.on = true ∧ (s.atCycle cycle).pcie = s.pcie ∧ (s.atCycle cycle).inService = true ∧
      (s.atCycle cycle).reef.level < 2 ∧ (s.atCycle cycle).bar2Open (s.pcie.bar2Base + offset) = true := by
  obtain ⟨c, hc⟩ := s.atCycle_frame cycle
  have hon : s.power.on = true := by
    rw [State.inService] at hservice
    simp only [Bool.and_eq_true] at hservice
    exact hservice.2
  rw [hc]
  exact ⟨hon, rfl, hservice, hlevel, hopen⟩

theorem wake_shallow {s : State} (cause hi : Nat) {lo : Nat} (h : s.reef.level < lo) : s.wake cause lo hi = s := by
  rw [State.wake, if_neg (by omega)]

/-- A write of BAR2 with its bytes, or a read of `len`. -/
def bar2Serve (u : State) (offset len : Nat) : Option (List Byte) → State
  | some l => u.bar2Write offset l
  | none => u.bar2Read offset len

theorem bar2Access_reaches {s : State} {offset cycle len : Nat} {data : Option (List Byte)} (hservice : s.inService = true)
    (hd3 : s.pcie.d3hot = false) (hlevel : s.reef.level < 2) (hopen : s.bar2Open (s.pcie.bar2Base + offset) = true)
    (hmin : 1 ≤ (data.map (·.length)).getD len) (hmax : (data.map (·.length)).getD len ≤ 32)
    (hspan : offset + (data.map (·.length)).getD len ≤ 2 ^ 36) :
    execBar2Access offset cycle len data s = .next (bar2Serve (s.atCycle cycle) offset len data) := by
  obtain ⟨hon, hpcie, hservice', hlevel', _⟩ := bar2_atCycle cycle hservice hlevel hopen
  have hd3' : (s.atCycle cycle).pcie.d3hot = false := by rw [hpcie, hd3]
  rw [execBar2Access]
  dsimp only
  rw [if_neg (by omega), if_neg (by rw [hon]; decide), if_neg (by rw [hd3']; decide), if_neg (by rw [hservice']; decide),
    if_neg (by omega), wake_shallow 3 3 hlevel']
  cases data <;> rfl

theorem bar2Access_writes {s : State} {offset n : Nat} (cycle : Nat) {l : List Byte} (hservice : s.inService = true)
    (hd3 : s.pcie.d3hot = false) (hlevel : s.reef.level < 2) (hmin : 1 ≤ n) (hone : (s.pcie.bar2Base + offset) % 32 + n ≤ 32)
    (hspan : offset + n ≤ 2 ^ 36) (hopen : s.bar2Open (s.pcie.bar2Base + offset) = true) (hlen : l.length = n) :
    execBar2Access offset cycle 0 (some l) s = .next ((s.atCycle cycle).writeBytes 6 (s.pcie.bar2Base + offset) l) := by
  obtain ⟨_, hpcie, _, _, hopen'⟩ := bar2_atCycle cycle hservice hlevel hopen
  subst hlen
  rw [bar2Access_reaches (data := some l) hservice hd3 hlevel hopen hmin (by change l.length ≤ 32; omega) hspan]
  simp only [bar2Serve, State.bar2Write, hpcie, wordPieces_one hmin hone, List.foldl_cons, List.foldl_nil, List.all_cons, List.all_nil,
    hopen', if_true, Bool.and_true, Nat.sub_self, List.drop_zero, List.take_length]

theorem bar2Access_reads {s : State} {offset cycle n : Nat} {d : List Byte} (hservice : s.inService = true)
    (hd3 : s.pcie.d3hot = false) (hlevel : s.reef.level < 2) (hmin : 1 ≤ n) (hone : (s.pcie.bar2Base + offset) % 32 + n ≤ 32)
    (hspan : offset + n ≤ 2 ^ 36) (hopen : s.bar2Open (s.pcie.bar2Base + offset) = true)
    (hread : (s.atCycle cycle).readBytes 6 (s.pcie.bar2Base + offset) n = (d, false, s.atCycle cycle)) :
    execBar2Access offset cycle n none s = .next ((s.atCycle cycle).emit (.completion d false)) := by
  obtain ⟨_, hpcie, _, _, hopen'⟩ := bar2_atCycle cycle hservice hlevel hopen
  rw [bar2Access_reaches (data := none) hservice hd3 hlevel hopen hmin (by change n ≤ 32; omega) hspan]
  simp only [bar2Serve, State.bar2Read, hpcie, wordPieces_one hmin hone, List.foldl_cons, List.foldl_nil, List.all_cons, List.all_nil,
    hopen', if_true, Bool.and_true, hread, Bool.false_or, Bool.false_eq_true, if_false, List.nil_append]

/-! ### The page header -/

theorem header_reg (p : Page) : (findReg p 0x14).isSome = true ∧ (findReg p 0x18).isSome = true ∧ (findReg p 0x1C).isSome = true ∧
    (findReg p 0x0C).isSome = true ∧ (findReg p 0x38).isSome = true := by
  cases p <;> decide

theorem regAddr_reef_ne (p : Page) (i : Nat) {off : Nat} (h : off < 0x40) : regAddr p i off ≠ regAddr .reef 0 0x4C := by
  have hbase : p.base % 0x1000 = 0 := by cases p <;> decide
  have hreef : regAddr .reef 0 0x4C = 0x304C := rfl
  rw [hreef, regAddr]
  omega

/-- A write of the page header by the host. -/
theorem pageRow_header {s : State} {p : Page} {i off : Nat} (v : W32) (htakes : Takes s p) (hi : i < p.count) (hoff : off < 0x40)
    (hreg : (findReg p off).isSome = true) : pageRow p i off v s = .next ((s.woken p).writeHeader p i off v) := by
  obtain ⟨d, hd⟩ := Option.isSome_iff_exists.mp hreg
  rw [pageRow, if_neg (Nat.not_le.mpr hi), State.hostWrite, State.onPage_takes _ _ _ _ _ _ htakes, State.writeReg, hd]
  dsimp only
  rw [if_pos hoff]

theorem woken_header (s : State) (p q : Page) (i : Nat) {off : Nat} (h : off < 0x40) : (s.woken p).reg q i off = s.reg q i off :=
  woken_reg_ne s _ _ _ _ (regAddr_reef_ne q i h)

/-- Sending a vector again leaves the registers. -/
theorem resendVector_sends (s : State) (p : Page) (i : Nat) :
    ∃ o x, s.resendVector p i = { s with out := o, pcie := { s.pcie with pba := x } } := by
  rw [State.resendVector]
  split
  · exact s.sendVector_frame _ _
  · exact ⟨_, _, rfl⟩

section
variable {s : State} {p : Page} {i : Nat} (htakes : Takes s p) (hi : i < p.count)
include htakes hi

theorem evtLatch_clears (v : W32) : ∃ t, execEvtLatchWrite p i 0x14 v s = .next t ∧ FabricStands s t ∧
    t.reg p i 0x14 = s.reg p i 0x14 &&& ~~~v := by
  obtain ⟨o, x, hsent⟩ := resendVector_sends ((s.woken p).setReg p i 0x14 ((s.woken p).reg p i 0x14 &&& ~~~v)) p i
  refine ⟨_, by rw [execEvtLatchWrite, if_pos (Or.inl rfl), pageRow_header v htakes hi (by decide) (header_reg p).1], ?_⟩
  rw [State.writeHeader, State.writeEvt, hsent]
  exact ⟨FabricStands.trans (b := s.woken p) (woken_stands s p) ⟨rfl, rfl, rfl, rfl, rfl⟩,
    (State.reg_setReg_self _ _ _ _ _).trans (by rw [woken_header s p p i (by decide)])⟩

theorem evtEnable_writes (v : W32) : ∃ t, execEvtLatchWrite p i 0x18 v s = .next t ∧ FabricStands s t ∧
    t.reg p i 0x18 = v &&& BitVec.ofNat 32 (2 ^ p.evtBits - 1) := by
  obtain ⟨o, x, hsent⟩ := resendVector_sends ((s.woken p).setReg p i 0x18 (v &&& BitVec.ofNat 32 (2 ^ p.evtBits - 1))) p i
  refine ⟨((s.woken p).setReg p i 0x18 (v &&& BitVec.ofNat 32 (2 ^ p.evtBits - 1))).resendVector p i,
    by rw [execEvtLatchWrite, if_pos (Or.inr (Or.inl rfl)), pageRow_header v htakes hi (by decide) (header_reg p).2.1]; rfl, ?_⟩
  rw [hsent]
  exact ⟨FabricStands.trans (b := s.woken p) (woken_stands s p) ⟨rfl, rfl, rfl, rfl, rfl⟩, State.reg_setReg_self _ _ _ _ _⟩

theorem evtForce_sets (v : W32) : ∃ t, execEvtLatchWrite p i 0x1C v s = .next t ∧ FabricStands s t ∧
    t.reg p i 0x14 = s.reg p i 0x14 ||| (v &&& BitVec.ofNat 32 (2 ^ p.evtBits - 1)) := by
  generalize hu : (s.woken p).setReg p i 0x14 ((s.woken p).reg p i 0x14 ||| (v &&& BitVec.ofNat 32 (2 ^ p.evtBits - 1))) = u
  have hreg : u.reg p i 0x14 = s.reg p i 0x14 ||| (v &&& BitVec.ofNat 32 (2 ^ p.evtBits - 1)) := by
    rw [← hu, State.reg_setReg_self, woken_header s p p i (by decide)]
  have hstands : FabricStands s u := by
    rw [← hu]
    exact FabricStands.trans (b := s.woken p) (woken_stands s p) ⟨rfl, rfl, rfl, rfl, rfl⟩
  refine ⟨_, by rw [execEvtLatchWrite, if_pos (Or.inr (Or.inr rfl)), pageRow_header v htakes hi (by decide) (header_reg p).2.2.1], ?_⟩
  rw [State.writeHeader, State.writeEvt]
  · rw [hu]
    split
    · obtain ⟨o, x, hsent⟩ := u.sendVector_frame 0 true
      rw [hsent]
      exact ⟨hstands, hreg⟩
    · obtain ⟨o, x, hsent⟩ := resendVector_sends u p i
      rw [hsent]
      exact ⟨hstands, hreg⟩
  · decide
  · decide

theorem errClr_clears (hctl : p.pageCtlIgnored = false) : ∃ t, execErrClr p i s = .next t ∧ FabricStands s t ∧ t.reg p i 0x34 = 0 ∧
    p.base + i * 0x1000 ∉ t.captHeld := by
  refine ⟨_, by rw [execErrClr, pageRow_header 4 htakes hi (by decide) (header_reg p).2.2.2.1], ?_⟩
  have hwrite : (s.woken p).writeHeader p i 0x0C 4 = (s.woken p).errClr p i := by
    rw [State.writeHeader, State.writePageCtl, if_neg (by simp [hctl])]
    rfl
  rw [hwrite]
  refine ⟨FabricStands.trans (b := s.woken p) (woken_stands s p) ⟨rfl, rfl, rfl, rfl, rfl⟩, State.reg_setReg_self _ _ _ _ _, ?_⟩
  change p.base + i * 0x1000 ∉ (s.woken p).captHeld.filter (· ≠ p.base + i * 0x1000)
  simp

theorem pageLock_locks : ∃ t, execPageLock p i s = .next t ∧ FabricStands s t ∧ t.reg p i 0x38 = 1 := by
  refine ⟨_, by rw [execPageLock, pageRow_header 1 htakes hi (by decide) (header_reg p).2.2.2.2], ?_⟩
  have hwrite : (s.woken p).writeHeader p i 0x38 1 = (s.woken p).setReg p i 0x38 1 := rfl
  rw [hwrite]
  exact ⟨FabricStands.trans (b := s.woken p) (woken_stands s p) ⟨rfl, rfl, rfl, rfl, rfl⟩, State.reg_setReg_self _ _ _ _ _⟩

/-- A soft reset of a page whose control register is not ignored. -/
theorem softReset_exec (hctl : p.pageCtlIgnored = false) : execSoftReset p i s = .next ((s.woken p).softReset p i 2) := by
  have hwrite : (s.woken p).writeHeader p i 0x0C 2 = (s.woken p).softReset p i 2 := by
    rw [State.writeHeader, State.writePageCtl, if_neg (by simp [hctl])]
    rfl
  rw [execSoftReset, pageRow_header 2 htakes hi (by decide) (header_reg p).2.2.2.1, hwrite]

end

theorem softReset_eth {s : State} {i : Nat} (htakes : Takes s .eth) (hi : i < Page.count .eth) :
    ∃ t, execSoftReset .eth i s = .next t ∧ FabricStands s t ∧ t.reg .eth i 0x40 = (s.port i).flashCfg ∧
      (t.port i).linkUp = false ∧ (t.port i).nbr = none := by
  obtain ⟨hport, hfallen, _⟩ := linkFalls_falls (s := s.woken .eth) (p := i)
  generalize hv : (s.woken .eth).linkFalls i = v at hport hfallen
  have hwoken : (s.woken .eth).port i = s.port i := port_of_net (woken_net s .eth) i
  have hflash : (v.port i).flashCfg = (s.port i).flashCfg := by rw [hport, hwoken]
  have hreset : (s.woken .eth).softReset .eth i 2 = ((v.blockRegsReset .eth i).setPort i { v.port i with
      nbr := none, nbrMultiple := false }).setReg .eth i 0x40 (s.port i).flashCfg := by
    rw [← hflash, ← hv]
    rfl
  have hset := becomes_setPort (v.blockRegsReset .eth i) i { v.port i with nbr := none, nbrMultiple := false }
  refine ⟨_, softReset_exec htakes hi rfl, ?_⟩
  rw [hreset]
  refine ⟨FabricStands.trans (FabricStands.trans (woken_stands s .eth) hfallen) (FabricStands.trans (b := v.blockRegsReset .eth i)
    ⟨rfl, rfl, rfl, rfl, rfl⟩ (FabricStands.trans hset.stands ⟨rfl, rfl, rfl, rfl, rfl⟩)), State.reg_setReg_self _ _ _ _ _, ?_⟩
  change (((v.blockRegsReset .eth i).setPort i { v.port i with nbr := none, nbrMultiple := false }).port i).linkUp = false ∧
    (((v.blockRegsReset .eth i).setPort i { v.port i with nbr := none, nbrMultiple := false }).port i).nbr = none
  rw [hset.port]
  exact ⟨by rw [hport], rfl⟩

theorem softReset_pcie {s : State} {i : Nat} (htakes : Takes s .pcie) (hi : i < Page.count .pcie) :
    ∃ t, execSoftReset .pcie i s = .next t ∧ FabricStands s t ∧ t.pcie = { s.pcie with bar2Base := 0 } :=
  ⟨_, softReset_exec htakes hi rfl, ⟨rfl, rfl, rfl, rfl, rfl⟩, rfl⟩

/-- Ending a session leaves none. -/
theorem endSession_ends (s : State) : s.endSession.tt.session = false := by
  rw [State.endSession]
  split
  · rw [State.dropSession]
    split
    · rw [counts_tt ((countsOnly_disarm _).trans (countsOnly_latchEvt _ _ _ _))]
    · rfl
  · next h => exact Bool.eq_false_of_not_eq_true h

theorem softReset_telltale {s : State} {i : Nat} (htakes : Takes s .telltale) (hi : i < Page.count .telltale) :
    ∃ t, execSoftReset .telltale i s = .next t ∧ t.tt.session = false :=
  ⟨_, softReset_exec htakes hi rfl, endSession_ends (s.woken .telltale)⟩

/-! ### Accesses of BAR0 and BAR4 -/

theorem pageOf_lt {a i : Nat} {p : Page} (h : pageOf a = some (p, i)) : a < 0x4000000 := by
  have hspan : ∀ p : Page, p.base + p.count * 0x1000 ≤ 0x4000000 := fun p => by cases p <;> decide
  obtain ⟨q, _, hq⟩ := List.mem_filterMap.mp (List.mem_of_head? h)
  split at hq
  · next hin => exact Nat.lt_of_lt_of_le hin.2 (hspan q)
  · cases hq

/-- The plain 32-bit registers of O56: the block stores what is written. -/
theorem writeReg_plain {p : Page} {off : Nat} (h : (p, off) ∈
      [(Page.muster, 0x40), (.muster, 0x44), (.keep, 0x50), (.keep, 0x54), (.bosun, 0x100), (.halyard, 0x80)]) :
    pageOf (p.base + off) = some (p, 0) ∧ (p.base + off) % 0x1000 = off ∧ (p.base + off) % 4 = 0 ∧ p.base + off + 4 ≤ 0x4000000 ∧
      ∀ (s : State) (v : W32), s.writeReg p 0 off v = s.setReg p 0 off v := by
  have hwritten (o n : Nat) (locked : Bool) (old v : W32) :
      RDesc.written { off := o, fields := [rw 0 32], count := n } locked old v = v := tolerance_written locked old v
  have hplain (o n : Nat) : RDesc.maskOf { off := o, fields := [rw 0 32], count := n } [.rwl] = 0 := rfl
  simp only [List.mem_cons, Prod.mk.injEq, List.not_mem_nil, or_false] at h
  obtain ⟨rfl, rfl⟩ | ⟨rfl, rfl⟩ | ⟨rfl, rfl⟩ | ⟨rfl, rfl⟩ | ⟨rfl, rfl⟩ | ⟨rfl, rfl⟩ := h
  · refine ⟨by decide, by decide, by decide, by decide, fun s v => ?_⟩
    have hreg : findReg .muster 0x40 = some { off := 0x40, fields := [rw 0 32] } := by decide
    simp only [State.writeReg, hreg, State.writeBlock, hplain, hwritten, ne_eq, not_true, decide_false, Bool.and_false, Bool.false_and,
      Bool.false_eq_true, if_false, Nat.reduceLT, Nat.reduceEqDiff]
  · refine ⟨by decide, by decide, by decide, by decide, fun s v => ?_⟩
    have hreg : findReg .muster 0x44 = some { off := 0x44, fields := [rw 0 32] } := by decide
    simp only [State.writeReg, hreg, State.writeBlock, hplain, hwritten, ne_eq, not_true, decide_false, Bool.and_false, Bool.false_and,
      Bool.false_eq_true, if_false, Nat.reduceLT, Nat.reduceEqDiff]
  · refine ⟨by decide, by decide, by decide, by decide, fun s v => ?_⟩
    have hreg : findReg .keep 0x50 = some { off := 0x50, fields := [rw 0 32] } := by decide
    simp only [State.writeReg, hreg, State.writeBlock, hplain, hwritten, ne_eq, not_true, decide_false, Bool.and_false, Bool.false_and,
      Bool.false_eq_true, if_false, Nat.reduceLT, Nat.reduceEqDiff, Nat.reduceLeDiff, false_and]
  · refine ⟨by decide, by decide, by decide, by decide, fun s v => ?_⟩
    have hreg : findReg .keep 0x54 = some { off := 0x54, fields := [rw 0 32] } := by decide
    simp only [State.writeReg, hreg, State.writeBlock, hplain, hwritten, ne_eq, not_true, decide_false, Bool.and_false, Bool.false_and,
      Bool.false_eq_true, if_false, Nat.reduceLT, Nat.reduceEqDiff, Nat.reduceLeDiff, false_and]
  · refine ⟨by decide, by decide, by decide, by decide, fun s v => ?_⟩
    have hreg : findReg .bosun 0x100 = some { off := 0x100, fields := [rw 0 32], count := 64 } := by decide
    simp only [State.writeReg, hreg, State.writeBlock, hplain, hwritten, ne_eq, not_true, decide_false, Bool.and_false, Bool.false_and,
      Bool.false_eq_true, if_false, Nat.reduceLT, Nat.reduceEqDiff]
  · refine ⟨by decide, by decide, by decide, by decide, fun s v => ?_⟩
    have hreg : findReg .halyard 0x80 = some { off := 0x80, fields := [rw 0 32], count := 16 } := by decide
    simp only [State.writeReg, hreg, State.writeBlock, hplain, hwritten, ne_eq, not_true, decide_false, Bool.and_false, Bool.false_and,
      Bool.false_eq_true, if_false, Nat.reduceLT, Nat.reduceEqDiff]

theorem takes_atCycle {s : State} {p : Page} (cycle : Nat) (h : Takes s p) : Takes (s.atCycle cycle) p := by
  obtain ⟨c, hc⟩ := s.atCycle_frame cycle
  rw [hc]
  exact h

theorem registerWrite_plain {s : State} {p : Page} {off : Nat} (cycle : Nat) (v : W32) (hon : s.power.on = true) (htakes : Takes s p)
    (h : (p, off) ∈ [(Page.muster, 0x40), (.muster, 0x44), (.keep, 0x50), (.keep, 0x54), (.bosun, 0x100), (.halyard, 0x80)]) :
    ∃ t, execRegisterWrite 0 (p.base + off) 4 cycle v s = .next t ∧ FabricStands s t ∧ t.reg p 0 off = v := by
  obtain ⟨hpage, hoff, halign, hmax, hwrite⟩ := writeReg_plain h
  have htakes' := takes_atCycle cycle htakes
  have hon' : (s.atCycle cycle).power.on = true := by rw [atCycle_power, hon]
  have hpaged : (s.atCycle cycle).pageWrite p 0 off v (fun t => t.writeReg p 0 off v) =
      ((s.atCycle cycle).woken p).setReg p 0 off v := by
    have honPage := State.onPage_takes (s := s.atCycle cycle) p 0 off v (fun t => t.writeReg p 0 off v) htakes'
    rw [State.onPage, if_neg (by rw [htakes'.1]; decide)] at honPage
    rw [honPage, hwrite]
  refine ⟨((s.atCycle cycle).woken p).setReg p 0 off v, ?_, ?_, State.reg_setReg_self _ _ _ _ _⟩
  · rw [execRegisterWrite, if_neg (by omega)]
    dsimp only
    rw [if_neg (by rw [hon']; decide), if_neg (by rw [htakes'.1]; decide), if_pos rfl, State.bar0Write, hpage]
    dsimp only
    rw [if_pos ⟨rfl, halign⟩, hoff, hpaged]
  · exact FabricStands.trans (atCycle_stands s cycle) (FabricStands.trans (woken_stands (s.atCycle cycle) p) ⟨rfl, rfl, rfl, rfl, rfl⟩)

theorem registerWrite_doorbell {s : State} {n : Nat} (cycle : Nat) (v : W32) (hon : s.power.on = true) (hservice : s.inService = true)
    (hd3 : s.pcie.d3hot = false) (hn : n < 16384) : execRegisterWrite 4 (0x410000 + 16 * n) 4 cycle v s =
      .next ((s.windowed cycle).setQueue n { s.queue n with dbAddrLo := v }) := by
  obtain ⟨c, hc⟩ := s.atCycle_frame cycle
  have hon' : (s.atCycle cycle).power.on = true := by rw [hc]; exact hon
  have hd3' : (s.atCycle cycle).pcie.d3hot = false := by rw [hc]; exact hd3
  have hservice' : (s.atCycle cycle).inService = true := by rw [hc]; exact hservice
  have hindex : (0x410000 + 16 * n - 0x410000) / 16 = n := by omega
  have hqueue : ((s.atCycle cycle).wake 3 2 4).queue n = s.queue n := windowed_queue s cycle n
  rw [execRegisterWrite, if_neg (by omega)]
  dsimp only
  rw [if_neg (by rw [hon']; decide), if_neg (by rw [hd3']; decide), if_neg (by decide), State.bar4Write]
  dsimp only
  rw [if_neg (by omega), if_neg (by rw [hservice']; decide), if_neg (by omega), if_pos (by omega),
    if_neg (by rw [decide_eq_true (⟨rfl, by omega⟩ : 4 = 4 ∧ (0x410000 + 16 * n) % 4 = 0)]; decide), if_pos (by omega), hindex, hqueue]
  rfl

theorem registerRead_answers {s : State} {p : Page} {i a : Nat} {d : RDesc} (cycle : Nat) (hon : s.power.on = true)
    (hd3 : s.pcie.d3hot = false) (hserves : s.serves p = true) (hlevel : s.reef.level < 2) (hpage : pageOf a = some (p, i))
    (halign : a % 4 = 0) (hreg : findReg p (a % 0x1000) = some d) (hcompanion : d.companion = false) (hlatches : d.latches = false) :
    execRegisterRead 0 a 4 cycle s =
      .next ((s.atCycle cycle).emit (.completion (toLe 4 ((s.atCycle cycle).view p i (a % 0x1000)).toNat) false)) := by
  obtain ⟨c, hc⟩ := s.atCycle_frame cycle
  have hon' : (s.atCycle cycle).power.on = true := by rw [hc]; exact hon
  have hd3' : (s.atCycle cycle).pcie.d3hot = false := by rw [hc]; exact hd3
  have hserves' : (s.atCycle cycle).serves p = true := by rw [hc]; exact hserves
  have hlevel' : (s.atCycle cycle).reef.level < 2 := by rw [hc]; exact hlevel
  have hmax := pageOf_lt hpage
  have hoff : a % 0x1000 / 4 * 4 = a % 0x1000 := by omega
  have hone : (a % 4 + 4 + 3) / 4 = 1 := by omega
  have hread : (s.atCycle cycle).readReg p i (a % 0x1000) = ((s.atCycle cycle).view p i (a % 0x1000), s.atCycle cycle) := by
    simp only [State.readReg, hreg, hcompanion, hlatches, Bool.false_eq_true, if_false]
  have hbar : (s.atCycle cycle).bar0Read a 4 = (toLe 4 ((s.atCycle cycle).view p i (a % 0x1000)).toNat, s.atCycle cycle) := by
    rw [State.bar0Read, hpage]
    dsimp only
    rw [if_neg (by rw [hserves']; decide), wake_shallow 2 3 hlevel', ite_self, hoff, hone]
    simp only [State.readRegs, hread, halign, List.append_nil, List.drop_zero]
    rw [List.take_of_length_le (by rw [toLe_length])]
  rw [execRegisterRead, if_neg (by omega)]
  dsimp only
  rw [if_neg (by rw [hon']; decide), if_neg (by rw [hd3']; decide), if_pos rfl, hbar]

/-! ### Maxima -/

theorem tempMaxClr_clears {s : State} {k : Nat} (hk : k < 12) (htakes : Takes s .hbmc) : execTempMaxClr k s =
    .next ((s.woken .hbmc).setReg .hbmc k 0x60
      (BitVec.ofNat 32 ((s.reg .hbmc k 0x60).toNat % 256 + 256 * ((s.reg .hbmc k 0x60).toNat % 256)))) := by
  have hreg : (s.woken .hbmc).reg .hbmc k 0x60 = s.reg .hbmc k 0x60 :=
    woken_reg_ne s _ _ _ _ (by simp only [regAddr, Page.base]; omega)
  rw [execTempMaxClr, if_neg (by omega), State.onPage_takes _ _ _ _ _ _ htakes, State.tempMaxClr, hreg]

theorem queueMaxClr_clears {s : State} {k : Nat} (hk : k < 12) (htakes : Takes s .mortar) : ∃ t, execQueueMaxClr k s = .next t ∧
    t.fabric.queueMax.get 0 (4800 + 32 * k + (s.reg .mortar k 0x40).toNat % 32) = 0 ∧ t.mem = s.mem := by
  have hreg : (s.woken .mortar).reg .mortar k 0x40 = s.reg .mortar k 0x40 :=
    woken_reg_ne s _ _ _ _ (by simp only [regAddr, Page.base]; omega)
  refine ⟨_, by rw [execQueueMaxClr, if_neg (by omega), State.onPage_takes _ _ _ _ _ _ htakes, State.queueMaxClr, hreg], ?_, ?_⟩
  · exact NMap.get_erase_self _ _ _
  · exact (woken_stands s .mortar).1

/-- Settles O56. -/
theorem hostLinkResults : Obligations.HostLinkResults := by
  unfold Obligations.HostLinkResults
  refine ⟨fun s pin hon => perst_resets pin hon, fun s gen width flit hon hmin hmax hwidth => pcieLinkUp_trains flit hon hmin hmax hwidth,
    fun s hon hup => ⟨fun on => configWrite_takes hon hup rfl, fun on => ⟨_, configWrite_takes hon hup rfl, configWrite_busMaster s on⟩,
      fun on mask => ⟨_, configWrite_takes hon hup rfl, configWrite_msix s on mask⟩, fun v => configWrite_takes hon hup rfl,
      fun addr halign hmax => configWrite_takes hon hup
        ((Bool.and_eq_true _ _).mpr ⟨decide_eq_true (Or.inl ⟨rfl, halign⟩), decide_eq_true hmax⟩)⟩,
    fun s hon => ⟨fun e b h => ⟨_, tlpError_corrected hon h, corrErr_counts s b⟩, fun e b h => tlpError_uncorrected hon h,
      ⟨_, tlpError_poisoned hon, poisonRx_counts s⟩, fun hbusy => completionTimeout_bosun hon hbusy⟩,
    fun s v hv => ⟨fun hholds hheld hmask hfunc hen hbme => msixSend_sends hv hholds hheld hmask hfunc hen hbme,
      fun addr data masked haddr h => msixUnmask_writes data hv haddr h⟩,
    fun s v htakes => ⟨fun hbit hmin hmax hlock hup => retrain_trains htakes hbit hmin hmax hlock hup,
      fun base hbase hmax => bar2BaseWrite_moves htakes hbase hmax⟩,
    fun s offset cycle n l d hservice hd3 hlevel hmin hone hspan hopen => ⟨fun hlen => ⟨_,
      bar2Access_writes cycle hservice hd3 hlevel hmin hone hspan hopen hlen, rfl, ?_⟩,
      fun hread => bar2Access_reads hservice hd3 hlevel hmin hone hspan hopen hread⟩,
    fun s p i v htakes hi => ⟨evtLatch_clears htakes hi v, evtEnable_writes htakes hi v, evtForce_sets htakes hi v,
      errClr_clears htakes hi, pageLock_locks htakes hi, ?_, ?_, ?_⟩,
    fun s cycle hon => ⟨fun p off v htakes h => registerWrite_plain cycle v hon htakes h, fun n v hservice hd3 hn =>
      registerWrite_doorbell cycle v hon hservice hd3 hn, fun p i a d hd3 hserves hlevel hpage halign hreg hcompanion hlatches =>
      registerRead_answers cycle hon hd3 hserves hlevel hpage halign hreg hcompanion hlatches⟩,
    fun s k hk => ⟨tempMaxClr_clears hk, queueMaxClr_clears hk⟩⟩
  · rw [(memOnly_writeBytes (s.atCycle cycle) 6 _ l false).cores]
    exact atCycle_cores s cycle
  · rintro rfl
    exact softReset_eth htakes hi
  · rintro rfl
    exact softReset_pcie htakes hi
  · rintro rfl
    exact softReset_telltale htakes hi

end Sys2Proof.Proofs.HostLink
end

section
/-!
PROOFS. What the functions of the model keep: memory with its check symbols, the number of the stroke, and the debug port but for a halt
that waits. Here are the functions that write no memory, among those that run at the start of a stroke (02 R77, 10 R390, 12 R478 to
R494) and where a crew dissolves (11 R443).
-/

namespace Sys2Proof.Proofs.StoreKept

open Sys2Proof Sys2Proof.Machine

/-- Memory with its check symbols; the number of the stroke, and the debug port without a halt that waits. -/
structure Kept where
  store : List Host.Cell × NMap W32
  port : Nat × Telltale

def kept (s : State) : Kept := ⟨(s.mem, s.ecc), (s.stroke.now, { s.tt with haltAt := none })⟩

/-- Of a state written out. -/
@[simp] theorem kept_mk (regs : NMap W32) (hiLatch : NMap W32) (captHeld : List Nat) (mem : List Host.Cell) (ecc : NMap W32)
    (stroke : StrokeUnit) (fabric : Fabric) (cores : NMap Core) (spill : Spill) (rounds : Rounds) (cipher : CipherEng)
    (weights : WeightsIo) (net : Net) (pcie : Pcie) (boot : Boot) (ten : Tenancy) (keep : Keep) (reef : Reef) (power : Power)
    (tt : Telltale) (bosun muster halyardCmd keepCmd : CmdSt) (spillCmd : NMap CmdSt) (mtCmd ttMem : CmdSt) (free : Nat)
    (out : List Out) (pending : List Instr) :
    kept ⟨regs, hiLatch, captHeld, mem, ecc, stroke, fabric, cores, spill, rounds, cipher, weights, net, pcie, boot, ten, keep,
      reef, power, tt, bosun, muster, halyardCmd, keepCmd, spillCmd, mtCmd, ttMem, free, out, pending⟩ =
    ⟨(mem, ecc), (stroke.now, { tt with haltAt := none })⟩ := rfl

@[simp] theorem kept_eta (s : State) : (⟨(s.mem, s.ecc), (s.stroke.now, { s.tt with haltAt := none })⟩ : Kept) = kept s := rfl

@[simp] theorem kept_ite (c : Prop) [Decidable c] (a b : State) :
    kept (if c then a else b) = if c then kept a else kept b := apply_ite kept c a b

@[simp] theorem foldl_kept {α : Type} (f : State → α → State) (l : List α) (s : State) (h : ∀ t a, kept (f t a) = kept t) :
    kept (l.foldl f s) = kept s := by
  induction l generalizing s with
  | nil => rfl
  | cons a l ih => rw [List.foldl_cons, ih, h]

/-! ### Registers, messages, events and HAIL -/

@[simp] theorem setReg_kept (s : State) (p : Page) (i off : Nat) (v : W32) :
    kept (s.setReg p i off v) = kept s := by
  simp [State.setReg]

@[simp] theorem bump64_kept (s : State) (p : Page) (i off n : Nat) :
    kept (s.bump64 p i off n) = kept s := by
  simp [State.bump64]

@[simp] theorem emit_kept (s : State) (o : Out) :
    kept (s.emit o) = kept s := by
  simp [State.emit]

@[simp] theorem sendHail_kept (s : State) (port typ : Nat) (body : List Byte) (key : Option (List Byte)) :
    kept (s.sendHail port typ body key) = kept s := by
  simp [State.sendHail]

@[simp] theorem sendPeer_kept (s : State) (id typ : Nat) (body : List Byte) :
    kept (s.sendPeer id typ body) = kept s := by
  simp [State.sendPeer]

@[simp] theorem sendVector_kept (s : State) (v : Nat) (special : Bool) :
    kept (s.sendVector v special) = kept s := by
  simp [State.sendVector]

@[simp] theorem latchEvt_kept (s : State) (p : Page) (i : Nat) (mask : Nat) :
    kept (s.latchEvt p i mask) = kept s := by
  simp [State.latchEvt]

@[simp] theorem setHail_kept (s : State) (h : Hail) :
    kept (s.setHail h) = kept s := by
  simp [State.setHail]

@[simp] theorem setHalyard_kept (s : State) (h : Halyard) :
    kept (s.setHalyard h) = kept s := by
  simp [State.setHalyard]

@[simp] theorem dropPeers_kept (s : State) :
    kept (s.dropPeers) = kept s := by
  rfl

@[simp] theorem leaveHail_kept (s : State) (result : Nat) :
    kept (s.leaveHail result) = kept s := by
  simp [State.leaveHail]

@[simp] theorem setRound_kept (s : State) (b : Nat) (r : Round) :
    kept (s.setRound b r) = kept s := by
  simp [State.setRound]

@[simp] theorem modRound_kept (s : State) (b : Nat) (f : Round → Round) :
    kept (s.modRound b f) = kept s := by
  simp [State.modRound]

@[simp] theorem raiseHere_kept (s : State) (b reason : Nat) :
    kept (s.raiseHere b reason) = kept s := by
  simp [State.raiseHere]

@[simp] theorem faultCrewRounds_kept (s : State) :
    kept (s.faultCrewRounds) = kept s := by
  simp [State.faultCrewRounds]

@[simp] theorem dissolveCrew_kept (s : State) :
    kept (s.dissolveCrew) = kept s := by
  simp [State.dissolveCrew]

@[simp] theorem clearPsk_kept (s : State) :
    kept (s.clearPsk) = kept s := by
  simp [State.clearPsk]

@[simp] theorem dissolve_kept (s : State) :
    kept (s.dissolve) = kept s := by
  simp [State.dissolve]

/-! ### Queues, their events and their producers -/

@[simp] theorem setQueue_kept (s : State) (n : Nat) (q : Queue) :
    kept (s.setQueue n q) = kept s := by
  simp [State.setQueue]

@[simp] theorem bumpBy_kept (s : State) (p : Page) (i off n : Nat) :
    kept (s.bumpBy p i off n) = kept s := by
  simp [State.bumpBy]

@[simp] theorem bump_kept (s : State) (p : Page) (i off : Nat) :
    kept (s.bump p i off) = kept s := by
  simp [State.bump]

@[simp] theorem matchHalt_kept (s : State) (cause hit : Nat) :
    kept (s.matchHalt cause hit) = kept s := by
  simp [State.matchHalt]

@[simp] theorem bpHit_kept (s : State) (b : Nat) :
    kept (s.bpHit b) = kept s := by
  simp [State.bpHit]

@[simp] theorem bpMatch_kept (s : State) (kind : Nat) (f : Nat → Bool) :
    kept (s.bpMatch kind f) = kept s := by
  simp [State.bpMatch]

@[simp] theorem bpQueue_kept (s : State) (n bit : Nat) :
    kept (s.bpQueue n bit) = kept s := by
  simp [State.bpQueue]

@[simp] theorem queueEvt_kept (s : State) (n bit : Nat) :
    kept (s.queueEvt n bit) = kept s := by
  simp [State.queueEvt]

@[simp] theorem queueOverrun_kept (s : State) (n : Nat) :
    kept (s.queueOverrun n) = kept s := by
  simp [State.queueOverrun]

@[simp] theorem doorLast_kept (s : State) (n code : Nat) :
    kept (s.doorLast n code) = kept s := by
  simp [State.doorLast]

@[simp] theorem doorOpen_kept (s : State) (n : Nat) :
    kept (s.doorOpen n) = kept s := by
  simp [State.doorOpen]

@[simp] theorem breakDwells_kept (s : State) :
    kept (s.breakDwells) = kept s := by
  simp [State.breakDwells]

@[simp] theorem startExit_kept (s : State) (cause : Nat) :
    kept (s.startExit cause) = kept s := by
  simp [State.startExit]

@[simp] theorem wake_kept (s : State) (cause lo hi : Nat) :
    kept (s.wake cause lo hi) = kept s := by
  simp [State.wake]

@[simp] theorem evalZone_kept (s : State) (n : Nat) :
    kept (s.evalZone n) = kept s := by
  unfold State.evalZone; dsimp only; repeat' split
  all_goals simp

@[simp] theorem notice_kept (s : State) (n : Nat) :
    kept (s.notice n) = kept s := by
  simp [State.notice]

@[simp] theorem itemDone_kept (s : State) (n : Nat) :
    kept (s.itemDone n) = kept s := by
  unfold State.itemDone; split <;> simp

@[simp] theorem putPacket_kept (s : State) (n : Nat) (p : Producer) (words : List W256) (bytes qpn decision : Nat) :
    kept (s.putPacket n p words bytes qpn decision).2 = kept s := by
  unfold State.putPacket; dsimp only; repeat' split
  all_goals simp

@[simp] theorem unitItem_kept (s : State) (n : Nat) (p : Producer) (words : List W256) (bytes qpn decision : Nat) :
    kept (s.unitItem n p words bytes qpn decision) = kept s := by
  simp [State.unitItem]

@[simp] theorem flushedClose_kept (s : State) (n : Nat) (p : Producer) :
    kept (s.flushedClose n p) = kept s := by
  simp [State.flushedClose]

@[simp] theorem openPacket_kept (s : State) (n : Nat) (p : Producer) (w : QWord) :
    kept (s.openPacket n p w).2 = kept s := by
  unfold State.openPacket; dsimp only; repeat' split
  all_goals simp

@[simp] theorem flushedWord_kept (s : State) (n : Nat) :
    kept (s.flushedWord n) = kept s := by
  simp [State.flushedWord]

@[simp] theorem closeOpen_kept (s : State) (n : Nat) :
    kept (s.closeOpen n).2 = kept s := by
  unfold State.closeOpen; dsimp only; repeat' split
  all_goals simp

@[simp] theorem putMarker_kept (s : State) (n : Nat) (p : Producer) (w : QWord) :
    kept (s.putMarker n p w).2 = kept s := by
  unfold State.putMarker; dsimp only; repeat' split
  all_goals simp

@[simp] theorem abandonOpen_kept (s : State) (n cause : Nat) :
    kept (s.abandonOpen n cause) = kept s := by
  simp [State.abandonOpen]

@[simp] theorem pushData_kept (s : State) (n : Nat) (w : QWord) :
    kept (s.pushData n w).2 = kept s := by
  unfold State.pushData; dsimp only; repeat' split
  all_goals simp

@[simp] theorem produce_kept (s : State) (n : Nat) (p : Producer) (op : Nat) (w : W256) (bad : Bool) :
    kept (s.produce n p op w bad).2 = kept s := by
  unfold State.produce; dsimp only; repeat' split
  all_goals simp

@[simp] theorem unitMarker_kept (s : State) (n : Nat) (p : Producer) (w : W256) :
    kept (s.unitMarker n p w) = kept s := by
  simp [State.unitMarker]

@[simp] theorem winProd_kept (s : State) (n op : Nat) (w : W256) :
    kept (s.winProd n op w) = kept s := by
  unfold State.winProd; dsimp only; repeat' split
  all_goals simp

@[simp] theorem doorWords_kept (s : State) (n : Nat) (l : List (List Byte)) :
    kept (s.doorWords n l) = kept s := by
  simp [State.doorWords]

@[simp] theorem doorEnd_kept (s : State) (n : Nat) (data : Option (List Byte)) :
    kept (s.doorEnd n data) = kept s := by
  unfold State.doorEnd; repeat' split
  all_goals simp

@[simp] theorem applyHeldOp_kept (s : State) (op : HeldOp) : kept (s.applyHeldOp op) = kept s := by
  cases op <;> simp [State.applyHeldOp]

@[simp] theorem applyHeld_kept (s : State) : kept s.applyHeld = kept s := by
  simp [State.applyHeld]

/-! ### Queue pairs and the responder -/

@[simp] theorem setQp_kept (s : State) (i : Nat) (q : Qp) :
    kept (s.setQp i q) = kept s := by
  simp [State.setQp]

@[simp] theorem modQp_kept (s : State) (i : Nat) (f : Qp → Qp) :
    kept (s.modQp i f) = kept s := by
  simp [State.modQp]

@[simp] theorem requestSeen_kept (s : State) :
    kept (s.requestSeen) = kept s := by
  simp [State.requestSeen]

@[simp] theorem nak_kept (s : State) (i psn kind : Nat) :
    kept (s.nak i psn kind) = kept s := by
  simp [State.nak]

@[simp] theorem writeCq_kept (s : State) (i : Nat) (r : SentReq) (status : Nat) :
    kept (s.writeCq i r status) = kept s := by
  simp [State.writeCq]

@[simp] theorem takeWr_kept (s : State) (n : Nat) :
    kept (s.takeWr n) = kept s := by
  simp [State.takeWr]

@[simp] theorem flushSq_kept (fuel i : Nat) (s : State) :
    kept (s.flushSq fuel i) = kept s := by
  induction fuel generalizing s with
  | zero => rfl
  | succ n ih =>
    unfold State.flushSq; repeat' split
    all_goals simp [ih]

@[simp] theorem flushDone_kept (fuel i : Nat) (s : State) :
    kept (s.flushDone fuel i) = kept s := by
  induction fuel generalizing s with
  | zero => rfl
  | succ n ih =>
    unfold State.flushDone; repeat' split
    all_goals simp [ih]

@[simp] theorem completions_kept (s : State) (i : Nat) :
    kept (s.completions i) = kept s := by
  simp [State.completions]

@[simp] theorem producerStops_kept (s : State) (n : Nat) (p : Producer) :
    kept (s.producerStops n p) = kept s := by
  unfold State.producerStops; dsimp only; repeat' split
  all_goals simp

@[simp] theorem qpError_kept (s : State) (i cause : Nat) :
    kept (s.qpError i cause) = kept s := by
  simp [State.qpError]

@[simp] theorem nakError_kept (s : State) (i psn kind : Nat) :
    kept (s.nakError i psn kind) = kept s := by
  simp [State.nakError]

@[simp] theorem feed_kept (s : State) (i addr fmt q base : Nat) (bad : Bool) (l : List Byte) :
    kept (s.feed i addr fmt q base bad l) = kept s := by
  simp [State.feed]

@[simp] theorem sprayOpen_kept (s : State) (i : Nat) (q : Qp) (p : Packet) :
    kept (s.sprayOpen i q p) = kept s := by
  simp [State.sprayOpen]

@[simp] theorem withKey_kept (s : State) (i : Nat) (q : Qp) (psn key : Nat) (right : Right) (va n al : Nat) (f : RKey → Nat → State)
    (hf : ∀ k off, kept (f k off) = kept s) : kept (s.withKey i q psn key right va n al f) = kept s := by
  unfold State.withKey
  split
  · exact hf _ _
  all_goals simp

@[simp] theorem cachePages_kept (s : State) (key : Nat) (l : List (Nat × Nat)) :
    kept (s.cachePages key l) = kept s := by
  simp [State.cachePages]

@[simp] theorem odpMiss_kept (s : State) (i key page psn : Nat) (resp : Bool) :
    kept (s.odpMiss i key page psn resp).2 = kept s := by
  unfold State.odpMiss; split <;> simp

@[simp] theorem sendNotices_kept (fuel : Nat) (s : State) :
    kept (s.sendNotices fuel) = kept s := by
  induction fuel generalizing s with
  | zero => rfl
  | succ n ih =>
    unfold State.sendNotices; repeat' split
    all_goals simp [ih]

@[simp] theorem deliverNotices_kept (s : State) :
    kept (s.deliverNotices) = kept s := by
  simp [State.deliverNotices]

@[simp] theorem advance1_kept (s : State) (i n : Nat) :
    kept (s.advance1 i n) = kept s := by
  simp [State.advance1]

@[simp] theorem sprayAdvance_kept (s : State) (fuel i : Nat) : kept (State.sprayAdvance fuel i s) = kept s := by
  induction fuel generalizing s with
  | zero => rfl
  | succ n ih =>
    unfold State.sprayAdvance
    dsimp only
    repeat' split
    all_goals simp [ih]

@[simp] theorem modSpray_kept (s : State) (i base : Nat) (f : SprayCtx → SprayCtx) :
    kept (s.modSpray i base f) = kept s := by
  simp [State.modSpray]

@[simp] theorem sprayTake_kept (s : State) (i : Nat) (p : Packet) :
    kept (s.sprayTake i p) = kept s := by
  simp [State.sprayTake]

/-! ### Memory errors and watch windows -/

@[simp] theorem captMem_kept (s : State) (p : Page) (i addr kind requester : Nat) (syndrome : W32) :
    kept (s.captMem p i addr kind requester syndrome) = kept s := by
  simp [State.captMem]

@[simp] theorem countCorrected_kept (s : State) (a req : Nat) (syn : W32) :
    kept (s.countCorrected a req syn) = kept s := by
  unfold State.countCorrected; repeat' split
  all_goals simp

@[simp] theorem countUncorrectable_kept (s : State) (a req : Nat) (syn : W32) :
    kept (s.countUncorrectable a req syn) = kept s := by
  unfold State.countUncorrectable; repeat' split
  all_goals simp

@[simp] theorem countPoisonRead_kept (s : State) (a req : Nat) :
    kept (s.countPoisonRead a req) = kept s := by
  unfold State.countPoisonRead; split <;> simp

@[simp] theorem wwHit_kept (s : State) (w req : Nat) :
    kept (s.wwHit w req) = kept s := by
  simp [State.wwHit]

@[simp] theorem watched_kept (s : State) (a n kind req : Nat) :
    kept (s.watched a n kind req) = kept s := by
  simp [State.watched]

/-! ### Packets at the responder -/

@[simp] theorem noticeStep_kept (s : State) (qp base : Nat) :
    kept (s.noticeStep qp base) = kept s := by
  simp [State.noticeStep]

@[simp] theorem ackLater_kept (s : State) (i psn : Nat) :
    kept (s.ackLater i psn) = kept s := by
  simp [State.ackLater]

@[simp] theorem dropStale_kept (s : State) :
    kept (s.dropStale) = kept s := by
  simp [State.dropStale]

@[simp] theorem cnp_kept (s : State) (i : Nat) :
    kept (s.cnp i) = kept s := by
  simp [State.cnp]

@[simp] theorem receive_kept (s : State) (p : Packet) (wasHeld : Bool) :
    kept (s.receive p wasHeld).2 = kept s := by
  unfold State.receive; repeat' split
  all_goals simp

@[simp] theorem closeMsg_kept (s : State) (n : Nat) (p : Producer) (qpn len : Nat) :
    kept (s.closeMsg n p qpn len) = kept s := by
  simp [State.closeMsg]

@[simp] theorem pushWords_kept (s : State) (n : Nat) (p : Producer) (bad : Bool) (l : List W256) :
    kept (s.pushWords n p bad l) = kept s := by
  simp [State.pushWords]

@[simp] theorem openMsg_kept (s : State) (n : Nat) (p : Producer) (bad : Bool) (l : List W256) :
    kept (s.openMsg n p bad l) = kept s := by
  unfold State.openMsg; split <;> simp

@[simp] theorem landUd_kept (s : State) (i : Nat) (q : Qp) (p : Packet) :
    kept (s.landUd i q p) = kept s := by
  simp [State.landUd]

@[simp] theorem datagram_kept (s : State) (p : Packet) (wasHeld : Bool) :
    kept (s.datagram p wasHeld) = kept s := by
  unfold State.datagram; dsimp only; repeat' split
  all_goals simp

@[simp] theorem dupAck_kept (s : State) (i psn : Nat) :
    kept (s.dupAck i psn) = kept s := by
  simp [State.dupAck]

@[simp] theorem dupAtomic_kept (s : State) (i : Nat) (q : Qp) (p : Packet) :
    kept (s.dupAtomic i q p) = kept s := by
  unfold State.dupAtomic; split <;> simp

@[simp] theorem landSend_kept (s : State) (i : Nat) (q : Qp) (p : Packet) :
    kept (s.landSend i q p) = kept s := by
  unfold State.landSend; dsimp only; repeat' split
  all_goals simp

@[simp] theorem seqNak_kept (s : State) (i : Nat) :
    kept (s.seqNak i) = kept s := by
  simp [State.seqNak]

@[simp] theorem placeAcc_kept (s : State) (i : Nat) (p : Packet) (m : RxMsg) (k : RKey) (off : Nat) :
    kept (s.placeAcc i p m k off) = kept s := by
  simp [State.placeAcc]

@[simp] theorem landAcc_kept (s : State) (i : Nat) (q : Qp) (p : Packet) :
    kept (s.landAcc i q p) = kept s := by
  unfold State.landAcc; repeat' split
  all_goals simp

/-! ### The synchronisation mode and the epoch -/

@[simp] theorem setSync_kept (s : State) (x : SyncState) (held : Bool) :
    kept (s.setSync x held) = kept s := by
  unfold State.setSync; repeat' split
  all_goals simp

@[simp] theorem syncFromMode_kept (s : State) (held : Bool) :
    kept (s.syncFromMode held) = kept s := by
  unfold State.syncFromMode; split <;> simp

@[simp] theorem draw_kept (s : State) :
    kept (s.draw).2 = kept s := by
  simp [State.draw]

@[simp] theorem newEpoch_kept (s : State) :
    kept (s.newEpoch) = kept s := by
  simp [State.newEpoch]

end Sys2Proof.Proofs.StoreKept
end

section
/-!
PROOFS. What the functions that write memory keep: its canonical form, the number of the stroke, and the debug port but for a halt that
waits; and what the start of a stroke (02 R77) and the restart of a halted module (19 R687, R688) leave.
-/

namespace Sys2Proof.Proofs.StoreKept
open Sys2Proof Sys2Proof.Machine

/-! ### What writes memory keeps its form -/

/-- Memory and check symbols in canonical form (13 R512). -/
def Tidy (m : List Host.Cell × NMap W32) : Prop := Memory.wf m.1 = true ∧ NMap.wf (0 : W32) m.2 = true

/-- From `a` to `b` the stroke and the debug port stand, and memory stays in canonical form. -/
structure Sound (a b : Kept) : Prop where
  port : b.port = a.port
  tidy : Tidy a.store → Tidy b.store

@[simp] theorem Sound.refl (a : Kept) : Sound a a := ⟨rfl, id⟩

theorem Sound.trans {a b c : Kept} (h : Sound a b) (k : Sound b c) : Sound a c :=
  ⟨k.port.trans h.port, fun w => k.tidy (h.tidy w)⟩

theorem Sound.foldl {α : Type} {f : State → α → State} (h : ∀ s a, Sound (kept s) (kept (f s a))) (l : List α) (s : State) :
    Sound (kept s) (kept (l.foldl f s)) := by
  induction l generalizing s with
  | nil => exact .refl _
  | cons a l ih => exact (h s a).trans (ih (f s a))

variable (s : State)

@[simp] theorem storeWord_sound (w : Nat) (l : List Byte) (d : W32) : Sound (kept s) (kept (s.storeWord w l d)) :=
  ⟨rfl, s.storeWord_wf w l d⟩

@[simp] theorem touchBed_sound (w : Nat) : Sound (kept s) (kept (s.touchBed w)) := by
  unfold State.touchBed
  dsimp only
  split
  · exact storeWord_sound s _ _ _
  · simp

@[simp] theorem writeWord_sound (w : Nat) (l : List Byte) (bad : Bool) : Sound (kept s) (kept (s.writeWord w l bad)) :=
  (touchBed_sound s w).trans (storeWord_sound _ _ _ _)

@[simp] theorem readWord_sound (req w : Nat) : Sound (kept s) (kept (s.readWord req w).2.2) := by
  unfold State.readWord
  split
  · simp
  dsimp only
  split
  · simp
  · simp
  · rw [countCorrected_kept]
    split <;> simp
  · rw [countUncorrectable_kept]
    split <;> simp

@[simp] theorem mergeWord_sound (req w o : Nat) (l : List Byte) (bad : Bool) : Sound (kept s) (kept (s.mergeWord req w o l bad)) :=
  (touchBed_sound s w).trans ((readWord_sound _ req w).trans (storeWord_sound _ _ _ _))

@[simp] theorem writeFuel_sound (fuel req a : Nat) (l : List Byte) (bad : Bool) :
    Sound (kept s) (kept (s.writeFuel fuel req a l bad)) := by
  induction fuel generalizing s a l with
  | zero => exact .refl _
  | succ n ih =>
    unfold State.writeFuel
    dsimp only
    split
    · simp
    · refine Sound.trans ?_ (ih _ _ _)
      split <;> simp

@[simp] theorem writeBytes_sound (req a : Nat) (l : List Byte) (bad : Bool) : Sound (kept s) (kept (s.writeBytes req a l bad)) :=
  watched_kept s a l.length 2 req ▸ writeFuel_sound _ _ req a l bad

@[simp] theorem readWords_sound (req w n : Nat) : Sound (kept s) (kept (s.readWords req w n).2.2) := by
  induction n generalizing s w with
  | zero => exact .refl _
  | succ n ih => exact (readWord_sound s req w).trans (ih _ _)

@[simp] theorem readBytes_sound (req a n : Nat) : Sound (kept s) (kept (s.readBytes req a n).2.2) := by
  unfold State.readBytes
  split
  · simp
  · exact watched_kept s a n 1 req ▸ readWords_sound _ req _ _

/-! ### Packets at the responder -/

@[simp] theorem regionRead_sound (key : Nat) (k : RKey) (off n : Nat) (host : List Byte) :
    Sound (kept s) (kept (s.regionRead key k off n host).2.2) := by
  unfold State.regionRead
  split <;> simp

theorem hostWrites_kept (l : List (Nat × Nat)) (a : State × List Byte) :
    kept (l.foldl (fun (a : State × List Byte) (e : Nat × Nat) => (a.1.emit (.hostWrite e.1 (a.2.take e.2)), a.2.drop e.2)) a).1 =
      kept a.1 := by
  induction l generalizing a with
  | nil => rfl
  | cons e l ih => rw [List.foldl_cons, ih, emit_kept]

@[simp] theorem regionWrite_sound (key : Nat) (k : RKey) (off : Nat) (l : List Byte) (bad : Bool) :
    Sound (kept s) (kept (s.regionWrite key k off l bad)) := by
  unfold State.regionWrite
  split
  · rw [hostWrites_kept]
    exact .refl _
  · simp

theorem withKey_sound (i : Nat) (q : Qp) (psn key : Nat) (right : Right) (va n al : Nat) (f : RKey → Nat → State)
    (hf : ∀ k off, Sound (kept s) (kept (f k off))) : Sound (kept s) (kept (s.withKey i q psn key right va n al f)) := by
  unfold State.withKey
  split
  · exact hf _ _
  all_goals simp

theorem withPages_sound (i psn key : Nat) (k : RKey) (off n : Nat) (pages : List (Nat × Nat)) (f : State → State)
    (hf : ∀ t, Sound (kept t) (kept (f t))) : Sound (kept s) (kept (s.withPages i psn key k off n pages f)) := by
  unfold State.withPages
  dsimp only
  split
  · exact Sound.trans (by simp) (hf _)
  · simp

@[simp] theorem placeWrite_sound (i : Nat) (q : Qp) (p : Packet) (m : RxMsg) (k : RKey) (off : Nat) :
    Sound (kept s) (kept (s.placeWrite i q p m k off)) := by
  unfold State.placeWrite
  dsimp only
  split
  · simp
  split
  · simp
  · exact withPages_sound _ _ _ _ _ _ _ _ _ fun t => by simp

@[simp] theorem landWrite_sound (i : Nat) (q : Qp) (p : Packet) : Sound (kept s) (kept (s.landWrite i q p)) := by
  unfold State.landWrite
  dsimp only
  repeat' split
  · simp
  · simp
  · simp
  · exact withKey_sound _ _ _ _ _ _ _ _ _ _ fun k off => by simp

@[simp] theorem doAtomic_sound (i : Nat) (q : Qp) (p : Packet) : Sound (kept s) (kept (s.doAtomic i q p)) := by
  refine withKey_sound _ _ _ _ _ _ _ _ _ _ fun k off => ?_
  dsimp only
  repeat' split
  · simp
  · simp
  · rw [modQp_kept]
    exact (regionRead_sound s _ _ _ _ _).trans (regionWrite_sound _ _ _ _ _ _)

@[simp] theorem readResponses_sound (fuel i : Nat) (p : Packet) (rk : RKey) (off k n : Nat) :
    Sound (kept s) (kept (State.readResponses fuel s i p rk off k n)) := by
  induction fuel generalizing s k with
  | zero => exact .refl _
  | succ m ih =>
    unfold State.readResponses
    dsimp only
    repeat' split
    · simp
    · simp
    · exact Sound.trans (by simp) (ih _ _)

@[simp] theorem doRead_sound (i : Nat) (q : Qp) (p : Packet) (fresh : Bool) : Sound (kept s) (kept (s.doRead i q p fresh)) :=
  withKey_sound _ _ _ _ _ _ _ _ _ _ fun _ _ => withPages_sound _ _ _ _ _ _ _ _ _ fun _ =>
    Sound.trans (by simp) (readResponses_sound _ _ _ _ _ _ _ _)

@[simp] theorem sprayPlace_sound (i : Nat) (q : Qp) (p : Packet) (fresh : Bool) : Sound (kept s) (kept (s.sprayPlace i q p fresh)) := by
  refine withKey_sound _ _ _ _ _ _ _ _ _ _ fun k off => ?_
  dsimp only
  split
  · repeat' split
    all_goals simp
  split
  · simp
  · exact withPages_sound _ _ _ _ _ _ _ _ _ fun t => by simp

@[simp] theorem landSpray_sound (i : Nat) (q : Qp) (p : Packet) : Sound (kept s) (kept (s.landSpray i q p)) := by
  unfold State.landSpray
  dsimp only
  repeat' split
  all_goals simp

theorem request_sound (p : Packet) (wasHeld : Bool) (dup f : State → Nat → Qp → State)
    (hdup : ∀ t i q, Sound (kept t) (kept (dup t i q))) (hf : ∀ t i q, Sound (kept t) (kept (f t i q))) :
    Sound (kept s) (kept (s.request p wasHeld dup f)) := by
  unfold State.request
  dsimp only
  repeat' split
  · simp
  · simp
  · simp
  · exact Sound.trans (by simp) (hf _ _ _)
  · exact Sound.trans (by simp) (hdup _ _ _)
  · simp

@[simp] theorem takePacket_sound (p : Packet) (wasHeld : Bool) : Sound (kept s) (kept (s.takePacket p wasHeld)) := by
  have hdup (t : State) (i : Nat) (_ : Qp) : Sound (kept t) (kept (t.dupAck i p.psn)) := by simp
  unfold State.takePacket
  dsimp only
  split
  · exact request_sound _ _ _ _ _ hdup fun t i q => by simp
  split
  · exact request_sound _ _ _ _ _ hdup fun t i q => by simp
  split
  · refine request_sound _ _ _ _ _ (fun t i q => by simp) fun t i q => ?_
    split <;> simp
  split
  · refine request_sound _ _ _ _ _ (fun t i q => by simp) fun t i q => ?_
    split <;> simp
  split
  · simp
  split
  · exact request_sound _ _ _ _ _ hdup fun t i q => by simp
  split
  · simp
  · split
    · split
      · simp
      · exact Sound.trans (by simp) (landSpray_sound ..)
    · simp

/-! ### The start of a stroke, and the restart of a halted one -/

@[simp] theorem applyHeldPackets_sound : Sound (kept s) (kept s.applyHeldPackets) := by
  unfold State.applyHeldPackets
  dsimp only
  rw [foldl_kept _ _ _ fun t p => by split <;> simp]
  exact Sound.trans (by simp) (Sound.foldl (fun t p => takePacket_sound t p true) _ _)

@[simp] theorem strokeStart_sound : Sound (kept s) (kept s.strokeStart) :=
  applyHeld_kept s ▸ applyHeldPackets_sound _

/-- A restart leaves the stroke, and the debug port with the module running (19 R687, R688). -/
theorem restart_port (derive : Bool) : (kept (s.restart derive)).port =
    (s.stroke.now, { s.tt with halted := false, stepping := false, trial := none, leaveCrew := false, haltAt := none }) := by
  unfold State.restart
  dsimp only
  rw [(strokeStart_sound _).port]
  split <;> split <;> simp

end Sys2Proof.Proofs.StoreKept
end

section
/-!
PROOFS. The TAP, the debug transport, sessions, halt and memory access (19 R671 to R697): O58.
-/

namespace Sys2Proof.Proofs.DebugPort

open Sys2Proof Sys2Proof.Machine Sys2Proof.Proofs.FieldRules Sys2Proof.Proofs.CoreStores Sys2Proof.Proofs.Registers
  Sys2Proof.Proofs.Erasures Sys2Proof.Proofs.PowerAndReef Sys2Proof.Proofs.StoreKept

/-! ### The TAP -/

theorem tapRow_live {s : State} (f : State → State) (h : s.tapLive = true) : tapRow s f = .next (f s) := by
  rw [tapRow, if_pos h]

theorem tapTrst_sets (s : State) : execTapTrst false s = .next { s with tt := { s.tt with trst := false } } ∧
    (s.tt.session = false → execTapTrst true s = .next { s with tt := { s.tt with trst := true, ir := 2 } }) := by
  refine ⟨rfl, fun h => ?_⟩
  rw [execTapTrst]
  dsimp only
  rw [if_pos rfl, State.endSession, if_neg (by simp [h])]

theorem boundaryScan_scans (s : State) (code cells : Nat) : ∃ x, FabricStands s (s.boundaryScan code cells true) ∧
    (s.boundaryScan code cells true).tt = { s.tt with ir := code, boundary := cells % 2 ^ 12 } ∧
    (s.boundaryScan code cells true).out = .debug 0 x :: s.out := by
  rw [State.boundaryScan]
  dsimp only
  rw [if_neg (by decide), State.emit_plain _ _ rfl]
  exact ⟨_, ⟨rfl, rfl, rfl, rfl, rfl⟩, rfl, rfl⟩

theorem tapExtest_scans {s : State} (cells : Nat) (hlive : s.tapLive = true) (hpins : s.pinsAllowed = true) :
    ∃ t x, execTapExtest cells s = .next t ∧ FabricStands s t ∧ t.tt = { s.tt with ir := 0x00, boundary := cells % 2 ^ 12 } ∧
      t.out = .debug 0 x :: s.out := by
  obtain ⟨x, h⟩ := boundaryScan_scans s 0x00 cells
  exact ⟨_, x, by rw [execTapExtest, tapRow_live _ hlive, hpins], h⟩

theorem tapSamplePreload_scans {s : State} (cells : Nat) (hlive : s.tapLive = true) (haccess : s.ttAccess ≠ 0) :
    ∃ t x, execTapSamplePreload cells s = .next t ∧ FabricStands s t ∧ t.tt = { s.tt with ir := 0x01, boundary := cells % 2 ^ 12 } ∧
      t.out = .debug 0 x :: s.out := by
  obtain ⟨x, h⟩ := boundaryScan_scans s 0x01 cells
  exact ⟨_, x, by rw [execTapSamplePreload, tapRow_live _ hlive, decide_eq_true haccess], h⟩

theorem tapSelect_exec {s : State} (f : State → State) (code : Nat) (hlive : s.tapLive = true)
    (hf : f s = s.tapSelect code true) : tapRow s f = .next { s with tt := { s.tt with ir := code } } := by
  rw [tapRow_live _ hlive, hf]
  rfl

/-! ### The debug transport -/

/-- The state in which a request is answered: DBG is the TAP's instruction. -/
def requested (s : State) : State := { s with tt := { s.tt with ir := 0x10 } }

/-- What an answer leaves: its result register, and its bits shifted out. -/
def answered (u : State) (addr status : Nat) (data : W32) : State :=
  ({ u with tt := { u.tt with resStatus := status, resAddr := addr, resData := data } } : State).emit (.debug status data)

/-- A request that the port serves is answered by its function. -/
theorem dbgRequest_served {s : State} {addr : Nat} (f : State → DbgAnswer) (hshut : s.ttShut = false) (halign : addr % 4 = 0)
    (hsmall : addr < 2 ^ 32) (hmapped : dbgPlace addr ≠ .unmapped) :
    s.dbgRequest addr 0 f = answered (f (requested s)).2.2 addr (f (requested s)).1 (f (requested s)).2.1 := by
  have hopen : (requested s).ttShut = false := hshut
  have hvalid : ¬ ((0 : Nat) ≠ 0 ∨ addr % 4 ≠ 0 ∨ addr ≥ 2 ^ 32 ∨ dbgPlace addr = .unmapped) := by
    rintro (h | h | h | h)
    · exact h rfl
    · exact h halign
    · exact Nat.not_le.mpr hsmall h
    · exact hmapped h
  have hselect : s.tapSelect 0x10 true = requested s := rfl
  rw [State.dbgRequest, hselect]
  dsimp only
  rw [if_neg (by simp [hopen]), if_neg hvalid, answered]

/-- An answer with status OK, from a state that kept the selected instruction and the time. -/
theorem answered_ok {s u : State} (addr : Nat) (data : W32) (hir : u.tt.ir = 0x10) (hnow : u.stroke.now = s.stroke.now) :
    Answered s (answered u addr 0 data) addr data := by
  rw [answered, State.emit_plain _ _ rfl]
  exact ⟨hir, rfl, rfl, rfl, List.mem_cons_self, hnow⟩

theorem answered_stands (u : State) (addr status : Nat) (data : W32) : FabricStands u (answered u addr status data) := by
  rw [answered, State.emit_plain _ _ rfl]
  exact ⟨rfl, rfl, rfl, rfl, rfl⟩

/-- The answer changes nothing but the result register and what is shifted out. -/
theorem answered_eq (u : State) (addr status : Nat) (data : W32) : answered u addr status data = { u with
    tt := { u.tt with resStatus := status, resAddr := addr, resData := data }, out := .debug status data :: u.out } := by
  rw [answered, State.emit_plain _ _ rfl]

/-- A write of a register of the TELLTALE page that the port serves. -/
theorem ttRow_served {s : State} {off : Nat} (v : W32) (mismatch : Option Nat) (hserved : DebugServed s) (halign : off % 4 = 0)
    (hpage : off < 0x1000) : ttRow off v mismatch s = .next (answered ((requested s).ttWrite off v mismatch).2.2 off
      ((requested s).ttWrite off v mismatch).1 ((requested s).ttWrite off v mismatch).2.1) := by
  have hplace : dbgPlace off = .page off := by rw [dbgPlace, if_pos hpage]
  rw [ttRow, tapRow_live _ hserved.1, dbgRequest_served _ hserved.2 halign (by omega) (by rw [hplace]; exact DbgPlace.noConfusion)]
  simp only [State.dbgWrite, hplace]

theorem ttDbgNop_answers {s : State} {addr : Nat} (hserved : DebugServed s) (halign : addr % 4 = 0) (hsmall : addr < 2 ^ 32)
    (hmapped : dbgPlace addr ≠ .unmapped) :
    ∃ t, execTtDbgNop addr 0 s = .next t ∧ FabricStands s t ∧ Answered s t addr 0 := by
  refine ⟨answered (requested s) addr 0 0, by rw [execTtDbgNop, tapRow_live _ hserved.1, dbgRequest_served _ hserved.2 halign hsmall hmapped]; rfl, ?_,
    answered_ok _ _ rfl rfl⟩
  exact FabricStands.trans (b := requested s) ⟨rfl, rfl, rfl, rfl, rfl⟩ (answered_stands _ _ _ _)

theorem ttDbgRead_answers {s : State} {addr : Nat} {d : RDesc} (hserved : DebugServed s) (halign : addr % 4 = 0) (hpage : addr < 0x1000)
    (hreg : findReg .telltale addr = some d) (hcompanion : d.companion = false) (hlatches : d.latches = false) :
    ∃ t, execTtDbgRead addr 0 s = .next t ∧ FabricStands s t ∧ Answered s t addr (s.view .telltale 0 addr) := by
  have hplace : dbgPlace addr = .page addr := by rw [dbgPlace, if_pos hpage]
  have hview : (requested s).view .telltale 0 addr = s.view .telltale 0 addr := rfl
  have hread : (requested s).dbgRead addr = (0, s.view .telltale 0 addr, requested s) := by
    simp only [State.dbgRead, hplace, State.readReg, hreg, hcompanion, hlatches, Bool.false_eq_true, if_false, hview]
  refine ⟨answered (requested s) addr 0 (s.view .telltale 0 addr), by rw [execTtDbgRead, tapRow_live _ hserved.1,
    dbgRequest_served _ hserved.2 halign (by omega) (by rw [hplace]; exact DbgPlace.noConfusion), hread], ?_, answered_ok _ _ rfl rfl⟩
  exact FabricStands.trans (b := requested s) ⟨rfl, rfl, rfl, rfl, rfl⟩ (answered_stands _ _ _ _)

/-! ### TT_CTL -/

/-- The operations of a value of TT_CTL with one bit, where it may be done. -/
theorem ttCtl_one {s : State} {v bit : Nat} (hbits : ((List.range 8).filter fun b => v.testBit b) = [bit])
    (hmay : (s.tt.session || decide (bit = 0 ∨ bit = 1 ∨ bit = 5 ∨ bit = 6)) = true) :
    s.ttCtl v = ((s.ttOp bit (v.testBit 5)).1, 0, (s.ttOp bit (v.testBit 5)).2.2) := by
  rw [State.ttCtl, hbits]
  simp only [List.foldl_cons, List.foldl_nil, dbgOk, hmay, if_true, Nat.zero_max]

theorem ttWrite_ctl (s : State) (v : W32) (mismatch : Option Nat) : s.ttWrite 0x40 v mismatch = s.ttCtl (v.toNat % 256) := by
  rw [State.ttWrite]
  dsimp only
  rw [if_pos rfl]

/-- A row that writes one operation of TT_CTL, whose answer is OK. -/
theorem ttRow_ctl {s u : State} {v : W32} {bit : Nat} (hserved : DebugServed s)
    (hbits : ((List.range 8).filter fun b => (v.toNat % 256).testBit b) = [bit])
    (hmay : (s.tt.session || decide (bit = 0 ∨ bit = 1 ∨ bit = 5 ∨ bit = 6)) = true)
    (hop : (requested s).ttOp bit ((v.toNat % 256).testBit 5) = dbgOk u) : ttRow 0x40 v none s = .next (answered u 0x40 0 0) := by
  have hmay' : ((requested s).tt.session || decide (bit = 0 ∨ bit = 1 ∨ bit = 5 ∨ bit = 6)) = true := hmay
  rw [ttRow_served v none hserved rfl (by decide), ttWrite_ctl, ttCtl_one hbits hmay', hop]
  rfl

theorem ttSessionOpen_opens {s : State} (hserved : DebugServed s) (hsession : s.tt.session = false) (hlc : s.keep.lc = .opened) :
    ∃ t, execTtSessionOpen s = .next t ∧ FabricStands s t ∧ Answered s t 0x40 0 ∧ t.tt.session = true ∧ t.tt.debugEnabled = true ∧
      t.reg .telltale 0 0x94 = satAdd (s.reg .telltale 0 0x94) 1 := by
  have hop : (requested s).ttOp 0 false = dbgOk (requested s).openSession := by
    have hsession' : (requested s).tt.session = false := hsession
    have hlc' : (requested s).keep.lc = .opened := hlc
    simp only [State.ttOp, State.ttOpen, hsession', hlc', Bool.false_eq_true, if_false]
  have hcounts := (countsOnly_bump ({ requested s with tt := { (requested s).tt with session := true, debugEnabled := true } })
    .telltale 0 0x94).trans (countsOnly_latchEvt _ .telltale 0 8)
  have hreg : ((requested s).openSession).reg .telltale 0 0x94 = satAdd (s.reg .telltale 0 0x94) 1 :=
    (latchEvt_reg_ne _ _ _ _ _ _ _ (by decide)).trans (reg_bump_self _ _ _ _)
  have htt : (requested s).openSession.tt = { (requested s).tt with session := true, debugEnabled := true } := counts_tt hcounts
  refine ⟨_, ttRow_ctl hserved (by decide) (by simp) hop, ?_, answered_ok _ _ ?_ ?_, ?_⟩
  · exact FabricStands.trans (FabricStands.trans (b := requested s) ⟨rfl, rfl, rfl, rfl, rfl⟩ (edge_openSession (requested s)).stands)
      (answered_stands _ _ _ _)
  · rw [htt]
    rfl
  · rw [(edge_openSession (requested s)).stroke]
    rfl
  · rw [answered_eq]
    exact ⟨by change (requested s).openSession.tt.session = true; rw [htt],
      by change (requested s).openSession.tt.debugEnabled = true; rw [htt], hreg⟩

theorem ttUnlock_unlocks {s : State} (hserved : DebugServed s) (hlc : s.keep.lc ≠ .sealed) (hcheck : s.unlockCheck s.tokenBytes = 8) :
    ∃ t, execTtUnlock s = .next t ∧ FabricStands s t ∧ Answered s t 0x40 0 ∧ t.tt.unlocked = true ∧ t.tt.unlockResult = 8 ∧
      t.tt.token = [] := by
  have hcheck' : (requested s).unlockCheck (requested s).tokenBytes = 8 := hcheck
  have hlc' : (requested s).keep.lc ≠ .sealed := hlc
  have hop : (requested s).ttOp 6 false = dbgOk { requested s with
      tt := { (requested s).tt with unlockResult := 8, token := [], unlocked := true } } := by
    simp only [State.ttOp, State.unlock, hcheck', hlc', ne_eq, not_true, not_false_eq_true, if_false, if_true]
  refine ⟨_, ttRow_ctl hserved (by decide) (by simp) hop, ?_, answered_ok _ _ rfl rfl, ?_⟩
  · exact FabricStands.trans (b := { requested s with tt := _ }) ⟨rfl, rfl, rfl, rfl, rfl⟩ (answered_stands _ _ _ _)
  · rw [answered_eq]
    exact ⟨rfl, rfl, rfl⟩

theorem ttUnlock_pends {s : State} (hserved : DebugServed s) (hlc : s.keep.lc = .sealed) (hcheck : s.unlockCheck s.tokenBytes = 8)
    (hhalted : s.tt.halted = false) :
    ∃ t, execTtUnlock s = .next t ∧ FabricStands s t ∧ Answered s t 0x40 0 ∧ t.tt.unlockPending = true ∧
      t.tt.unlockAt = some (effAt s s.stroke.cycle) ∧ t.tt.token = [] := by
  have hcheck' : (requested s).unlockCheck (requested s).tokenBytes = 8 := hcheck
  have hlc' : (requested s).keep.lc = .sealed := hlc
  have hhalted' : (requested s).tt.halted = false := hhalted
  have hop : (requested s).ttOp 6 false = dbgOk { requested s with tt := { (requested s).tt with
      unlockResult := 8, token := [], unlockPending := true, unlockAt := some (requested s).effStroke } } := by
    simp only [State.ttOp, State.unlock, hcheck', hlc', hhalted', ne_eq, not_true, Bool.false_eq_true, if_false]
  refine ⟨_, ttRow_ctl hserved (by decide) (by simp) hop, ?_, answered_ok _ _ rfl rfl, ?_⟩
  · exact FabricStands.trans (b := { requested s with tt := _ }) ⟨rfl, rfl, rfl, rfl, rfl⟩ (answered_stands _ _ _ _)
  · rw [answered_eq]
    exact ⟨rfl, rfl, rfl⟩

/-! ### With a session -/

theorem ttDbgWrite_writes {s : State} (cycle : Nat) (v : W32) (hserved : DebugServed s) (hsession : s.tt.session = true) :
    ∃ t, execTtDbgWrite 0x50 0 cycle v s = .next t ∧ FabricStands s t ∧ Answered s t 0x50 0 ∧ t.reg .telltale 0 0x50 = v &&& 0x1FFF := by
  obtain ⟨c, hc⟩ := s.atCycle_frame cycle
  have hwrite : (requested (s.atCycle cycle)).dbgWrite 0x50 v none =
      dbgOk ((requested (s.atCycle cycle)).setReg .telltale 0 0x50 (v &&& 0x1FFF)) := by
    have hplace : dbgPlace 0x50 = .page 0x50 := by decide
    have hsession' : (requested (s.atCycle cycle)).tt.session = true := by rw [hc]; exact hsession
    simp [State.dbgWrite, hplace, State.ttWrite, hsession']
  have hshut : (s.atCycle cycle).ttShut = false := by rw [hc]; exact hserved.2
  refine ⟨_, by rw [execTtDbgWrite, tapRow_live _ hserved.1, dbgRequest_served _ hshut rfl (by decide) (by decide), hwrite], ?_, ?_, ?_⟩
  · exact FabricStands.trans (b := (requested (s.atCycle cycle)).setReg .telltale 0 0x50 (v &&& 0x1FFF))
      (by rw [hc]; exact ⟨rfl, rfl, rfl, rfl, rfl⟩) (answered_stands _ _ _ _)
  · exact answered_ok _ _ (by rfl) (by rw [hc]; rfl)
  · rw [answered_eq]
    exact State.reg_setReg_self _ _ _ _ _

theorem ttSessionClose_closes {s : State} (hserved : DebugServed s) (hsession : s.tt.session = true) (hhalted : s.tt.halted = false) :
    ∃ t, execTtSessionClose s = .next t ∧ FabricStands s t ∧ Answered s t 0x40 0 ∧ t.tt.session = false ∧ t.tt.haltAt = none ∧
      t.tt.trial = none := by
  have hsession' : (requested s).tt.session = true := hsession
  have hhalted' : (requested s).tt.halted = false := hhalted
  have hop : (requested s).ttOp 1 false = dbgOk (requested s).dropSession := by
    simp only [State.ttOp, State.endSession, hsession', State.resume, hhalted', Bool.false_eq_true, if_false, if_true]
  have htt : (requested s).dropSession.tt = { (requested s).tt with
      session := false, halted := false, stepping := false, leaveCrew := false, haltAt := none, force := false, trial := none } := by
    rw [State.dropSession, if_pos hsession']
    exact counts_tt ((countsOnly_disarm _).trans (countsOnly_latchEvt _ _ _ _))
  have hedge := edge_dropSession (requested s)
  refine ⟨_, ttRow_ctl hserved (by decide) (by simp [hsession]) hop, ?_, answered_ok _ _ ?_ ?_, ?_⟩
  · exact FabricStands.trans (FabricStands.trans (b := requested s) ⟨rfl, rfl, rfl, rfl, rfl⟩ hedge.stands) (answered_stands _ _ _ _)
  · rw [htt]
    rfl
  · rw [hedge.stroke]
    rfl
  · rw [answered_eq]
    change (requested s).dropSession.tt.session = false ∧ (requested s).dropSession.tt.haltAt = none ∧
      (requested s).dropSession.tt.trial = none
    rw [htt]
    exact ⟨rfl, rfl, rfl⟩

theorem reefOnly_wake (s : State) (cause lo hi : Nat) : ReefOnly s (s.wake cause lo hi) := by
  rw [State.wake]
  split
  · exact (startExit_keeps s cause).1.only
  · exact .refl s

/-- A halt that may be made is noted for the stroke of its landing. -/
theorem ttHalt_notes {s : State} (force : Bool) (hhalted : s.tt.halted = false) (hnone : s.tt.haltAt = none) (hcrew : s.inCrew = false) :
    s.ttHalt force = dbgOk (({ s with tt := { s.tt with haltAt := some (s.effStroke, 1, 0) } } : State).wake 7 2 3) := by
  simp only [State.ttHalt, hhalted, hnone, hcrew, Bool.false_and, Bool.false_eq_true, if_false, Option.any_none, Bool.or_false]

theorem ttHalt_halts {s : State} (force : Bool) (cycle : Nat) (hserved : DebugServed s) (hsession : s.tt.session = true)
    (hclock : Clocked s) (hnone : s.tt.haltAt = none) (hcrew : s.inCrew = false) :
    ∃ t, execTtHalt force cycle s = .next t ∧ FabricStands s t ∧ Answered s t 0x40 0 ∧ t.tt.haltAt = some (effAt s cycle, 1, 0) ∧
      t.tt.halted = false := by
  have hcycle : s.atCycle cycle = { s with stroke := { s.stroke with cycle := cycle } } := by
    rw [State.atCycle, if_neg (by simp [hclock.1, hclock.2])]
  generalize hu : requested ({ s with stroke := { s.stroke with cycle := cycle } }) = u
  have heff : u.effStroke = effAt s cycle := by rw [← hu]; rfl
  have hnote (b : Bool) : u.ttHalt b = dbgOk (({ u with tt := { u.tt with haltAt := some (effAt s cycle, 1, 0) } } : State).wake 7 2 3) := by
    rw [← heff]
    exact ttHalt_notes b (by rw [← hu]; exact hclock.1) (by rw [← hu]; exact hnone) (by rw [← hu]; exact hcrew)
  have hreef := reefOnly_wake ({ u with tt := { u.tt with haltAt := some (effAt s cycle, 1, 0) } }) 7 2 3
  generalize ({ u with tt := { u.tt with haltAt := some (effAt s cycle, 1, 0) } } : State).wake 7 2 3 = w at hnote hreef
  have htt : w.tt = { u.tt with haltAt := some (effAt s cycle, 1, 0) } := hreef.tt
  have hsession' : u.tt.session = true := by rw [← hu]; exact hsession
  have hsession'' : w.tt.session = true := by rw [htt]; exact hsession'
  have hwrite : u.dbgWrite 0x40 (if force then 0x24 else 0x04) none = dbgOk w := by
    have hplace : dbgPlace 0x40 = .page 0x40 := by decide
    simp only [State.dbgWrite, hplace]
    rw [ttWrite_ctl]
    cases force with
    | true =>
      have hbits : ((List.range 8).filter fun b => ((0x24 : W32).toNat % 256).testBit b) = [2, 5] := by decide
      rw [if_pos rfl, State.ttCtl, hbits]
      simp only [List.foldl_cons, List.foldl_nil, dbgOk, hsession', hsession'', Bool.true_or, if_true, State.ttOp, hnote, Nat.max_self]
    | false =>
      have hbits : ((List.range 8).filter fun b => ((0x04 : W32).toNat % 256).testBit b) = [2] := by decide
      rw [if_neg (by decide), ttCtl_one hbits (by simp [hsession'])]
      simp only [State.ttOp, hnote, dbgOk]
  have hserved' : ({ s with stroke := { s.stroke with cycle := cycle } } : State).ttShut = false := hserved.2
  refine ⟨answered w 0x40 0 0, ?_, ?_, answered_ok _ _ ?_ ?_, ?_⟩
  · rw [execTtHalt, tapRow_live _ hserved.1, hcycle, dbgRequest_served _ hserved' rfl (by decide) (by decide), hu, hwrite]
    rfl
  · refine FabricStands.trans (FabricStands.trans (b := u) ?_ hreef.stands) (answered_stands _ _ _ _)
    rw [← hu]
    exact ⟨rfl, rfl, rfl, rfl, rfl⟩
  · rw [htt, ← hu]
    rfl
  · rw [hreef.stroke, ← hu]
    rfl
  · rw [answered_eq]
    change w.tt.haltAt = _ ∧ w.tt.halted = _
    rw [htt, ← hu]
    exact ⟨rfl, hclock.1⟩

/-! ### The isolated trial -/

theorem foldl_ashlar {α : Type} {f : Trial → α → Trial} (h : ∀ t a, (f t a).ashlar = t.ashlar) (l : List α) (t : Trial) :
    (l.foldl f t).ashlar = t.ashlar := by
  induction l generalizing t with
  | nil => rfl
  | cons a l ih => rw [List.foldl_cons, ih, h]

theorem trialCore_ashlar (s : State) (r : Rig) (t : Trial) (pos : Nat) : (s.trialCore r t pos).ashlar = t.ashlar := by
  unfold State.trialCore
  dsimp only
  split
  · rfl
  · split
    · rfl
    · split
      · rfl
      · split
        · rfl
        · split
          · split <;> rfl
          · split
            · split <;> rfl
            · rfl

theorem trialAdd_ashlar (s : State) (r : Rig) (t : Trial) : (s.trialAdd r t).ashlar = t.ashlar := by
  unfold State.trialAdd
  split <;> rfl

theorem trialCycle_ashlar (s : State) (r : Rig) (t : Trial) : (s.trialCycle r t).ashlar = t.ashlar := by
  unfold State.trialCycle
  dsimp only
  split
  · rfl
  · exact (trialAdd_ashlar _ _ _).trans (foldl_ashlar (fun t p => trialCore_ashlar s r t p) _ _)

theorem trialRun_ashlar (s : State) (r : Rig) (n : Nat) (t : Trial) : (s.trialRun r t n).ashlar = t.ashlar := by
  induction n generalizing t with
  | zero => rfl
  | succ n ih => rw [State.trialRun, ih, trialCycle_ashlar]

theorem isoStep_steps {s : State} {id ord : Nat} {r : Rig} (n : Nat) (hhalted : s.tt.halted = true)
    (hrig : s.rigOn ((s.reg .telltale 0 0x50).toNat % 2 ^ 13) = some (id, r, ord)) :
    ∃ x : Trial, x.ashlar = (s.reg .telltale 0 0x50).toNat % 2 ^ 13 ∧ s.isoStep n none = { s with tt := { s.tt with trial := some x } } := by
  have hstart : ∃ t0 : Trial, t0.ashlar = (s.reg .telltale 0 0x50).toNat % 2 ^ 13 ∧
      s.isoStep n none = { s with tt := { s.tt with trial := some (s.trialRun r t0 n) } } := by
    simp only [State.isoStep, hrig, hhalted, Bool.not_true, Bool.false_eq_true, if_false]
    split
    · split
      · next h => exact ⟨_, h, rfl⟩
      · exact ⟨_, rfl, rfl⟩
    · exact ⟨_, rfl, rfl⟩
  obtain ⟨t0, hashlar, hstep⟩ := hstart
  exact ⟨_, (trialRun_ashlar s r n t0).trans hashlar, hstep⟩

theorem ttIsoStep_steps {s : State} {cycles id ord : Nat} {r : Rig} (hserved : DebugServed s) (hsession : s.tt.session = true)
    (hhalted : s.tt.halted = true) (hmin : 1 ≤ cycles) (hmax : cycles ≤ 1856) (hguard : s.guarded = false)
    (hrig : s.rigOn ((s.reg .telltale 0 0x50).toNat % 2 ^ 13) = some (id, r, ord)) :
    ∃ t x, execTtIsoStep cycles none s = .next t ∧ FabricStands s t ∧ Answered s t 0x54 0 ∧ t.tt.trial = some x ∧
      x.ashlar = (s.reg .telltale 0 0x50).toNat % 2 ^ 13 := by
  have hcycles : (BitVec.ofNat 32 cycles).toNat % 2 ^ 11 = cycles := by
    rw [BitVec.toNat_ofNat]
    omega
  obtain ⟨x, hashlar, hstep⟩ := isoStep_steps (s := requested s) cycles hhalted hrig
  have hwrite : (requested s).ttWrite 0x54 (BitVec.ofNat 32 cycles) none = dbgOk ((requested s).isoStep cycles none) := by
    have hguard' : (requested s).guarded = false := hguard
    have hsession' : (requested s).tt.session = true := hsession
    simp only [State.ttWrite, State.ttIso, hcycles, hguard', hsession', Bool.false_and, Bool.not_true, Bool.false_eq_true, if_false, if_true,
      Nat.reduceEqDiff, Nat.reduceLeDiff, Nat.reduceLT, and_false, false_and, gt_iff_lt, Nat.not_lt.mpr hmax,
      Nat.ne_of_gt (Nat.lt_of_lt_of_le Nat.zero_lt_one hmin), or_self]
  refine ⟨answered ((requested s).isoStep cycles none) 0x54 0 0, x, ?_, ?_⟩
  · rw [execTtIsoStep, if_neg (by simp; omega), ttRow_served _ _ hserved rfl (by decide), hwrite]
    rfl
  · rw [hstep]
    refine ⟨FabricStands.trans (b := { requested s with tt := _ }) ⟨rfl, rfl, rfl, rfl, rfl⟩ (answered_stands _ _ _ _),
      answered_ok _ _ rfl rfl, ?_, hashlar⟩
    rw [answered_eq]

theorem ttIsoClr_clears {s : State} (hserved : DebugServed s) (hsession : s.tt.session = true) :
    ∃ t, execTtIsoClr s = .next t ∧ FabricStands s t ∧ Answered s t 0x40 0 ∧ t.tt.trial = none := by
  refine ⟨_, ttRow_ctl (bit := 7) (u := { requested s with tt := { (requested s).tt with trial := none } }) hserved (by decide) (by simp [hsession]) rfl,
    FabricStands.trans (b := { requested s with tt := _ }) ⟨rfl, rfl, rfl, rfl, rfl⟩ (answered_stands _ _ _ _), answered_ok _ _ rfl rfl, ?_⟩
  rw [answered_eq]

/-! ### A halted module runs again -/

/-- What a restart leaves of the debug port, but for a halt that waits. -/
def restarted (x : Telltale) : Telltale := { x with halted := false, stepping := false, trial := none, leaveCrew := false, haltAt := none }

theorem restart_stroke (s : State) (derive : Bool) : (s.restart derive).stroke.now = s.stroke.now :=
  congrArg Prod.fst (restart_port s derive)

theorem restart_tt (s : State) (derive : Bool) : { (s.restart derive).tt with haltAt := none } = restarted s.tt :=
  congrArg Prod.snd (restart_port s derive)

theorem ttResume_resumes {s : State} (hserved : DebugServed s) (hsession : s.tt.session = true) (hhalted : s.tt.halted = true) :
    ∃ t, execTtResume s = .next t ∧ Answered s t 0x40 0 ∧ t.tt.halted = false ∧ t.tt.stepping = false ∧ t.tt.trial = none := by
  have hop : (requested s).ttOp 3 false = dbgOk ((requested s).restart true) := by
    rw [State.ttOp, State.resume, if_pos (show (requested s).tt.halted = true from hhalted)]
  have htt := restart_tt (requested s) true
  refine ⟨_, ttRow_ctl hserved (by decide) (by simp [hsession]) hop, answered_ok _ _ ?_ (restart_stroke _ _), ?_⟩
  · exact congrArg Telltale.ir htt
  · rw [answered_eq]
    exact ⟨congrArg Telltale.halted htt, congrArg Telltale.stepping htt, congrArg Telltale.trial htt⟩

theorem ttStep_steps {s : State} (hserved : DebugServed s) (hsession : s.tt.session = true) (hhalted : s.tt.halted = true) :
    ∃ t, execTtStep s = .next t ∧ Answered s t 0x40 0 ∧ t.tt.halted = false ∧ t.tt.stepping = true ∧
      t.tt.haltAt = some (s.stroke.now, 4, 0) := by
  have hhalted' : (requested s).tt.halted = true := hhalted
  have hop : (requested s).ttOp 4 false = dbgOk (requested s).stepOnce := rfl
  have hstep : (requested s).stepOnce = (fun t : State => { t with tt := { t.tt with
      stepping := true, haltAt := some (s.stroke.now, 4, 0) } }) ((requested s).restart (decide ((requested s).tt.haltCause ≠ 4))) := by
    rw [State.stepOnce, if_neg (by simp [hhalted'])]
    rfl
  have htt := restart_tt (requested s) (decide ((requested s).tt.haltCause ≠ 4))
  have hnow := restart_stroke (requested s) (decide ((requested s).tt.haltCause ≠ 4))
  generalize (requested s).restart _ = t at hstep htt hnow
  refine ⟨_, ttRow_ctl hserved (by decide) (by simp [hsession]) hop, answered_ok _ _ ?_ ?_, ?_⟩
  · rw [hstep]
    exact congrArg Telltale.ir htt
  · rw [hstep]
    exact hnow
  · rw [answered_eq, hstep]
    exact ⟨congrArg Telltale.halted htt, rfl, rfl⟩

/-! ### Memory access -/

theorem ttMem_lands {s : State} {v : W32} {op : Nat} (hserved : DebugServed s) (hsession : s.tt.session = true)
    (hbusy : s.ttMem.busy = false) (hop : v.toNat % 4 = op) (hone : op = 1 ∨ op = 2) :
    ∃ t, ttRow 0x68 v none s = .next t ∧ FabricStands s t ∧ Answered s t 0x68 0 ∧ t.ttMem = { s.ttMem with
      busy := true, op := op
      args := s.reg .telltale 0 0x60 :: s.reg .telltale 0 0x64 :: (List.range 8).map fun k => s.reg .telltale 0 (0x70 + 4 * k) } := by
  have hbusy' : (requested s).ttMem.busy = false := hbusy
  have hsession' : (requested s).tt.session = true := hsession
  have hland : (requested s).landTtMem op = { requested s with ttMem := { s.ttMem with
      busy := true, op := op
      args := s.reg .telltale 0 0x60 :: s.reg .telltale 0 0x64 :: (List.range 8).map fun k => s.reg .telltale 0 (0x70 + 4 * k) } } := by
    rw [State.landTtMem, if_neg (by simp [hbusy']), if_neg (by omega), if_neg (by omega)]
    rfl
  have hwrite : (requested s).ttWrite 0x68 v none = dbgOk ((requested s).landTtMem op) := by
    simp only [State.ttWrite, hop, hsession', Bool.not_true, Bool.false_eq_true, if_false, if_true, Nat.reduceEqDiff, Nat.reduceLeDiff,
      Nat.reduceLT, and_false, false_and]
  refine ⟨answered ((requested s).landTtMem op) 0x68 0 0, ?_, ?_⟩
  · rw [ttRow_served _ _ hserved rfl (by decide), hwrite]
    rfl
  · rw [hland]
    refine ⟨FabricStands.trans (b := { requested s with ttMem := _ }) ⟨rfl, rfl, rfl, rfl, rfl⟩ (answered_stands _ _ _ _),
      answered_ok _ _ rfl rfl, ?_⟩
    rw [answered_eq]

/-! ### The obligation -/

/-- Settles O58: a request is answered by the row of its operation, from the state in which DBG is selected; a restart keeps the stroke
and the debug port through the start of the stroke. -/
theorem telltaleResults : Obligations.TelltaleResults := by
  unfold Obligations.TelltaleResults
  refine ⟨tapTrst_sets, fun s hlive => ?_, fun s hserved => ?_, fun s hserved hsession => ?_⟩
  · exact ⟨tapSelect_exec (fun t => t.tapSelect 0xFF true) 0xFF hlive rfl,
      fun hpins => ⟨tapSelect_exec (fun t => t.tapSelect 0x03 t.pinsAllowed) 0x03 hlive (by rw [hpins]),
        tapSelect_exec (fun t => t.tapSelect 0x04 t.pinsAllowed) 0x04 hlive (by rw [hpins]), fun cells => tapExtest_scans cells hlive hpins⟩,
      fun haccess cells => tapSamplePreload_scans cells hlive haccess⟩
  · exact ⟨fun addr halign hsmall hmapped => ttDbgNop_answers hserved halign hsmall hmapped,
      fun addr d halign hpage hreg hcomp hlatch => ttDbgRead_answers hserved halign hpage hreg hcomp hlatch,
      fun hclosed hlc => ttSessionOpen_opens hserved hclosed hlc,
      fun hlc hcheck => ttUnlock_unlocks hserved (by rcases hlc with h | h <;> simp [h]) hcheck,
      fun hlc hcheck hhalted => ttUnlock_pends hserved hlc hcheck hhalted⟩
  · refine ⟨fun cycle v => ttDbgWrite_writes cycle v hserved hsession, fun hhalted => ttSessionClose_closes hserved hsession hhalted,
      fun force cycle hclocked hnone hcrew => ttHalt_halts force cycle hserved hsession hclocked hnone hcrew,
      fun hhalted => ⟨ttResume_resumes hserved hsession hhalted, ttStep_steps hserved hsession hhalted,
        fun cycles id ord r hmin hmax hguard hrig => ttIsoStep_steps hserved hsession hhalted hmin hmax hguard hrig⟩,
      ttIsoClr_clears hserved hsession, fun hbusy i op hi => ?_⟩
    simp only [List.mem_cons, Prod.mk.injEq, List.not_mem_nil, or_false] at hi
    rcases hi with ⟨rfl, rfl⟩ | ⟨rfl, rfl⟩
    · exact ttMem_lands hserved hsession hbusy rfl (.inl rfl)
    · exact ttMem_lands hserved hsession hbusy rfl (.inr rfl)

end Sys2Proof.Proofs.DebugPort
end

section
/-!
PROOFS. The rest of the functions that leave memory, the check symbols and the debug port as they are, in the order in which they call each
other: one lemma for each. A function that ends or opens a session of the debug port leaves memory alone (`_store`).
-/

namespace Sys2Proof.Proofs.StoreKept
open Sys2Proof Sys2Proof.Machine

@[simp] theorem store_ite (c : Prop) [Decidable c] (a b : Kept) : (if c then a else b).store = if c then a.store else b.store :=
  apply_ite Kept.store c a b

theorem store_eta (s : State) : (s.mem, s.ecc) = (kept s).store := rfl

@[simp] theorem tidy_ite (c : Prop) [Decidable c] (a b : List Host.Cell × NMap W32) :
    Tidy (if c then a else b) = if c then Tidy a else Tidy b := apply_ite Tidy c a b

@[simp] theorem tidy_nil : Tidy ([], []) := ⟨rfl, rfl⟩

@[simp] theorem foldl_store {α : Type} (f : State → α → State) (l : List α) (s : State)
    (h : ∀ t a, (kept (f t a)).store = (kept t).store) : (kept (l.foldl f s)).store = (kept s).store := by
  induction l generalizing s with
  | nil => rfl
  | cons a l ih => rw [List.foldl_cons, ih, h]

theorem foldl_tidy {α : Type} (f : State → α → State) (l : List α) (s : State)
    (hf : ∀ t a, Tidy (kept t).store → Tidy (kept (f t a)).store) (h : Tidy (kept s).store) : Tidy (kept (l.foldl f s)).store := by
  induction l generalizing s with
  | nil => exact h
  | cons a l ih => exact ih _ (hf _ _ h)

theorem kept_stroke (s : State) (x : StrokeUnit) (h : x.now = s.stroke.now) : kept { s with stroke := x } = kept s := by
  rw [kept_mk, h, kept_eta]

/-- A fold over states with something gathered. -/
theorem foldl_pair_kept {α β : Type} {f : α × State → β → α × State} (hf : ∀ a x, kept (f a x).2 = kept a.2) {l : List β}
    {a : α × State} : kept (l.foldl f a).2 = kept a.2 := by
  induction l generalizing a with
  | nil => rfl
  | cons x l ih => exact ih.trans (hf a x)

/-- A fold that may fail, over states with something read. -/
theorem foldlM_kept {α β : Type} {f : α × State → β → Option (α × State)} (hf : ∀ a x y, f a x = some y → kept y.2 = kept a.2)
    {l : List β} {a y : α × State} (h : l.foldlM f a = some y) : kept y.2 = kept a.2 := by
  induction l generalizing a with
  | nil => cases h; rfl
  | cons x l ih =>
    simp only [List.foldlM_cons, Option.bind_eq_bind, Option.bind_eq_some_iff] at h
    obtain ⟨z, hz, hy⟩ := h
    exact (ih hy).trans (hf a x z hz)

/-- A fold that may fail, over states. -/
theorem foldlM_state_kept {β : Type} {f : State → β → Option State} (hf : ∀ a x y, f a x = some y → kept y = kept a)
    {l : List β} {a y : State} (h : l.foldlM f a = some y) : kept y = kept a := by
  induction l generalizing a with
  | nil => cases h; rfl
  | cons x l ih =>
    simp only [List.foldlM_cons, Option.bind_eq_bind, Option.bind_eq_some_iff] at h
    obtain ⟨z, hz, hy⟩ := h
    exact (ih hy).trans (hf a x z hz)

@[simp] theorem ignoreEdge_kept (s : State) : kept s.ignoreEdge = kept s := by
  simp [State.ignoreEdge]

@[simp] theorem acceptEdge_kept (s : State) (e : Int) : kept (s.acceptEdge e) = kept s := by
  simp [State.acceptEdge]

@[simp] theorem syncEdge_kept (s : State) (cycle : Nat) : kept (s.syncEdge cycle) = kept s := by
  simp [State.syncEdge]

@[simp] theorem alarmStep_kept (s : State) : kept s.alarmStep = kept s := by
  simp [State.alarmStep]

@[simp] theorem freeQueue_kept (s : State) (n : Nat) : kept (s.freeQueue n) = kept s := by
  simp [State.freeQueue]

@[simp] theorem freeEnded_kept (s : State) : kept s.freeEnded = kept s := by
  simp [State.freeEnded]

@[simp] theorem formFails_kept (s : State) (result : Nat) : kept (s.formFails result) = kept s := by
  simp [State.formFails]

@[simp] theorem adoption_kept (s : State) : kept s.adoption = kept s := by
  simp [State.adoption]

@[simp] theorem flushQueue_kept (s : State) (n source : Nat) : kept (s.flushQueue n source) = kept s := by
  simp [State.flushQueue]

@[simp] theorem hostFlushes_kept (s : State) : kept s.hostFlushes = kept s := by
  simp [State.hostFlushes]

@[simp] theorem doUnbind_kept (s : State) (arg : Nat) : kept (s.doUnbind arg).2 = kept s := by
  unfold State.doUnbind
  dsimp only
  repeat' split
  all_goals simp

theorem takeQueue_kept {s : State} {ringLog : Nat} {consumer : QConsumer} {x : Nat × State} (h : s.takeQueue ringLog consumer = some x) :
    kept x.2 = kept s := by
  unfold State.takeQueue at h
  repeat' split at h
  all_goals simp at h
  subst h
  simp

@[simp] theorem doBind_kept (s : State) (arg blk : Nat) : kept (s.doBind arg blk).2 = kept s := by
  unfold State.doBind
  dsimp only
  iterate 6
    split
    · rfl
  split
  · rfl
  next h =>
  simp [← takeQueue_kept h]

@[simp] theorem endMuster_kept (s : State) : kept s.endMuster = kept s := by
  unfold State.endMuster
  dsimp only
  repeat' split
  all_goals simp

@[simp] theorem setPair_kept (s : State) (p : Page) (i off v : Nat) : kept (s.setPair p i off v) = kept s := by
  simp [State.setPair]

@[simp] theorem endMt_kept (s : State) : kept s.endMt = kept s := by
  unfold State.endMt
  dsimp only
  repeat' split
  all_goals simp

@[simp] theorem zeroiseSlots_kept (s : State) (p : Nat → KeySlot → Bool) : kept (s.zeroiseSlots p) = kept s := by
  simp [State.zeroiseSlots]

@[simp] theorem modItem_kept (s : State) (n i : Nat) (f : QItem → QItem) : kept (s.modItem n i f) = kept s := by
  simp [State.modItem]

@[simp] theorem addReport_kept (s : State) (qp : Nat) (r : Report) : kept (s.addReport qp r) = kept s := by
  simp [State.addReport]

@[simp] theorem envRefuse_kept (s : State) (qp n : Nat) (glwe : Bool) (e : List Byte) (stroke : Nat) :
    kept (s.envRefuse qp n glwe e stroke) = kept s := by
  simp [State.envRefuse]

@[simp] theorem discardEnvs_kept (s : State) (b : Nat) : kept (s.discardEnvs b) = kept s := by
  unfold State.discardEnvs
  dsimp only
  refine (foldl_kept _ _ _ fun t e => ?_).trans ?_
  · split
    · refine foldl_kept _ _ _ fun u i => ?_
      repeat' split
      all_goals simp
    · rfl
  · split
    · rfl
    · simp

@[simp] theorem dropKeys_kept (s : State) (p : RKey → Bool) : kept (s.dropKeys p) = kept s := rfl

@[simp] theorem dropTamrikKey_kept (s : State) (r : Round) : kept (s.dropTamrikKey r) = kept s := by
  simp [State.dropTamrikKey]

@[simp] theorem flushFeeds_kept (s : State) (b : Nat) : kept (s.flushFeeds b) = kept s :=
  foldl_kept _ _ _ fun t n => flushQueue_kept t n 4

@[simp] theorem faultRound_kept (s : State) (b reason : Nat) : kept (s.faultRound b reason) = kept s := by
  simp [State.faultRound]

@[simp] theorem bindQueues_kept (s : State) (r : Rig) (bind : Bool) : kept (s.bindQueues r bind) = kept s := by
  simp [State.bindQueues]

@[simp] theorem dropCores_kept (s : State) (id : Nat) : kept (s.dropCores id) = kept s := rfl

@[simp] theorem dropAreas_kept (s : State) (p : Area → Bool) : kept (s.dropAreas p) = kept s := rfl

@[simp] theorem enterState_kept (s : State) (b : Nat) (f : Round → Round) : kept (s.enterState b f) = kept s := by
  simp [State.enterState]

@[simp] theorem finishBosun_kept (s : State) (o result : Nat) : kept (s.finishBosun o result) = kept s := by
  simp [State.finishBosun]

@[simp] theorem attestCommit_kept (s : State) : kept s.attestCommit = kept s := by
  simp [State.attestCommit]

@[simp] theorem claimReset_kept (s0 : State) : kept s0.claimReset = kept s0 := rfl

@[simp] theorem bindFn_kept (s : State) (req done : Nat) (bind : Bool) : kept (s.bindFn req done bind) = kept s := by
  simp [State.bindFn]

@[simp] theorem endSpill_kept (s : State) (k : Nat) : kept (s.endSpill k) = kept s := by
  unfold State.endSpill
  dsimp only
  repeat' split
  all_goals simp

@[simp] theorem endFlushes_kept (s : State) : kept s.endFlushes = kept s := by
  simp [State.endFlushes]

@[simp] theorem spillSel_kept (s : State) (k : Nat) (v : W32) : kept (s.spillSel k v) = kept s := by
  simp [State.spillSel]

@[simp] theorem setCipher_kept (s : State) (c : CipherEng) : kept (s.setCipher c) = kept s := rfl

@[simp] theorem setRig_kept (s : State) (id : Nat) (r : Rig) : kept (s.setRig id r) = kept s := rfl

@[simp] theorem modRig_kept (s : State) (id : Nat) (f : Rig → Rig) : kept (s.modRig id f) = kept s := by
  unfold State.modRig
  split <;> simp

@[simp] theorem endReq_kept (s : State) (i psn status : Nat) : kept (s.endReq i psn status) = kept s := by
  simp [State.endReq]

@[simp] theorem ackUpTo_kept (s : State) (i psn : Nat) : kept (s.ackUpTo i psn) = kept s := by
  simp [State.ackUpTo]

@[simp] theorem sendPacket_kept (s : State) (i : Nat) (r : SentReq) (data : List Byte) (k : Nat) :
    kept (s.sendPacket i r data k) = kept s := by
  simp [State.sendPacket]

@[simp] theorem sendPackets_kept (s : State) (i : Nat) (r : SentReq) (data : List Byte) (l : List Nat) :
    kept (s.sendPackets i r data l) = kept s := by
  simp [State.sendPackets]

@[simp] theorem discardBeds_kept (s : State) : kept s.discardBeds = kept s := rfl

@[simp] theorem drawBytes_kept (s : State) (n : Nat) : kept (s.drawBytes n).2 = kept s := by
  simp [State.drawBytes]

@[simp] theorem setPeer_kept (s : State) (id : Nat) (p : Peer) : kept (s.setPeer id p) = kept s := by
  simp [State.setPeer]

@[simp] theorem sendHello_kept (s : State) (id port : Nat) : kept (s.sendHello id port) = kept s := by
  simp [State.sendHello]

@[simp] theorem hailDropped_kept (s : State) : kept s.hailDropped = kept s := by
  simp [State.hailDropped]

theorem reserveQp_kept {s : State} {x : Nat × State} (h : s.reserveQp = some x) : kept x.2 = kept s := by
  unfold State.reserveQp at h
  split at h
  all_goals simp at h
  subst h
  simp

@[simp] theorem refuseCandidate_kept (s : State) (id : Nat) : kept (s.refuseCandidate id) = kept s := by
  simp [State.refuseCandidate]

@[simp] theorem confirmPair_kept (s : State) (id : Nat) (k : Int) : kept (s.confirmPair id k) = kept s := by
  unfold State.confirmPair
  dsimp only
  split
  · simp
  next h =>
  simp [← reserveQp_kept h]

@[simp] theorem attested_kept (s : State) (port : Nat) (m : List Byte) (aliasKey : Option (List Byte)) (id : Nat) :
    kept (s.attested port m aliasKey id) = kept s := by
  unfold State.attested
  dsimp only
  repeat' split
  all_goals simp

@[simp] theorem carry1_kept (s : State) (pos kind round : Nat) (body : List Byte) : kept (s.carry1 pos kind round body) = kept s := by
  simp [State.carry1]

@[simp] theorem carry_kept (s : State) (pos kind round size : Nat) (records : List (List Byte)) :
    kept (s.carry pos kind round size records) = kept s := by
  simp [State.carry]

@[simp] theorem sendDecision_kept (s : State) (round pos : Nat) (d : Decision) : kept (s.sendDecision round pos d) = kept s := by
  simp [State.sendDecision]

@[simp] theorem nameDecision_kept (s : State) (b : Nat) (d : Decision) : kept (s.nameDecision b d) = kept s := by
  simp [State.nameDecision]

@[simp] theorem publish_kept (s : State) (b : Nat) : kept (s.publish b) = kept s := by
  simp [State.publish]

@[simp] theorem setPort_kept (s : State) (p : Nat) (x : Port) : kept (s.setPort p x) = kept s := rfl

@[simp] theorem captReg_kept (s : State) (p : Page) (i off kind : Nat) (data : W32) : kept (s.captReg p i off kind data) = kept s := by
  simp [State.captReg]

@[simp] theorem pageError_kept (s : State) (p : Page) (i off kind : Nat) (data : W32) (requester : Nat) :
    kept (s.pageError p i off kind data requester) = kept s := by
  simp [State.pageError]

@[simp] theorem linkFalls_kept (s : State) (p : Nat) : kept (s.linkFalls p) = kept s := by
  simp [State.linkFalls]

@[simp] theorem writeEthCfg_kept (s : State) (p : Nat) (v : W32) : kept (s.writeEthCfg p v) = kept s := by
  simp [State.writeEthCfg]

@[simp] theorem cipherDone_kept (s : State) (r : CReq) (status level refreshes : Nat) (record : Option Nat) :
    kept (s.cipherDone r status level refreshes record) = kept s := by
  simp [State.cipherDone]

@[simp] theorem disarm_kept (s : State) : kept s.disarm = kept s := by
  simp [State.disarm]

@[simp] theorem allowances_kept (s : State) : kept s.allowances = kept s := by
  simp [State.allowances]

@[simp] theorem dropSession_store (s : State) : (kept s.dropSession).store = (kept s).store := by
  unfold State.dropSession
  dsimp only
  split
  · simp [store_eta]
  · rfl

@[simp] theorem tryRoster_kept (s : State) : kept s.tryRoster = kept s := by
  simp [State.tryRoster]

@[simp] theorem tryReport_kept (s : State) : kept s.tryReport = kept s := by
  unfold State.tryReport
  dsimp only
  repeat' split
  all_goals simp

@[simp] theorem confirmed_kept (s : State) (m : List Byte) (id : Nat) : kept (s.confirmed m id) = kept s := by
  unfold State.confirmed
  dsimp only
  repeat' split
  all_goals simp

@[simp] theorem raise_kept (s : State) (b reason : Nat) : kept (s.raise b reason) = kept s := by
  simp [State.raise]

@[simp] theorem carryDropped_kept (s : State) (kind round : Nat) : kept (s.carryDropped kind round) = kept s := by
  unfold State.carryDropped
  dsimp only
  repeat' split
  all_goals simp

@[simp] theorem addArea_kept (s : State) (r : Area) : kept (s.addArea r) = kept s := rfl

theorem allocHigh_kept {s : State} {len tag : Nat} {o : AreaOwner} {x : Nat × State} (h : s.allocHigh len tag o = some x) :
    kept x.2 = kept s := by
  unfold State.allocHigh at h
  split at h
  all_goals simp at h
  subst h
  simp

theorem allocRound_kept {s : State} {b n : Nat} {d : Descr} {x : Nat × Nat × State} (h : s.allocRound b d n = some x) :
    kept x.2.2 = kept s := by
  simp only [State.allocRound, Option.bind_eq_bind, Option.bind_eq_some_iff] at h
  obtain ⟨a, ha, c, hc, e, he, hx⟩ := h
  cases hx
  rw [allocHigh_kept he, allocHigh_kept hc, allocHigh_kept ha]

@[simp] theorem clearBlock_kept (s : State) (b : Nat) : kept (s.clearBlock b) = kept s := by
  simp [State.clearBlock]

/-- The areas of the round stay a variable: the kernel must not run the search for them. -/
@[simp] theorem musterOpen_kept (s : State) : kept s.musterOpen = kept s := by
  obtain ⟨areas, hareas⟩ : ∃ areas, State.allocRound s = areas := ⟨_, rfl⟩
  have hkept {b n : Nat} {d : Descr} {x : Nat × Nat × State} (h : areas b d n = some x) : kept x.2.2 = kept s :=
    allocRound_kept (by rw [hareas]; exact h)
  unfold State.musterOpen
  rw [hareas]
  dsimp only
  split
  · rfl
  split
  · rfl
  split
  · rfl
  next h =>
  split <;> simp [← hkept h]

theorem consume_tidy (s : State) (n : Nat) (f : State → QItem → State) (tidy : Tidy (kept s).store)
    (hf : ∀ t i, Tidy (kept t).store → Tidy (kept (f t i)).store) : Tidy (kept (s.consume n f)).store := by
  unfold State.consume
  dsimp only
  rw [setQueue_kept]
  refine foldl_tidy _ _ _ (fun t i ht => ?_) tidy
  split
  · exact hf t i ht
  · exact ht

@[simp] theorem landMt_kept (s : State) (c cmd : Nat) : kept (s.landMt c cmd) = kept s := by
  simp [State.landMt]

theorem drainLanding_kept (fuel n : Nat) (f : State → QItem → Option State) (s : State)
    (hf : ∀ t i u, f t i = some u → kept u = kept t) : kept (State.drainLanding fuel n f s) = kept s := by
  induction fuel generalizing s with
  | zero => rfl
  | succ k ih =>
    unfold State.drainLanding
    dsimp only
    repeat' split
    all_goals simp only [ih, setQueue_kept]
    next h => exact hf _ _ _ h

theorem copyItem_kept {s t : State} {n : Nat} {it : QItem} (h : s.copyItem n it = some t) : kept t = kept s := by
  unfold State.copyItem at h
  dsimp only at h
  split at h
  all_goals simp only [Option.some.injEq, reduceCtorEq] at h
  subst h
  simp

@[simp] theorem moveEnvsUpTo_kept (s : State) (fuel : Nat) (bd : Bind) : kept (s.moveEnvsUpTo fuel bd) = kept s := by
  refine drainLanding_kept _ _ _ _ fun t i u h => ?_
  repeat' split at h
  · cases h; rfl
  · exact copyItem_kept h
  · cases h; rfl

@[simp] theorem faultRig_kept (s : State) (id : Nat) (permanent : Bool) : kept (s.faultRig id permanent) = kept s := by
  unfold State.faultRig
  split <;> simp

@[simp] theorem faultCharged_kept (s : State) (id : Nat) : kept (s.faultCharged id) = kept s := by
  simp [State.faultCharged]

@[simp] theorem chargeRig_kept (s : State) (id : Nat) : kept (s.chargeRig id) = kept s := by
  unfold State.chargeRig
  split <;> simp

@[simp] theorem zeroiseKeystone_kept (s : State) : kept s.zeroiseKeystone = kept s := rfl

@[simp] theorem fatalStop_store (s : State) (code : Nat) : (kept (s.fatalStop code)).store = (kept s).store := by
  simp [State.fatalStop]

@[simp] theorem fwLoad_store (s : State) : (kept s.fwLoad).store = (kept s).store := by
  simp [State.fwLoad]

@[simp] theorem retract_kept (s : State) (b slot chunk : Nat) : kept (s.retract b slot chunk) = kept s := by
  simp [State.retract]

@[simp] theorem setCore_kept (s : State) (k : Nat) (c : Core) : kept (s.setCore k c) = kept s := rfl

@[simp] theorem stall_kept (s : State) (k : Nat) (c : Core) : kept (s.stall k c) = kept s := by
  simp [State.stall]

@[simp] theorem readReg_kept (s : State) (p : Page) (i off : Nat) : kept (s.readReg p i off).2 = kept s := by
  unfold State.readReg
  dsimp only
  repeat' split
  all_goals simp

@[simp] theorem readRegs_kept (s : State) (p : Page) (i off n : Nat) : kept (s.readRegs p i off n).2 = kept s := by
  induction n generalizing s off with
  | zero => rfl
  | succ n ih => exact (ih _ _).trans (readReg_kept s p i off)

@[simp] theorem bar0Read_kept (s : State) (a len : Nat) : kept (s.bar0Read a len).2 = kept s := by
  unfold State.bar0Read
  dsimp only
  repeat' split
  all_goals simp

@[simp] theorem saveFences_kept (s : State) : kept s.saveFences = kept s := rfl

theorem placeConstArea_kept {s : State} {id ord : Nat} {r : Rig} {ra : RigAshlar} {x : RigAshlar × State}
    (h : s.placeConstArea id r ord ra = some x) : kept x.2 = kept s := by
  unfold State.placeConstArea at h
  dsimp only at h
  repeat' split at h
  all_goals simp only [Option.some.injEq, reduceCtorEq] at h
  all_goals subst h
  all_goals simp

@[simp] theorem replaced_kept (s : State) (x : Nat) : kept (s.replaced x) = kept s := by
  simp [State.replaced]

@[simp] theorem setKeep_kept (s : State) (k : Keep) : kept (s.setKeep k) = kept s := rfl

@[simp] theorem newRecord_kept (s : State) (m : List Byte) : kept (s.newRecord m).2 = kept s := by
  unfold State.newRecord
  dsimp only
  repeat' split
  all_goals simp

@[simp] theorem updateProgress_kept (s : State) (progress : Nat) : kept (s.updateProgress progress) = kept s := by
  simp [State.updateProgress]

@[simp] theorem applyUpdate_kept (s : State) : kept s.applyUpdate = kept s := by
  simp [State.applyUpdate]

@[simp] theorem dmaStart_kept (s : State) (p : Nat) : kept (s.dmaStart p) = kept s := by
  unfold State.dmaStart
  split <;> simp

@[simp] theorem writeQueueEvt_kept (s : State) (k : Nat) (v : W32) : kept (s.writeQueueEvt k v) = kept s := by
  simp [State.writeQueueEvt]

@[simp] theorem resendVector_kept (s : State) (p : Page) (i : Nat) : kept (s.resendVector p i) = kept s := by
  simp [State.resendVector]

@[simp] theorem writeEvt_kept (s : State) (p : Page) (i off : Nat) (v : W32) : kept (s.writeEvt p i off v) = kept s := by
  unfold State.writeEvt
  split <;> simp

@[simp] theorem keepStage_kept (s : State) (derive : Bool) : kept (s.keepStage derive) = kept s := by
  simp [State.keepStage]

@[simp] theorem writeBar2Base_kept (s : State) (v : W32) : kept (s.writeBar2Base v) = kept s := by
  simp [State.writeBar2Base]

@[simp] theorem finishKeep_kept (s : State) (o : Nat) : kept (s.finishKeep o) = kept s := by
  simp [State.finishKeep]

@[simp] theorem unloadSlot_kept (s : State) (arg slot : Nat) : kept (s.unloadSlot arg slot).2 = kept s := by
  unfold State.unloadSlot
  repeat' split
  all_goals simp

@[simp] theorem restoreSettings_kept (s : State) : kept s.restoreSettings = kept s := by
  simp [State.restoreSettings]

theorem constAreas_kept {id : Nat} {r : Rig} {l : List (Nat × RigAshlar)} {s : State} {x : List RigAshlar × State}
    (h : s.constAreas id r l = some x) : kept x.2 = kept s := by
  induction l generalizing s x with
  | nil =>
    cases h
    rfl
  | cons a l ih =>
    unfold State.constAreas at h
    split at h
    · simp at h
    next hplace =>
    split at h
    · simp at h
    next hrest =>
    cases h
    exact (ih hrest).trans (placeConstArea_kept hplace)

@[simp] theorem tamrikKey_kept (s : State) (r : Round) (len : Nat) : kept (s.tamrikKey r len) = kept s := by
  obtain ⟨slots, hslots⟩ : ∃ slots, List.range 1048576 = slots := ⟨_, rfl⟩
  unfold State.tamrikKey
  rw [hslots]
  dsimp only
  split
  · rfl
  split <;> simp

theorem takeQueues_kept {s : State} {ringLog k : Nat} {consumer : QConsumer} {x : List Nat × State}
    (h : s.takeQueues ringLog k consumer = some x) : kept x.2 = kept s := by
  refine foldlM_kept (α := List Nat) (fun a n y hy => ?_) (a := ([], s)) h
  simp only [Option.bind_eq_bind, Option.bind_eq_some_iff] at hy
  obtain ⟨z, hz, hy⟩ := hy
  cases hy
  exact takeQueue_kept hz

theorem placeSealed_kept {s : State} {b a : Nat} {x : Nat × State} (h : s.placeSealed b a = some x) : kept x.2 = kept s := by
  unfold State.placeSealed at h
  dsimp only at h
  split at h
  all_goals simp only [Option.some.injEq, reduceCtorEq] at h
  subst h
  simp

theorem placeSealedAll_kept {s : State} {b : Nat} {l : List Nat} {x : List Nat × State} (h : s.placeSealedAll b l = some x) :
    kept x.2 = kept s := by
  refine foldlM_kept (α := List Nat) (fun a n y hy => ?_) (a := ([], s)) h
  simp only [Option.bind_eq_bind, Option.bind_eq_some_iff] at hy
  obtain ⟨z, hz, hy⟩ := hy
  cases hy
  exact placeSealed_kept hz

theorem setupRound_kept {s t : State} {b : Nat} {ingress work : List Nat} (h : s.setupRound b ingress work = some t) :
    kept t = kept s := by
  simp only [State.setupRound, Option.bind_eq_bind, Option.bind_eq_some_iff] at h
  obtain ⟨q1, h1, q2, h2, q3, h3, q4, h4, g1, h5, g2, h6, h⟩ := h
  cases h
  simp [placeSealedAll_kept h6, placeSealedAll_kept h5, takeQueue_kept h4, takeQueue_kept h3, takeQueue_kept h2, takeQueues_kept h1]

@[simp] theorem startProgram_kept (s : State) (i : FwImage) : kept (s.startProgram i) = kept s := by
  simp [State.startProgram]

@[simp] theorem fwStage_kept (s : State) (x : Completion) : kept (s.fwStage x).2 = kept s := by
  unfold State.fwStage
  dsimp only
  repeat' split
  all_goals simp

@[simp] theorem stretch_kept (s : State) : kept s.stretch = kept s := by
  simp [State.stretch]

@[simp] theorem tamperZero_kept (s : State) : kept s.tamperZero = kept s := by
  simp [State.tamperZero]

@[simp] theorem openSession_store (s : State) : (kept s.openSession).store = (kept s).store := by
  simp [State.openSession, store_eta]

@[simp] theorem queueMaxClr_kept (s : State) (stack : Nat) : kept (s.queueMaxClr stack) = kept s := by
  simp [State.queueMaxClr]

@[simp] theorem gidSet_kept (s : State) (blk : Nat) : kept (s.gidSet blk).2 = kept s := by
  unfold State.gidSet
  dsimp only
  repeat' split
  all_goals simp

@[simp] theorem noteQueueMax_kept (s : State) : kept s.noteQueueMax = kept s := by
  simp [State.noteQueueMax]

@[simp] theorem gatedStroke_kept (s : State) : kept s.gatedStroke = kept s := by
  simp [State.gatedStroke]

@[simp] theorem faultStruck_kept (s : State) : kept s.faultStruck = kept s := by
  simp [State.faultStruck]

@[simp] theorem completeItems_kept (s : State) (n : Nat) : kept (s.completeItems n) = kept s := by
  simp [State.completeItems]

@[simp] theorem noteCancel_kept (s0 : State) (b : Nat) : kept (s0.noteCancel b) = kept s0 := by
  simp [State.noteCancel]

@[simp] theorem restartCores_kept (s : State) (commit : Bool) : kept (s.restartCores commit) = kept s := by
  simp [State.restartCores]

@[simp] theorem releaseFeeder_kept (s : State) (n : Nat) : kept (s.releaseFeeder n) = kept s := by
  unfold State.releaseFeeder
  dsimp only
  refine (setQueue_kept ..).trans (foldl_kept _ _ _ fun t i => ?_)
  split <;> simp

@[simp] theorem drainCapture_kept (s : State) (id : Nat) : kept (s.drainCapture id) = kept s := by
  unfold State.drainCapture
  dsimp only
  repeat' split
  all_goals simp

@[simp] theorem rigQueues_kept (s : State) (f : Queue → Queue) : kept (s.rigQueues f) = kept s := by
  simp [State.rigQueues]

@[simp] theorem lostWrites_kept (s : State) (w n : Nat) : kept (s.lostWrites w n) = kept s := by
  unfold State.lostWrites
  dsimp only
  repeat' split
  all_goals simp

@[simp] theorem commitBeds_kept (s : State) : kept s.commitBeds = kept s := by
  unfold State.commitBeds
  dsimp only
  rw [kept_mk]
  refine foldl_kept _ _ s fun t e => ?_
  repeat' split
  all_goals simp

@[simp] theorem clearStroke_kept (s : State) : kept s.clearStroke = kept s := by
  simp [State.clearStroke]

@[simp] theorem charge_kept (s : State) : kept s.charge = kept s := by
  simp [State.charge]

@[simp] theorem abandonItems_kept (s : State) (n : Nat) : kept (s.abandonItems n) = kept s := by
  simp [State.abandonItems]

@[simp] theorem discardFabric_kept (s : State) : kept s.discardFabric = kept s := by
  simp [State.discardFabric]

@[simp] theorem noteLate_kept (s : State) : kept s.noteLate = kept s := by
  simp [State.noteLate]

@[simp] theorem ttData_kept (s : State) (l : List Byte) : kept (s.ttData l) = kept s := by
  simp [State.ttData]

@[simp] theorem takeCnp_kept (s : State) (i : Nat) : kept (s.takeCnp i) = kept s := by
  simp [State.takeCnp]

@[simp] theorem odpResolve_kept (s : State) (key page : Nat) : kept (s.odpResolve key page).2 = kept s := by
  unfold State.odpResolve
  dsimp only
  repeat' split
  all_goals simp

@[simp] theorem sendPendingOne_kept (s : State) (v : Nat) : kept (s.sendPendingOne v) = kept s := by
  simp [State.sendPendingOne]

@[simp] theorem moveEnvs_kept (s : State) (bd : Bind) : kept (s.moveEnvs bd) = kept s := by
  simp [State.moveEnvs]

@[simp] theorem atCycle_kept (s : State) (c : Nat) : kept (s.atCycle c) = kept s := by
  simp [State.atCycle]

@[simp] theorem landKeep_kept (s : State) (op slot : Nat) : kept (s.landKeep op slot) = kept s := by
  unfold State.landKeep
  dsimp only
  repeat' split
  all_goals simp

@[simp] theorem weightsDone_kept (s : State) (cookie status base len : Nat) :
    kept (s.weightsDone cookie status base len) = kept s := by
  simp [State.weightsDone]

@[simp] theorem dropHead_kept (s : State) (n : Nat) : kept (s.dropHead n) = kept s := by
  simp [State.dropHead]

@[simp] theorem keysetRelease_kept (s : State) (r : CReq) : kept (s.keysetRelease r) = kept s := by
  unfold State.keysetRelease
  dsimp only
  repeat' split
  all_goals simp

@[simp] theorem fenceRead_kept (s : State) : kept (s.fenceRead).2.2 = kept s := by
  unfold State.fenceRead
  dsimp only
  repeat' split
  all_goals simp

@[simp] theorem advanceCounter_store (s : State) : (kept s.advanceCounter).store = (kept s).store := rfl

@[simp] theorem strokeFault_kept (s : State) (rig ashlar : Nat) : kept (s.strokeFault rig ashlar) = kept s := by
  simp [State.strokeFault]

@[simp] theorem strikeRigs_kept (s before : State) (links : List (Bool × Nat × Nat)) : kept (s.strikeRigs before links) = kept s := by
  refine foldl_kept _ _ s fun t e => ?_
  dsimp only
  split
  · rfl
  · refine (foldl_kept _ _ _ fun u o => ?_).trans (modRig_kept ..)
    split <;> simp

@[simp] theorem ttDeny_kept (s : State) : kept s.ttDeny = kept s := by
  simp [State.ttDeny]

@[simp] theorem writeBp_kept (s : State) (off : Nat) (v : W32) : kept (s.writeBp off v) = kept s := by
  simp [State.writeBp]

@[simp] theorem keyDenied_kept (s : State) : kept s.keyDenied = kept s := by
  simp [State.keyDenied]

@[simp] theorem ptpLock_kept (s : State) (start : Int) : kept (s.ptpLock start) = kept s := by
  simp [State.ptpLock]

@[simp] theorem takeIn_kept (s : State) (b : Nat) (e : List Byte) : kept (s.takeIn b e) = kept s := by
  simp [State.takeIn]

@[simp] theorem vaultCount_kept (s : State) (c : Nat) (q : VaultReq) (r : VaultRun) : kept (s.vaultCount c q r) = kept s := by
  unfold State.vaultCount
  split <;> simp

@[simp] theorem inactiveWin_kept (s : State) (n off : Nat) : kept (s.inactiveWin n off) = kept s := by
  simp [State.inactiveWin]

@[simp] theorem prodOp_kept (s : State) (n op : Nat) : kept (s.prodOp n op) = kept s := by
  simp [State.prodOp]

@[simp] theorem blockRegsReset_kept (s : State) (p : Page) (i : Nat) : kept (s.blockRegsReset p i) = kept s := by
  simp [State.blockRegsReset]

theorem pageWrite_tidy (s : State) (p : Page) (i off : Nat) (v : W32) (f : State → State) (tidy : Tidy (kept s).store)
    (hf : ∀ t, Tidy (kept t).store → Tidy (kept (f t)).store) : Tidy (kept (s.pageWrite p i off v f)).store := by
  unfold State.pageWrite
  dsimp only
  repeat' split
  · exact tidy
  · exact hf s tidy
  · simp [tidy]
  · exact hf _ (by simp [tidy])

@[simp] theorem doorFail_kept (s : State) (n : Nat) : kept (s.doorFail n) = kept s := by
  simp [State.doorFail]

@[simp] theorem failWr_kept (s : State) (i a b status : Nat) : kept (s.failWr i a b status) = kept s := by
  simp [State.failWr]

@[simp] theorem startReq_kept (s : State) (i : Nat) (r : SentReq) (data : List Byte) : kept (s.startReq i r data) = kept s := by
  simp [State.startReq]

@[simp] theorem logAer_kept (s : State) (bit : Nat) : kept (s.logAer bit) = kept s := by
  simp [State.logAer]

@[simp] theorem corrErr_kept (s : State) (bit : Nat) : kept (s.corrErr bit) = kept s := by
  simp [State.corrErr]

@[simp] theorem poisonRx_kept (s : State) : kept s.poisonRx = kept s := by
  simp [State.poisonRx]

@[simp] theorem setAshlar_kept (s : State) (a : Nat) (x : Ashlar) : kept (s.setAshlar a x) = kept s := by
  simp [State.setAshlar]

@[simp] theorem fenceAt_kept (s : State) (a pos : Nat) : kept (s.fenceAt a pos) = kept s := by
  simp [State.fenceAt]

@[simp] theorem fenceCore_kept (s : State) (rig ord pos : Nat) : kept (s.fenceCore rig ord pos) = kept s := by
  unfold State.fenceCore
  dsimp only
  repeat' split
  all_goals simp

@[simp] theorem coreStoreEvent_kept (s : State) (rig ord pos : Nat) : kept (s.coreStoreEvent rig ord pos) = kept s := by
  unfold State.coreStoreEvent
  dsimp only
  repeat' split
  all_goals simp

@[simp] theorem keepTelltale_store (s before : State) : (kept (s.keepTelltale before)).store = (kept s).store :=
  dropSession_store _

@[simp] theorem releaseRound_kept (s : State) (b : Nat) : kept (s.releaseRound b) = kept s := by
  simp [State.releaseRound]

@[simp] theorem carryOpen_kept (s : State) (pos : Nat) (msg : List Byte) : kept (s.carryOpen pos msg).2 = kept s := by
  unfold State.carryOpen
  dsimp only
  repeat' split
  all_goals simp

@[simp] theorem queueAdd_kept (s : State) (m : MAdd) : kept (s.queueAdd m) = kept s := by
  unfold State.queueAdd
  dsimp only
  repeat' split
  all_goals simp

theorem treePush_kept {s t : State} {pos : Nat} {m : MAdd} (h : s.treePush pos m = some t) : kept t = kept s := by
  unfold State.treePush at h
  dsimp only at h
  repeat' split at h
  all_goals simp only [Option.some.injEq, reduceCtorEq] at h
  all_goals subst h
  all_goals simp

@[simp] theorem slotDone_kept (s : State) (k : Nat) (c : Core) : kept (s.slotDone k c) = kept s := by
  simp [State.slotDone]

@[simp] theorem tagViolation_kept (s : State) (rig ord : Nat) : kept (s.tagViolation rig ord) = kept s := by
  unfold State.tagViolation
  repeat' split
  all_goals simp

@[simp] theorem loadFault_kept (s : State) (rig ord addr : Nat) (kind : Nat × W32) :
    kept (s.loadFault rig ord addr kind) = kept s := by
  unfold State.loadFault
  repeat' split
  all_goals simp

@[simp] theorem bpSlot_kept (s : State) (ashlar slot pos : Nat) : kept (s.bpSlot ashlar slot pos) = kept s := by
  simp [State.bpSlot]

@[simp] theorem slotIssued_kept (s : State) (r : Rig) (u : Issue) (c : Core) : kept (s.slotIssued r u c) = kept s := by
  unfold State.slotIssued
  split <;> simp

@[simp] theorem intakeRig_kept (s : State) (id : Nat) (r : Rig) : kept (s.intakeRig id r) = kept s := by
  simp [State.intakeRig]

theorem onPage_tidy (s : State) (p : Page) (i off : Nat) (v : W32) (f : State → State) (tidy : Tidy (kept s).store)
    (hf : ∀ t, Tidy (kept t).store → Tidy (kept (f t)).store) : Tidy (kept (s.onPage p i off v f)).store := by
  unfold State.onPage
  split
  · simp [tidy]
  · exact pageWrite_tidy s p i off v f tidy hf

@[simp] theorem landHalyard_kept (s : State) (op : Nat) : kept (s.landHalyard op) = kept s := by
  simp [State.landHalyard]

@[simp] theorem scrubProgress_kept (s : State) (k : Nat) : kept (s.scrubProgress k) = kept s := by
  simp [State.scrubProgress]

@[simp] theorem odpTimeout_kept (s : State) (i : Nat) : kept (s.odpTimeout i) = kept s := by
  unfold State.odpTimeout
  dsimp only
  repeat' split
  all_goals simp

@[simp] theorem bar4Read_kept (s : State) (a len : Nat) : kept (s.bar4Read a len).2 = kept s := by
  unfold State.bar4Read
  dsimp only
  repeat' split
  all_goals simp

@[simp] theorem drawNoise_kept (s : State) (r : Round) (c : Nat) : kept (s.drawNoise r c).2 = kept s := by
  refine foldl_pair_kept (a := ([], s)) fun a w => ?_
  split <;> simp

@[simp] theorem placeFn_kept (s : State) (f x : Nat) : kept (s.placeFn f x) = kept s := by
  simp [State.placeFn]

@[simp] theorem noticeAck_kept (s : State) (n : Nat) (v : W32) : kept (s.noticeAck n v) = kept s := by
  simp [State.noticeAck]

@[simp] theorem releaseVectors_kept (s : State) : kept s.releaseVectors = kept s := by
  simp [State.releaseVectors]

@[simp] theorem landBosun_kept (s : State) (op : Nat) : kept (s.landBosun op) = kept s := by
  simp [State.landBosun]

@[simp] theorem leaderRelease_kept (s : State) (b : Nat) : kept (s.leaderRelease b) = kept s := by
  simp [State.leaderRelease]

@[simp] theorem errClr_kept (s : State) (p : Page) (i : Nat) : kept (s.errClr p i) = kept s := by
  simp [State.errClr]

@[simp] theorem writePcieCtl_kept (s : State) (v : W32) : kept (s.writePcieCtl v) = kept s := by
  simp [State.writePcieCtl]

@[simp] theorem reefLimit_kept (s : State) : kept s.reefLimit = kept s := by
  simp [State.reefLimit]

@[simp] theorem writePtpCtl_kept (s : State) (p : Nat) (v : W32) : kept (s.writePtpCtl p v) = kept s := by
  simp [State.writePtpCtl]

@[simp] theorem drainReq_kept (s : State) (a region : Nat) : kept (s.drainReq a region) = kept s := by
  unfold State.drainReq
  dsimp only
  repeat' split
  all_goals simp

@[simp] theorem writePfc_kept (s : State) (p : Nat) (xoff : Bool) (v : W32) : kept (s.writePfc p xoff v) = kept s := by
  simp [State.writePfc]

@[simp] theorem tempMaxClr_kept (s : State) (stack : Nat) : kept (s.tempMaxClr stack) = kept s := by
  simp [State.tempMaxClr]

@[simp] theorem odpPop_kept (s : State) : kept s.odpPop = kept s := by
  simp [State.odpPop]

@[simp] theorem writeUdpPort_kept (s : State) (v : W32) : kept (s.writeUdpPort v) = kept s := by
  simp [State.writeUdpPort]

@[simp] theorem landSpill_kept (s : State) (k op : Nat) : kept (s.landSpill k op) = kept s := by
  simp [State.landSpill]

@[simp] theorem capOn_kept (s : State) : kept s.capOn = kept s := by
  simp [State.capOn]

@[simp] theorem writeReefCtl_kept (s : State) (v : W32) : kept (s.writeReefCtl v) = kept s := by
  simp [State.writeReefCtl]

@[simp] theorem writeAlarm_kept (s : State) (off : Nat) (v : W32) : kept (s.writeAlarm off v) = kept s := by
  simp [State.writeAlarm]

@[simp] theorem markerMaxClr_kept (s : State) (a : Nat) : kept (s.markerMaxClr a) = kept s := by
  simp [State.markerMaxClr]

@[simp] theorem form_kept (s : State) : kept s.form = kept s := by
  simp [State.form]

@[simp] theorem writeHailCtl_kept (s : State) (v : W32) : kept (s.writeHailCtl v) = kept s := by
  simp [State.writeHailCtl]

@[simp] theorem writeCrew_kept (s : State) (off : Nat) (v : W32) : kept (s.writeCrew off v) = kept s := by
  simp [State.writeCrew]

@[simp] theorem watermark_kept (s : State) (k : Nat) (high : Bool) (v : W32) : kept (s.watermark k high v) = kept s := by
  simp [State.watermark]

@[simp] theorem writeStrokeCtl_kept (s : State) (v : W32) : kept (s.writeStrokeCtl v) = kept s := by
  simp [State.writeStrokeCtl]

@[simp] theorem narrowWrite_kept (s : State) (p : Page) (i off : Nat) (v : W32) : kept (s.narrowWrite p i off v) = kept s := by
  simp [State.narrowWrite]

@[simp] theorem beaconRx_kept (s : State) (port mac : Nat) (m : List Byte) : kept (s.beaconRx port mac m) = kept s := by
  simp [State.beaconRx]

@[simp] theorem dropLinks_kept (s : State) (l : List Nat) : kept (s.dropLinks l) = kept s := by
  simp [State.dropLinks]

@[simp] theorem plinthDown_store (s : State) (p l : Nat) : (kept (s.plinthDown p l)).store = (kept s).store := by
  simp [State.plinthDown]

@[simp] theorem portsIdle_kept (s : State) (on : Bool) : kept (s.portsIdle on) = kept s :=
  foldl_kept _ _ s fun t p => setPort_kept t p _

@[simp] theorem ring_kept (s : State) (n : Nat) (addrHi : W32) (header : Option (List Byte)) : kept (s.ring n addrHi header) = kept s := by
  unfold State.ring
  dsimp only
  split
  · simp
  split
  · simp
  generalize (if s.pcie.bme then header else none) = h
  cases h with
  | none => simp
  | some h =>
    dsimp only
    split
    · simp
    generalize hs2 : State.setQueue _ n _ = s2
    have h2 : kept s2 = kept s := by
      rw [← hs2]
      simp
    split <;> simp [h2]

@[simp] theorem edgesLost_kept (s : State) : kept s.edgesLost = kept s := by
  unfold State.edgesLost
  dsimp only
  split
  · rfl
  split
  · exact (kept_stroke _ _ rfl).trans (by simp)
  · simp

theorem enqueueTerm_kept {s u : State} {b : Nat} {t : Term} (h : s.enqueueTerm b t = some u) : kept u = kept s := by
  unfold State.enqueueTerm at h
  dsimp only at h
  repeat' split at h
  all_goals simp only [Option.some.injEq, reduceCtorEq] at h
  subst h
  simp

theorem issueTerm_kept {s t : State} {b : Nat} {l : List Term} (h : s.issueTerm b l = some t) : kept t = kept s := by
  refine foldlM_state_kept (fun u x v hv => ?_) h
  have hterm {w : State} (hw : u.enqueueTerm b x = some w) : kept w = kept u := enqueueTerm_kept hw
  dsimp only at hv
  split at hv
  · simp only [Option.bind_eq_bind, Option.bind_eq_some_iff] at hv
    obtain ⟨w, hw, hv⟩ := hv
    cases hv
    simp [hterm hw]
  · simp only [Option.bind_eq_bind, Option.bind_some, Option.some.injEq] at hv
    subst hv
    simp

@[simp] theorem issueTerms_kept (fuel b : Nat) (s : State) : kept (State.issueTerms fuel b s) = kept s := by
  induction fuel generalizing s with
  | zero => rfl
  | succ n ih =>
    unfold State.issueTerms
    extract_lets r used
    split
    · rfl
    split
    · rfl
    split
    · rfl
    next h => simp [ih, issueTerm_kept h]

@[simp] theorem saveTotals_kept (s : State) : kept s.saveTotals = kept s := by
  simp [State.saveTotals]

@[simp] theorem musterJudge_kept (s : State) : kept s.musterJudge = kept s := by
  simp [State.musterJudge]

@[simp] theorem takeTemp_kept (s : State) (x : TempSensor) (v : Int) : kept (s.takeTemp x v) = kept s := by
  unfold State.takeTemp
  dsimp only
  repeat' split
  all_goals simp

@[simp] theorem latchSpecial_kept (s : State) (mask : Nat) : kept (s.latchSpecial mask) = kept s := by
  simp [State.latchSpecial]

@[simp] theorem keyRequest_kept (s : State) (slot dest use round : Nat) : kept (s.keyRequest slot dest use round).2 = kept s := by
  unfold State.keyRequest
  repeat' split
  all_goals simp

@[simp] theorem writeMsix_kept (s : State) (v : Nat) (e : MsixEntry) : kept (s.writeMsix v e) = kept s := by
  simp [State.writeMsix]

@[simp] theorem intakeFeeder_kept (s : State) (n : Nat) : kept (s.intakeFeeder n) = kept s := by
  simp [State.intakeFeeder]

@[simp] theorem intake_kept (s : State) : kept s.intake = kept s := by
  simp [State.intake]

@[simp] theorem tapSelect_store (s : State) (code : Nat) (allowed : Bool) : (kept (s.tapSelect code allowed)).store = (kept s).store := by
  unfold State.tapSelect
  split <;> simp [store_eta]

theorem dbgRequest_tidy (s : State) (a reserved : Nat) (f : State → DbgAnswer) (tidy : Tidy (kept s).store)
    (hf : ∀ t, Tidy (kept t).store → Tidy (kept (f t).2.2).store) : Tidy (kept (s.dbgRequest a reserved f)).store := by
  have hselect : Tidy (kept (s.tapSelect 0x10 true)).store := by rw [tapSelect_store]; exact tidy
  unfold State.dbgRequest
  dsimp only
  rw [emit_kept]
  split
  · exact hselect
  split
  · exact hselect
  · exact hf _ hselect

@[simp] theorem ptpDrop_kept (s : State) : kept s.ptpDrop = kept s := by
  simp [State.ptpDrop]

@[simp] theorem ptpLose_kept (s : State) (port : Nat) : kept (s.ptpLose port) = kept s := by
  simp [State.ptpLose]

@[simp] theorem ptpSync_kept (s : State) (port : Nat) (offset start : Int) : kept (s.ptpSync port offset start) = kept s := by
  simp [State.ptpSync]

@[simp] theorem landTtMem_kept (s : State) (op : Nat) : kept (s.landTtMem op) = kept s := by
  simp [State.landTtMem]

@[simp] theorem memberLost_kept (s : State) (id : Nat) : kept (s.memberLost id) = kept s := by
  simp [State.memberLost]

@[simp] theorem storeShare_kept (s : State) (b : Nat) (sh : Share) : kept (s.storeShare b sh) = kept s := by
  simp [State.storeShare]

@[simp] theorem routeShare_kept (s : State) (b : Nat) (sh : Share) : kept (s.routeShare b sh) = kept s := by
  simp [State.routeShare]

/-- The decryption stays a variable: the kernel must not run it. -/
@[simp] theorem openEnv_kept (s : State) (b : Nat) (e : List Byte) (bad : Bool) : kept (s.openEnv b e bad).2 = kept s := by
  obtain ⟨decrypt, hdecrypt⟩ : ∃ decrypt, hpkeOpen = decrypt := ⟨_, rfl⟩
  unfold State.openEnv
  rw [hdecrypt]
  dsimp only
  generalize (if (s.round b).d.glwe then _ else _) = c
  repeat' split
  all_goals simp

@[simp] theorem enterReady_kept (s : State) : kept s.enterReady = kept s := by
  simp [State.enterReady]

@[simp] theorem pierDown_kept (s : State) (p d : Nat) (lanes : List Nat) : kept (s.pierDown p d lanes) = kept s := by
  simp [State.pierDown]

@[simp] theorem vaultDiscard_kept (fuel c : Nat) (s : State) : kept (State.vaultDiscard fuel c s) = kept s := by
  induction fuel generalizing s with
  | zero => rfl
  | succ n ih =>
    unfold State.vaultDiscard
    dsimp only
    repeat' split
    all_goals simp [ih]

@[simp] theorem dropMarks_kept (s : State) (b : Nat) : kept (s.dropMarks b) = kept s := by
  simp [State.dropMarks]

@[simp] theorem classify_kept (s : State) (b : Nat) : kept (s.classify b) = kept s := by
  simp [State.classify]

@[simp] theorem rosterStep_kept (s : State) (b : Nat) : kept (s.rosterStep b) = kept s := by
  simp [State.rosterStep]

@[simp] theorem capOff_kept (s : State) : kept s.capOff = kept s := by
  simp [State.capOff]

@[simp] theorem thermalCap_kept (s : State) (rested : Bool) : kept (s.thermalCap rested) = kept s := by
  simp [State.thermalCap]

@[simp] theorem bar2Refused_kept (s : State) (offset : Nat) : kept (s.bar2Refused offset) = kept s := by
  simp [State.bar2Refused]

@[simp] theorem courseDown_kept (s : State) (c d : Nat) : kept (s.courseDown c d) = kept s := by
  simp [State.courseDown]

@[simp] theorem sendPfc_kept (s : State) (p prio quanta : Nat) : kept (s.sendPfc p prio quanta) = kept s := by
  simp [State.sendPfc]

@[simp] theorem pfcLevel_kept (s : State) (p prio fill : Nat) (refresh : Bool) : kept (s.pfcLevel p prio fill refresh) = kept s := by
  simp [State.pfcLevel]

@[simp] theorem rxFrame_kept (s : State) (p len tags prio cls fill corr uncorr : Nat) (fcsOk : Bool) :
    kept (s.rxFrame p len tags prio cls fill corr uncorr fcsOk) = kept s := by
  simp [State.rxFrame]

@[simp] theorem fenceAtStart_kept (s : State) (l : List (Nat × Nat)) : kept (s.fenceAtStart l) = kept s := by
  simp [State.fenceAtStart]

@[simp] theorem refuse_kept (s : State) (qp code : Nat) (b : Option Nat) (e : List Byte) (stroke : Nat) :
    kept (s.refuse qp code b e stroke) = kept s := by
  unfold State.refuse
  dsimp only
  repeat' split
  all_goals simp

@[simp] theorem decideItem_kept (s : State) (qp n i : Nat) (b : Option Nat) : kept (s.decideItem qp n i b) = kept s := by
  unfold State.decideItem
  dsimp only
  repeat' split
  all_goals simp

@[simp] theorem carryAll_kept (s : State) (kind round size : Nat) (records : List (List Byte)) :
    kept (s.carryAll kind round size records) = kept s := by
  simp [State.carryAll]

@[simp] theorem writeWw_kept (s : State) (off : Nat) (v : W32) : kept (s.writeWw off v) = kept s := by
  simp [State.writeWw]

@[simp] theorem snakTimer_kept (s : State) (i base : Nat) : kept (s.snakTimer i base) = kept s := by
  unfold State.snakTimer
  split <;> simp

@[simp] theorem vaultComplete_kept (s : State) (c : Nat) : kept (s.vaultComplete c) = kept s := by
  unfold State.vaultComplete
  dsimp only
  repeat' split
  all_goals simp

@[simp] theorem decisionHeld_kept (s : State) (b : Nat) (d : Decision) : kept (s.decisionHeld b d) = kept s := by
  simp [State.decisionHeld]

@[simp] theorem rateUp_kept (s : State) (i : Nat) : kept (s.rateUp i) = kept s := by
  unfold State.rateUp
  dsimp only
  repeat' split
  all_goals simp

@[simp] theorem sprayDone_kept (s : State) (i base : Nat) : kept (s.sprayDone i base) = kept s := by
  unfold State.sprayDone
  dsimp only
  repeat' split
  all_goals simp

@[simp] theorem setLevel_kept (s : State) (k : Nat) : kept (s.setLevel k) = kept s := by
  simp [State.setLevel]

@[simp] theorem consumeOp_kept (s : State) (r : Rig) (k : Nat) (c : Core) (w : Slot) (f : Queue → Queue) :
    kept (s.consumeOp r k c w f) = kept s := by
  unfold State.consumeOp
  repeat' split
  all_goals simp

@[simp] theorem sendReports_kept (s : State) (i : Nat) : kept (s.sendReports i) = kept s := by
  simp [State.sendReports]

@[simp] theorem consOp_kept (s : State) (n cons : Nat) : kept (s.consOp n cons) = kept s := by
  unfold State.consOp
  dsimp only
  repeat' split
  all_goals simp

@[simp] theorem writeWindow_kept (s : State) (n off : Nat) (v : W32) : kept (s.writeWindow n off v) = kept s := by
  unfold State.writeWindow
  dsimp only
  repeat' split
  all_goals simp

@[simp] theorem writeMsixDword_kept (s : State) (off : Nat) (w : W32) : kept (s.writeMsixDword off w) = kept s := by
  unfold State.writeMsixDword
  dsimp only
  repeat' split
  all_goals simp

@[simp] theorem bar4Write_kept (s : State) (a len : Nat) (v : W32) : kept (s.bar4Write a len v) = kept s := by
  simp [State.bar4Write]

theorem fnLoad_kept {s : State} {places : List Nat} {x : Nat × State} (h : s.fnLoad places = some x) : kept x.2 = kept s := by
  unfold State.fnLoad at h
  dsimp only at h
  split at h
  · cases h; rfl
  split at h
  · cases h; rfl
  split at h
  · cases h; rfl
  split at h
  · cases h; rfl
  split at h
  · cases h; rfl
  next a s1 harea =>
  have hs : kept s1 = kept s := by
    repeat' split at harea
    · cases harea; rfl
    · simp at harea
    · exact allocHigh_kept harea
  repeat' split at h
  all_goals cases h
  all_goals simp [hs]

@[simp] theorem regionAlloc_kept (s : State) : kept (s.regionAlloc).2.2 = kept s := by
  unfold State.regionAlloc
  dsimp only
  repeat' split
  all_goals simp

@[simp] theorem registerKey_kept (s : State) (blk : Nat) : kept (s.registerKey blk).2.2 = kept s := by
  obtain ⟨slots, hslots⟩ : ∃ slots, List.range 1048576 = slots := ⟨_, rfl⟩
  unfold State.registerKey
  rw [hslots]
  dsimp only
  repeat' split
  all_goals simp

@[simp] theorem pdFree_kept (s : State) (w : Nat) : kept (s.pdFree w).2 = kept s := by
  unfold State.pdFree
  dsimp only
  repeat' split
  all_goals simp

@[simp] theorem deregister_kept (s : State) (key : Nat) : kept (s.deregister key).2 = kept s := by
  unfold State.deregister
  dsimp only
  repeat' split
  all_goals simp

@[simp] theorem bindQp_kept (s : State) (q : Qp) (on : Bool) : kept (s.bindQp q on) = kept s := by
  simp [State.bindQp]

@[simp] theorem destroyQp_kept (s : State) (i : Nat) : kept (s.destroyQp i) = kept s := by
  simp [State.destroyQp]

@[simp] theorem writeArgs_kept (s : State) (blk : Nat) : kept (s.writeArgs blk) = kept s := by
  simp [State.writeArgs]

@[simp] theorem modifyQp_kept (s : State) (blk : Nat) : kept (s.modifyQp blk) = kept s := by
  unfold State.modifyQp
  dsimp only
  repeat' split
  all_goals simp

@[simp] theorem createQp_kept (s : State) (blk : Nat) : kept (s.createQp blk).2.2 = kept s := by
  unfold State.createQp
  dsimp only
  repeat' split
  all_goals simp

@[simp] theorem odpInvalidate_kept (s : State) (key page n : Nat) : kept (s.odpInvalidate key page n).2 = kept s := by
  unfold State.odpInvalidate
  dsimp only
  repeat' split
  all_goals simp

@[simp] theorem halyardEffect_kept (s : State) (op blk : Nat) : kept (s.halyardEffect op blk).2.2 = kept s := by
  unfold State.halyardEffect
  dsimp only
  repeat' split
  all_goals simp

@[simp] theorem endHalyard_kept (s : State) : kept s.endHalyard = kept s := by
  simp [State.endHalyard]

@[simp] theorem decideEnvs_kept (s : State) (qp : Nat) (bd : Bind) : kept (s.decideEnvs qp bd) = kept s := by
  refine foldl_kept _ _ s fun t i => ?_
  dsimp only
  split
  · split
    · rfl
    · split <;> simp
  · rfl

@[simp] theorem bpStroke_kept (s : State) : kept s.bpStroke = kept s := by
  simp [State.bpStroke]

@[simp] theorem endSprays_kept (s : State) : kept s.endSprays = kept s := by
  simp [State.endSprays]

@[simp] theorem releaseAcks_kept (s : State) : kept s.releaseAcks = kept s := by
  unfold State.releaseAcks
  dsimp only
  rw [endSprays_kept]
  refine foldl_kept _ _ s fun t e => ?_
  split <;> split <;> simp

@[simp] theorem forcedLeave_kept (s : State) : kept s.forcedLeave = kept s := by
  simp [State.forcedLeave]

@[simp] theorem setMarker_kept (s : State) (x m : Nat) : kept (s.setMarker x m) = kept s := by
  simp [State.setMarker]

@[simp] theorem markerOf_kept (s : State) (id ord : Nat) (r : Rig) (a : RigAshlar) (x : Nat) :
    kept (s.markerOf id ord r a x).2 = kept s := by
  unfold State.markerOf
  dsimp only
  repeat' split
  all_goals simp

@[simp] theorem markers_kept (s : State) : kept s.markers = kept s := by
  unfold State.markers
  dsimp only
  refine (foldl_kept _ _ _ fun t e => ?_).trans (kept_mk ..)
  split
  · rfl
  · refine foldl_kept _ _ _ fun u f => ?_
    split <;> simp

@[simp] theorem sendLtr_kept (s : State) : kept s.sendLtr = kept s := by
  simp [State.sendLtr]

@[simp] theorem enterReef_kept (s : State) (k : Nat) : kept (s.enterReef k) = kept s := by
  simp [State.enterReef]

@[simp] theorem countDwells_kept (s : State) : kept s.countDwells = kept s := by
  simp [State.countDwells]

@[simp] theorem reefStep_kept (s : State) : kept s.reefStep = kept s := by
  simp [State.reefStep]

@[simp] theorem haltNow_store (s : State) (last cause hit : Nat) : (kept (s.haltNow last cause hit)).store = (kept s).store := by
  simp [State.haltNow, store_eta]

@[simp] theorem dmaEnd_kept (s : State) (p : Nat) (r : Rig) (d : DmaWord) (status bytes : Nat) :
    kept (s.dmaEnd p r d status bytes) = kept s := by
  unfold State.dmaEnd
  dsimp only
  repeat' split
  all_goals simp

@[simp] theorem sendPending_kept (s : State) : kept s.sendPending = kept s := by
  simp [State.sendPending]

@[simp] theorem configWrite_kept (s : State) (w : ConfigWr) : kept (s.configWrite w) = kept s := by
  unfold State.configWrite
  dsimp only
  repeat' split
  all_goals simp

@[simp] theorem enqEnd_kept (s : State) (r : Rig) (ord k : Nat) (c : Core) (w : Slot) (ok : Bool) :
    kept (s.enqEnd r ord k c w ok) = kept s := by
  unfold State.enqEnd
  dsimp only
  repeat' split
  all_goals simp

@[simp] theorem enq_kept (s : State) (u : Issue) (op : Nat) (r : Rig) (k : Nat) (c : Core) (w : Slot) :
    kept (s.enq u op r k c w) = kept s := by
  unfold State.enq
  dsimp only
  repeat' split
  all_goals simp

@[simp] theorem sampled_kept (s : State) : kept (s.sampled).2 = kept s := by
  simp [State.sampled]

@[simp] theorem boundaryScan_store (s : State) (code cells : Nat) (allowed : Bool) :
    (kept (s.boundaryScan code cells allowed)).store = (kept s).store := by
  unfold State.boundaryScan
  dsimp only
  split <;> simp [store_eta]

@[simp] theorem moveItems_kept (s : State) (bd : Bind) : kept (s.moveItems bd) = kept s := by
  refine drainLanding_kept _ _ _ _ fun t i u h => ?_
  dsimp only at h
  repeat' split at h
  · cases h; rfl
  · cases h; rfl
  · exact copyItem_kept h
  · simp at h

@[simp] theorem hello_kept (s : State) (port : Nat) (m : List Byte) (id : Nat) : kept (s.hello port m id) = kept s := by
  simp [State.hello]

@[simp] theorem push_kept (s : State) (c : Instr) : kept (s.push c) = kept s := by
  simp [State.push]

@[simp] theorem memError_kept (s : State) (p : Page) (i addr kind requester : Nat) (syndrome : W32) :
    kept (s.memError p i addr kind requester syndrome) = kept s := by
  simp [State.memError]

@[simp] theorem produceOne_kept (s : State) (n : Nat) (p : Producer) (w : W256) : kept (s.produceOne n p w).2 = kept s := by
  simp [State.produceOne]

@[simp] theorem withFetchWord_kept (s : State) (nbits w : Nat) : kept (s.withFetchWord nbits w) = kept s := by
  unfold State.withFetchWord
  split <;> simp

end Sys2Proof.Proofs.StoreKept
end

section
/-!
PROOFS. The functions that write memory keep its canonical form (13 R512): one lemma for each, in the order in which they call each other.
-/

namespace Sys2Proof.Proofs.StoreKept
open Sys2Proof Sys2Proof.Machine

theorem tidy_if {c : Prop} [Decidable c] {a b : State} (ha : Tidy (kept a).store) (hb : Tidy (kept b).store) :
    Tidy (kept (if c then a else b)).store := by
  split
  · exact ha
  · exact hb

theorem tidy_snd_if {α : Type} {c : Prop} [Decidable c] {a b : α × State} (ha : Tidy (kept a.2).store) (hb : Tidy (kept b.2).store) :
    Tidy (kept (if c then a else b).2).store := by
  split
  · exact ha
  · exact hb

theorem tidy_third_if {α β : Type} {c : Prop} [Decidable c] {a b : α × β × State} (ha : Tidy (kept a.2.2).store)
    (hb : Tidy (kept b.2.2).store) : Tidy (kept (if c then a else b).2.2).store := by
  split
  · exact ha
  · exact hb

theorem tidy_fourth_if {α β γ : Type} {c : Prop} [Decidable c] {a b : α × β × γ × State} (ha : Tidy (kept a.2.2.2).store)
    (hb : Tidy (kept b.2.2.2).store) : Tidy (kept (if c then a else b).2.2.2).store := by
  split
  · exact ha
  · exact hb

theorem foldl_pair_tidy {α β : Type} {f : α × State → β → α × State}
    (hf : ∀ a x, Tidy (kept a.2).store → Tidy (kept (f a x).2).store) {l : List β} {a : α × State} (tidy : Tidy (kept a.2).store) :
    Tidy (kept (l.foldl f a).2).store := by
  induction l generalizing a with
  | nil => exact tidy
  | cons x l ih => exact ih (hf a x tidy)

theorem foldl_triple_tidy {α γ β : Type} {f : α × γ × State → β → α × γ × State}
    (hf : ∀ a x, Tidy (kept a.2.2).store → Tidy (kept (f a x).2.2).store) {l : List β} {a : α × γ × State}
    (tidy : Tidy (kept a.2.2).store) : Tidy (kept (l.foldl f a).2.2).store := by
  induction l generalizing a with
  | nil => exact tidy
  | cons x l ih => exact ih (hf a x tidy)

@[simp] theorem storeWord_tidy (s : State) (w : Nat) (l : List Byte) (d : W32) (tidy : Tidy (kept s).store) :
    Tidy (kept (s.storeWord w l d)).store := (storeWord_sound _ _ _ _).tidy tidy

@[simp] theorem touchBed_tidy (s : State) (w : Nat) (tidy : Tidy (kept s).store) :
    Tidy (kept (s.touchBed w)).store := (touchBed_sound _ _).tidy tidy

@[simp] theorem writeWord_tidy (s : State) (w : Nat) (l : List Byte) (bad : Bool) (tidy : Tidy (kept s).store) :
    Tidy (kept (s.writeWord w l bad)).store := (writeWord_sound _ _ _ _).tidy tidy

@[simp] theorem readWord_tidy (s : State) (req w : Nat) (tidy : Tidy (kept s).store) :
    Tidy (kept (s.readWord req w).2.2).store := (readWord_sound _ _ _).tidy tidy

@[simp] theorem mergeWord_tidy (s : State) (req w o : Nat) (l : List Byte) (bad : Bool) (tidy : Tidy (kept s).store) :
    Tidy (kept (s.mergeWord req w o l bad)).store := (mergeWord_sound _ _ _ _ _ _).tidy tidy

@[simp] theorem writeFuel_tidy (s : State) (fuel req a : Nat) (l : List Byte) (bad : Bool) (tidy : Tidy (kept s).store) :
    Tidy (kept (s.writeFuel fuel req a l bad)).store := (writeFuel_sound _ _ _ _ _ _).tidy tidy

@[simp] theorem writeBytes_tidy (s : State) (req a : Nat) (l : List Byte) (bad : Bool) (tidy : Tidy (kept s).store) :
    Tidy (kept (s.writeBytes req a l bad)).store := (writeBytes_sound _ _ _ _ _).tidy tidy

@[simp] theorem regionWrite_tidy (s : State) (key : Nat) (k : RKey) (off : Nat) (l : List Byte) (bad : Bool) (tidy : Tidy (kept s).store) :
    Tidy (kept (s.regionWrite key k off l bad)).store := (regionWrite_sound _ _ _ _ _ _).tidy tidy

@[simp] theorem landSpray_tidy (s : State) (i : Nat) (q : Qp) (p : Packet) (tidy : Tidy (kept s).store) :
    Tidy (kept (s.landSpray i q p)).store := (landSpray_sound _ _ _ _).tidy tidy

@[simp] theorem readWords_tidy (s : State) (req w n : Nat) (tidy : Tidy (kept s).store) :
    Tidy (kept (s.readWords req w n).2.2).store := (readWords_sound _ _ _ _).tidy tidy

@[simp] theorem readBytes_tidy (s : State) (req a n : Nat) (tidy : Tidy (kept s).store) :
    Tidy (kept (s.readBytes req a n).2.2).store := (readBytes_sound _ _ _ _).tidy tidy

@[simp] theorem regionRead_tidy (s : State) (key : Nat) (k : RKey) (off n : Nat) (host : List Byte) (tidy : Tidy (kept s).store) :
    Tidy (kept (s.regionRead key k off n host).2.2).store := (regionRead_sound _ _ _ _ _ _).tidy tidy

@[simp] theorem doAtomic_tidy (s : State) (i : Nat) (q : Qp) (p : Packet) (tidy : Tidy (kept s).store) :
    Tidy (kept (s.doAtomic i q p)).store := (doAtomic_sound _ _ _ _).tidy tidy

@[simp] theorem placeWrite_tidy (s : State) (i : Nat) (q : Qp) (p : Packet) (m : RxMsg) (k : RKey) (off : Nat)
    (tidy : Tidy (kept s).store) :
    Tidy (kept (s.placeWrite i q p m k off)).store := (placeWrite_sound _ _ _ _ _ _ _).tidy tidy

@[simp] theorem landWrite_tidy (s : State) (i : Nat) (q : Qp) (p : Packet) (tidy : Tidy (kept s).store) :
    Tidy (kept (s.landWrite i q p)).store := (landWrite_sound _ _ _ _).tidy tidy

@[simp] theorem readResponses_tidy (fuel : Nat) (s : State) (i : Nat) (p : Packet) (rk : RKey) (off k n : Nat)
    (tidy : Tidy (kept s).store) :
    Tidy (kept (s.readResponses fuel i p rk off k n)).store := (readResponses_sound _ _ _ _ _ _ _ _).tidy tidy

@[simp] theorem doRead_tidy (s : State) (i : Nat) (q : Qp) (p : Packet) (fresh : Bool) (tidy : Tidy (kept s).store) :
    Tidy (kept (s.doRead i q p fresh)).store := (doRead_sound _ _ _ _ _).tidy tidy

@[simp] theorem applyHeldPackets_tidy (s : State) (tidy : Tidy (kept s).store) :
    Tidy (kept s.applyHeldPackets).store := (applyHeldPackets_sound _).tidy tidy

@[simp] theorem strokeStart_tidy (s : State) (tidy : Tidy (kept s).store) :
    Tidy (kept s.strokeStart).store := (strokeStart_sound _).tidy tidy

@[simp] theorem restart_tidy (s : State) (derive : Bool) (tidy : Tidy (kept s).store) : Tidy (kept (s.restart derive)).store := by
  unfold State.restart
  dsimp only
  refine (strokeStart_sound _).tidy ?_
  split <;> split <;> simp [store_eta, tidy]

@[simp] theorem zeroRange_tidy (s : State) (a n : Nat) (tidy : Tidy (kept s).store) : Tidy (kept (s.zeroRange a n)).store :=
  s.zeroRange_wf a n tidy

@[simp] theorem unbindVault_tidy (s : State) (r : Rig) (tidy : Tidy (kept s).store) : Tidy (kept (s.unbindVault r)).store := by
  unfold State.unbindVault
  split <;> simp [tidy]

@[simp] theorem unloadRig_tidy (s : State) (id : Nat) (tidy : Tidy (kept s).store) : Tidy (kept (s.unloadRig id)).store := by
  unfold State.unloadRig
  split
  · exact tidy
  simp only [kept_mk, store_eta, dropCores_kept, dropAreas_kept]
  refine foldl_tidy _ _ _ (fun t a ht => ?_) (unbindVault_tidy _ _ ?_)
  · split <;> simp [ht]
  · rw [bindQueues_kept, foldl_kept]
    · exact tidy
    · intro t b
      repeat' split
      all_goals simp

@[simp] theorem retireRound_tidy (s : State) (b : Nat) (tidy : Tidy (kept s).store) : Tidy (kept (s.retireRound b)).store := by
  have hrigs (l : List Nat) : Tidy (kept (l.foldl (fun t id => State.unloadRig t id) s)).store :=
    foldl_tidy _ _ _ (fun t id ht => unloadRig_tidy t id ht) tidy
  have hareas (l : List Area) (t : State) (ht : Tidy (kept t).store) :
      Tidy (kept (l.foldl (fun t a => State.zeroRange t a.base a.len) t)).store :=
    foldl_tidy _ _ _ (fun t a ht => zeroRange_tidy t a.base a.len ht) ht
  unfold State.retireRound
  extract_lets r n s1 s2 s3 s4 fabric rounds s5 s6
  have h2 : kept s2 = kept s1 := by
    simp only [s2]
    exact foldl_kept _ _ _ fun t q => freeQueue_kept t q
  have h4 : kept s4 = kept s3 := by simp only [s4, dropKeys_kept, dropAreas_kept]
  have h5 : kept s5 = kept s4 := rfl
  have h6 : kept s6 = kept s5 := by
    clear_value s5
    simp [s6]
  rw [enterState_kept, zeroiseSlots_kept, h6, h5, h4]
  exact hareas _ _ (h2 ▸ hrigs _)

@[simp] theorem endTenancy_tidy (s : State) (tidy : Tidy (kept s).store) : Tidy (kept s.endTenancy).store := by
  unfold State.endTenancy
  simp only [kept_mk, store_eta, zeroiseSlots_kept]
  refine foldl_tidy _ _ _ (fun t e ht => unloadRig_tidy t e.1 ht) ?_
  rw [dissolveCrew_kept]
  refine foldl_tidy _ _ _ (fun t e ht => ?_) ?_
  · split <;> simp [ht]
  · rw [foldl_kept]
    · exact tidy
    · intro t e
      split <;> simp

@[simp] theorem claimCommit_tidy (s : State) (tidy : Tidy (kept s).store) : Tidy (kept s.claimCommit).store := by
  simp [tidy, State.claimCommit]

@[simp] theorem rigUnload_tidy (s : State) (tidy : Tidy (kept s).store) : Tidy (kept (s.rigUnload).2).store := by
  unfold State.rigUnload
  dsimp only
  repeat' split
  all_goals simp [tidy]

@[simp] theorem dropFn_tidy (s : State) (f : Nat) (tidy : Tidy (kept s).store) : Tidy (kept (s.dropFn f)).store := by
  unfold State.dropFn
  simp only [dropAreas_kept]
  refine foldl_tidy _ _ _ (fun t a ht => ?_) (foldl_tidy _ _ _ (fun t e ht => ?_) tidy)
  · split <;> simp [ht]
  · split <;> simp [ht]

@[simp] theorem fnUnload_tidy (s : State) (tidy : Tidy (kept s).store) : Tidy (kept (s.fnUnload).2).store := by
  unfold State.fnUnload
  dsimp only
  repeat' split
  all_goals simp [tidy]

@[simp] theorem endBosun_tidy (s : State) (tidy : Tidy (kept s).store) : Tidy (kept s.endBosun).store := by
  have hready (x : CmdSt) : Tidy (kept { s with bosun := x }).store := tidy
  unfold State.endBosun
  dsimp only
  split
  · exact tidy
  split
  · split <;> simp [tidy]
  split
  · exact tidy
  split
  · split <;> simp [tidy]
  · split
    · exact endTenancy_tidy _ (hready _)
    · simp [tidy]
  · split <;> simp [tidy]
  · split <;> simp [tidy]
  · exact tidy

@[simp] theorem unlockStep_tidy (s : State) (tidy : Tidy (kept s).store) : Tidy (kept s.unlockStep).store := by
  unfold State.unlockStep
  split
  · split
    · exact endTenancy_tidy _ (by simpa [store_eta] using tidy)
    · exact tidy
  · exact tidy

@[simp] theorem commandStep_tidy (s : State) (tidy : Tidy (kept s).store) : Tidy (kept s.commandStep).store := by
  simp [tidy, State.commandStep]

@[simp] theorem streamImage_tidy (s : State) (k : KeySet) (kind : Nat) (tidy : Tidy (kept s).store) :
    Tidy (kept (s.streamImage k kind).2.2).store := by
  unfold State.streamImage
  split
  · exact tidy
  · exact foldl_triple_tidy (fun a e ha => by simp [ha]) tidy

theorem replicaFill_tidy (s : State) (course ksid : Nat) (k : KeySet) (tidy : Tidy (kept s).store) :
    Tidy (kept (State.replicaOf.fill s course ksid k).2).store := by
  unfold State.replicaOf.fill
  simp [tidy]

@[simp] theorem replicaOf_tidy (s : State) (course ksid : Nat) (k : KeySet) (tidy : Tidy (kept s).store) :
    Tidy (kept (s.replicaOf course ksid k).2).store := by
  unfold State.replicaOf
  dsimp only
  split
  · exact tidy_snd_if tidy (replicaFill_tidy _ _ _ _ tidy)
  · exact replicaFill_tidy _ _ _ _ tidy

@[simp] theorem vaultFault_tidy (s : State) (c id : Nat) (tidy : Tidy (kept s).store) : Tidy (kept (s.vaultFault c id)).store := by
  simp [tidy, State.vaultFault]

@[simp] theorem refreshFault_tidy (s : State) (c : Nat) (tidy : Tidy (kept s).store) : Tidy (kept (s.refreshFault c)).store := by
  unfold State.refreshFault
  dsimp only
  repeat' split
  all_goals simp [tidy]

@[simp] theorem refresh_tidy (s : State) (on : RunOn) (h : ObjHdr) (body : List Nat) (lut : Nat) (big : Bool)
    (tidy : Tidy (kept s).store) : Tidy (kept (s.refresh on h body lut big).2).store := by
  unfold State.refresh
  split
  · extract_lets bsk cipher x s1 ksk
    have hbsk : Tidy (kept bsk.2).store := replicaOf_tidy s on.course h.ksid _ tidy
    have h1 : Tidy (kept s1).store := by simp [s1, hbsk]
    have hksk : Tidy (kept ksk.2.2).store := streamImage_tidy _ _ _ h1
    exact tidy_snd_if (by simp [hbsk]) (tidy_snd_if (by simp [hbsk]) (tidy_snd_if h1 (tidy_snd_if hksk hksk)))
  · exact tidy

@[simp] theorem resendReq_tidy (s : State) (i : Nat) (r : SentReq) (l : List Nat) (tidy : Tidy (kept s).store) :
    Tidy (kept (s.resendReq i r l)).store := by
  simp [tidy, State.resendReq]

@[simp] theorem resendFrom_tidy (s : State) (i psn : Nat) (tidy : Tidy (kept s).store) : Tidy (kept (s.resendFrom i psn)).store := by
  unfold State.resendFrom
  exact foldl_tidy _ _ _ (fun t a tidy => by simp [tidy]) tidy

@[simp] theorem takeNak_tidy (s : State) (i : Nat) (kind psn : Nat) (tidy : Tidy (kept s).store) :
    Tidy (kept (s.takeNak i kind psn)).store := by
  unfold State.takeNak
  dsimp only
  repeat' split
  all_goals simp [tidy]

@[simp] theorem loadAshlarConsts_tidy (s : State) (r : Rig) (ord : Nat) (ra : RigAshlar) (tidy : Tidy (kept s).store) :
    Tidy (kept (s.loadAshlarConsts r ord ra)).store := by
  unfold State.loadAshlarConsts
  exact foldl_tidy _ _ _ (fun t a tidy => by simp [tidy]) tidy

@[simp] theorem endCopy_tidy (s : State) (tidy : Tidy (kept s).store) : Tidy (kept s.endCopy).store := by
  simp [tidy, State.endCopy]

@[simp] theorem landDrop_tidy (s : State) (c : CmdSt) (tidy : Tidy (kept s).store) : Tidy (kept (s.landDrop c).2).store := by
  unfold State.landDrop
  extract_lets n a r e x slots s1
  have hx : Tidy (kept x.2.2).store := readBytes_tidy _ 7 a _ tidy
  exact tidy_snd_if tidy (tidy_snd_if tidy (tidy_snd_if hx (tidy_snd_if hx (tidy_snd_if hx (tidy_snd_if hx
    (tidy_snd_if (by simp [s1, hx]) (by simp [s1, hx])))))))

@[simp] theorem writeBack_tidy (s : State) (w : Nat) (tidy : Tidy (kept s).store) : Tidy (kept (s.writeBack w)).store := by
  unfold State.writeBack
  dsimp only
  repeat' split
  all_goals simp [tidy]

@[simp] theorem unlock_tidy (s : State) (tidy : Tidy (kept s).store) : Tidy (kept s.unlock).store := by
  have hset (x : Telltale) : Tidy (kept { s with tt := x }).store := tidy
  unfold State.unlock
  dsimp only
  split
  · rw [latchEvt_kept]
    exact hset _
  split
  · exact hset _
  split
  · exact endTenancy_tidy _ (hset _)
  · exact hset _

@[simp] theorem poisonOut_tidy (s : State) (r : CReq) (h : ObjHdr) (status refreshes : Nat) (tidy : Tidy (kept s).store) :
    Tidy (kept (s.poisonOut r h status refreshes)).store := by
  simp [tidy, State.poisonOut]

@[simp] theorem addWords_tidy (s : State) (n m a : Nat) (l : List Nat) (bad : Bool) (tidy : Tidy (kept s).store) :
    Tidy (kept (s.addWords n m a l bad)).store :=
  foldl_tidy _ _ _ (fun t k ht => by simp [ht]) (by simp [tidy])

@[simp] theorem applyTerm_tidy (s : State) (b : Nat) (t : Term) (tidy : Tidy (kept s).store) :
    Tidy (kept (s.applyTerm b t)).store := by
  unfold State.applyTerm
  exact foldl_tidy _ _ _ (fun t a tidy => by simp [tidy]) tidy

@[simp] theorem maskWork_tidy (s : State) (b : Nat) (tidy : Tidy (kept s).store) : Tidy (kept (s.maskWork b)).store := by
  unfold State.maskWork
  extract_lets r s1
  have h1 : Tidy (kept s1).store := foldl_tidy _ _ _ (fun t n ht => consume_tidy t n _ ht fun u i hu =>
    foldl_tidy _ _ _ (fun v w hv => applyTerm_tidy v b _ hv) hu) tidy
  split
  · exact tidy
  split
  · exact h1
  · exact consume_tidy _ _ _ h1 fun u i hu => by simp [hu]

@[simp] theorem addCountWord_tidy (s : State) (a n : Nat) (bad : Bool) (tidy : Tidy (kept s).store) :
    Tidy (kept (s.addCountWord a n bad)).store := by
  simp [tidy, State.addCountWord]

@[simp] theorem addChunk_tidy (s : State) (b c : Nat) (ws : List Nat) (n : Nat) (bad : Bool) (tidy : Tidy (kept s).store) :
    Tidy (kept (s.addChunk b c ws n bad)).store := by
  simp [tidy, State.addChunk]

@[simp] theorem retractOrPoison_tidy (s : State) (b slot chunk : Nat) (ws : List Nat) (tidy : Tidy (kept s).store) :
    Tidy (kept (s.retractOrPoison b slot chunk ws)).store := by
  simp [tidy, State.retractOrPoison]

@[simp] theorem purgeHeld_tidy (s : State) (b g : Nat) (tidy : Tidy (kept s).store) : Tidy (kept (s.purgeHeld b g)).store := by
  unfold State.purgeHeld
  dsimp only
  split
  · exact tidy
  · exact foldl_tidy _ _ _ (fun t h ht => retractOrPoison_tidy t b h.slot h.chunk h.data ht) (by simp [tidy])

@[simp] theorem poisonRound_tidy (s : State) (b : Nat) (tidy : Tidy (kept s).store) : Tidy (kept (s.poisonRound b)).store := by
  unfold State.poisonRound
  exact foldl_tidy _ _ _ (fun t a tidy => by simp [tidy]) tidy

@[simp] theorem scrubUncorr_tidy (s : State) (w : Nat) (d : W32) (tidy : Tidy (kept s).store) :
    Tidy (kept (s.scrubUncorr w d)).store := by
  unfold State.scrubUncorr
  dsimp only
  repeat' split
  all_goals simp [tidy]

@[simp] theorem scrubWord_tidy (s : State) (w : Nat) (tidy : Tidy (kept s).store) : Tidy (kept (s.scrubWord w)).store := by
  unfold State.scrubWord
  dsimp only
  repeat' split
  all_goals simp [tidy]

@[simp] theorem copyWords_tidy (s : State) (req src dst n : Nat) (tidy : Tidy (kept s).store) :
    Tidy (kept (s.copyWords req src dst n).2).store := by
  induction n generalizing s src dst with
  | zero => exact tidy
  | succ n ih => exact ih _ _ _ (by simp [tidy])

theorem moveConsts_tidy {s : State} {id ord : Nat} {r : Rig} {old new : RigAshlar} {x : RigAshlar × State} (tidy : Tidy (kept s).store)
    (h : s.moveConsts id r ord old new = some x) : Tidy (kept x.2).store := by
  obtain ⟨place, hplace⟩ : ∃ place, State.placeConstArea s = place := ⟨_, rfl⟩
  unfold State.moveConsts at h
  rw [hplace] at h
  split at h
  · cases h
    exact tidy
  split at h
  · simp at h
  next harea =>
  rw [← hplace] at harea
  rw [← placeConstArea_kept harea] at tidy
  obtain rfl := Option.some.inj h
  rw [dropAreas_kept]
  exact zeroRange_tidy _ _ _ (copyWords_tidy _ _ _ _ _ tidy)

theorem moveEach_tidy {id : Nat} {r : Rig} {l : List (Nat × RigAshlar × RigAshlar)} {s : State} {x : List RigAshlar × State}
    (tidy : Tidy (kept s).store) (h : s.moveEach id r l = some x) : Tidy (kept x.2).store := by
  induction l generalizing s x with
  | nil =>
    cases h
    exact tidy
  | cons a l ih =>
    unfold State.moveEach at h
    split at h
    · simp at h
    next s1 hmove =>
    split at h
    · simp at h
    next y s2 hrest =>
    cases h
    exact ih (x := (y, s2)) (moveConsts_tidy tidy hmove) hrest

@[simp] theorem loadCoreConsts_tidy (s : State) (r : Rig) (ord : Nat) (ra : RigAshlar) (tidy : Tidy (kept s).store) :
    Tidy (kept (s.loadCoreConsts r ord ra)).store := by
  unfold State.loadCoreConsts
  exact foldl_tidy _ _ _ (fun t a tidy => by simp [tidy]) tidy

theorem replaceCourse_tidy {s : State} {id : Nat} {r : Rig} {x : Rig × State} (tidy : Tidy (kept s).store)
    (h : s.replaceCourse id r = some x) : Tidy (kept x.2).store := by
  unfold State.replaceCourse at h
  dsimp only at h
  split at h
  · simp at h
  split at h
  · simp at h
  next hmove =>
  cases h
  refine foldl_tidy _ _ _ (fun t e ht => by simp [ht]) ?_
  rw [setRig_kept]
  exact moveEach_tidy (by simp [tidy]) hmove

@[simp] theorem trialView_tidy (s : State) (t : Trial) (r : Rig) (tidy : Tidy (kept s).store) :
    Tidy (kept (s.trialView t r)).store := by
  unfold State.trialView
  exact foldl_tidy _ _ _ (fun t a tidy => by simp [tidy]) tidy

@[simp] theorem loadBlob_tidy (s : State) (a arg slot : Nat) (tidy : Tidy (kept s).store) :
    Tidy (kept (s.loadBlob a arg slot).2).store := by
  unfold State.loadBlob
  extract_lets hdr h n x keep
  have hx : Tidy (kept x.2.2).store := readBytes_tidy _ 0 a _ tidy
  refine tidy_snd_if tidy (tidy_snd_if tidy (tidy_snd_if tidy (tidy_snd_if hx ?_)))
  clear_value x
  split
  · exact hx
  · exact tidy_snd_if hx (tidy_snd_if hx (tidy_snd_if hx (tidy_snd_if hx (by simp [hx]))))

@[simp] theorem writeBlob_tidy (s : State) (a : Nat) (h : BlobHdr) (key : List Byte) (tidy : Tidy (kept s).store) :
    Tidy (kept (s.writeBlob a h key)).store := by
  simp [tidy, State.writeBlob]

@[simp] theorem makeBlob_tidy (s : State) (op a arg slot : Nat) (tidy : Tidy (kept s).store) :
    Tidy (kept (s.makeBlob op a arg slot).2).store := by
  obtain ⟨decrypt, hdecrypt⟩ : ∃ decrypt, hpkeOpen = decrypt := ⟨_, rfl⟩
  unfold State.makeBlob
  rw [hdecrypt]
  extract_lets t h n extra x d
  have ht : Tidy (kept t.2.2).store := readBytes_tidy s 0 a 32 tidy
  have hx : Tidy (kept x.2.2).store := readBytes_tidy t.2.2 0 (a + 32) extra ht
  have hd : Tidy (kept d.2).store := by
    simp only [d, drawBytes_kept]
    exact hx
  clear_value t x d
  refine tidy_snd_if tidy (tidy_snd_if tidy (tidy_snd_if tidy (tidy_snd_if tidy
    (tidy_snd_if ht (tidy_snd_if ht (tidy_snd_if ht (tidy_snd_if hx ?_)))))))
  split
  · exact writeBlob_tidy _ _ _ _ hd
  · split
    · exact writeBlob_tidy _ _ _ _ hx
    · exact hx
  · exact writeBlob_tidy _ _ _ _ hx

@[simp] theorem keepEffect_tidy (s : State) (flashFails : Bool) (tidy : Tidy (kept s).store) :
    Tidy (kept (s.keepEffect flashFails).2).store := by
  unfold State.keepEffect
  dsimp only
  repeat' split
  all_goals simp [tidy]

@[simp] theorem wiped_tidy (s : State) : Tidy (kept s.wiped).store := by
  simp [State.wiped]

@[simp] theorem warmReset_tidy (s : State) (cause : Nat) (keepFirst : Bool) : Tidy (kept (s.warmReset cause keepFirst)).store := by
  simp [State.warmReset]

@[simp] theorem endKeep_tidy (s : State) (flashFails : Bool) (tidy : Tidy (kept s).store) :
    Tidy (kept (s.endKeep flashFails)).store := by
  simp [tidy, State.endKeep]

theorem placeRig_tidy {s t : State} {id : Nat} {r : Rig} (tidy : Tidy (kept s).store) (h : s.placeRig id r = some t) :
    Tidy (kept t).store := by
  unfold State.placeRig at h
  split at h
  · simp at h
  split at h
  · simp at h
  next hareas =>
  cases h
  refine foldl_tidy _ _ _ (fun t e ht => by simp [ht]) ?_
  rw [← constAreas_kept hareas] at tidy
  split <;> simp [tidy]

@[simp] theorem placeTenant_tidy (s : State) (i : RigImage) (l : List Byte) (tidy : Tidy (kept s).store) :
    Tidy (kept (s.placeTenant i l).2.2).store := by
  unfold State.placeTenant
  dsimp only
  repeat' split
  iterate 6 exact tidy
  next h => simp [placeRig_tidy tidy h]

@[simp] theorem readObjs_tidy (s : State) (as : List Nat) (tidy : Tidy (kept s).store) : Tidy (kept (s.readObjs as).2).store :=
  foldl_pair_tidy (fun a e ha => by simp [ha]) tidy

@[simp] theorem glweChunk_tidy (s : State) (b g slot chunk : Nat) (ws : List Nat) (bad : Bool) (tidy : Tidy (kept s).store) :
    Tidy (kept (s.glweChunk b g slot chunk ws bad)).store := by
  unfold State.glweChunk
  dsimp only
  split
  · simp [tidy]
  split
  · split
    · exact foldl_tidy _ _ _ (fun t c ht => retractOrPoison_tidy t b slot c _ ht) (by simp [tidy])
    · rw [modRound_kept]
      exact foldl_tidy _ _ _ (fun t c ht => addChunk_tidy t b c _ 1 false ht) (by simp [tidy])
  · simp [tidy]

@[simp] theorem ingressItem_tidy (s : State) (b g : Nat) (it : QItem) (tidy : Tidy (kept s).store) :
    Tidy (kept (s.ingressItem b g it)).store := by
  simp [tidy, State.ingressItem]

@[simp] theorem ingressWork_tidy (s : State) (b : Nat) (tidy : Tidy (kept s).store) : Tidy (kept (s.ingressWork b)).store := by
  have hitem (g : Nat) (t : State) (i : QItem) (ht : Tidy (kept t).store) : Tidy (kept (t.ingressItem b g i)).store :=
    ingressItem_tidy t b g i ht
  have hgroup (g n : Nat) (t : State) (ht : Tidy (kept t).store) :
      Tidy (kept ((t.consume n fun u i => u.ingressItem b g i).purgeHeld b g)).store :=
    purgeHeld_tidy _ _ _ (consume_tidy _ _ _ ht (hitem g))
  unfold State.ingressWork
  refine foldl_tidy _ _ _ (fun t g ht => ?_) tidy
  extract_lets paused
  split
  · split
    · exact ht
    · exact hgroup _ _ _ ht
  · exact ht

@[simp] theorem roundWork_tidy (s : State) (tidy : Tidy (kept s).store) : Tidy (kept s.roundWork).store := by
  unfold State.roundWork
  exact foldl_tidy _ _ _ (fun t a tidy => by simp [tidy]) tidy

@[simp] theorem commitFabric_tidy (s : State) (tidy : Tidy (kept s).store) : Tidy (kept s.commitFabric).store := by
  simp [tidy, State.commitFabric]

@[simp] theorem fabricStep_tidy (s : State) (tidy : Tidy (kept s).store) : Tidy (kept s.fabricStep).store := by
  simp [tidy, State.fabricStep]

@[simp] theorem drawWords_tidy (s : State) (base n : Nat) (tidy : Tidy (kept s).store) : Tidy (kept (s.drawWords base n)).store :=
  foldl_tidy _ _ _ (fun t k ht => by simp [ht]) (by simp [tidy])

@[simp] theorem writePoison_tidy (s : State) (word n : Nat) (tidy : Tidy (kept s).store) : Tidy (kept (s.writePoison word n)).store :=
  foldl_tidy _ _ _ (fun t k ht => by simp [ht]) (by simp [tidy])

@[simp] theorem cipherStatus_tidy (s : State) (r : CReq) (tidy : Tidy (kept s).store) : Tidy (kept (s.cipherStatus r)).store := by
  simp [tidy, State.cipherStatus]

@[simp] theorem imageChunks_tidy (s : State) (ksid : Nat) (k : KeySet) (tidy : Tidy (kept s).store) :
    Tidy (kept (s.imageChunks ksid k).2).store := by
  unfold State.imageChunks
  split
  · exact tidy
  · exact foldl_pair_tidy (fun a e ha => by simp [ha]) tidy

@[simp] theorem keysetRegister_tidy (s : State) (r : CReq) (tidy : Tidy (kept s).store) : Tidy (kept (s.keysetRegister r)).store := by
  unfold State.keysetRegister
  dsimp only
  repeat' split
  all_goals simp [tidy]

@[simp] theorem glweExport_tidy (s : State) (r : CReq) (tidy : Tidy (kept s).store) : Tidy (kept (s.glweExport r)).store := by
  unfold State.glweExport
  dsimp only
  iterate 3
    split
    · simp [tidy]
  rw [cipherDone_kept]
  exact foldl_tidy _ _ _ (fun t e ht => by simp [ht]) tidy

@[simp] theorem perform_tidy (s : State) (on : RunOn) (r : CReq) (h : ObjHdr) (os : List Obj) (tidy : Tidy (kept s).store) :
    Tidy (kept (s.perform on r h os).2.2).store := by
  unfold State.perform
  dsimp only
  repeat' split
  all_goals simp [tidy]

@[simp] theorem autoRefresh_tidy (s : State) (fuel : Nat) (on : RunOn) (op : Nat) (c : Int) (maxL : Nat) (os : List Obj)
    (tidy : Tidy (kept s).store) : Tidy (kept (s.autoRefresh fuel on op c maxL os).2.2.2).store := by
  induction fuel generalizing s os with
  | zero => exact tidy
  | succ n ih =>
    unfold State.autoRefresh
    dsimp only
    iterate 3
      split
      · exact tidy
    split
    · simp [tidy]
    · exact ih _ _ (by simp [tidy])

@[simp] theorem lweRequest_tidy (s : State) (on : RunOn) (r : CReq) (o : COp) (tidy : Tidy (kept s).store) :
    Tidy (kept (s.lweRequest on r o)).store := by
  have hdone (t : State) (status level n : Nat) (ht : Tidy (kept t).store) : Tidy (kept (t.cipherDone r status level n)).store := by
    rw [cipherDone_kept]
    exact ht
  have hpoison (t : State) (h : ObjHdr) (status n : Nat) (ht : Tidy (kept t).store) : Tidy (kept (t.poisonOut r h status n)).store :=
    poisonOut_tidy t r h status n ht
  unfold State.lweRequest
  extract_lets as x hs h0 typ len s1 clash outSealed anySealed sealedFlag bad
  have hx : Tidy (kept s1).store := readObjs_tidy s as tidy
  clear_value s1
  refine tidy_if (hdone _ _ _ _ tidy) (tidy_if (hdone _ _ _ _ hx) (tidy_if (hdone _ _ _ _ hx) (tidy_if (hdone _ _ _ _ hx)
    (tidy_if (hpoison _ _ _ _ hx) (tidy_if (hpoison _ _ _ _ hx) ?_)))))
  split
  · extract_lets canAuto y s2 p
    have h2 : Tidy (kept s2).store := tidy_fourth_if (autoRefresh_tidy _ _ _ _ _ _ _ hx) hx
    have hp : Tidy (kept p.2.2).store := perform_tidy s2 on r h0 y.1 h2
    refine tidy_if (hpoison _ _ _ _ hx) ?_
    clear_value p s2
    split
    · exact hpoison _ _ _ _ h2
    refine tidy_if (hpoison _ _ _ _ h2) ?_
    split
    · exact hpoison _ _ _ _ hp
    · exact hdone _ _ _ _ (writeBytes_tidy _ _ _ _ _ hp)
  · exact hpoison _ _ _ _ hx

@[simp] theorem cipherRequest_tidy (s : State) (on : RunOn) (r : CReq) (tidy : Tidy (kept s).store) :
    Tidy (kept (s.cipherRequest on r)).store := by
  unfold State.cipherRequest
  repeat' split
  all_goals simp [tidy]

@[simp] theorem cipherTake_tidy (s : State) (op course : Nat) (vaultFault : Bool) (tidy : Tidy (kept s).store) :
    Tidy (kept (s.cipherTake op course vaultFault)).store := by
  unfold State.cipherTake
  split <;> simp [tidy]

@[simp] theorem stepOnce_tidy (s : State) (tidy : Tidy (kept s).store) : Tidy (kept s.stepOnce).store := by
  unfold State.stepOnce
  split
  · exact tidy
  · simp only [kept_mk, store_eta]
    exact restart_tidy _ _ tidy

@[simp] theorem copyOut_tidy (s : State) (w addr n : Nat) (tidy : Tidy (kept s).store) : Tidy (kept (s.copyOut w addr n).2).store := by
  induction n generalizing s w addr with
  | zero => exact tidy
  | succ n ih =>
    unfold State.copyOut
    simp [tidy, ih]

@[simp] theorem runWr_tidy (s : State) (i a b : Nat) (pages : List (Nat × Nat)) (host : List Byte) (tidy : Tidy (kept s).store) :
    Tidy (kept (s.runWr i a b pages host)).store := by
  unfold State.runWr
  dsimp only
  repeat' split
  all_goals simp [tidy]

/-- A row leaves memory in canonical form. -/
def TidyRow (r : Res) : Prop := ∀ t, r = .next t → Tidy (kept t).store

@[simp] theorem tidyRow_next (t : State) : TidyRow (.next t) ↔ Tidy (kept t).store :=
  ⟨fun h => h t rfl, fun h u hu => by cases hu; exact h⟩

@[simp] theorem tidyRow_fault (f : Fault) : TidyRow (.fault f) := fun _ h => nomatch h

@[simp] theorem tidyRow_refused (r : Refusal) : TidyRow (.refused r) := fun _ h => nomatch h

theorem wrRow_tidy (op i cycle : Nat) (pages : List (Nat × Nat)) (host : List Byte) {s : State} (tidy : Tidy (kept s).store) :
    TidyRow (wrRow op i cycle pages host s) := by
  unfold wrRow
  dsimp only
  repeat' split
  all_goals simp [tidy]

@[simp] theorem readerFails_tidy (s : State) (who : HostReader) (tidy : Tidy (kept s).store) :
    Tidy (kept (s.readerFails who)).store := by
  unfold State.readerFails
  dsimp only
  repeat' split
  · simp [tidy]
  · simp [store_eta, tidy]
  · exact tidy
  · exact tidy
  next h => exact wrRow_tidy _ _ _ _ _ tidy _ h
  · exact tidy
  · exact tidy

@[simp] theorem tlpErr_tidy (s : State) (e : TlpErr) (tidy : Tidy (kept s).store) : Tidy (kept (s.tlpErr e)).store := by
  unfold State.tlpErr
  split <;> simp [tidy]

@[simp] theorem ackTimeoutStep_tidy (s : State) (i : Nat) (tidy : Tidy (kept s).store) : Tidy (kept (s.ackTimeoutStep i)).store := by
  unfold State.ackTimeoutStep
  dsimp only
  repeat' split
  all_goals simp [tidy]

@[simp] theorem maskedStore_tidy (s0 : State) (req word : Nat) (l : List (Option Byte)) (tidy : Tidy (kept s0).store) :
    Tidy (kept (s0.maskedStore req word l)).store := by
  unfold State.maskedStore
  dsimp only
  split
  · exact tidy
  split
  · simp [tidy]
  · exact storeWord_tidy _ _ _ _ (by simp [tidy])

@[simp] theorem isoStep_tidy (s : State) (n : Nat) (mismatch : Option Nat) (tidy : Tidy (kept s).store) :
    Tidy (kept (s.isoStep n mismatch)).store := by
  unfold State.isoStep
  dsimp only
  split
  · exact tidy
  split
  · exact tidy
  split
  · rw [fenceCore_kept]
    exact tidy
  · exact tidy

@[simp] theorem advance_tidy (s : State) (b : Nat) (overran : Bool) (tidy : Tidy (kept s).store) :
    Tidy (kept (s.advance b overran)).store := by
  unfold State.advance
  dsimp only
  repeat' split
  all_goals simp [tidy]

theorem hostCopy_tidy {s : State} {x : Completion} {y : Nat × State} (tidy : Tidy (kept s).store) (h : s.hostCopy x = some y) :
    Tidy (kept y.2).store := by
  unfold State.hostCopy at h
  dsimp only at h
  repeat' split at h
  all_goals cases h
  all_goals simp [tidy]

@[simp] theorem regionFree_tidy (s : State) (tidy : Tidy (kept s).store) : Tidy (kept (s.regionFree).2).store := by
  unfold State.regionFree
  dsimp only
  repeat' split
  all_goals simp [tidy]

@[simp] theorem tamperLock_tidy (s : State) : Tidy (kept s.tamperLock).store := by
  simp [State.tamperLock]

@[simp] theorem resume_tidy (s : State) (tidy : Tidy (kept s).store) : Tidy (kept s.resume).store := by
  simp [tidy, State.resume]

@[simp] theorem endSession_tidy (s : State) (tidy : Tidy (kept s).store) : Tidy (kept s.endSession).store := by
  simp [tidy, State.endSession]

@[simp] theorem softReset_tidy (s : State) (p : Page) (i : Nat) (v : W32) (tidy : Tidy (kept s).store) :
    Tidy (kept (s.softReset p i v)).store := by
  unfold State.softReset
  split <;> simp [tidy]

@[simp] theorem writePageCtl_tidy (s : State) (p : Page) (i : Nat) (v : W32) (tidy : Tidy (kept s).store) :
    Tidy (kept (s.writePageCtl p i v)).store := by
  simp [tidy, State.writePageCtl]

@[simp] theorem writeHeader_tidy (s : State) (p : Page) (i off : Nat) (v : W32) (tidy : Tidy (kept s).store) :
    Tidy (kept (s.writeHeader p i off v)).store := by
  unfold State.writeHeader
  split <;> simp [tidy]

@[simp] theorem landOpen_tidy (s : State) (c : CmdSt) (tidy : Tidy (kept s).store) : Tidy (kept (s.landOpen c).2).store := by
  unfold State.landOpen
  dsimp only
  repeat' split
  all_goals simp [tidy]

@[simp] theorem landMuster_tidy (s : State) (op blk : Nat) (tidy : Tidy (kept s).store) : Tidy (kept (s.landMuster op blk)).store := by
  unfold State.landMuster
  dsimp only
  repeat' split
  all_goals simp [tidy]

@[simp] theorem por_tidy (s : State) (cause : Nat) (unpowered : Bool) : Tidy (kept (s.por cause unpowered)).store := by
  simp [State.por]

@[simp] theorem writeReset_tidy (s : State) (v : W32) (tidy : Tidy (kept s).store) : Tidy (kept (s.writeReset v)).store := by
  simp [tidy, State.writeReset]

@[simp] theorem writeBlock_tidy (s0 : State) (p : Page) (i off : Nat) (v : W32) (d : RDesc) (tidy : Tidy (kept s0).store) :
    Tidy (kept (s0.writeBlock p i off v d)).store := by
  unfold State.writeBlock
  split <;> simp [tidy]

@[simp] theorem writeReg_tidy (s : State) (p : Page) (i off : Nat) (v : W32) (tidy : Tidy (kept s).store) :
    Tidy (kept (s.writeReg p i off v)).store := by
  unfold State.writeReg
  split <;> simp [tidy]

@[simp] theorem bar0Write_tidy (s : State) (a len : Nat) (v : W32) (tidy : Tidy (kept s).store) :
    Tidy (kept (s.bar0Write a len v)).store := by
  unfold State.bar0Write
  split
  · simp [tidy]
  split
  · exact pageWrite_tidy _ _ _ _ _ _ tidy fun t ht => writeReg_tidy t _ _ _ _ ht
  · simp [tidy]

@[simp] theorem endTtMem_tidy (s : State) (tidy : Tidy (kept s).store) : Tidy (kept s.endTtMem).store := by
  simp [tidy, State.endTtMem]

@[simp] theorem drainWords_tidy (s : State) (base : Nat) (copy : List (Nat × W256 × Bool)) (n : Nat) (tidy : Tidy (kept s).store) :
    Tidy (kept (s.drainWords base copy n)).store :=
  foldl_tidy _ _ _ (fun t k ht => by split <;> simp [ht]) (by simp [tidy])

@[simp] theorem drainDone_tidy (s : State) (id : Nat) (tidy : Tidy (kept s).store) : Tidy (kept (s.drainDone id)).store := by
  unfold State.drainDone
  dsimp only
  repeat' split
  all_goals simp [tidy]

@[simp] theorem importWeights_tidy (s : State) (slot src dst cookie : Nat) (tidy : Tidy (kept s).store) :
    Tidy (kept (s.importWeights slot src dst cookie)).store := by
  have hhead := readBytes_tidy s 1 src 64 tidy
  unfold State.importWeights
  dsimp only
  iterate 3
    split
    · simp [tidy]
  iterate 2
    split
    · simp [hhead]
  repeat' split
  all_goals simp [hhead]

@[simp] theorem drawStage_tidy (s : State) (t n : Nat) (tidy : Tidy (kept s).store) : Tidy (kept (s.drawStage t n)).store :=
  foldl_tidy _ _ _ (fun u k hu => by simp [hu]) (by simp [tidy])

@[simp] theorem vaultOne_tidy (s : State) (c p a b n : Nat) (q : VaultReq) (fails : List (Nat × Bool)) (r : VaultRun) (i : Nat)
    (tidy : Tidy (kept s).store) :
    Tidy (kept (s.vaultOne c p a b n q fails r i).2).store := by
  unfold State.vaultOne
  dsimp only
  repeat' split
  all_goals simp [tidy]

@[simp] theorem vaultBatch_tidy (s : State) (c p a b n : Nat) (q : VaultReq) (fails : List (Nat × Bool)) (tidy : Tidy (kept s).store) :
    Tidy (kept (s.vaultBatch c p a b n q fails).2).store :=
  foldl_pair_tidy (fun x i hx => vaultOne_tidy x.2 c p a b n q fails x.1 i hx) tidy

@[simp] theorem vaultDo_tidy (s : State) (c id : Nat) (r : Rig) (q : VaultReq) (fails : List (Nat × Bool)) (tidy : Tidy (kept s).store) :
    Tidy (kept (s.vaultDo c id r q fails).2).store := by
  unfold State.vaultDo
  split
  · exact tidy
  split
  · exact tidy
  split
  · exact tidy
  split
  · exact tidy
  next p _ _ a b t _ =>
  extract_lets x s1
  have hx : Tidy (kept x.2).store := vaultBatch_tidy _ _ _ _ _ _ _ _ tidy
  have h1 : Tidy (kept s1).store := by
    simp only [s1]
    split <;> simp [hx]
  split <;> simp [h1]

@[simp] theorem vaultTake_tidy (s : State) (c op : Nat) (fails : List (Nat × Bool)) (tidy : Tidy (kept s).store) :
    Tidy (kept (s.vaultTake c op fails)).store := by
  unfold State.vaultTake
  dsimp only
  repeat' split
  all_goals simp [tidy]

@[simp] theorem railsOff_tidy (s : State) : Tidy (kept s.railsOff).store := by
  simp [State.railsOff]

@[simp] theorem trip_tidy (s : State) (x : TempSensor) : Tidy (kept (s.trip x)).store := by
  simp [State.trip]

@[simp] theorem roundStep_tidy (s : State) (b : Nat) (overran : Bool) (tidy : Tidy (kept s).store) :
    Tidy (kept (s.roundStep b overran)).store := by
  unfold State.roundStep
  dsimp only
  repeat' split
  all_goals simp [tidy]

@[simp] theorem bar2Write_tidy (s : State) (offset : Nat) (l : List Byte) (tidy : Tidy (kept s).store) :
    Tidy (kept (s.bar2Write offset l)).store := by
  have hpieces (ps : List (Nat × Nat)) : Tidy (kept (ps.foldl (fun (u : State) (e : Nat × Nat) =>
      if s.bar2Open e.1 then u.writeBytes 6 e.1 ((l.drop (e.1 - (s.pcie.bar2Base + offset))).take e.2) else u) s)).store :=
    foldl_tidy _ _ _ (fun t e ht => by split <;> simp [ht]) tidy
  unfold State.bar2Write
  dsimp only
  split
  · exact hpieces _
  · rw [bar2Refused_kept]
    exact hpieces _

@[simp] theorem bar2Read_tidy (s : State) (offset n : Nat) (tidy : Tidy (kept s).store) : Tidy (kept (s.bar2Read offset n)).store := by
  unfold State.bar2Read
  extract_lets a ps r t
  have hr : Tidy (kept r.2.2).store := foldl_triple_tidy (fun x e hx => by split <;> simp [hx]) tidy
  have ht : Tidy (kept t).store := by
    simp only [t]
    split
    · exact hr
    · rw [bar2Refused_kept]
      exact hr
  split <;> simp [ht]

@[simp] theorem hostWrite_tidy (s : State) (p : Page) (i off : Nat) (v : W32) (tidy : Tidy (kept s).store) :
    Tidy (kept (s.hostWrite p i off v)).store :=
  onPage_tidy _ _ _ _ _ _ tidy fun t ht => writeReg_tidy t p i off v ht

@[simp] theorem provValue_tidy (s : State) (w : Nat) (tidy : Tidy (kept s).store) : Tidy (kept (s.provValue w).2.2).store := by
  unfold State.provValue
  split <;> simp [tidy]

@[simp] theorem applyAdd_tidy (s : State) (m : MAdd) (tidy : Tidy (kept s).store) : Tidy (kept (s.applyAdd m)).store := by
  unfold State.applyAdd
  split <;> simp [tidy]

@[simp] theorem serveMortar_tidy (s : State) (unit cycle : Nat) (tidy : Tidy (kept s).store) :
    Tidy (kept (s.serveMortar unit cycle)).store := by
  unfold State.serveMortar
  dsimp only
  split
  · split <;> simp [tidy]
  · exact applyAdd_tidy _ _ (by simp [tidy])

@[simp] theorem exportWeights_tidy (s : State) (slot src len dst label cookie : Nat) (tidy : Tidy (kept s).store) :
    Tidy (kept (s.exportWeights slot src len dst label cookie)).store := by
  unfold State.exportWeights
  dsimp only
  repeat' split
  all_goals simp [tidy]

@[simp] theorem linkReset_tidy (s : State) (pin : Bool) (tidy : Tidy (kept s).store) : Tidy (kept (s.linkReset pin)).store := by
  simp [tidy, State.linkReset]

@[simp] theorem rigLoad_tidy (s : State) (tidy : Tidy (kept s).store) : Tidy (kept s.rigLoad.2.2).store := by
  unfold State.rigLoad
  extract_lets b a l img h n x
  have hl : Tidy (kept l.2.2).store := by
    simp only [l]
    exact readBytes_tidy s 9 a _ tidy
  have hh : Tidy (kept h.2.2).store := by
    simp only [h]
    exact readBytes_tidy l.2.2 9 img 64 hl
  have hx : Tidy (kept x.2.2).store := by
    simp only [x]
    exact readBytes_tidy h.2.2 9 img n hh
  refine tidy_third_if tidy (tidy_third_if hl (tidy_third_if hh ?_))
  clear_value x
  split
  · exact hx
  · exact tidy_third_if hx (placeTenant_tidy _ _ _ hx)

@[simp] theorem activate_tidy (s : State) : Tidy (kept s.activate).store := warmReset_tidy _ _ _

theorem completeBosun_tidy {s t : State} {y : Completion} (tidy : Tidy (kept s).store) (h : s.completeBosun y = some t) :
    Tidy (kept t).store := by
  have hfin (o n : Nat) (u : State) (hu : Tidy (kept u).store) : Tidy (kept (u.finishBosun o n)).store := by
    rw [finishBosun_kept]
    exact hu
  unfold State.completeBosun at h
  dsimp only at h
  split at h
  · cases h
    exact tidy
  split at h
  · cases h
    exact hfin _ _ _ tidy
  split at h
  · cases h
    exact tidy_if tidy (hfin _ _ _ tidy)
  · cases h
    exact hfin _ _ _ (by simp [tidy])
  · cases h
    exact hfin _ _ _ (by simp [tidy])
  · cases h
    exact hfin _ _ _ (by simp [tidy])
  · obtain ⟨z, hz, rfl⟩ := Option.map_eq_some_iff.mp h
    exact hfin _ _ _ (by rw [fnLoad_kept hz]; exact tidy)
  · obtain ⟨z, hz, rfl⟩ := Option.map_eq_some_iff.mp h
    exact hfin _ _ _ (hostCopy_tidy tidy hz)
  · cases h
    exact hfin _ _ _ (by simp [tidy])
  · cases h
    exact tidy_if (by simp) (hfin _ _ _ tidy)
  · cases h
    exact hfin _ _ _ (by simp [tidy])

@[simp] theorem nextStrokeStep_tidy (s : State) (tidy : Tidy (kept s).store) : Tidy (kept s.nextStrokeStep).store := by
  unfold State.nextStrokeStep
  dsimp only
  repeat' split
  all_goals simp [tidy]

@[simp] theorem roundsStep_tidy (s : State) (ov : Bool) (tidy : Tidy (kept s).store) : Tidy (kept (s.roundsStep ov)).store := by
  refine foldl_tidy _ _ _ (fun t b ht => roundStep_tidy t b ov ht) ?_
  rw [musterOpen_kept, foldl_kept _ _ _ fun t b => rosterStep_kept t b, musterJudge_kept]
  exact tidy

@[simp] theorem commit_tidy (s : State) (tidy : Tidy (kept s).store) : Tidy (kept s.commit).store := by
  unfold State.commit
  dsimp only
  refine nextStrokeStep_tidy _ (commandStep_tidy _ ?_)
  rw [atCycle_kept]
  refine roundsStep_tidy _ _ ?_
  rw [atCycle_kept]
  exact fabricStep_tidy _ (by simp [tidy])

theorem replaceOrd_tidy {s : State} {id ord : Nat} {r : Rig} {x : Rig × State} (tidy : Tidy (kept s).store)
    (h : s.replaceOrd id r ord = some x) : Tidy (kept x.2).store := by
  unfold State.replaceOrd at h
  dsimp only at h
  split at h
  · simp at h
  split at h
  · simp at h
  split at h
  · simp at h
  next hmove =>
  cases h
  simp [moveConsts_tidy tidy hmove]

theorem replaceAll_tidy {id : Nat} {l : List Nat} {s : State} {r : Rig} {x : Rig × State} (tidy : Tidy (kept s).store)
    (h : s.replaceAll id r l = some x) : Tidy (kept x.2).store := by
  induction l generalizing s r with
  | nil =>
    cases h
    exact tidy
  | cons o l ih =>
    unfold State.replaceAll at h
    split at h
    · simp at h
    next hord =>
    exact ih (by simp [replaceOrd_tidy tidy hord]) h

@[simp] theorem replaceRig_tidy (s : State) (id : Nat) (tidy : Tidy (kept s).store) : Tidy (kept (s.replaceRig id)).store := by
  unfold State.replaceRig
  dsimp only
  iterate 3
    split
    · exact tidy
  split
  · exact tidy
  next h =>
  rw [setRig_kept]
  split at h
  · exact replaceCourse_tidy tidy h
  · exact replaceAll_tidy tidy h

@[simp] theorem dmaComplete_tidy (s : State) (p : Nat) (tidy : Tidy (kept s).store) : Tidy (kept (s.dmaComplete p)).store := by
  unfold State.dmaComplete
  dsimp only
  split
  · exact tidy
  split
  · exact tidy
  split
  · simp [tidy]
  · rw [dmaEnd_kept]
    exact copyWords_tidy _ _ _ _ _ tidy

@[simp] theorem applyRetained_tidy (s : State) (tidy : Tidy (kept s).store) : Tidy (kept s.applyRetained).store := by
  unfold State.applyRetained
  extract_lets reef s1 s2
  have h1 : Tidy (kept s1).store := tidy
  have h2 : Tidy (kept s2).store := by
    clear_value s1
    refine foldl_tidy _ _ _ (fun t e ht => ?_) h1
    split
    · split
      · exact writeReg_tidy _ _ _ _ _ ht
      · exact ht
    · exact ht
  clear_value s2
  simpa using h2

@[simp] theorem leaveBarePoles_tidy (s : State) (badA badB : Bool) (tidy : Tidy (kept s).store) :
    Tidy (kept (s.leaveBarePoles badA badB)).store := by
  have hzero : Tidy (kept (s.zeroRange 0x20000000000 (2 ^ 64))).store := zeroRange_tidy _ _ _ tidy
  have hload (t : State) (ht : Tidy (kept t).store) : Tidy (kept t.fwLoad).store := by
    rw [fwLoad_store]
    exact ht
  unfold State.leaveBarePoles
  generalize s.zeroRange 0x20000000000 (2 ^ 64) = z at hzero
  dsimp only
  split
  · exact hload _ hzero
  · simp only [newEpoch_kept, syncFromMode_kept, kept_mk, store_eta]
    exact hload _ hzero

@[simp] theorem placeResponse_tidy (s : State) (i : Nat) (r : SentReq) (p : Packet) (tidy : Tidy (kept s).store) :
    Tidy (kept (s.placeResponse i r p)).store := by
  unfold State.placeResponse
  extract_lets data q at0 fin note
  have hnote (t : State) (ht : Tidy (kept t).store) : Tidy (kept (note t)).store := by
    simp only [note]
    split <;> simp [ht]
  clear_value note
  refine tidy_if tidy (tidy_if tidy (tidy_if (by simp [tidy]) (tidy_if (hnote _ tidy) ?_)))
  split
  · extract_lets s1
    have h1 : Tidy (kept s1).store := tidy_if (by simp [tidy]) tidy
    clear_value s1
    split
    · exact tidy_if (by simp [h1]) (by simp [h1])
    · exact hnote _ (regionWrite_tidy _ _ _ _ _ _ h1)
  · simp [tidy]

end Sys2Proof.Proofs.StoreKept
end

section
/-!
PROOFS. Every instruction keeps the canonical form of memory and of the check symbols, and so does every step (O28).
-/

namespace Sys2Proof.Proofs.StoreKept
open Sys2Proof Sys2Proof.Machine

/-! ### What the rows of a kind share -/

theorem runSlot_tidy {s : State} {u : Issue} {op : Op} {w : Slot} {body : State → Rig → Nat → Core → State}
    (tidy : Tidy (kept s).store)
    (hbody : ∀ t r k c, Tidy (kept t).store → Tidy (kept (body t r k c)).store) : TidyRow (runSlot s u op w body) := by
  unfold runSlot
  split
  · simp
  · split
    · simp
    split
    · simp
    dsimp only
    repeat' split
    · simp [tidy]
    · simp [tidy]
    · rw [tidyRow_next]
      exact hbody _ _ _ _ (by simp [tidy])

theorem coreSlot_tidy {s : State} {u : Issue} {op : Op} {w : Slot} {f : Rig → Core → Core} (tidy : Tidy (kept s).store) :
    TidyRow (coreSlot s u op w f) :=
  runSlot_tidy tidy fun t r k c h => by simp [h]

theorem modOp_tidy {s : State} {u : Issue} {op : Op} {w : Slot} {f : Nat → Nat → Nat → Nat → Nat} (tidy : Tidy (kept s).store) :
    TidyRow (modOp s u op w f) :=
  coreSlot_tidy tidy

theorem fltOp_tidy {s : State} {u : Issue} {op : Op} {w : Slot} {f : FFmt → Nat → Nat → Nat → Nat} (tidy : Tidy (kept s).store) :
    TidyRow (fltOp s u op w f) :=
  coreSlot_tidy tidy

theorem onCarry_tidy {s : State} {pos kind : Nat} {msg : List Byte} {f : Nat → List (List Byte) → State → State}
    (tidy : Tidy (kept s).store) (hf : ∀ b recs t, Tidy (kept t).store → Tidy (kept (f b recs t)).store) :
    TidyRow (onCarry s pos kind msg f) := by
  have hopen : Tidy (kept (s.carryOpen pos msg).2).store := by simp [tidy]
  unfold onCarry
  split
  · simp
  · split
    next s1 h =>
      rw [h] at hopen
      exact (tidyRow_next _).2 hopen
    next k round body s1 h =>
      rw [h] at hopen
      repeat' split
      · simp
      · exact (tidyRow_next _).2 hopen
      · exact (tidyRow_next _).2 (hf _ _ _ hopen)

theorem onPage_row {s : State} {p : Page} {i off : Nat} {v : W32} {f : State → State} (tidy : Tidy (kept s).store)
    (hf : ∀ t, Tidy (kept t).store → Tidy (kept (f t)).store) : TidyRow (.next (s.onPage p i off v f)) :=
  (tidyRow_next _).2 (onPage_tidy _ _ _ _ _ _ tidy hf)

theorem keepCommand_tidy {op slot : Nat} {s : State} (tidy : Tidy (kept s).store) : TidyRow (keepCommand op slot s) :=
  onPage_row tidy fun t h => by simp [h]

theorem halyardCommand_tidy {op : Nat} {s : State} (tidy : Tidy (kept s).store) : TidyRow (halyardCommand op s) :=
  onPage_row tidy fun t h => by simp [h]

theorem bosunCommand_tidy {op : Nat} {s : State} (tidy : Tidy (kept s).store) : TidyRow (bosunCommand op s) :=
  onPage_row tidy fun t h => by simp [h]

theorem mtCommand_tidy {c cmd : Nat} {s : State} (tidy : Tidy (kept s).store) : TidyRow (mtCommand c cmd s) := by
  unfold mtCommand
  split
  · simp
  · exact onPage_row tidy fun t h => by simp [h]

theorem musterCommand_tidy {op blk cycle : Nat} {s : State} (tidy : Tidy (kept s).store) : TidyRow (musterCommand op blk cycle s) := by
  unfold musterCommand
  split
  · simp
  · exact onPage_row (by simp [tidy]) fun t h => by simp [h]

theorem updateRow_tidy {kind : Nat} {s : State} (tidy : Tidy (kept s).store) : TidyRow (updateRow kind s) := by
  unfold updateRow
  split
  · exact keepCommand_tidy tidy
  · simp

theorem onQueue_tidy {s : State} {n cycle : Nat} {f : State → State} (tidy : Tidy (kept s).store)
    (hf : ∀ t, Tidy (kept t).store → Tidy (kept (f t)).store) : TidyRow (onQueue s n cycle f) := by
  unfold onQueue
  dsimp only
  repeat' split
  · simp
  · simp [tidy]
  · exact (tidyRow_next _).2 (hf _ (by simp [tidy]))
  · simp [tidy]

theorem onSpillPage_tidy {s : State} {k off : Nat} {v : W32} {cycle : Nat} {f : State → State} (tidy : Tidy (kept s).store)
    (hf : ∀ t, Tidy (kept t).store → Tidy (kept (f t)).store) : TidyRow (onSpillPage s k off v cycle f) := by
  unfold onSpillPage
  split
  · simp
  · exact onPage_row (by simp [tidy]) hf

theorem onAshlar_tidy {s : State} {a off : Nat} {v : W32} {f : State → State} (tidy : Tidy (kept s).store)
    (hf : ∀ t, Tidy (kept t).store → Tidy (kept (f t)).store) : TidyRow (onAshlar s a off v f) := by
  unfold onAshlar
  split
  · simp
  · exact onPage_row tidy hf

theorem onRig_tidy {s : State} {id : Nat} {f : State → State} (hf : Tidy (kept (f s)).store) : TidyRow (onRig s id f) := by
  unfold onRig
  split
  · simp
  · simpa using hf

theorem onPort_tidy {p : Nat} {s : State} {f : State → State} (hf : Tidy (kept (f s)).store) : TidyRow (onPort p s f) := by
  unfold onPort
  split
  · simp
  · simpa using hf

theorem vaultStart_tidy {c op : Nat} {fails : List (Nat × Bool)} {s : State} (tidy : Tidy (kept s).store) :
    TidyRow (vaultStart c op fails s) := by
  unfold vaultStart
  split
  · simp
  · split <;> simp [tidy]

theorem cipherRow_tidy {op course : Nat} {vaultFault : Bool} {s : State} (tidy : Tidy (kept s).store) :
    TidyRow (cipherRow op course vaultFault s) := by
  unfold cipherRow
  repeat' split
  all_goals simp [tidy]

theorem onHail_tidy {port typ cycle : Nat} {m : List Byte} {s : State} {f : Nat → State → State} (tidy : Tidy (kept s).store)
    (hf : ∀ id t, Tidy (kept t).store → Tidy (kept (f id t)).store) : TidyRow (onHail port typ cycle m s f) := by
  unfold onHail
  dsimp only
  repeat' split
  · simp
  · simp
  · simp [tidy]
  · simp [tidy]
  · simp
  · exact (tidyRow_next _).2 (hf _ _ (by simp [tidy]))

theorem onPair_tidy {port typ cycle : Nat} {m : List Byte} {s : State} {f : Nat → List Byte → State → State}
    (tidy : Tidy (kept s).store) (hf : ∀ id b t, Tidy (kept t).store → Tidy (kept (f id b t)).store) :
    TidyRow (onPair port typ cycle m s f) :=
  onHail_tidy tidy fun id t h => by
    split
    · simp [h]
    · exact hf _ _ _ h

theorem roundDeadline_tidy {b : Nat} {due : Descr → Nat} {s : State} (tidy : Tidy (kept s).store) : TidyRow (roundDeadline b due s) := by
  unfold roundDeadline
  dsimp only
  split
  · simp
  split
  · simp [tidy]
  · simp [tidy]

theorem onResponse_tidy {p : Packet} {s : State} {f : State → Nat → Qp → State} (tidy : Tidy (kept s).store)
    (hf : ∀ t i q, Tidy (kept t).store → Tidy (kept (f t i q)).store) : TidyRow (onResponse p s f) := by
  have hreceive : Tidy (kept (s.receive p false).2).store := by simp [tidy]
  unfold onResponse
  dsimp only
  repeat' split
  · exact (tidyRow_next _).2 hreceive
  · exact (tidyRow_next _).2 (hf _ _ _ hreceive)
  · exact (tidyRow_next _).2 hreceive

theorem packetRow_tidy {p : Packet} {ok : Nat → Bool} {cycle : Nat} {s : State} (tidy : Tidy (kept s).store) :
    TidyRow (packetRow p ok cycle s) := by
  unfold packetRow
  dsimp only
  split
  · simp
  split
  · simp [tidy]
  · exact (tidyRow_next _).2 ((takePacket_sound (s.atCycle cycle) p false).tidy (by simp [tidy]))

theorem weightsRow_tidy {work : State → State} {s : State} (tidy : Tidy (kept s).store)
    (hwork : ∀ t, Tidy (kept t).store → Tidy (kept (work t)).store) : TidyRow (weightsRow work s) := by
  unfold weightsRow
  repeat' split
  · simp [tidy]
  · simp [tidy]
  · exact (tidyRow_next _).2 (hwork _ (by simp [tidy]))

theorem pageRow_tidy {p : Page} {i off : Nat} {v : W32} {s : State} (tidy : Tidy (kept s).store) : TidyRow (pageRow p i off v s) := by
  unfold pageRow
  split <;> simp [tidy]

theorem tapRow_tidy {s : State} {f : State → State} (tidy : Tidy (kept s).store)
    (hf : Tidy (kept s).store → Tidy (kept (f s)).store) : TidyRow (tapRow s f) := by
  unfold tapRow
  split
  · exact (tidyRow_next _).2 (hf tidy)
  · simpa using tidy

@[simp] theorem dbgOk_tidy {s : State} (tidy : Tidy (kept s).store) : Tidy (kept (dbgOk s).2.2).store := tidy

@[simp] theorem dbgError_tidy {s : State} (tidy : Tidy (kept s).store) : Tidy (kept (dbgError s).2.2).store := tidy

@[simp] theorem dbgDenied_tidy {s : State} (tidy : Tidy (kept s).store) : Tidy (kept (dbgDenied s).2.2).store := by
  simp [dbgDenied, tidy]

@[simp] theorem ttOpen_tidy {s : State} (tidy : Tidy (kept s).store) : Tidy (kept s.ttOpen.2.2).store := by
  unfold State.ttOpen
  repeat' split
  all_goals simp [dbgOk, tidy, store_eta]

@[simp] theorem ttHalt_tidy {s : State} {force : Bool} (tidy : Tidy (kept s).store) : Tidy (kept (s.ttHalt force).2.2).store := by
  unfold State.ttHalt
  dsimp only
  repeat' split
  all_goals simp [dbgOk, tidy, store_eta]

@[simp] theorem ttOp_tidy {s : State} {bit : Nat} {force : Bool} (tidy : Tidy (kept s).store) :
    Tidy (kept (s.ttOp bit force).2.2).store := by
  unfold State.ttOp
  split <;> simp [dbgOk, tidy, store_eta]

@[simp] theorem ttCtl_tidy {s : State} {v : Nat} (tidy : Tidy (kept s).store) : Tidy (kept (s.ttCtl v).2.2).store :=
  foldl_triple_tidy (fun x b h => by dsimp only; split <;> simp [h]) tidy

@[simp] theorem ttIso_tidy {s : State} {n : Nat} {v : W32} {mismatch : Option Nat} (tidy : Tidy (kept s).store) :
    Tidy (kept (s.ttIso n v mismatch).2.2).store := by
  unfold State.ttIso
  repeat' split
  all_goals simp [dbgOk, tidy]

@[simp] theorem ttWrite_tidy {s : State} {off : Nat} {v : W32} {mismatch : Option Nat} (tidy : Tidy (kept s).store) :
    Tidy (kept (s.ttWrite off v mismatch).2.2).store := by
  unfold State.ttWrite
  dsimp only
  iterate 12 refine tidy_third_if (by simp [dbgOk, tidy, store_eta]) ?_
  exact tidy

@[simp] theorem dbgRead_tidy {s : State} {a : Nat} (tidy : Tidy (kept s).store) : Tidy (kept (s.dbgRead a).2.2).store := by
  unfold State.dbgRead
  repeat' split
  all_goals simp [tidy]

@[simp] theorem dbgWrite_tidy {s : State} {a : Nat} {v : W32} {mismatch : Option Nat} (tidy : Tidy (kept s).store) :
    Tidy (kept (s.dbgWrite a v mismatch).2.2).store := by
  unfold State.dbgWrite
  repeat' split
  all_goals simp [dbgOk, tidy]

theorem ttRow_tidy {off : Nat} {v : W32} {mismatch : Option Nat} {s : State} (tidy : Tidy (kept s).store) :
    TidyRow (ttRow off v mismatch s) :=
  tapRow_tidy tidy fun _ => dbgRequest_tidy _ _ _ _ tidy fun t h => by simp [h]


/-! ### One lemma for each instruction -/

section
variable {s : State} {u : Issue} {w : Slot} (tidy : Tidy (kept s).store)
include tidy

@[simp] theorem execSlMaddq_tidy : TidyRow (execSlMaddq u w s) := modOp_tidy tidy

@[simp] theorem execSlMsubq_tidy : TidyRow (execSlMsubq u w s) := modOp_tidy tidy

@[simp] theorem execSlMmulq_tidy : TidyRow (execSlMmulq u w s) := modOp_tidy tidy

@[simp] theorem execSlMmadq_tidy : TidyRow (execSlMmadq u w s) := modOp_tidy tidy

@[simp] theorem execSlMmulm_tidy : TidyRow (execSlMmulm u w s) := modOp_tidy tidy

@[simp] theorem execSlMmadm_tidy : TidyRow (execSlMmadm u w s) := modOp_tidy tidy

@[simp] theorem execSlMtom_tidy : TidyRow (execSlMtom u w s) := modOp_tidy tidy

@[simp] theorem execSlMredq_tidy : TidyRow (execSlMredq u w s) := modOp_tidy tidy

@[simp] theorem execSlMwide_tidy : TidyRow (execSlMwide u w s) := modOp_tidy tidy

@[simp] theorem execSlMlift_tidy : TidyRow (execSlMlift u w s) := modOp_tidy tidy

@[simp] theorem execMortarAdd_tidy {unit cycle : Nat} : TidyRow (execMortarAdd unit cycle s) := by
  unfold execMortarAdd
  split <;> simp [tidy]

@[simp] theorem execBedWriteBack_tidy {word : Nat} : TidyRow (execBedWriteBack word s) := by
  simp [execBedWriteBack, tidy]

@[simp] theorem execRigReplace_tidy {id : Nat} : TidyRow (execRigReplace id s) := by
  unfold execRigReplace
  split <;> simp [tidy]

@[simp] theorem execDecision_tidy {pos : Nat} {msg : List Byte} : TidyRow (execDecision pos msg s) :=
  onCarry_tidy tidy fun b recs t h => by
    dsimp only
    repeat' split
    all_goals simp [h]

@[simp] theorem execDropSlots_tidy {pos : Nat} {msg : List Byte} : TidyRow (execDropSlots pos msg s) :=
  onCarry_tidy tidy fun b recs t h => by
    dsimp only
    repeat' split
    all_goals simp [h]

@[simp] theorem execDecisionAck_tidy {pos : Nat} {msg : List Byte} : TidyRow (execDecisionAck pos msg s) :=
  onCarry_tidy tidy fun b recs t h => by simp [h]

@[simp] theorem execDecisionResend_tidy {b : Nat} : TidyRow (execDecisionResend b s) := by
  unfold execDecisionResend
  repeat' split
  all_goals simp [tidy]

@[simp] theorem execDigest_tidy {pos : Nat} {msg : List Byte} : TidyRow (execDigest pos msg s) :=
  onCarry_tidy tidy fun b recs t h => by simp [h]

@[simp] theorem execFaultReport_tidy {pos : Nat} {msg : List Byte} : TidyRow (execFaultReport pos msg s) :=
  onCarry_tidy tidy fun b recs t h => by simp [h]

@[simp] theorem execCounts_tidy {pos : Nat} {msg : List Byte} : TidyRow (execCounts pos msg s) :=
  onCarry_tidy tidy fun b recs t h => by simp [h]

@[simp] theorem execStatuses_tidy {pos : Nat} {msg : List Byte} : TidyRow (execStatuses pos msg s) :=
  onCarry_tidy tidy fun b recs t h => by simp [h]

@[simp] theorem execChunkSets_tidy {pos : Nat} {msg : List Byte} : TidyRow (execChunkSets pos msg s) :=
  onCarry_tidy tidy fun b recs t h => by simp [h]

@[simp] theorem execRetractions_tidy {pos : Nat} {msg : List Byte} : TidyRow (execRetractions pos msg s) :=
  onCarry_tidy tidy fun b recs t h => by simp [h]

@[simp] theorem execDone_tidy {pos : Nat} {msg : List Byte} : TidyRow (execDone pos msg s) :=
  onCarry_tidy tidy fun b recs t h => by simp [h]

@[simp] theorem execKpKeyRequest_tidy {slot dest use round : Nat} : TidyRow (execKpKeyRequest slot dest use round s) := by
  unfold execKpKeyRequest
  repeat' split
  all_goals simp [tidy]

@[simp] theorem execKpGenerate_tidy : TidyRow (execKpGenerate s) := keepCommand_tidy tidy

@[simp] theorem execKpImportSealed_tidy : TidyRow (execKpImportSealed s) := keepCommand_tidy tidy

@[simp] theorem execKpImportClear_tidy : TidyRow (execKpImportClear s) := keepCommand_tidy tidy

@[simp] theorem execKpLoad_tidy {slot : Nat} : TidyRow (execKpLoad slot s) := by
  unfold execKpLoad
  split
  · simp
  · exact onPage_row tidy fun t h => by simp [h]

@[simp] theorem execKpUnload_tidy {slot : Nat} : TidyRow (execKpUnload slot s) := by
  unfold execKpUnload
  split
  · simp
  · exact onPage_row tidy fun t h => by simp [h]

@[simp] theorem execKpTakeOwnership_tidy : TidyRow (execKpTakeOwnership s) := updateRow_tidy tidy

@[simp] theorem execKpRotate_tidy : TidyRow (execKpRotate s) := updateRow_tidy tidy

@[simp] theorem execKpSetAuthority_tidy : TidyRow (execKpSetAuthority s) := updateRow_tidy tidy

@[simp] theorem execKpSetDebugKey_tidy : TidyRow (execKpSetDebugKey s) := updateRow_tidy tidy

@[simp] theorem execKpSeal_tidy : TidyRow (execKpSeal s) := updateRow_tidy tidy

@[simp] theorem execKpUnseal_tidy : TidyRow (execKpUnseal s) := updateRow_tidy tidy

@[simp] theorem execKpReturn_tidy : TidyRow (execKpReturn s) := updateRow_tidy tidy

@[simp] theorem execKpScrap_tidy : TidyRow (execKpScrap s) := updateRow_tidy tidy

@[simp] theorem execFenceRecordWrite_tidy : TidyRow (execFenceRecordWrite s) := by
  simp [execFenceRecordWrite, tidy]

@[simp] theorem execEnvelopeDecide_tidy : TidyRow (execEnvelopeDecide s) := by
  simp [execEnvelopeDecide, tidy]

@[simp] theorem execEnvelopeOpen_tidy {b : Nat} : TidyRow (execEnvelopeOpen b s) := by
  unfold execEnvelopeOpen
  dsimp only
  repeat' split
  all_goals simp [tidy]

@[simp] theorem execCancellationPlan_tidy {b : Nat} : TidyRow (execCancellationPlan b s) := by
  unfold execCancellationPlan
  dsimp only
  repeat' split
  all_goals simp [tidy]

@[simp] theorem execSecretReconstruct_tidy {b : Nat} {root : Bool} {slot : Nat} : TidyRow (execSecretReconstruct b root slot s) := by
  unfold execSecretReconstruct
  dsimp only
  repeat' split
  all_goals simp [tidy]

@[simp] theorem execTermIssue_tidy {b : Nat} : TidyRow (execTermIssue b s) := by
  unfold execTermIssue
  repeat' split
  all_goals simp [tidy]

@[simp] theorem execShares_tidy {pos : Nat} {msg : List Byte} : TidyRow (execShares pos msg s) :=
  onCarry_tidy tidy fun b recs t h => by simp [h]

@[simp] theorem execTerms_tidy {pos : Nat} {msg : List Byte} : TidyRow (execTerms pos msg s) :=
  onCarry_tidy tidy fun b recs t h => by
    split
    · exact h
    · exact foldl_tidy _ _ _ (fun u e hu => by
        cases he : u.enqueueTerm b (termOf (ofLe e)) with
        | none => simp [he, hu]
        | some x => simp [he, enqueueTerm_kept he, hu]) h

@[simp] theorem execNoiseDraw_tidy {b c : Nat} : TidyRow (execNoiseDraw b c s) := by
  unfold execNoiseDraw
  dsimp only
  repeat' split
  all_goals simp [tidy]

@[simp] theorem execGlweCombine_tidy {b x : Nat} : TidyRow (execGlweCombine b x s) := by
  unfold execGlweCombine
  dsimp only
  repeat' split
  all_goals simp [tidy]

@[simp] theorem execResultWrite_tidy {b : Nat} : TidyRow (execResultWrite b s) := by
  unfold execResultWrite
  split
  · simp
  extract_lets r s1 s2
  split
  · simpa using tidy
  have hsums : Tidy (kept s1).store := foldl_tidy _ _ _ (fun t c h => by simp [h]) tidy
  have hs2 : Tidy (kept s2).store := by simpa [s2] using hsums
  clear_value s1 s2
  repeat' split
  all_goals simp [hs2]

@[simp] theorem execSpillSel_tidy {k : Nat} {v : W32} : TidyRow (execSpillSel k v s) := onSpillPage_tidy tidy fun t h => by simp [h]

@[simp] theorem execWatermarkWrite_tidy {k : Nat} {high : Bool} {v : W32} : TidyRow (execWatermarkWrite k high v s) :=
  onSpillPage_tidy tidy fun t h => by simp [h]

@[simp] theorem execConfigure_tidy {k cycle : Nat} : TidyRow (execConfigure k cycle s) := onSpillPage_tidy tidy fun t h => by simp [h]

@[simp] theorem execFlush_tidy {k cycle : Nat} : TidyRow (execFlush k cycle s) := onSpillPage_tidy tidy fun t h => by simp [h]

@[simp] theorem execFree_tidy {k cycle : Nat} : TidyRow (execFree k cycle s) := onSpillPage_tidy tidy fun t h => by simp [h]

@[simp] theorem execWinDataWrite_tidy {n off cycle : Nat} {l : List Byte} : TidyRow (execWinDataWrite n off cycle l s) :=
  onQueue_tidy tidy fun t h => by simp [h]

@[simp] theorem execWinDataRead_tidy {n cycle len : Nat} : TidyRow (execWinDataRead n cycle len s) :=
  onQueue_tidy tidy fun t h => by simp [h]

@[simp] theorem execProdData_tidy {n cycle : Nat} : TidyRow (execProdData n cycle s) := onQueue_tidy tidy fun t h => by simp [h]

@[simp] theorem execProdOpen_tidy {n cycle : Nat} : TidyRow (execProdOpen n cycle s) := onQueue_tidy tidy fun t h => by simp [h]

@[simp] theorem execProdClose_tidy {n cycle : Nat} : TidyRow (execProdClose n cycle s) := onQueue_tidy tidy fun t h => by simp [h]

@[simp] theorem execProdSingle_tidy {n cycle : Nat} : TidyRow (execProdSingle n cycle s) := onQueue_tidy tidy fun t h => by simp [h]

@[simp] theorem execProdMarker_tidy {n cycle : Nat} : TidyRow (execProdMarker n cycle s) := onQueue_tidy tidy fun t h => by simp [h]

@[simp] theorem execWinMark_tidy {n cycle : Nat} : TidyRow (execWinMark n cycle s) := onQueue_tidy tidy fun t h => by simp [h]

@[simp] theorem execWinRewind_tidy {n cycle : Nat} : TidyRow (execWinRewind n cycle s) := onQueue_tidy tidy fun t h => by simp [h]

@[simp] theorem execWinRelease_tidy {n cycle : Nat} : TidyRow (execWinRelease n cycle s) := onQueue_tidy tidy fun t h => by simp [h]

@[simp] theorem execWinNoticeAck_tidy {n : Nat} {v : W32} : TidyRow (execWinNoticeAck n v s) :=
  onQueue_tidy tidy fun t h => by simp [h]

@[simp] theorem execRingFetch_tidy {n : Nat} : TidyRow (execRingFetch n s) := by
  unfold execRingFetch
  split <;> simp [tidy]

@[simp] theorem execDoorbellRing_tidy {n cycle : Nat} {addrHi : W32} {header : Option (List Byte)} :
    TidyRow (execDoorbellRing n cycle addrHi header s) :=
  onQueue_tidy tidy fun t h => by simp [h]

@[simp] theorem execDoorbellFetchDone_tidy {n cycle : Nat} {data : Option (List Byte)} :
    TidyRow (execDoorbellFetchDone n cycle data s) := by
  unfold execDoorbellFetchDone
  split
  · simp
  dsimp only
  split <;> simp [tidy, store_eta]

@[simp] theorem execMarkerMaxClr_tidy {a : Nat} : TidyRow (execMarkerMaxClr a s) := onAshlar_tidy tidy fun t h => by simp [h]

@[simp] theorem execDrainReq_tidy {a region cycle : Nat} : TidyRow (execDrainReq a region cycle s) :=
  onAshlar_tidy (by simp [tidy]) fun t h => by simp [h]

@[simp] theorem execDrainCapture_tidy {id : Nat} : TidyRow (execDrainCapture id s) := onRig_tidy (by simp [tidy])

@[simp] theorem execDrainCopyDone_tidy {id : Nat} : TidyRow (execDrainCopyDone id s) := onRig_tidy (by simp [tidy])

@[simp] theorem execPierDmaStart_tidy {p : Nat} : TidyRow (execPierDmaStart p s) := by
  unfold execPierDmaStart
  split <;> simp [tidy]

@[simp] theorem execPierDmaComplete_tidy {p : Nat} : TidyRow (execPierDmaComplete p s) := by
  unfold execPierDmaComplete
  split <;> simp [tidy]

@[simp] theorem execVaultForward_tidy {c : Nat} {fails : List (Nat × Bool)} : TidyRow (execVaultForward c fails s) :=
  vaultStart_tidy tidy

@[simp] theorem execVaultInverse_tidy {c : Nat} {fails : List (Nat × Bool)} : TidyRow (execVaultInverse c fails s) :=
  vaultStart_tidy tidy

@[simp] theorem execVaultCompletion_tidy {c cycle : Nat} : TidyRow (execVaultCompletion c cycle s) := by
  unfold execVaultCompletion
  split <;> simp [tidy]

@[simp] theorem execCiLadd_tidy {course : Nat} {vf : Bool} : TidyRow (execCiLadd course vf s) := cipherRow_tidy tidy

@[simp] theorem execCiLsub_tidy {course : Nat} {vf : Bool} : TidyRow (execCiLsub course vf s) := cipherRow_tidy tidy

@[simp] theorem execCiLneg_tidy {course : Nat} {vf : Bool} : TidyRow (execCiLneg course vf s) := cipherRow_tidy tidy

@[simp] theorem execCiLscale_tidy {course : Nat} {vf : Bool} : TidyRow (execCiLscale course vf s) := cipherRow_tidy tidy

@[simp] theorem execCiLaddc_tidy {course : Nat} {vf : Bool} : TidyRow (execCiLaddc course vf s) := cipherRow_tidy tidy

@[simp] theorem execCiLnot_tidy {course : Nat} {vf : Bool} : TidyRow (execCiLnot course vf s) := cipherRow_tidy tidy

@[simp] theorem execCiRefresh_tidy {course : Nat} {vf : Bool} : TidyRow (execCiRefresh course vf s) := cipherRow_tidy tidy

@[simp] theorem execCiAnd_tidy {course : Nat} {vf : Bool} : TidyRow (execCiAnd course vf s) := cipherRow_tidy tidy

@[simp] theorem execCiOr_tidy {course : Nat} {vf : Bool} : TidyRow (execCiOr course vf s) := cipherRow_tidy tidy

@[simp] theorem execCiXor_tidy {course : Nat} {vf : Bool} : TidyRow (execCiXor course vf s) := cipherRow_tidy tidy

@[simp] theorem execCiNand_tidy {course : Nat} {vf : Bool} : TidyRow (execCiNand course vf s) := cipherRow_tidy tidy

@[simp] theorem execCiNor_tidy {course : Nat} {vf : Bool} : TidyRow (execCiNor course vf s) := cipherRow_tidy tidy

@[simp] theorem execCiXnor_tidy {course : Nat} {vf : Bool} : TidyRow (execCiXnor course vf s) := cipherRow_tidy tidy

@[simp] theorem execCiAndn_tidy {course : Nat} {vf : Bool} : TidyRow (execCiAndn course vf s) := cipherRow_tidy tidy

@[simp] theorem execCiLut2_tidy {course : Nat} {vf : Bool} : TidyRow (execCiLut2 course vf s) := cipherRow_tidy tidy

@[simp] theorem execCiMux_tidy {course : Nat} {vf : Bool} : TidyRow (execCiMux course vf s) := cipherRow_tidy tidy

@[simp] theorem execCiExtract_tidy {course : Nat} {vf : Bool} : TidyRow (execCiExtract course vf s) := cipherRow_tidy tidy

@[simp] theorem execCiCopy_tidy {course : Nat} {vf : Bool} : TidyRow (execCiCopy course vf s) := cipherRow_tidy tidy

@[simp] theorem execCiKeysetRegister_tidy {course : Nat} {vf : Bool} : TidyRow (execCiKeysetRegister course vf s) :=
  cipherRow_tidy tidy

@[simp] theorem execCiKeysetRelease_tidy {course : Nat} {vf : Bool} : TidyRow (execCiKeysetRelease course vf s) := cipherRow_tidy tidy

@[simp] theorem execCiGlweExportA_tidy {course : Nat} {vf : Bool} : TidyRow (execCiGlweExportA course vf s) := cipherRow_tidy tidy

@[simp] theorem execCiStatus_tidy {course : Nat} {vf : Bool} : TidyRow (execCiStatus course vf s) := cipherRow_tidy tidy

@[simp] theorem execCiCompletion_tidy : TidyRow (execCiCompletion s) := by
  unfold execCiCompletion
  split
  · simpa using tidy
  split
  · simpa using tidy
  · dsimp only
    split
    · simpa using writeBytes_tidy _ _ _ _ _ (by simpa using tidy)
    · simp [tidy]

@[simp] theorem execPfcXoffRefresh_tidy {p prio fill : Nat} : TidyRow (execPfcXoffRefresh p prio fill s) := by
  unfold execPfcXoffRefresh
  split
  · simp
  · exact onPort_tidy (by split <;> simp [tidy])

@[simp] theorem execPfcFrameRx_tidy {p pause resume : Nat} : TidyRow (execPfcFrameRx p pause resume s) := by
  unfold execPfcFrameRx
  split
  · simp
  · exact onPort_tidy (by dsimp only; split <;> simp [tidy])

@[simp] theorem execPfcPauseExpiry_tidy {p prio : Nat} : TidyRow (execPfcPauseExpiry p prio s) := by
  unfold execPfcPauseExpiry
  split
  · simp
  · exact onPort_tidy (by simp [tidy])

@[simp] theorem execPfcStorm_tidy {p prio : Nat} : TidyRow (execPfcStorm p prio s) := by
  unfold execPfcStorm
  split
  · simp
  · exact onPort_tidy (by dsimp only; split <;> simp [tidy])

@[simp] theorem execRxFrame_tidy {p len tags prio cls fill corr uncorr : Nat} {fcsOk : Bool} :
    TidyRow (execRxFrame p len tags prio cls fill corr uncorr fcsOk s) := by
  unfold execRxFrame
  split
  · simp
  split
  · simp
  · exact onPort_tidy (by simp [tidy])

@[simp] theorem execLldpTx_tidy {p : Nat} : TidyRow (execLldpTx p s) := onPort_tidy (by simp [tidy])

@[simp] theorem execLldpRx_tidy {p chassisType : Nat} {chassis : List Byte} {portType : Nat} {port : List Byte} {ttl : Nat} :
    TidyRow (execLldpRx p chassisType chassis portType port ttl s) :=
  onPort_tidy (by
    dsimp only
    repeat' split
    all_goals simp [tidy])

@[simp] theorem execLldpTtlExpiry_tidy {p : Nat} : TidyRow (execLldpTtlExpiry p s) := onPort_tidy (by simp [tidy])

@[simp] theorem execEthLinkDown_tidy {p : Nat} : TidyRow (execEthLinkDown p s) := onPort_tidy (by simp [tidy])

@[simp] theorem execEthLinkUp_tidy {p : Nat} : TidyRow (execEthLinkUp p s) := onPort_tidy (by simp [tidy])

@[simp] theorem execEthCfgWrite_tidy {p : Nat} {v : W32} : TidyRow (execEthCfgWrite p v s) :=
  onPort_tidy (onPage_tidy _ _ _ _ _ _ tidy fun t h => by simp [h])

@[simp] theorem execPtpEnWrite_tidy {p : Nat} {v : W32} : TidyRow (execPtpEnWrite p v s) :=
  onPort_tidy (onPage_tidy _ _ _ _ _ _ tidy fun t h => by simp [h])

@[simp] theorem execBeaconTx_tidy : TidyRow (execBeaconTx s) := by
  simp [execBeaconTx, tidy]

@[simp] theorem execMemberLost_tidy {id : Nat} : TidyRow (execMemberLost id s) := by
  unfold execMemberLost
  dsimp only
  repeat' split
  all_goals simp [tidy]

@[simp] theorem execPeerSeenTimeout_tidy {id : Nat} : TidyRow (execPeerSeenTimeout id s) := by
  simp [execPeerSeenTimeout, tidy]

@[simp] theorem execFormationTimeout_tidy : TidyRow (execFormationTimeout s) := by
  simp [execFormationTimeout, tidy]

@[simp] theorem execHaForm_tidy {v : W32} : TidyRow (execHaForm v s) := by
  unfold execHaForm
  split
  · exact onPage_row tidy fun t h => by simp [h]
  · simp

@[simp] theorem execHaDissolve_tidy {v : W32} : TidyRow (execHaDissolve v s) := by
  unfold execHaDissolve
  split
  · exact onPage_row tidy fun t h => by simp [h]
  · simp

@[simp] theorem execBeaconRx_tidy {port mac : Nat} {m : List Byte} : TidyRow (execBeaconRx port mac m s) :=
  onPort_tidy (by simp [tidy])

@[simp] theorem execHaHello_tidy {port cycle : Nat} {m : List Byte} : TidyRow (execHaHello port cycle m s) :=
  onHail_tidy tidy fun id t h => by simp [h]

@[simp] theorem execHaAttest_tidy {port cycle : Nat} {m : List Byte} {aliasKey : Option (List Byte)} :
    TidyRow (execHaAttest port cycle m aliasKey s) :=
  onHail_tidy tidy fun id t h => by simp [h]

@[simp] theorem execHaConfirm_tidy {port cycle : Nat} {m : List Byte} : TidyRow (execHaConfirm port cycle m s) :=
  onHail_tidy tidy fun id t h => by simp [h]

@[simp] theorem execHaReport_tidy {port cycle : Nat} {m : List Byte} : TidyRow (execHaReport port cycle m s) :=
  onPair_tidy tidy fun id b t h => by simp [h]

@[simp] theorem execHaRoster_tidy {port cycle : Nat} {m : List Byte} : TidyRow (execHaRoster port cycle m s) :=
  onPair_tidy tidy fun id b t h => by simp [h]

@[simp] theorem execHaRosterAck_tidy {port cycle : Nat} {m : List Byte} : TidyRow (execHaRosterAck port cycle m s) :=
  onPair_tidy tidy fun id b t h => by simp [h]

@[simp] theorem execHaRefuse_tidy {port cycle : Nat} {m : List Byte} : TidyRow (execHaRefuse port cycle m s) :=
  onPair_tidy tidy fun id b t h => by simp [h]

@[simp] theorem execHaLeave_tidy {port cycle : Nat} {m : List Byte} : TidyRow (execHaLeave port cycle m s) :=
  onPair_tidy tidy fun id b t h => by simp [h]

@[simp] theorem execTempMaxClr_tidy {stack : Nat} : TidyRow (execTempMaxClr stack s) := by
  unfold execTempMaxClr
  split
  · simp
  · exact onPage_row tidy fun t h => by simp [h]

@[simp] theorem execQueueMaxClr_tidy {stack : Nat} : TidyRow (execQueueMaxClr stack s) := by
  unfold execQueueMaxClr
  split
  · simp
  · exact onPage_row tidy fun t h => by simp [h]

@[simp] theorem execPatrolScrub_tidy {word : Nat} {delta : W32} : TidyRow (execPatrolScrub word delta s) := by
  unfold execPatrolScrub
  extract_lets hit
  have hhit : Tidy (kept (hit s)).store := by
    refine tidy_if tidy ?_
    exact ⟨tidy.1, NMap.wf_put _ _ _ _ tidy.2⟩
  clear_value hit
  repeat' split
  all_goals simp [tidy, hhit]

@[simp] theorem execLifetimeTotalsWrite_tidy : TidyRow (execLifetimeTotalsWrite s) := by
  simp [execLifetimeTotalsWrite, tidy]

@[simp] theorem execMsOpen_tidy {cycle : Nat} : TidyRow (execMsOpen cycle s) := musterCommand_tidy tidy

@[simp] theorem execMsDrop_tidy {blk cycle : Nat} : TidyRow (execMsDrop blk cycle s) := musterCommand_tidy tidy

@[simp] theorem execMsAbort_tidy {blk cycle : Nat} : TidyRow (execMsAbort blk cycle s) := musterCommand_tidy tidy

@[simp] theorem execMsRetire_tidy {blk cycle : Nat} : TidyRow (execMsRetire blk cycle s) := musterCommand_tidy tidy

@[simp] theorem execMsBind_tidy {blk cycle : Nat} : TidyRow (execMsBind blk cycle s) := musterCommand_tidy tidy

@[simp] theorem execMsUnbind_tidy {cycle : Nat} : TidyRow (execMsUnbind cycle s) := musterCommand_tidy tidy

@[simp] theorem execMsOutcomeCopy_tidy {blk cycle : Nat} : TidyRow (execMsOutcomeCopy blk cycle s) := musterCommand_tidy tidy

@[simp] theorem execMusterDecision_tidy : TidyRow (execMusterDecision s) := by
  simp [execMusterDecision, tidy]

@[simp] theorem execIngressMove_tidy {qp : Nat} : TidyRow (execIngressMove qp s) := by
  unfold execIngressMove
  repeat' split
  all_goals simp [tidy]

@[simp] theorem execRoundSetupComplete_tidy {b : Nat} {ingress work : List Nat} :
    TidyRow (execRoundSetupComplete b ingress work s) := by
  unfold execRoundSetupComplete
  split
  · simp
  split
  · simp
  dsimp only
  split
  · simp [tidy]
  split
  · simp [tidy]
  split
  · simp [tidy]
  · simp [setupRound_kept ‹_›, tidy]

@[simp] theorem execDCollect_tidy {b : Nat} : TidyRow (execDCollect b s) := roundDeadline_tidy tidy

@[simp] theorem execDClose_tidy {b : Nat} : TidyRow (execDClose b s) := roundDeadline_tidy tidy

@[simp] theorem execDClosePlus1024_tidy {b : Nat} : TidyRow (execDClosePlus1024 b s) := roundDeadline_tidy tidy

@[simp] theorem execDRecoverEnd_tidy {b : Nat} : TidyRow (execDRecoverEnd b s) := roundDeadline_tidy tidy

@[simp] theorem execDRetire_tidy {b : Nat} : TidyRow (execDRetire b s) := roundDeadline_tidy tidy

@[simp] theorem execDecisionApply_tidy {b : Nat} : TidyRow (execDecisionApply b s) := by
  unfold execDecisionApply
  dsimp only
  repeat' split
  all_goals simp [tidy]

@[simp] theorem execCrewCountExchange_tidy {b : Nat} : TidyRow (execCrewCountExchange b s) := by
  unfold execCrewCountExchange
  dsimp only
  repeat' split
  all_goals simp [tidy]

@[simp] theorem execHyQpCreate_tidy : TidyRow (execHyQpCreate s) := halyardCommand_tidy tidy

@[simp] theorem execHyQpModify_tidy : TidyRow (execHyQpModify s) := halyardCommand_tidy tidy

@[simp] theorem execHyQpDestroy_tidy : TidyRow (execHyQpDestroy s) := halyardCommand_tidy tidy

@[simp] theorem execHyQpQuery_tidy : TidyRow (execHyQpQuery s) := halyardCommand_tidy tidy

@[simp] theorem execHyRegister_tidy : TidyRow (execHyRegister s) := halyardCommand_tidy tidy

@[simp] theorem execHyDeregister_tidy : TidyRow (execHyDeregister s) := halyardCommand_tidy tidy

@[simp] theorem execHyPdAlloc_tidy : TidyRow (execHyPdAlloc s) := halyardCommand_tidy tidy

@[simp] theorem execHyPdFree_tidy : TidyRow (execHyPdFree s) := halyardCommand_tidy tidy

@[simp] theorem execHyOdpResolve_tidy : TidyRow (execHyOdpResolve s) := halyardCommand_tidy tidy

@[simp] theorem execHyOdpInvalidate_tidy : TidyRow (execHyOdpInvalidate s) := halyardCommand_tidy tidy

@[simp] theorem execHyGidSet_tidy : TidyRow (execHyGidSet s) := halyardCommand_tidy tidy

@[simp] theorem execHyOdpPop_tidy : TidyRow (execHyOdpPop s) := onPage_row tidy fun t h => by simp [h]

@[simp] theorem execHyOdpTimeout_tidy {i : Nat} : TidyRow (execHyOdpTimeout i s) := by
  unfold execHyOdpTimeout
  split <;> simp [tidy]

@[simp] theorem execWrSend_tidy {i cycle : Nat} {pages : List (Nat × Nat)} {host : List Byte} :
    TidyRow (execWrSend i cycle pages host s) :=
  wrRow_tidy _ _ _ _ _ tidy

@[simp] theorem execWrSendImm_tidy {i cycle : Nat} {pages : List (Nat × Nat)} {host : List Byte} :
    TidyRow (execWrSendImm i cycle pages host s) :=
  wrRow_tidy _ _ _ _ _ tidy

@[simp] theorem execWrWrite_tidy {i cycle : Nat} {pages : List (Nat × Nat)} {host : List Byte} :
    TidyRow (execWrWrite i cycle pages host s) :=
  wrRow_tidy _ _ _ _ _ tidy

@[simp] theorem execWrWriteImm_tidy {i cycle : Nat} {pages : List (Nat × Nat)} {host : List Byte} :
    TidyRow (execWrWriteImm i cycle pages host s) :=
  wrRow_tidy _ _ _ _ _ tidy

@[simp] theorem execWrRead_tidy {i cycle : Nat} {pages : List (Nat × Nat)} {host : List Byte} :
    TidyRow (execWrRead i cycle pages host s) :=
  wrRow_tidy _ _ _ _ _ tidy

@[simp] theorem execWrFetchAdd_tidy {i cycle : Nat} {pages : List (Nat × Nat)} {host : List Byte} :
    TidyRow (execWrFetchAdd i cycle pages host s) :=
  wrRow_tidy _ _ _ _ _ tidy

@[simp] theorem execWrCmpSwap_tidy {i cycle : Nat} {pages : List (Nat × Nat)} {host : List Byte} :
    TidyRow (execWrCmpSwap i cycle pages host s) :=
  wrRow_tidy _ _ _ _ _ tidy

@[simp] theorem execWrAccWrite_tidy {i cycle : Nat} {pages : List (Nat × Nat)} {host : List Byte} :
    TidyRow (execWrAccWrite i cycle pages host s) :=
  wrRow_tidy _ _ _ _ _ tidy

@[simp] theorem execWrAccWriteImm_tidy {i cycle : Nat} {pages : List (Nat × Nat)} {host : List Byte} :
    TidyRow (execWrAccWriteImm i cycle pages host s) :=
  wrRow_tidy _ _ _ _ _ tidy

@[simp] theorem execRxAck_tidy {p : Packet} : TidyRow (execRxAck p s) := onResponse_tidy tidy fun t i q h => by simp [h]

@[simp] theorem execRxNak_tidy {p : Packet} {kind : Nat} : TidyRow (execRxNak p kind s) := by
  unfold execRxNak
  split
  · simp
  · exact onResponse_tidy tidy fun t i q h => by simp [h]

@[simp] theorem execRnrTimer_tidy {i : Nat} : TidyRow (execRnrTimer i s) := by
  unfold execRnrTimer
  repeat' split
  all_goals simp [tidy]

@[simp] theorem execAckTimeout_tidy {i : Nat} : TidyRow (execAckTimeout i s) := by
  unfold execAckTimeout
  split <;> simp [tidy]

@[simp] theorem execRxReadResponse_tidy {p : Packet} : TidyRow (execRxReadResponse p s) :=
  onResponse_tidy tidy fun t i q h => by
    repeat' split
    all_goals simp [h]

@[simp] theorem execSprayAck_tidy {p : Packet} : TidyRow (execSprayAck p s) := onResponse_tidy tidy fun t i q h => by simp [h]

@[simp] theorem execSpraySnak_tidy {p : Packet} : TidyRow (execSpraySnak p s) :=
  onResponse_tidy tidy fun t i q h => by
    repeat' split
    all_goals simp [h]

@[simp] theorem execRxCnp_tidy {p : Packet} : TidyRow (execRxCnp p s) := by
  unfold execRxCnp
  dsimp only
  repeat' split
  all_goals simp [tidy]

@[simp] theorem execRateIncrease_tidy {i : Nat} : TidyRow (execRateIncrease i s) := by
  unfold execRateIncrease
  split <;> simp [tidy]

@[simp] theorem execRefusalReportSend_tidy {i : Nat} : TidyRow (execRefusalReportSend i s) := by
  unfold execRefusalReportSend
  split <;> simp [tidy]

@[simp] theorem execSpraySnakTimer_tidy {i base cycle : Nat} : TidyRow (execSpraySnakTimer i base cycle s) := by
  unfold execSpraySnakTimer
  split <;> simp [tidy]

@[simp] theorem execRxSendPacket_tidy {p : Packet} {cycle : Nat} : TidyRow (execRxSendPacket p cycle s) := packetRow_tidy tidy

@[simp] theorem execRxWritePacket_tidy {p : Packet} {cycle : Nat} : TidyRow (execRxWritePacket p cycle s) := packetRow_tidy tidy

@[simp] theorem execRxReadRequest_tidy {p : Packet} {cycle : Nat} : TidyRow (execRxReadRequest p cycle s) := packetRow_tidy tidy

@[simp] theorem execRxAtomic_tidy {p : Packet} {cycle : Nat} : TidyRow (execRxAtomic p cycle s) := packetRow_tidy tidy

@[simp] theorem execRxAccWritePacket_tidy {p : Packet} {cycle : Nat} : TidyRow (execRxAccWritePacket p cycle s) := packetRow_tidy tidy

@[simp] theorem execRxSprayPacket_tidy {p : Packet} {cycle : Nat} : TidyRow (execRxSprayPacket p cycle s) := packetRow_tidy tidy

@[simp] theorem execRxUdSend_tidy {p : Packet} {cycle : Nat} : TidyRow (execRxUdSend p cycle s) := packetRow_tidy tidy

@[simp] theorem execWarmReset_tidy : TidyRow (execWarmReset s) := onPage_row tidy fun t h => by simp [h]

@[simp] theorem execPorReset_tidy : TidyRow (execPorReset s) := onPage_row tidy fun t h => by simp [h]

@[simp] theorem execBosunWatchdog_tidy : TidyRow (execBosunWatchdog s) := by
  simp [execBosunWatchdog, tidy]

@[simp] theorem execHeartbeatAdvance_tidy : TidyRow (execHeartbeatAdvance s) := by
  simp [execHeartbeatAdvance, tidy]

@[simp] theorem execFatal_tidy {code : Nat} : TidyRow (execFatal code s) := by
  unfold execFatal
  repeat' split
  all_goals simp [tidy]

@[simp] theorem execMemtestDone_tidy {cores : List (Nat × Nat)} {stores blocks : List Nat} :
    TidyRow (execMemtestDone cores stores blocks s) := by
  unfold execMemtestDone
  dsimp only
  repeat' split
  all_goals simp [tidy]

@[simp] theorem execInitDone_tidy : TidyRow (execInitDone s) := by
  unfold execInitDone
  dsimp only
  repeat' split
  all_goals simp [tidy]

@[simp] theorem execFwLoadDone_tidy {badA badB : Bool} : TidyRow (execFwLoadDone badA badB s) := by
  unfold execFwLoadDone
  split <;> simp [tidy]

@[simp] theorem execReady_tidy : TidyRow (execReady s) := by
  unfold execReady
  split <;> simp [tidy]

@[simp] theorem execSlotCheck_tidy : TidyRow (execSlotCheck s) := by
  unfold execSlotCheck
  dsimp only
  repeat' split
  all_goals simp [tidy]

@[simp] theorem execScrubDone_tidy : TidyRow (execScrubDone s) := by
  unfold execScrubDone
  dsimp only
  repeat' split
  all_goals simp [tidy]

@[simp] theorem execTamperAlarm_tidy {sensor : Nat} {held : Bool} : TidyRow (execTamperAlarm sensor held s) := by
  unfold execTamperAlarm
  repeat' split
  all_goals simp [tidy]

@[simp] theorem execBoClaim_tidy {cycle : Nat} : TidyRow (execBoClaim cycle s) := bosunCommand_tidy (by simp [tidy])

@[simp] theorem execBoRelease_tidy {cycle : Nat} : TidyRow (execBoRelease cycle s) := bosunCommand_tidy (by simp [tidy])

@[simp] theorem execBoAttest_tidy : TidyRow (execBoAttest s) := bosunCommand_tidy tidy

@[simp] theorem execBoRegionAlloc_tidy : TidyRow (execBoRegionAlloc s) := bosunCommand_tidy tidy

@[simp] theorem execBoRegionFree_tidy : TidyRow (execBoRegionFree s) := bosunCommand_tidy tidy

@[simp] theorem execBoRigLoad_tidy : TidyRow (execBoRigLoad s) := bosunCommand_tidy tidy

@[simp] theorem execBoRigUnload_tidy {cycle : Nat} : TidyRow (execBoRigUnload cycle s) := bosunCommand_tidy (by simp [tidy])

@[simp] theorem execBoFnLoad_tidy : TidyRow (execBoFnLoad s) := bosunCommand_tidy tidy

@[simp] theorem execBoFnUnload_tidy {cycle : Nat} : TidyRow (execBoFnUnload cycle s) := bosunCommand_tidy (by simp [tidy])

@[simp] theorem execBoHostCopy_tidy : TidyRow (execBoHostCopy s) := bosunCommand_tidy tidy

@[simp] theorem execBoFwStage_tidy : TidyRow (execBoFwStage s) := bosunCommand_tidy tidy

@[simp] theorem execBoFwActivate_tidy : TidyRow (execBoFwActivate s) := bosunCommand_tidy tidy

@[simp] theorem execBoFenceMapRead_tidy : TidyRow (execBoFenceMapRead s) := bosunCommand_tidy tidy

@[simp] theorem execClaimComplete_tidy {reserve : List (Nat × Nat × Bool)} : TidyRow (execClaimComplete reserve s) := by
  unfold execClaimComplete
  repeat' split
  all_goals simp [tidy]

@[simp] theorem execFwProgramDone_tidy {ok : Bool} : TidyRow (execFwProgramDone ok s) := by
  unfold execFwProgramDone
  dsimp only
  repeat' split
  all_goals simp [tidy]

@[simp] theorem execBoExport_tidy {slot src len dst label cookie : Nat} : TidyRow (execBoExport slot src len dst label cookie s) :=
  weightsRow_tidy tidy fun t h => by simp [h]

@[simp] theorem execBoImport_tidy {slot src dst cookie : Nat} : TidyRow (execBoImport slot src dst cookie s) :=
  weightsRow_tidy tidy fun t h => by simp [h]

@[simp] theorem execWeightsIoCompletion_tidy : TidyRow (execWeightsIoCompletion s) := by
  unfold execWeightsIoCompletion
  split
  · simpa using tidy
  · dsimp only
    split
    · rw [tidyRow_next, unitItem_kept]
      exact zeroRange_tidy _ _ _ tidy
    · simp [tidy, store_eta]

@[simp] theorem execMtWrite_tidy {c : Nat} : TidyRow (execMtWrite c s) := mtCommand_tidy tidy

@[simp] theorem execMtClear_tidy {c : Nat} : TidyRow (execMtClear c s) := mtCommand_tidy tidy

@[simp] theorem execMtRead_tidy {c : Nat} : TidyRow (execMtRead c s) := mtCommand_tidy tidy

@[simp] theorem execSlDeq_tidy : TidyRow (execSlDeq u w s) :=
  runSlot_tidy tidy fun t r k c h => by
    repeat' split
    all_goals simp [h]

@[simp] theorem execSlEnqData_tidy : TidyRow (execSlEnqData u w s) := by
  unfold execSlEnqData
  split
  · simp
  · exact runSlot_tidy tidy fun t r k c h => by simp [h]

@[simp] theorem execSlEnqOpen_tidy : TidyRow (execSlEnqOpen u w s) := by
  unfold execSlEnqOpen
  split
  · simp
  · exact runSlot_tidy tidy fun t r k c h => by simp [h]

@[simp] theorem execSlEnqClose_tidy : TidyRow (execSlEnqClose u w s) := by
  unfold execSlEnqClose
  split
  · simp
  · exact runSlot_tidy tidy fun t r k c h => by simp [h]

@[simp] theorem execSlEnqSingle_tidy : TidyRow (execSlEnqSingle u w s) := by
  unfold execSlEnqSingle
  split
  · simp
  · exact runSlot_tidy tidy fun t r k c h => by simp [h]

@[simp] theorem execSlEnqMarker_tidy : TidyRow (execSlEnqMarker u w s) := by
  unfold execSlEnqMarker
  split
  · simp
  · exact runSlot_tidy tidy fun t r k c h => by simp [h]

@[simp] theorem execSlQmarkSet_tidy : TidyRow (execSlQmarkSet u w s) := by
  unfold execSlQmarkSet
  split
  · simp
  · exact runSlot_tidy tidy fun t r k c h => by simp [h]

@[simp] theorem execSlQmarkRewind_tidy : TidyRow (execSlQmarkRewind u w s) := by
  unfold execSlQmarkRewind
  split
  · simp
  · exact runSlot_tidy tidy fun t r k c h => by simp [h]

@[simp] theorem execSlQrel_tidy : TidyRow (execSlQrel u w s) := runSlot_tidy tidy fun t r k c h => by simp [h]

@[simp] theorem execIntake_tidy : TidyRow (execIntake s) := by
  simp [execIntake, tidy]

@[simp] theorem execAdoption_tidy : TidyRow (execAdoption s) := by
  simp [execAdoption, tidy]

@[simp] theorem execStrokeCommit_tidy : TidyRow (execStrokeCommit s) := by
  simp [execStrokeCommit, tidy]

@[simp] theorem execStrokeSyncInEdge_tidy {cycle : Nat} : TidyRow (execStrokeSyncInEdge cycle s) := by
  unfold execStrokeSyncInEdge
  split <;> simp [tidy]

@[simp] theorem execFreeRun_tidy {cycle : Nat} : TidyRow (execFreeRun cycle s) := by
  unfold execFreeRun
  split <;> simp [tidy]

@[simp] theorem execPtpSync_tidy {port : Nat} {offset start : Int} : TidyRow (execPtpSync port offset start s) := by
  unfold execPtpSync
  split <;> simp [tidy]

@[simp] theorem execPtpSyncTimeout_tidy : TidyRow (execPtpSyncTimeout s) := by
  unfold execPtpSyncTimeout
  repeat' split
  all_goals simp [tidy]

@[simp] theorem execEvtLatchWrite_tidy {page : Page} {i off : Nat} {v : W32} : TidyRow (execEvtLatchWrite page i off v s) := by
  unfold execEvtLatchWrite
  split
  · exact pageRow_tidy tidy
  · simp

@[simp] theorem execSoftReset_tidy {page : Page} {i : Nat} : TidyRow (execSoftReset page i s) := pageRow_tidy tidy

@[simp] theorem execErrClr_tidy {page : Page} {i : Nat} : TidyRow (execErrClr page i s) := pageRow_tidy tidy

@[simp] theorem execPageLock_tidy {page : Page} {i : Nat} : TidyRow (execPageLock page i s) := pageRow_tidy tidy

@[simp] theorem execSyncModeWrite_tidy {v : W32} : TidyRow (execSyncModeWrite v s) := by
  simp [execSyncModeWrite, tidy]

@[simp] theorem execMaxStateWrite_tidy {v : W32} : TidyRow (execMaxStateWrite v s) := by
  simp [execMaxStateWrite, tidy]

@[simp] theorem execReefLatencyTol_tidy {v : W32} : TidyRow (execReefLatencyTol v s) := by
  simp [execReefLatencyTol, tidy]

@[simp] theorem execBar2BaseWrite_tidy {v : W32} : TidyRow (execBar2BaseWrite v s) := by
  simp [execBar2BaseWrite, tidy]

@[simp] theorem execRetrain_tidy {v : W32} : TidyRow (execRetrain v s) := by
  unfold execRetrain
  split <;> simp [tidy]

@[simp] theorem execPwrBrakeAssert_tidy : TidyRow (execPwrBrakeAssert s) := by
  simp [execPwrBrakeAssert, tidy]

@[simp] theorem execPwrBrakeRelease_tidy : TidyRow (execPwrBrakeRelease s) := by
  simp [execPwrBrakeRelease, tidy]

@[simp] theorem execReefExitDone_tidy {badA badB : Bool} : TidyRow (execReefExitDone badA badB s) := by
  unfold execReefExitDone
  split <;> simp [tidy]

@[simp] theorem execPowerLimit_tidy {watts average volts amps : Nat} {rested : Bool} :
    TidyRow (execPowerLimit watts average volts amps rested s) := by
  unfold execPowerLimit
  split <;> simp [tidy]

@[simp] theorem execThermalReading_tidy {sensor : TempSensor} {value : Int} {rested : Bool} :
    TidyRow (execThermalReading sensor value rested s) := by
  unfold execThermalReading
  repeat' split
  all_goals simp [tidy]

@[simp] theorem execThermalTrip_tidy {sensor : TempSensor} {value : Int} : TidyRow (execThermalTrip sensor value s) := by
  unfold execThermalTrip
  repeat' split
  all_goals simp [tidy]

@[simp] theorem execSmbusRead_tidy {access : SmbAccess} : TidyRow (execSmbusRead access s) := by
  unfold execSmbusRead
  repeat' split
  all_goals simp [tidy]

@[simp] theorem execInputInRange_tidy {absent flashWp : Bool} : TidyRow (execInputInRange absent flashWp s) := by
  unfold execInputInRange
  dsimp only
  split
  · exact (tidyRow_next _).2 tidy
  · exact (tidyRow_next _).2 (por_tidy _ _ _)

@[simp] theorem execInputOutOfRange_tidy {progress : Nat} : TidyRow (execInputOutOfRange progress s) := by
  unfold execInputOutOfRange
  split <;> simp [tidy]

@[simp] theorem execMsixUnmask_tidy {v addr : Nat} {data : W32} {masked : Bool} : TidyRow (execMsixUnmask v addr data masked s) := by
  unfold execMsixUnmask
  repeat' split
  all_goals simp [tidy]

@[simp] theorem execMsixSend_tidy {v : Nat} : TidyRow (execMsixSend v s) := by
  unfold execMsixSend
  split <;> simp [tidy]

@[simp] theorem execRegisterWrite_tidy {bar a len cycle : Nat} {v : W32} : TidyRow (execRegisterWrite bar a len cycle v s) := by
  unfold execRegisterWrite
  dsimp only
  repeat' split
  all_goals simp [tidy]

@[simp] theorem execRegisterRead_tidy {bar a len cycle : Nat} : TidyRow (execRegisterRead bar a len cycle s) := by
  unfold execRegisterRead
  dsimp only
  repeat' split
  all_goals simp [tidy]

@[simp] theorem execBar2Access_tidy {offset cycle len : Nat} {data : Option (List Byte)} :
    TidyRow (execBar2Access offset cycle len data s) := by
  unfold execBar2Access
  dsimp only
  repeat' split
  all_goals simp [tidy]

@[simp] theorem execConfigWrite_tidy {w : ConfigWr} : TidyRow (execConfigWrite w s) := by
  unfold execConfigWrite
  split <;> simp [tidy]

@[simp] theorem execCompletionTimeout_tidy {who : HostReader} : TidyRow (execCompletionTimeout who s) := by
  unfold execCompletionTimeout
  repeat' split
  all_goals simp [tidy]

@[simp] theorem execTlpError_tidy {e : TlpErr} : TidyRow (execTlpError e s) := by
  unfold execTlpError
  dsimp only
  repeat' split
  all_goals simp [tidy]

@[simp] theorem execPerst_tidy {pin : Bool} : TidyRow (execPerst pin s) := by
  simp [execPerst, tidy]

@[simp] theorem execPcieLinkUp_tidy {gen width : Nat} {flit : Bool} : TidyRow (execPcieLinkUp gen width flit s) := by
  unfold execPcieLinkUp
  repeat' split
  all_goals simp [tidy]

@[simp] theorem execSlSbox8_tidy : TidyRow (execSlSbox8 u w s) := coreSlot_tidy tidy

@[simp] theorem execSlMixcol_tidy : TidyRow (execSlMixcol u w s) := coreSlot_tidy tidy

@[simp] theorem execSlRotl32_tidy : TidyRow (execSlRotl32 u w s) := coreSlot_tidy tidy

@[simp] theorem execSlClmul32_tidy : TidyRow (execSlClmul32 u w s) := coreSlot_tidy tidy

@[simp] theorem execSlLut16_tidy : TidyRow (execSlLut16 u w s) := coreSlot_tidy tidy

@[simp] theorem execSlNop_tidy : TidyRow (execSlNop u w s) := coreSlot_tidy tidy

@[simp] theorem execSlAdd_tidy : TidyRow (execSlAdd u w s) := coreSlot_tidy tidy

@[simp] theorem execSlSub_tidy : TidyRow (execSlSub u w s) := coreSlot_tidy tidy

@[simp] theorem execSlMul_tidy : TidyRow (execSlMul u w s) := coreSlot_tidy tidy

@[simp] theorem execSlMulhi_tidy : TidyRow (execSlMulhi u w s) := coreSlot_tidy tidy

@[simp] theorem execSlMad_tidy : TidyRow (execSlMad u w s) := coreSlot_tidy tidy

@[simp] theorem execSlAnd_tidy : TidyRow (execSlAnd u w s) := coreSlot_tidy tidy

@[simp] theorem execSlOr_tidy : TidyRow (execSlOr u w s) := coreSlot_tidy tidy

@[simp] theorem execSlXor_tidy : TidyRow (execSlXor u w s) := coreSlot_tidy tidy

@[simp] theorem execSlAndn_tidy : TidyRow (execSlAndn u w s) := coreSlot_tidy tidy

@[simp] theorem execSlShl_tidy : TidyRow (execSlShl u w s) := coreSlot_tidy tidy

@[simp] theorem execSlShr_tidy : TidyRow (execSlShr u w s) := coreSlot_tidy tidy

@[simp] theorem execSlMin_tidy : TidyRow (execSlMin u w s) := coreSlot_tidy tidy

@[simp] theorem execSlMax_tidy : TidyRow (execSlMax u w s) := coreSlot_tidy tidy

@[simp] theorem execSlCmp_tidy : TidyRow (execSlCmp u w s) := coreSlot_tidy tidy

@[simp] theorem execSlSel_tidy : TidyRow (execSlSel u w s) := coreSlot_tidy tidy

@[simp] theorem execSlMov_tidy : TidyRow (execSlMov u w s) := coreSlot_tidy tidy

@[simp] theorem execSlSpec_tidy : TidyRow (execSlSpec u w s) := coreSlot_tidy tidy

@[simp] theorem execSlPlog_tidy : TidyRow (execSlPlog u w s) := coreSlot_tidy tidy

@[simp] theorem execSlLoop_tidy : TidyRow (execSlLoop u w s) := runSlot_tidy tidy fun t r k c h => by simp [h]

@[simp] theorem execSlEnd_tidy : TidyRow (execSlEnd u w s) := runSlot_tidy tidy fun t r k c h => by simp [h]

@[simp] theorem execSlFadd_tidy : TidyRow (execSlFadd u w s) := fltOp_tidy tidy

@[simp] theorem execSlFsub_tidy : TidyRow (execSlFsub u w s) := fltOp_tidy tidy

@[simp] theorem execSlFmul_tidy : TidyRow (execSlFmul u w s) := fltOp_tidy tidy

@[simp] theorem execSlFma_tidy : TidyRow (execSlFma u w s) := fltOp_tidy tidy

@[simp] theorem execSlFmin_tidy : TidyRow (execSlFmin u w s) := fltOp_tidy tidy

@[simp] theorem execSlFmax_tidy : TidyRow (execSlFmax u w s) := fltOp_tidy tidy

@[simp] theorem execSlFsgn_tidy : TidyRow (execSlFsgn u w s) := fltOp_tidy tidy

@[simp] theorem execSlDot2_tidy : TidyRow (execSlDot2 u w s) := coreSlot_tidy tidy

@[simp] theorem execSlDot4_tidy : TidyRow (execSlDot4 u w s) := coreSlot_tidy tidy

@[simp] theorem execSlCvt_tidy : TidyRow (execSlCvt u w s) := coreSlot_tidy tidy

@[simp] theorem execSlSend_tidy : TidyRow (execSlSend u w s) :=
  runSlot_tidy tidy fun t r k c h => by
    repeat' split
    all_goals simp [h]

@[simp] theorem execSlRecv_tidy : TidyRow (execSlRecv u w s) :=
  runSlot_tidy tidy fun t r k c h => by
    repeat' split
    all_goals simp [h]

@[simp] theorem execSlLdc_tidy : TidyRow (execSlLdc u w s) := runSlot_tidy tidy fun t r k c h => by simp [h]

@[simp] theorem execSlStc_tidy : TidyRow (execSlStc u w s) := runSlot_tidy tidy fun t r k c h => by simp [h]

@[simp] theorem execSlStc2_tidy : TidyRow (execSlStc2 u w s) := runSlot_tidy tidy fun t r k c h => by simp [h]

@[simp] theorem execSlLdw_tidy : TidyRow (execSlLdw u w s) :=
  runSlot_tidy tidy fun t r k c h => by
    repeat' split
    all_goals simp [h]

@[simp] theorem execSlStw_tidy : TidyRow (execSlStw u w s) :=
  runSlot_tidy tidy fun t r k c h => by
    repeat' split
    all_goals simp [h]

@[simp] theorem execSlStw2_tidy : TidyRow (execSlStw2 u w s) :=
  runSlot_tidy tidy fun t r k c h => by
    repeat' split
    all_goals simp [h]

@[simp] theorem execSlAccclr_tidy : TidyRow (execSlAccclr u w s) := coreSlot_tidy tidy

@[simp] theorem execSlAccadd_tidy : TidyRow (execSlAccadd u w s) := coreSlot_tidy tidy

@[simp] theorem execSlAccmac_tidy : TidyRow (execSlAccmac u w s) := coreSlot_tidy tidy

@[simp] theorem execSlAccrd_tidy : TidyRow (execSlAccrd u w s) := coreSlot_tidy tidy

@[simp] theorem execSlAccwr_tidy : TidyRow (execSlAccwr u w s) := coreSlot_tidy tidy

@[simp] theorem execSlTpush_tidy : TidyRow (execSlTpush u w s) := by
  refine runSlot_tidy tidy fun t r k c h => ?_
  dsimp only
  split
  · simp [h]
  split
  · simp [h]
  · split
    · simp [treePush_kept ‹_›, h]
    · simp [h]

@[simp] theorem execTapExtest_tidy {cells : Nat} : TidyRow (execTapExtest cells s) := tapRow_tidy tidy fun h => by simp [h]

@[simp] theorem execTapSamplePreload_tidy {cells : Nat} : TidyRow (execTapSamplePreload cells s) :=
  tapRow_tidy tidy fun h => by simp [h]

@[simp] theorem execTapIdcode_tidy : TidyRow (execTapIdcode s) := tapRow_tidy tidy fun h => by simp [h]

@[simp] theorem execTapClamp_tidy : TidyRow (execTapClamp s) := tapRow_tidy tidy fun h => by simp [h]

@[simp] theorem execTapHighz_tidy : TidyRow (execTapHighz s) := tapRow_tidy tidy fun h => by simp [h]

@[simp] theorem execTapBypass_tidy : TidyRow (execTapBypass s) := tapRow_tidy tidy fun h => by simp [h]

@[simp] theorem execTapTrst_tidy {low : Bool} : TidyRow (execTapTrst low s) := by
  unfold execTapTrst
  dsimp only
  split
  · exact (tidyRow_next _).2 (endSession_tidy _ tidy)
  · exact (tidyRow_next _).2 tidy

@[simp] theorem execTtDbgRead_tidy {addr reserved : Nat} : TidyRow (execTtDbgRead addr reserved s) :=
  tapRow_tidy tidy fun h => dbgRequest_tidy _ _ _ _ (by simp [h]) fun u h => by simp [h]

@[simp] theorem execTtDbgNop_tidy {addr reserved : Nat} : TidyRow (execTtDbgNop addr reserved s) :=
  tapRow_tidy tidy fun h => dbgRequest_tidy _ _ _ _ (by simp [h]) fun u h => by simp [h]

@[simp] theorem execTtDbgWrite_tidy {addr reserved cycle : Nat} {v : W32} : TidyRow (execTtDbgWrite addr reserved cycle v s) :=
  tapRow_tidy tidy fun h => dbgRequest_tidy _ _ _ _ (by simp [h]) fun u h => by simp [h]

@[simp] theorem execTtSessionOpen_tidy : TidyRow (execTtSessionOpen s) := ttRow_tidy tidy

@[simp] theorem execTtSessionClose_tidy : TidyRow (execTtSessionClose s) := ttRow_tidy tidy

@[simp] theorem execTtHalt_tidy {force : Bool} {cycle : Nat} : TidyRow (execTtHalt force cycle s) :=
  tapRow_tidy tidy fun h => dbgRequest_tidy _ _ _ _ (by simp [h]) fun u h => by simp [h]

@[simp] theorem execTtResume_tidy : TidyRow (execTtResume s) := ttRow_tidy tidy

@[simp] theorem execTtStep_tidy : TidyRow (execTtStep s) := ttRow_tidy tidy

@[simp] theorem execTtUnlock_tidy : TidyRow (execTtUnlock s) := ttRow_tidy tidy

@[simp] theorem execTtIsoClr_tidy : TidyRow (execTtIsoClr s) := ttRow_tidy tidy

@[simp] theorem execTtIsoStep_tidy {cycles : Nat} {mismatch : Option Nat} : TidyRow (execTtIsoStep cycles mismatch s) := by
  unfold execTtIsoStep
  split
  · simp
  · exact ttRow_tidy tidy

@[simp] theorem execTtMemRead_tidy : TidyRow (execTtMemRead s) := ttRow_tidy tidy

@[simp] theorem execTtMemWrite_tidy : TidyRow (execTtMemWrite s) := ttRow_tidy tidy

@[simp] theorem execCommandCompletion_tidy {page : CmdPage} {x : Completion} : TidyRow (execCommandCompletion page x s) := by
  unfold execCommandCompletion
  split
  · simpa using tidy
  split
  · split <;> simp [tidy]
  · split
    · have hbosun := completeBosun_tidy tidy ‹_›
      split <;> simp [hbosun]
    · simp
  · split <;> simp [tidy]
  · split <;> simp [tidy]
  · dsimp only
    repeat' split
    all_goals simp [tidy]
  · split <;> simp [tidy, store_eta]
  · simp [tidy]

@[simp] theorem execLinkDown_tidy {link : Link} : TidyRow (execLinkDown link s) := by
  unfold execLinkDown
  dsimp only
  repeat' split
  all_goals simp [tidy]

end

/-! ### Every step -/

theorem exec_tidy (i : Instr) {s : State} (tidy : Tidy (kept s).store) : TidyRow (exec i s) := by
  cases i <;> simp [exec, tidy]

theorem step_tidy {s : State} (tidy : Tidy (kept s).store) : TidyRow (step s) := by
  unfold step
  split
  · exact (tidyRow_next _).2 tidy
  · exact exec_tidy _ tidy

/-- Settles O28, one instruction at a time: whatever runs leaves memory and the check symbols in canonical form. -/
theorem stepKeepsCanonical : Obligations.StepKeepsCanonical :=
  fun _ t hs ht => step_tidy hs t ht

end Sys2Proof.Proofs.StoreKept
end
